-- ==== Sys2Proof/Word.lean ====
section
/-! DEFINITION. The words of the part: bytes, node numbers, node time, unit numbers, and the four-fold arrangement
of things the part holds per door unit. -/

namespace Sys2Proof

/-- A byte of a frame or of the configuration record. -/
abbrev Byte := BitVec 8

/-- A node number as the frame header and the six straps carry it (R1, R39). -/
abbrev Node := BitVec 6

/-- Node time in milliseconds: 32 bits, wrapping (00_scope, Time). -/
abbrev Time := BitVec 32

/-- The door units of one node, numbered 0 to 3 in the order of the record (R12). -/
inductive UnitNo where
  | u0
  | u1
  | u2
  | u3
  deriving DecidableEq, Repr

/-- The number of a unit. -/
def UnitNo.val : UnitNo → Nat
  | .u0 => 0
  | .u1 => 1
  | .u2 => 2
  | .u3 => 3

/-- The four units in unit order. -/
def UnitNo.all : List UnitNo := [.u0, .u1, .u2, .u3]

/-- The unit of a number 0 to 3. -/
def UnitNo.ofNat? : Nat → Option UnitNo
  | 0 => some .u0
  | 1 => some .u1
  | 2 => some .u2
  | 3 => some .u3
  | _ => none

/-- One thing for each of the four units. -/
structure Quad (α : Type) where
  q0 : α
  q1 : α
  q2 : α
  q3 : α
  deriving DecidableEq, Repr

/-- The thing of unit `u`. -/
def Quad.get {α : Type} (q : Quad α) : UnitNo → α
  | .u0 => q.q0
  | .u1 => q.q1
  | .u2 => q.q2
  | .u3 => q.q3

/-- The same four things but for unit `u`'s, which becomes `a`. -/
def Quad.set {α : Type} (q : Quad α) (u : UnitNo) (a : α) : Quad α :=
  match u with
  | .u0 => { q with q0 := a }
  | .u1 => { q with q1 := a }
  | .u2 => { q with q2 := a }
  | .u3 => { q with q3 := a }

/-- The same thing for every unit. -/
def Quad.same {α : Type} (a : α) : Quad α := ⟨a, a, a, a⟩

/-- One thing for each unit, computed from its number. -/
def Quad.build {α : Type} (f : UnitNo → α) : Quad α := ⟨f .u0, f .u1, f .u2, f .u3⟩

end Sys2Proof
end

