-- ==== Sys2Proof/Syntax.lean ====
section
/-! DEFINITION. The commands of the block: one constructor for each row of spec/opcode_table.json, with the operands the
spec gives the event. A frame's operands are the fields of its layout in section 3.6, at the widths of the wire. -/

namespace Sys2Proof

/-- The eight bytes of a BEACON, field by field (section 3.6, R60 to R63). -/
structure Beacon where
  /-- Byte 0: berth sequence, 0 for none. -/
  seq : Byte
  /-- Byte 1, upper half: berth state code. -/
  berthState : BitVec 4
  /-- Byte 1, lower half: verdict code. -/
  verdict : BitVec 4
  /-- Bytes 2 and 3: state codes of units 0 to 3. -/
  units : Quad (BitVec 4)
  /-- Byte 4: the eight flags, bit 7 Secure Contact closed down to bit 0 minor fault set. -/
  flags : Byte
  /-- Byte 5: silent up neighbour, 0 for none. -/
  up : Byte
  /-- Byte 6: silent down neighbour, 0 for none. -/
  down : Byte
  /-- Byte 7: last refusal code. -/
  refusal : Byte
  deriving DecidableEq, Repr

/-- One delivery of an alignment sensor (R26). -/
inductive Reading where
  /-- No train door in view. -/
  | noDoor
  /-- A door in view: leading edge offset, trailing edge offset, quality. -/
  | inView (a b : Int) (quality : Nat)
  /-- A reading whose serial frame is damaged. -/
  | damaged
  deriving DecidableEq, Repr

/-- One delivery of a gap scanner or zone curtain (R27, R28). -/
inductive Presence where
  | occupied
  | clear
  /-- A sample whose serial frame is damaged. -/
  | damaged
  deriving DecidableEq, Repr

/-- The inputs that pass through a DEBOUNCED cell (section 2.4). -/
inductive DebouncedInput where
  | edge (u : UnitNo)
  | wire
  deriving DecidableEq, Repr

/-- The two fault lines (R35). -/
inductive FaultLine where
  | severe
  | minor
  deriving DecidableEq, Repr

/-- The commands. `src` is a frame's source; a level `true` is ASSERTED, ENGAGED, CLOSED or OCCUPIED as the input has it. -/
inductive Instr where
  /-- The supply rises through the start threshold; the straps carry `straps` (R36, R37). -/
  | powerOnReset (straps : BitVec 6)
  /-- The supply falls below the hold threshold (R36). -/
  | supplyFall
  /-- The reset pin has been low for 50 µs (R36). -/
  | resetPinLow
  /-- The reset pin goes high; the straps carry `straps` (R36, R37). -/
  | resetPinRelease (straps : BitVec 6)
  /-- A pass over the configuration memory delivers `bytes`, the first byte of the memory first (R2). -/
  | configReadPassComplete (bytes : List Byte)
  /-- The configuration memory fails to answer a read of the pass (R2). -/
  | configReadFail
  /-- 600 ms of LISTEN have passed (R17). -/
  | listenExpiry
  /-- The 600 ms quiet period of CONFIG_FAULT has passed (R19). -/
  | quietPeriodEnd
  /-- The line is idle (R47). -/
  | attemptStart
  /-- The attempt under way has been heard as sent to its last bit (R50). -/
  | sentInFull
  /-- The attempt under way has lost arbitration (R40). -/
  | arbitrationLost
  /-- The attempt under way has met a transmit error (R51). -/
  | transmitError
  /-- The 2,000 ms quiet timer of LINE_QUIET expires (R52). -/
  | lineQuietExpiry
  /-- A frame is heard as the bytes `heard` (header, payload, check), `framing` when it had a framing failure (R39, R41). -/
  | discardedFrame (heard : List Byte) (framing : Bool)
  /-- STATION_EMERGENCY with the action OPEN (R176). -/
  | stationEmergencyOpen (src : Node)
  /-- STATION_EMERGENCY with the action RESET (R179). -/
  | stationEmergencyReset (src : Node)
  /-- ALERT of kind HANDLE (R173). -/
  | alertHandle (src : Node) (unit seq : Byte)
  /-- ALERT of another kind (R44). -/
  | alert (src : Node) (kind unit seq : Byte)
  /-- BERTH (R72). -/
  | berth (src : Node) (seq consist : Byte) (s0 : BitVec 24) (d1 d2 d3 : Byte)
  /-- BERTH_EXT (R74). -/
  | berthExt (src : Node) (seq d1 d2 d3 d4 d5 d6 d7 : Byte)
  /-- STANDSTILL (R78). -/
  | standstill (src : Node) (seq : Byte)
  /-- RELEASE (R80). -/
  | release (src : Node) (seq : Byte)
  /-- CLOSE (R83). -/
  | close (src : Node) (seq : Byte)
  /-- REOPEN (R84). -/
  | reopen (src : Node) (seq : Byte)
  /-- DEPART (R86). -/
  | depart (src : Node) (seq : Byte)
  /-- HOLD with the action START (R161). -/
  | holdStart (src : Node) (seq car : Byte)
  /-- HOLD with the action END (R161). -/
  | holdEnd (src : Node) (seq car : Byte)
  /-- EDGE (R102). -/
  | edge (src : Node) (seq : Byte) (unit quality : BitVec 4) (door : Byte) (stop : BitVec 24)
  /-- BEACON (R56). -/
  | beacon (src : Node) (content : Beacon)
  /-- RESULT from another node (R44). -/
  | result (src : Node) (requester sub arg outcome code : Byte)
  /-- ANSWER from another node (R44). -/
  | answer (src : Node) (requester topic arg : Byte) (part count : BitVec 4) (data : List Byte)
  /-- COMMAND ISOLATE (R137). -/
  | isolate (src : Node) (dest arg : Byte)
  /-- COMMAND RESTORE (R138). -/
  | restore (src : Node) (dest arg : Byte)
  /-- COMMAND REHOME (R135). -/
  | rehome (src : Node) (dest arg : Byte)
  /-- COMMAND ACK_FAULT (R189). -/
  | ackFault (src : Node) (dest arg : Byte)
  /-- COMMAND ACK_RELEASE (R172). -/
  | ackRelease (src : Node) (dest arg : Byte)
  /-- COMMAND ACCESS_OPEN (R182). -/
  | accessOpen (src : Node) (dest arg : Byte)
  /-- COMMAND ACCESS_CLOSE (R184). -/
  | accessClose (src : Node) (dest arg : Byte)
  /-- COMMAND ACCESS_LOCK (R185). -/
  | accessLock (src : Node) (dest arg : Byte)
  /-- COMMAND RESET_NODE (R195). -/
  | resetNode (src : Node) (dest arg : Byte)
  /-- The reset that RESET_NODE marked due, once its RESULT has been reported; the straps carry `straps` (R195). -/
  | commandedReset (straps : BitVec 6)
  /-- QUERY FAULTS (R193). -/
  | queryFaults (src : Node) (dest arg clear : Byte)
  /-- QUERY UNIT_COUNTERS (R193). -/
  | queryUnitCounters (src : Node) (dest arg clear : Byte)
  /-- QUERY NODE_COUNTERS (R193). -/
  | queryNodeCounters (src : Node) (dest arg clear : Byte)
  /-- QUERY BERTH (R193). -/
  | queryBerth (src : Node) (dest arg clear : Byte)
  /-- QUERY SERVICE_MAP (R193). -/
  | queryServiceMap (src : Node) (dest arg clear : Byte)
  /-- QUERY PEER (R193). -/
  | queryPeer (src : Node) (dest arg clear : Byte)
  /-- A control sample: leaf motion in mm, positive toward open, and motor current in mA (R22). -/
  | controlSample (u : UnitNo) (motion : Int) (current : Nat)
  /-- A 10 ms control period, with the switches and the drive fault input as they stand at it (R124). -/
  | controlPeriod (u : UnitNo) (lockEngaged closed driveFault : Bool)
  /-- A 10 ms period with no valid sample (R22). -/
  | missedControlPeriod (u : UnitNo)
  /-- Three consecutive periods have been missed (R22). -/
  | missedRunDriveFault (u : UnitNo)
  /-- The drive fault stands asserted while the enable is on (R133). -/
  | driveFaultTaken (u : UnitNo)
  /-- The lock switch reads RELEASED in UNLOCKING (R121). -/
  | unlockComplete (u : UnitNo)
  /-- The lock timer expires in UNLOCKING (R121). -/
  | unlockTimeout (u : UnitNo)
  /-- The lock switch reads ENGAGED in LOCKING (R122). -/
  | lockComplete (u : UnitNo)
  /-- The lock timer expires in LOCKING (R122). -/
  | lockingTimeout (u : UnitNo)
  /-- The lock watch of CLOSED_LOCKED reaches 400 ms (R123). -/
  | lockWatchTimeout (u : UnitNo)
  /-- The remaining distance reaches 0 in OPENING (R125). -/
  | openingComplete (u : UnitNo)
  /-- OPEN is entered with the pending-close mark set (R120). -/
  | pendingCloseTaken (u : UnitNo)
  /-- The end of closing travel: the closed switch reads CLOSED (R127). -/
  | closingTravelEnd (u : UnitNo)
  /-- The remaining distance reaches 0 in REVERSING (R129). -/
  | reversingComplete (u : UnitNo)
  /-- The over-threshold count reaches 3 (R128). -/
  | obstacleCurrent (u : UnitNo)
  /-- The pause timer expires in REOPEN_WAIT (R130). -/
  | reopenPauseEnd (u : UnitNo)
  /-- The stall timer expires (R131). -/
  | stallTimerExpiry (u : UnitNo)
  /-- The stall pause ends (R131). -/
  | stallPauseEnd (u : UnitNo)
  /-- The travel timer expires (R132). -/
  | travelTimerExpiry (u : UnitNo)
  /-- The closed switch reads CLOSED in HOMING (R136). -/
  | homingClosed (u : UnitNo)
  /-- The 2,000 ms wait of HOMING ends (R136). -/
  | homingWaitEnd (u : UnitNo)
  /-- The homing timer expires (R136). -/
  | homingTimerExpiry (u : UnitNo)
  /-- A delivery of the alignment sensor (R93). -/
  | alignmentReading (u : UnitNo) (reading : Reading)
  /-- The reading timer expires (R26). -/
  | alignmentReadingTimeout (u : UnitNo)
  /-- The fusion window expires (R105). -/
  | fusionWindowExpiry
  /-- The held release is judged at the window close (R81). -/
  | heldRelease
  /-- A delivery of the gap scanner (R141). -/
  | gapSample (u : UnitNo) (sample : Presence)
  /-- The gap scanner's timer expires (R27). -/
  | gapSampleTimeout (u : UnitNo)
  /-- Ten consecutive CLEAR samples have come (R141). -/
  | gapFilterRelease (u : UnitNo)
  /-- A delivery of the zone curtain (R143). -/
  | zoneSample (u : UnitNo) (sample : Presence)
  /-- The zone curtain's timer expires (R28). -/
  | zoneSampleTimeout (u : UnitNo)
  /-- The raw level of a DEBOUNCED input becomes `level` (R29). -/
  | debouncedInputChange (input : DebouncedInput) (level : Bool)
  /-- The sensitive edge has held `level` for its debounce time (R145). -/
  | sensitiveEdgeChange (u : UnitNo) (level : Bool)
  /-- The emergency wire has held ASSERTED for its debounce time (R176). -/
  | emergencyWireAssert
  /-- The emergency wire has held CLEAR for its debounce time (R176). -/
  | emergencyWireClear
  /-- The handle's raw level goes from CLEAR to ASSERTED (R139). -/
  | handleOperation (u : UnitNo)
  /-- The handle's raw level goes from ASSERTED to CLEAR (R140). -/
  | handleReturn (u : UnitNo)
  /-- The escape panel's raw level goes from CLEAR to ASSERTED (R175). -/
  | panelOperation (u : UnitNo)
  /-- The escape panel's raw level goes from ASSERTED to CLEAR (R175). -/
  | panelReturn (u : UnitNo)
  /-- The silence timer of the slot of `node` expires (R57). -/
  | silenceTimerExpiry (node : Node)
  /-- The 200 ms cadence timer expires (R59). -/
  | beaconCadenceExpiry
  /-- The 50 ms gap timer expires (R59). -/
  | beaconGapTimerExpiry
  /-- 5,000 ms have passed since the RUNNING time (R63). -/
  | neighbourAbsenceExpiry
  /-- The earliest running warning of the close cycle ends (R158). -/
  | closeCycleWarningEnd
  /-- A WAITING member is judged for its close request (R159). -/
  | memberRelease (u : UnitNo)
  /-- A member's deadline is reached (R163). -/
  | memberDeadline (u : UnitNo)
  /-- The deadline of the own hold for `car` is reached (R160). -/
  | ownHoldDeadline (car : Nat)
  /-- The departure close's warning ends (R88). -/
  | departureCloseWarningEnd
  /-- A covered unit is judged for its close request (R88). -/
  | departureCloseRequest (u : UnitNo)
  /-- The departure close's deadline is reached (R88). -/
  | departureCloseDeadline
  /-- The emergency close cycle's warning ends (R180). -/
  | emergencyCloseWarningEnd
  /-- A WAITING member of the emergency close cycle is judged (R180). -/
  | emergencyCloseRequest (u : UnitNo)
  /-- A member's deadline in the emergency close cycle is reached (R180). -/
  | emergencyCloseDeadline (u : UnitNo)
  /-- The earliest running warning of the access close ends (R184). -/
  | accessCloseWarningEnd
  /-- A WAITING member of the access close is judged (R184). -/
  | accessCloseRequest (u : UnitNo)
  /-- A member's deadline in the access close is reached (R184). -/
  | accessCloseDeadline (u : UnitNo)
  /-- The pulse timer of a fault line expires (R191). -/
  | pulseTimerExpiry (line : FaultLine)
  deriving DecidableEq, Repr

end Sys2Proof
end

