-- ==== Sys2Proof/Machine/State.lean ====
section
/-! DEFINITION. The state of the part as plain data, block by block, and its value right after power-on reset. -/

namespace Sys2Proof.Machine

/-! ### Why a step stops -/

/-- The faults that stop the machine: none. Every fault of the part is a report kept in the Fault Capture (R187), an
effect on State, and the manual names no event that stops the part, so the type has no constructor (safe: nothing is cut short). -/
inductive Fault where
  deriving DecidableEq, Repr

/-- The refusals of a step. -/
inductive Refusal where
  /-- Raised by `exec` for a row that has no meaning yet, by its mnemonic; no arm of this model raises it (safe). -/
  | notModelled (mnemonic : String)
  deriving DecidableEq, Repr

/-! ### Configuration Loader -/

/-- The four states of the Configuration Loader (R15 to R18). -/
inductive LoaderState where
  | loading
  | listen
  | running
  | configFault
  deriving DecidableEq, Repr

/-- The reason of a load outcome (R11). -/
inductive LoadReason where
  | ok
  | link
  | length
  | check
  | strap
  | structural
  | nodeField
  | unitField
  | consistField
  deriving DecidableEq, Repr

/-- The load outcome (R11). -/
structure LoadOutcome where
  reason : LoadReason
  /-- Record offset of the failing field. -/
  offset : Nat
  /-- Unit or consist index concerned. -/
  index : Option Nat
  /-- The clamp count. -/
  clamps : Nat
  deriving DecidableEq, Repr

/-- A resolved motion profile (R10): mm/s, mm/s² and mm. -/
structure Profile where
  openCruise : Nat
  closeCruise : Nat
  accel : Nat
  creep : Nat
  creepDistance : Nat
  deriving DecidableEq, Repr

/-- A unit's entry of the Geometry Table (R12). -/
structure UnitGeometry where
  /-- Centre chainage p_u. -/
  centre : Nat
  /-- PED half-width H_u. -/
  halfWidth : Nat
  skew : Nat
  travel : Nat
  /-- Moving mass m in kg. -/
  mass : Nat
  profile : Profile
  /-- Obstacle current threshold in mA. -/
  threshold : Nat
  deriving DecidableEq, Repr

/-- A door of the Cumulative Door Table (R13). -/
structure TrainDoor where
  /-- d_k, behind the front coupler face. -/
  distance : Nat
  /-- Its car, numbered from 1. -/
  car : Nat
  /-- h_k. -/
  halfWidth : Nat
  deriving DecidableEq, Repr

/-- A consist of the Consist Table with its cumulative tables (R13). -/
structure Consist where
  /-- L_cum_0 to L_cum_N. -/
  lengths : List Nat
  /-- Doors k = 1 to K, front first. -/
  doors : List TrainDoor
  deriving DecidableEq, Repr

/-- The node parameters (R9). -/
structure Params where
  minClear : Nat
  stopTol : Nat
  fusionWindow : Nat
  warnTime : Nat
  holdMax : Nat
  reopenPause : Nat
  maxAttempts : Nat
  travelTimeout : Nat
  deriving DecidableEq, Repr

/-- The configuration in force: the loaded one (R12), the fallback one (R18), or none in LOADING (R20). -/
structure NodeConfig where
  faceId : Byte
  /-- Up neighbour, 0 for none. -/
  up : Node
  /-- Down neighbour, 0 for none. -/
  down : Node
  unitCount : Nat
  /-- Fault line mode PULSE (true) or LEVEL. -/
  pulseMode : Bool
  minorDrive : Bool
  params : Params
  /-- Energy limit E in joules; absent when no energy cap applies (R18). -/
  energy : Option Nat
  units : Quad UnitGeometry
  consists : List Consist
  deriving DecidableEq, Repr

/-- The Configuration Loader. -/
structure Loader where
  phase : LoaderState
  /-- The strap value sampled: the own number (R1). -/
  own : Node
  /-- Passes that failed in this LOADING (R2). -/
  failures : Nat
  outcome : Option LoadOutcome
  config : NodeConfig
  /-- Expiry of LISTEN (R16). -/
  listenTimer : Option Time
  /-- Expiry of the CONFIG_FAULT quiet period (R19). -/
  quietTimer : Option Time
  /-- The RUNNING time (R17). -/
  runningTime : Option Time
  deriving DecidableEq, Repr

/-! ### Line Controller -/

/-- The sixteen frame kinds (section 3.2). -/
inductive FrameKind where
  | stationEmergency
  | alert
  | berth
  | berthExt
  | standstill
  | release
  | close
  | reopen
  | depart
  | hold
  | edge
  | beacon
  | command
  | result
  | query
  | answer
  deriving DecidableEq, Repr

/-- A frame heard on the line (R39). -/
structure Frame where
  source : Node
  kind : FrameKind
  payload : List Byte
  deriving DecidableEq, Repr

/-- An entry of the Transmit Queue (R47, R48). -/
structure TxEntry where
  kind : FrameKind
  payload : List Byte
  /-- The payload held as a beacon's successor while the beacon is on the line (R48). -/
  successor : Option (List Byte)
  onLine : Bool
  deriving DecidableEq, Repr

/-- The line states of the LC (R52). -/
inductive LineState where
  | active
  | lineQuiet
  deriving DecidableEq, Repr

/-- The Line Controller. -/
structure LineController where
  /-- The Transmit Queue, head first. -/
  queue : List TxEntry
  /-- Consecutive transmit errors, 0 to 32 (R51). -/
  errors : Nat
  line : LineState
  /-- Expiry of the 2,000 ms quiet timer (R52). -/
  quietTimer : Option Time
  deriving DecidableEq, Repr

/-! ### Counters -/

/-- A counter with its overflow latch (R192). -/
structure Counter (w : Nat) where
  count : BitVec w
  latch : Bool
  deriving DecidableEq, Repr

/-- A counter at 0 with its latch clear. -/
def Counter.zero (w : Nat) : Counter w := ⟨0, false⟩

/-! ### Peer Monitor -/

/-- Liveness of a Peer Table slot (R55). -/
inductive Liveness where
  | absent
  | live
  | silent
  deriving DecidableEq, Repr

/-- A slot of the Peer Table (section 4.1). -/
structure Slot where
  state : Liveness
  lastFrame : Option Time
  pairing : Option Time
  lastBeacon : Option Beacon
  /-- Naming run, 0 to 3 (R64). -/
  naming : Nat
  silence : Counter 16
  /-- Expiry of the 1,000 ms silence timer; stopped but in LIVE (R57). -/
  silenceTimer : Option Time
  deriving DecidableEq, Repr

/-- The slot of a number never heard (R55). -/
def Slot.empty : Slot := ⟨.absent, none, none, none, 0, Counter.zero 16, none⟩

/-- The refusal codes (section 3.6). -/
inductive RefusalCode where
  | none
  | noStandstill
  | verdict
  | emergency
  | conflict
  | notIdle
  | locked
  | unitState
  | nodeState
  deriving DecidableEq, Repr

/-- The Peer Monitor. -/
structure PeerMonitor where
  /-- The Peer Table by node number. -/
  slots : List Slot
  /-- Expiry of the 200 ms cadence timer; stopped while no beacons are sent (R59). -/
  cadence : Option Time
  /-- Expiry of the 50 ms gap timer (R59). -/
  gap : Option Time
  /-- The summary last enqueued (R59). -/
  lastBeacon : Option Beacon
  changePending : Bool
  notHeard : Bool
  identityConflict : Bool
  lastRefusal : RefusalCode
  /-- Expiry of the 5,000 ms from the RUNNING time (R63). -/
  absenceTimer : Option Time
  absenceOver : Bool
  deriving DecidableEq, Repr

/-! ### Berth Unit -/

/-- The states of a berth (section 5.2). -/
inductive BerthState where
  | idle
  | announced
  | fusing
  | fixed
  | released
  | closing
  | secured
  deriving DecidableEq, Repr

/-- The alignment verdicts (R108). -/
inductive Verdict where
  | none
  | aligned
  | degraded
  | outOfTolerance
  | unaligned
  deriving DecidableEq, Repr

/-- A warning period (R33): it counts toward the warning output while `running`. -/
structure Warning where
  start : Time
  stop : Time
  running : Bool
  deriving DecidableEq, Repr

/-- The status of a member of a close (R156, R180, R184). -/
inductive MemberStatus where
  | underWarning
  | waiting
  | started
  deriving DecidableEq, Repr

/-- A member: which of its record's warnings governs it, and its status (R156). -/
structure Member where
  warning : Nat
  status : MemberStatus
  deriving DecidableEq, Repr

/-- An own hold (R158, R160). -/
structure OwnHold where
  car : Nat
  /-- The holding units. -/
  holders : Quad Bool
  deadline : Time
  deriving DecidableEq, Repr

/-- A close cycle (section 9.1). -/
structure CloseCycle where
  /-- Its warnings in the order started. -/
  warnings : List Warning
  members : Quad (Option Member)
  holds : List OwnHold
  deriving DecidableEq, Repr

/-- An entry of the Hold List (section 9.3). -/
structure HoldEntry where
  source : Node
  car : Nat
  received : Time
  deriving DecidableEq, Repr

/-- The departure close (R88). -/
structure DepartureClose where
  covered : Quad Bool
  warning : Warning
  deriving DecidableEq, Repr

/-- The Berth Record, less its close cycle (section 5.1). -/
structure Berth where
  seq : Byte
  consist : Option Nat
  s0 : Option Nat
  /-- The isolated list, in the order joined. -/
  isolated : List Nat
  state : BerthState
  pendingRelease : Bool
  verdict : Verdict
  sHat : Option Nat
  deriving DecidableEq, Repr

/-- The record's IDLE values (R70). -/
def Berth.none : Berth := ⟨0, Option.none, Option.none, [], .idle, false, .none, Option.none⟩

/-- The Berth Unit. -/
structure BerthUnit where
  berth : Berth
  cycle : Option CloseCycle
  /-- The Hold List, oldest first (R161). -/
  holdList : List HoldEntry
  departure : Option DepartureClose
  deriving DecidableEq, Repr

/-! ### Alignment Engine -/

/-- Search outcomes of a unit (R92). -/
inductive SearchOutcome where
  | none
  | seeking
  | sampled
  | noMatch
  | lowQuality
  | notFound
  deriving DecidableEq, Repr

/-- A unit's search (R92, R93). -/
structure Search where
  outcome : SearchOutcome
  /-- The reading run: observed centre offsets, oldest first. -/
  run : List Int
  deriving DecidableEq, Repr

/-- A sample of the Sample Set (R101). -/
structure Sample where
  source : Node
  unit : Nat
  door : Nat
  /-- The implied stop S_i. -/
  stop : Nat
  weight : Nat
  deriving DecidableEq, Repr

/-- The reasons of a map entry (R110). -/
inductive MapReason where
  | served
  | verdict
  | noTrainDoor
  | partialWidth
  | trainDoorIsolated
  | unitIsolated
  | unitFault
  deriving DecidableEq, Repr

/-- A Door Service Map entry (R110). -/
structure MapEntry where
  reason : MapReason
  door : Option Nat
  car : Option Nat
  overlap : Option Int
  /-- The effective clear width E_u. -/
  width : Option Int
  deriving DecidableEq, Repr

/-- The Alignment Engine. -/
structure AlignEngine where
  seq : Byte
  consist : Option Nat
  s0 : Option Nat
  searches : Quad Search
  /-- The Sample Set, oldest first. -/
  samples : List Sample
  /-- Expiry of the fusion window; absent while it is closed. -/
  window : Option Time
  verdict : Verdict
  sHat : Option Nat
  margin : Option Nat
  map : Quad (Option MapEntry)
  deriving DecidableEq, Repr

/-! ### Door Channels -/

/-- The unit states of section 7.1, code 15 last. -/
inductive UnitState where
  | closedLocked
  | unlocking
  | opening
  | opened
  | closing
  | reversing
  | reopenWait
  | heldOpen
  | locking
  | homing
  | manualReleased
  | releaseRestored
  | isolated
  | fault
  | unknown
  | notConfigured
  deriving DecidableEq, Repr

/-- The motion phases (R115). -/
inductive MotionPhase where
  | accelerate
  | cruise
  | brake
  | creep
  | pause
  | hold
  deriving DecidableEq, Repr

/-- The target of REVERSING (R129). -/
inductive ReverseTarget where
  | reopenWait
  | opened
  deriving DecidableEq, Repr

/-- A Door Channel (R115) with its outputs (R21, R24). Timers are held by their expiry. -/
structure DoorChannel where
  st : UnitState
  /-- Position in mm, 0 at closed (R117). -/
  position : Int
  phase : MotionPhase
  attempt : Nat
  pendingClose : Bool
  target : ReverseTarget
  stallCount : Nat
  stallRef : Int
  retries : Nat
  lockTimer : Option Time
  travelTimer : Option Time
  stallTimer : Option Time
  /-- The pause timer: REOPEN_WAIT, the stall pause and the HOMING wait. -/
  pauseTimer : Option Time
  homingTimer : Option Time
  isolationMark : Bool
  /-- The over-threshold count (R128). -/
  overCount : Nat
  /-- Consecutive missed control periods, counted to 3 (R22). -/
  missed : Nat
  enable : Bool
  solenoid : Bool
  /-- The speed setpoint in mm/s, positive toward open (R21). -/
  setpoint : Int
  deriving DecidableEq, Repr

/-! ### Sensing Unit -/

/-- A DEBOUNCED cell: conditioned level and run timer (R29). -/
structure Debounced where
  level : Bool
  timer : Option Time
  deriving DecidableEq, Repr

/-- A LATCHED cell: live level and capture (R30). -/
structure Latched where
  live : Bool
  held : Bool
  deriving DecidableEq, Repr

/-- The gap alarm of a unit (R148). -/
inductive GapAlarm where
  | none
  | intrusion
  | trap
  deriving DecidableEq, Repr

/-- A unit's sensing: filters, cells, stream timers and gap alarm (chapter 8, section 2.3). `true` is OCCUPIED, ASSERTED, BUSY. -/
structure UnitSensing where
  /-- The last 0 to 5 gap samples, oldest first (R141). -/
  gapWindow : List Bool
  clearRun : Nat
  gapAsserted : Bool
  /-- The last 0 to 10 zone samples, oldest first (R143). -/
  zoneWindow : List Bool
  zoneBusy : Bool
  edge : Debounced
  handle : Latched
  panel : Latched
  alarm : GapAlarm
  alignTimer : Option Time
  gapTimer : Option Time
  zoneTimer : Option Time
  deriving DecidableEq, Repr

/-- The Sensing Unit. -/
structure SensingUnit where
  units : Quad UnitSensing
  wire : Debounced
  deriving DecidableEq, Repr

/-! ### Interlock Unit -/

/-- The emergency close cycle (R180). -/
structure EmergencyClose where
  warning : Warning
  members : Quad (Option MemberStatus)
  deriving DecidableEq, Repr

/-- The access close (R184). -/
structure AccessClose where
  warnings : List Warning
  members : Quad (Option Member)
  deriving DecidableEq, Repr

/-- The Interlock Unit. -/
structure InterlockUnit where
  /-- The Release Set, in ascending order (R173). -/
  releaseSet : List Node
  latch : Bool
  wireMark : Bool
  lineMark : Bool
  panelMarks : Quad Bool
  accessMarks : Quad Bool
  accessLock : Bool
  emergencyClose : Option EmergencyClose
  accessClose : Option AccessClose
  deriving DecidableEq, Repr

/-! ### Fault Recorder -/

/-- The seventeen fault kinds (section 11.1). -/
inductive FaultKind where
  | lockFault
  | departUnsecured
  | trap
  | identityConflict
  | configFault
  | homeFail
  | travelIncomplete
  | driveFault
  | unlockFail
  | heldOpen
  | intrusion
  | notHeard
  | configClamped
  | accessPreempted
  | lineQuiet
  | handle
  | panel
  deriving DecidableEq, Repr

/-- The two severities (section 11.1). -/
inductive Severity where
  | severe
  | minor
  deriving DecidableEq, Repr

/-- The record of a Fault Capture slot (R188). -/
structure FaultRecord where
  kind : FaultKind
  unit : Option UnitNo
  seq : Byte
  time : Time
  deriving DecidableEq, Repr

/-- The counters of a unit (section 11.4). -/
structure UnitCounters where
  openCycles : Counter 32
  reversals : Counter 16
  unlockFails : Counter 16
  handleReleases : Counter 16
  requestIgnored : Counter 16
  deriving DecidableEq, Repr

/-- A unit's counters at 0. -/
def UnitCounters.zero : UnitCounters :=
  ⟨Counter.zero 32, Counter.zero 16, Counter.zero 16, Counter.zero 16, Counter.zero 16⟩

/-- The counters of the node (section 11.4). -/
structure NodeCounters where
  discardedFrames : Counter 16
  txDrops : Counter 16
  lineQuietEvents : Counter 16
  lateSamples : Counter 16
  sampleOverflow : Counter 16
  berthConflict : Counter 16
  holdEvictions : Counter 16
  deriving DecidableEq, Repr

/-- The node counters at 0. -/
def NodeCounters.zero : NodeCounters :=
  ⟨Counter.zero 16, Counter.zero 16, Counter.zero 16, Counter.zero 16, Counter.zero 16, Counter.zero 16, Counter.zero 16⟩

/-- The Fault Recorder. -/
structure FaultRecorder where
  severe : Option FaultRecord
  minor : Option FaultRecord
  /-- The counters of fault kinds 1 to 17, in code order. -/
  kinds : List (Counter 16)
  unitCounters : Quad UnitCounters
  nodeCounters : NodeCounters
  severePulse : Option Time
  minorPulse : Option Time
  resetDue : Bool
  /-- The RESULT of a RESET_NODE that marked the reset due has been reported (R195). -/
  resetReported : Bool
  deriving DecidableEq, Repr

/-! ### Pins and the whole -/

/-- The raw input levels of a unit; `true` is ASSERTED, ENGAGED or CLOSED (section 2.4). -/
structure UnitPins where
  driveFault : Bool
  lockEngaged : Bool
  closed : Bool
  edge : Bool
  handle : Bool
  panel : Bool
  deriving DecidableEq, Repr

/-- The input pins. -/
structure Pins where
  straps : BitVec 6
  wire : Bool
  units : Quad UnitPins
  deriving DecidableEq, Repr

/-- The outputs of the node but for the drives and solenoids; a fault line is `true` when asserted (R33 to R35). -/
structure Outputs where
  warning : Bool
  contact : Bool
  severeOut : Bool
  minorOut : Bool
  deriving DecidableEq, Repr

/-- The state of the part, and the queue of commands waiting for it. -/
structure State where
  /-- The supply stands above its thresholds (R36). -/
  supply : Bool
  /-- The reset pin is held low (R36). -/
  resetLow : Bool
  /-- Node time. -/
  now : Time
  pins : Pins
  cl : Loader
  lc : LineController
  pm : PeerMonitor
  bu : BerthUnit
  ae : AlignEngine
  dc : Quad DoorChannel
  su : SensingUnit
  iu : InterlockUnit
  fr : FaultRecorder
  out : Outputs
  /-- The model's own: how many free values have been drawn (log entry 9). -/
  freeCount : Nat
  /-- The model's own: the commands waiting, first in, first out. -/
  pending : List Instr
  deriving DecidableEq, Repr

/-! ### Reset values -/

/-- A profile no channel uses: what stands where nothing is configured. -/
def Profile.none : Profile := ⟨0, 0, 0, 0, 0⟩

/-- The geometry entry of a unit that is not configured. -/
def UnitGeometry.none : UnitGeometry := ⟨0, 0, 0, 0, 0, Profile.none, 0⟩

/-- The configuration discarded (R20): no unit configured, no neighbour, no consist. DESIGN CHOICE, log entry 25: which values its fields
hold in LOADING no rule says, and here each is 0, absent or off. -/
def NodeConfig.none : NodeConfig :=
  { faceId := 0, up := 0, down := 0, unitCount := 0, pulseMode := false, minorDrive := false
    params := ⟨0, 0, 0, 0, 0, 0, 0, 0⟩, energy := Option.none, units := Quad.same UnitGeometry.none, consists := [] }

/-- The CL at the start of LOADING with the strap value `own`. -/
def Loader.loading (own : Node) : Loader :=
  { phase := .loading, own := own, failures := 0, outcome := none, config := NodeConfig.none
    listenTimer := none, quietTimer := none, runningTime := none }

/-- The LC at the start of LOADING (R15). -/
def LineController.reset : LineController := ⟨[], 0, .active, none⟩

/-- The PM's reset values (R55, R59, R62, R64 to R66). -/
def PeerMonitor.reset : PeerMonitor :=
  { slots := List.replicate 64 Slot.empty, cadence := none, gap := none, lastBeacon := none, changePending := false
    notHeard := false, identityConflict := false, lastRefusal := .none, absenceTimer := none, absenceOver := false }

/-- The BU's reset values (R70). -/
def BerthUnit.reset : BerthUnit := ⟨Berth.none, none, [], none⟩

/-- The AE's reset values (R90). -/
def AlignEngine.reset : AlignEngine :=
  { seq := 0, consist := none, s0 := none, searches := Quad.same ⟨.none, []⟩, samples := [], window := none
    verdict := .none, sHat := none, margin := none, map := Quad.same none }

/-- A Door Channel in LOADING: not configured, outputs off, its isolation mark as given (R15, R118, log entry 5). -/
def DoorChannel.reset (mark : Bool) : DoorChannel :=
  { st := .notConfigured, position := 0, phase := .hold, attempt := 0, pendingClose := false, target := .opened
    stallCount := 0, stallRef := 0, retries := 0, lockTimer := none, travelTimer := none, stallTimer := none
    pauseTimer := none, homingTimer := none, isolationMark := mark, overCount := 0, missed := 0
    enable := false, solenoid := false, setpoint := 0 }

/-- A unit's sensing in LOADING: filters empty, cells at rest, timers stopped (R32, R155). -/
def UnitSensing.reset : UnitSensing :=
  { gapWindow := [], clearRun := 0, gapAsserted := false, zoneWindow := [], zoneBusy := false, edge := ⟨false, none⟩
    handle := ⟨false, false⟩, panel := ⟨false, false⟩, alarm := .none, alignTimer := none, gapTimer := none, zoneTimer := none }

/-- The SU's reset values (R155). -/
def SensingUnit.reset : SensingUnit := ⟨Quad.same UnitSensing.reset, ⟨false, none⟩⟩

/-- The IU's reset values, with ACCESS_LOCK as given (R186). -/
def InterlockUnit.reset (lock : Bool) : InterlockUnit :=
  { releaseSet := [], latch := false, wireMark := false, lineMark := false, panelMarks := Quad.same false
    accessMarks := Quad.same false, accessLock := lock, emergencyClose := none, accessClose := none }

/-- The FR's power-on values (R196). -/
def FaultRecorder.reset : FaultRecorder :=
  { severe := none, minor := none, kinds := List.replicate 17 (Counter.zero 16), unitCounters := Quad.same UnitCounters.zero
    nodeCounters := NodeCounters.zero, severePulse := none, minorPulse := none, resetDue := false, resetReported := false }

/-- Every output inactive, the Secure Contact open (R15, R35). -/
def Outputs.reset : Outputs := ⟨false, false, false, false⟩

/-- DESIGN CHOICE (log entry 4, unsafe): the levels on the pins before any command has given one. The straps read 12,
and every unit's switches read closed and locked with nothing asserted. -/
def Pins.reset : Pins :=
  { straps := 12, wire := false
    units := Quad.same { driveFault := false, lockEngaged := true, closed := true, edge := false, handle := false, panel := false } }

/-- The machine right after power-on reset: powered, at the start of LOADING, its straps sampled (R1, R15, R36). -/
def State.reset : State :=
  { supply := true, resetLow := false, now := 0, pins := Pins.reset, cl := Loader.loading Pins.reset.straps
    lc := LineController.reset, pm := PeerMonitor.reset, bu := BerthUnit.reset, ae := AlignEngine.reset
    dc := Quad.same (DoorChannel.reset false), su := SensingUnit.reset, iu := InterlockUnit.reset false
    fr := FaultRecorder.reset, out := Outputs.reset, freeCount := 0, pending := [] }

end Sys2Proof.Machine
end

