-- ==== Sys2Proof/Machine/Basics.lean ====
section
/-! DEFINITION. Node time, counters, and the small updates of the state that the operations are made of. -/

namespace Sys2Proof.Machine

/-! ### Node time (00_scope, Time) -/

/-- The node time `ms` milliseconds after `t`. -/
def after (t : Time) (ms : Nat) : Time := t + BitVec.ofNat 32 ms

/-- One node time is earlier than another when the second less the first, modulo 2^32, lies in 1 to 2,147,483,647. -/
def earlier (a b : Time) : Bool :=
  decide (1 ≤ (b - a).toNat) && decide ((b - a).toNat ≤ 2147483647)

/-- A deadline has been reached when node time is not earlier than it. -/
def State.reached (s : State) (t : Time) : Bool := !earlier s.now t

/-- DESIGN CHOICE (log entry 1): an expiry command says that its timer's expiry `t` has come, so node time moves to `t` if
it stands earlier. -/
def State.reach (t : Time) (s : State) : State :=
  if earlier s.now t then { s with now := t } else s

/-- The expiry of a timer of `ms` started now. -/
def State.timer (s : State) (ms : Nat) : Option Time := some (after s.now ms)

/-! ### Counters (R192) -/

/-- The next count: a counter at its top wraps to 0 and sets its latch. -/
def Counter.bump {w : Nat} (c : Counter w) : Counter w :=
  ⟨c.count + 1, c.latch || c.count == BitVec.allOnes w⟩

/-! ### Updates of the state -/

/-- Replace unit `u`'s Door Channel. -/
def State.setDc (u : UnitNo) (d : DoorChannel) (s : State) : State := { s with dc := s.dc.set u d }

/-- Change unit `u`'s Door Channel. -/
def State.modDc (u : UnitNo) (f : DoorChannel → DoorChannel) (s : State) : State := s.setDc u (f (s.dc.get u))

/-- Replace unit `u`'s sensing. -/
def State.setSu (u : UnitNo) (x : UnitSensing) (s : State) : State :=
  { s with su := { s.su with units := s.su.units.set u x } }

/-- Change unit `u`'s sensing. -/
def State.modSu (u : UnitNo) (f : UnitSensing → UnitSensing) (s : State) : State := s.setSu u (f (s.su.units.get u))

/-- Change unit `u`'s raw input levels. -/
def State.modPins (u : UnitNo) (f : UnitPins → UnitPins) (s : State) : State :=
  { s with pins := { s.pins with units := s.pins.units.set u (f (s.pins.units.get u)) } }

/-- Change the Berth Record. -/
def State.modBerth (f : Berth → Berth) (s : State) : State := { s with bu := { s.bu with berth := f s.bu.berth } }

/-- Replace the close cycle. -/
def State.setCycle (c : Option CloseCycle) (s : State) : State := { s with bu := { s.bu with cycle := c } }

/-- Replace the Hold List. -/
def State.setHoldList (l : List HoldEntry) (s : State) : State := { s with bu := { s.bu with holdList := l } }

/-- Replace the departure close. -/
def State.setDeparture (d : Option DepartureClose) (s : State) : State := { s with bu := { s.bu with departure := d } }

/-- Change the IU. -/
def State.modIu (f : InterlockUnit → InterlockUnit) (s : State) : State := { s with iu := f s.iu }

/-- Change the AE. -/
def State.modAe (f : AlignEngine → AlignEngine) (s : State) : State := { s with ae := f s.ae }

/-- Change the PM. -/
def State.modPm (f : PeerMonitor → PeerMonitor) (s : State) : State := { s with pm := f s.pm }

/-- Change the LC. -/
def State.modLc (f : LineController → LineController) (s : State) : State := { s with lc := f s.lc }

/-- Change the CL. -/
def State.modCl (f : Loader → Loader) (s : State) : State := { s with cl := f s.cl }

/-- Change the FR. -/
def State.modFr (f : FaultRecorder → FaultRecorder) (s : State) : State := { s with fr := f s.fr }

/-- Change unit `u`'s counters. -/
def State.modUnitCounters (u : UnitNo) (f : UnitCounters → UnitCounters) (s : State) : State :=
  s.modFr fun r => { r with unitCounters := r.unitCounters.set u (f (r.unitCounters.get u)) }

/-- Change the node counters. -/
def State.modNodeCounters (f : NodeCounters → NodeCounters) (s : State) : State :=
  s.modFr fun r => { r with nodeCounters := f r.nodeCounters }

/-- One frame, or one item of a frame, counted in DISCARDED_FRAMES (R41, R42, R71, R73, R102, R161, R179). -/
def countDiscard (s : State) : State :=
  s.modNodeCounters fun c => { c with discardedFrames := c.discardedFrames.bump }

/-- One request counted in unit `u`'s REQUEST_IGNORED (section 7.2). -/
def countIgnored (u : UnitNo) (s : State) : State :=
  s.modUnitCounters u fun c => { c with requestIgnored := c.requestIgnored.bump }

/-- Do `f` for each unit, in unit order. -/
def forUnits (f : UnitNo → State → State) (s : State) : State := f .u3 (f .u2 (f .u1 (f .u0 s)))

/-! ### Reading the state -/

/-- The unit stands below the unit count in force (R12). -/
def State.configured (s : State) (u : UnitNo) : Bool := decide (u.val < s.cl.config.unitCount)

/-- The state of unit `u`. -/
def State.unit (s : State) (u : UnitNo) : UnitState := (s.dc.get u).st

/-- The Berth Record's state. -/
def State.berthState (s : State) : BerthState := s.bu.berth.state

/-- The Berth Record's sequence. -/
def State.seq (s : State) : Byte := s.bu.berth.seq

/-- The Peer Table slot of a number (R55). -/
def State.slot (s : State) (n : Node) : Slot := s.pm.slots.getD n.toNat Slot.empty

/-- Replace the slot of a number. -/
def State.setSlot (n : Node) (x : Slot) (s : State) : State :=
  s.modPm fun p => { p with slots := p.slots.set n.toNat x }

/-- The gap filter of unit `u` stands asserted (R144). -/
def State.gapAsserted (s : State) (u : UnitNo) : Bool := (s.su.units.get u).gapAsserted

/-- The conditioned sensitive edge of unit `u` stands ASSERTED (R144). -/
def State.edgeAsserted (s : State) (u : UnitNo) : Bool := (s.su.units.get u).edge.level

/-- The switches of unit `u` read CLOSED and ENGAGED (R25). -/
def State.closedAndEngaged (s : State) (u : UnitNo) : Bool :=
  (s.pins.units.get u).closed && (s.pins.units.get u).lockEngaged

end Sys2Proof.Machine
end

