-- ==== Sys2Proof/Machine/Operands.lean ====
section
/-! DEFINITION. Frames on the wire: codes, header, check, the layouts of section 3.6, and the acceptance checks of R41
and R42 by which the LC takes or discards a frame. -/

namespace Sys2Proof.Machine

/-! ### Codes (section 3.6) -/

/-- The kind numbers of section 3.2. -/
def FrameKind.number : FrameKind → Nat
  | .stationEmergency => 1
  | .alert => 2
  | .berth => 4
  | .berthExt => 5
  | .standstill => 6
  | .release => 7
  | .close => 8
  | .reopen => 9
  | .depart => 10
  | .hold => 12
  | .edge => 14
  | .beacon => 16
  | .command => 18
  | .result => 19
  | .query => 20
  | .answer => 21

/-- The kind of a number, where the number is one of the sixteen (R41, check 4). -/
def FrameKind.ofNumber? : Nat → Option FrameKind
  | 1 => some .stationEmergency
  | 2 => some .alert
  | 4 => some .berth
  | 5 => some .berthExt
  | 6 => some .standstill
  | 7 => some .release
  | 8 => some .close
  | 9 => some .reopen
  | 10 => some .depart
  | 12 => some .hold
  | 14 => some .edge
  | 16 => some .beacon
  | 18 => some .command
  | 19 => some .result
  | 20 => some .query
  | 21 => some .answer
  | _ => none

/-- The class each kind must carry (section 3.2). -/
def FrameKind.cls : FrameKind → Nat
  | .stationEmergency => 0
  | .alert => 0
  | .berth => 1
  | .berthExt => 1
  | .standstill => 1
  | .release => 1
  | .close => 1
  | .reopen => 1
  | .depart => 1
  | .hold => 2
  | .edge => 3
  | .beacon => 4
  | .command => 5
  | .result => 5
  | .query => 6
  | .answer => 6

/-- The payload length is one the table gives for the kind (R41, check 6). -/
def FrameKind.lengthOk : FrameKind → Nat → Bool
  | .stationEmergency, n => n == 1
  | .alert, n => n == 3
  | .berth, n => n == 8
  | .berthExt, n => n == 8
  | .standstill, n => n == 1
  | .release, n => n == 1
  | .close, n => n == 1
  | .reopen, n => n == 1
  | .depart, n => n == 1
  | .hold, n => n == 3
  | .edge, n => n == 6
  | .beacon, n => n == 8
  | .command, n => n == 3
  | .result, n => n == 5
  | .query, n => n == 4
  | .answer, n => decide (5 ≤ n) && decide (n ≤ 8)

/-- A bay controller's number, 1 to 40. -/
def isBay (n : Node) : Bool := decide (1 ≤ n.toNat) && decide (n.toNat ≤ 40)

/-- A supervisor number, 41 to 44. -/
def isSupervisor (n : Node) : Bool := decide (41 ≤ n.toNat) && decide (n.toNat ≤ 44)

/-- A supervisor or maintenance number, 41 to 47. -/
def isStation (n : Node) : Bool := decide (41 ≤ n.toNat) && decide (n.toNat ≤ 47)

/-- The numbers permitted to send a kind (R41, check 7; section 3.2). -/
def FrameKind.sourceOk : FrameKind → Node → Bool
  | .stationEmergency, n => isSupervisor n
  | .alert, n => isBay n
  | .berth, n => isSupervisor n
  | .berthExt, n => isSupervisor n
  | .standstill, n => isSupervisor n
  | .release, n => isSupervisor n
  | .close, n => isSupervisor n
  | .reopen, n => isSupervisor n
  | .depart, n => isSupervisor n
  | .hold, n => isBay n
  | .edge, n => isBay n
  | .beacon, n => isBay n
  | .command, n => isStation n
  | .result, n => isBay n
  | .query, n => isStation n
  | .answer, n => isBay n

/-- The refusal codes of section 3.6 (code 2 is not assigned). -/
def RefusalCode.code : RefusalCode → Byte
  | .none => 0
  | .noStandstill => 1
  | .verdict => 3
  | .emergency => 4
  | .conflict => 5
  | .notIdle => 6
  | .locked => 7
  | .unitState => 8
  | .nodeState => 9

/-- The berth state codes 0 to 6 (section 3.6). -/
def BerthState.code : BerthState → Nat
  | .idle => 0
  | .announced => 1
  | .fusing => 2
  | .fixed => 3
  | .released => 4
  | .closing => 5
  | .secured => 6

/-- The verdict codes (section 3.6). -/
def Verdict.code : Verdict → Nat
  | .none => 0
  | .aligned => 1
  | .degraded => 2
  | .outOfTolerance => 3
  | .unaligned => 4

/-- The unit state codes (section 7.1). -/
def UnitState.code : UnitState → Nat
  | .closedLocked => 0
  | .unlocking => 1
  | .opening => 2
  | .opened => 3
  | .closing => 4
  | .reversing => 5
  | .reopenWait => 6
  | .heldOpen => 7
  | .locking => 8
  | .homing => 9
  | .manualReleased => 10
  | .releaseRestored => 11
  | .isolated => 12
  | .fault => 13
  | .unknown => 14
  | .notConfigured => 15

/-- The alert kinds this node sends (section 3.6). -/
inductive AlertKind where
  | handle
  | panel
  | trap
  | intrusion
  | wireEmergency
  | departUnsecured
  deriving DecidableEq, Repr

/-- Their codes (section 3.6). -/
def AlertKind.code : AlertKind → Byte
  | .handle => 1
  | .panel => 2
  | .trap => 3
  | .intrusion => 4
  | .wireEmergency => 5
  | .departUnsecured => 6

/-- The sub-commands of COMMAND (section 3.6). -/
inductive SubCommand where
  | isolate
  | restore
  | rehome
  | ackFault
  | ackRelease
  | accessOpen
  | accessClose
  | accessLock
  | resetNode
  deriving DecidableEq, Repr

/-- Their codes (section 3.6). -/
def SubCommand.code : SubCommand → Byte
  | .isolate => 1
  | .restore => 2
  | .rehome => 3
  | .ackFault => 4
  | .ackRelease => 5
  | .accessOpen => 6
  | .accessClose => 7
  | .accessLock => 8
  | .resetNode => 9

/-- The topics of QUERY (section 3.6). -/
inductive Topic where
  | faults
  | unitCounters
  | nodeCounters
  | berth
  | serviceMap
  | peer
  deriving DecidableEq, Repr

/-- Their codes (section 3.6). -/
def Topic.code : Topic → Byte
  | .faults => 1
  | .unitCounters => 2
  | .nodeCounters => 3
  | .berth => 4
  | .serviceMap => 5
  | .peer => 6

/-! ### Bytes (R54: most significant byte first; the field named first stands in the upper bits) -/

/-- The low byte of a number. -/
def byte (n : Nat) : Byte := BitVec.ofNat 8 n

/-- Two bytes of a 16-bit field. -/
def bytes2 (x : BitVec 16) : List Byte := [x.extractLsb' 8 8, x.extractLsb' 0 8]

/-- Three bytes of a 24-bit field. -/
def bytes3 (x : BitVec 24) : List Byte := [x.extractLsb' 16 8, x.extractLsb' 8 8, x.extractLsb' 0 8]

/-- Four bytes of a 32-bit field. -/
def bytes4 (x : BitVec 32) : List Byte := [x.extractLsb' 24 8, x.extractLsb' 16 8, x.extractLsb' 8 8, x.extractLsb' 0 8]

/-- A byte of two four-bit fields, the upper first. -/
def nibbles (hi lo : BitVec 4) : Byte := hi ++ lo

/-- A node number in a byte. -/
def nodeByte (n : Node) : Byte := n.setWidth 8

/-- A level as the lowest bit. -/
def bit (b : Bool) : BitVec 1 := BitVec.ofBool b

/-- The eight bytes of a beacon (section 3.6). -/
def beaconBytes (b : Beacon) : List Byte :=
  [b.seq, nibbles b.berthState b.verdict, nibbles b.units.q0 b.units.q1, nibbles b.units.q2 b.units.q3, b.flags, b.up,
    b.down, b.refusal]

/-! ### The frame check (R39) and the record check (R3) -/

/-- One bit of a CRC-16 with generator `poly`: the register shifts left, and the generator is added when the bit that leaves
differs from the bit that comes. -/
def crcBit (poly reg : BitVec 16) (b : Bool) : BitVec 16 :=
  if (reg.msb != b) then (reg <<< 1) ^^^ poly else reg <<< 1

/-- One byte, most significant bit first. -/
def crcByte (poly reg : BitVec 16) (x : Byte) : BitVec 16 :=
  [7, 6, 5, 4, 3, 2, 1, 0].foldl (fun r i => crcBit poly r (x.getLsbD i)) reg

/-- The CRC-16 of a list of bytes from a starting register. -/
def crc (poly start : BitVec 16) (l : List Byte) : BitVec 16 := l.foldl (crcByte poly) start

/-- The check of a frame: x^16 + x^15 + x^2 + 1, register starting at 0 (R39). -/
def frameCheck (l : List Byte) : BitVec 16 := crc 0x8005#16 0 l

/-- The check of a record: x^16 + x^12 + x^5 + 1, register starting at all ones (R3). -/
def recordCheck (l : List Byte) : BitVec 16 := crc 0x1021#16 0xFFFF#16 l

/-! ### The header (section 3.6) -/

/-- The three header bytes of a frame: class, source, kind, two fill bits of 0, payload length. -/
def headerBytes (source : Node) (kind : FrameKind) (length : Nat) : List Byte :=
  [ (BitVec.ofNat 3 kind.cls) ++ source.extractLsb' 1 5,
    ((source.extractLsb' 0 1) ++ (BitVec.ofNat 5 kind.number)) ++ (0 : BitVec 2),
    byte length ]

/-- A frame whole, as it stands on the line after its start bit (R39). -/
def Frame.bytes (f : Frame) : List Byte :=
  let body := headerBytes f.source f.kind f.payload.length ++ f.payload
  body ++ bytes2 (frameCheck body)

/-! ### The payload check (R42) -/

/-- A number within a range, both ends included. -/
def within (lo hi : Nat) (b : Byte) : Bool := decide (lo ≤ b.toNat) && decide (b.toNat ≤ hi)

/-- A berth sequence 1 to 255. -/
def seqOk (b : Byte) : Bool := within 1 255 b

/-- A COMMAND's argument byte has the form its sub-command calls for (R42). -/
def commandArgOk (sub arg : Byte) : Bool :=
  if sub == SubCommand.ackFault.code then within 1 2 arg
  else if sub == SubCommand.accessLock.code || sub == SubCommand.resetNode.code then arg == 0
  else within 1 15 arg

/-- A QUERY's topic argument has the form its topic calls for (section 3.6). -/
def queryArgOk (topic arg : Byte) : Bool :=
  if topic == Topic.unitCounters.code then within 0 3 arg
  else if topic == Topic.peer.code then within 1 47 arg
  else arg == 0

/-- Every field of the payload lies in the range its layout gives (R42, section 3.6). -/
def payloadOk : FrameKind → List Byte → Bool
  | .stationEmergency, [a] => within 1 2 a
  | .alert, [k, u, _] => within 1 6 k && (within 0 3 u || u == 255)
  | .berth, [q, c, a, b, d, _, _, _] =>
      seqOk q && within 0 5 c && decide (a.toNat * 65536 + b.toNat * 256 + d.toNat ≤ 400000)
  | .berthExt, [q, _, _, _, _, _, _, _] => seqOk q
  | .standstill, [q] => seqOk q
  | .release, [q] => seqOk q
  | .close, [q] => seqOk q
  | .reopen, [q] => seqOk q
  | .depart, [q] => seqOk q
  | .hold, [q, a, c] => seqOk q && within 1 2 a && within 1 10 c
  | .edge, [q, uq, k, _, _, _] =>
      seqOk q && decide (uq.toNat / 16 ≤ 3) && decide (1 ≤ uq.toNat % 16) && decide (uq.toNat % 16 ≤ 3) && within 1 50 k
  | .beacon, [_, sv, _, _, _, up, down, code] =>
      decide (sv.toNat / 16 ≤ 7) && decide (sv.toNat % 16 ≤ 4) && within 0 40 up && within 0 40 down && within 0 9 code
  | .command, [d, sub, arg] => within 1 40 d && within 1 9 sub && commandArgOk sub arg
  | .result, [r, sub, arg, o, code] =>
      within 41 47 r && within 1 9 sub && within 0 15 arg && within 1 2 o && within 0 9 code
  | .query, [d, t, arg, clear] => within 1 40 d && within 1 6 t && queryArgOk t arg && within 0 1 clear
  | .answer, r :: t :: arg :: pc :: _ =>
      within 41 47 r && within 1 6 t && queryArgOk t arg && decide (1 ≤ pc.toNat / 16) &&
        decide (pc.toNat / 16 ≤ pc.toNat % 16)
  | _, _ => false

/-- A frame passes checks 3, 6 and 7 of R41 and the payload check of R42. (Checks 1, 2, 4 and 5 concern the bytes: see
`acceptBytes`.) -/
def Frame.ok (f : Frame) : Bool :=
  decide (1 ≤ f.source.toNat) && decide (f.source.toNat ≤ 47) && f.kind.lengthOk f.payload.length &&
    f.kind.sourceOk f.source && payloadOk f.kind f.payload

/-- The frame that a list of bytes heard carries, if it passes every check of R41 and R42: framing and check field, fill
bits, source, kind number, class, length, permitted source, payload. -/
def acceptBytes (heard : List Byte) (framing : Bool) : Option Frame :=
  match heard with
  | h0 :: h1 :: h2 :: rest =>
    let length := h2.toNat
    let payload := rest.take length
    let source : Node := h0.extractLsb' 0 5 ++ h1.extractLsb' 7 1
    if framing || decide (8 < length) || rest.length != length + 2 then none
    else if rest.drop length != bytes2 (frameCheck (h0 :: h1 :: h2 :: payload)) then none
    else if h1.extractLsb' 0 2 != 0 then none
    else
      match FrameKind.ofNumber? (h1.extractLsb' 2 5).toNat with
      | none => none
      | some kind =>
        if (h0.extractLsb' 5 3).toNat != kind.cls then none
        else if (Frame.mk source kind payload).ok then some ⟨source, kind, payload⟩ else none
  | _ => none

/-! ### The frames of the commands (section 3.6) -/

/-- The payload of a COMMAND. -/
def commandPayload (sub : SubCommand) (dest arg : Byte) : List Byte := [dest, sub.code, arg]

/-- The payload of a QUERY. -/
def queryPayload (topic : Topic) (dest arg clear : Byte) : List Byte := [dest, topic.code, arg, clear]

/-- The frame a frame command stands for; none for a command that is no frame. -/
def frameOf : Instr → Option Frame
  | .stationEmergencyOpen src => some ⟨src, .stationEmergency, [1]⟩
  | .stationEmergencyReset src => some ⟨src, .stationEmergency, [2]⟩
  | .alertHandle src unit seq => some ⟨src, .alert, [1, unit, seq]⟩
  | .alert src kind unit seq => some ⟨src, .alert, [kind, unit, seq]⟩
  | .berth src seq consist s0 d1 d2 d3 => some ⟨src, .berth, [seq, consist] ++ bytes3 s0 ++ [d1, d2, d3]⟩
  | .berthExt src seq d1 d2 d3 d4 d5 d6 d7 => some ⟨src, .berthExt, [seq, d1, d2, d3, d4, d5, d6, d7]⟩
  | .standstill src seq => some ⟨src, .standstill, [seq]⟩
  | .release src seq => some ⟨src, .release, [seq]⟩
  | .close src seq => some ⟨src, .close, [seq]⟩
  | .reopen src seq => some ⟨src, .reopen, [seq]⟩
  | .depart src seq => some ⟨src, .depart, [seq]⟩
  | .holdStart src seq car => some ⟨src, .hold, [seq, 1, car]⟩
  | .holdEnd src seq car => some ⟨src, .hold, [seq, 2, car]⟩
  | .edge src seq unit quality door stop => some ⟨src, .edge, [seq, nibbles unit quality, door] ++ bytes3 stop⟩
  | .beacon src content => some ⟨src, .beacon, beaconBytes content⟩
  | .result src requester sub arg outcome code => some ⟨src, .result, [requester, sub, arg, outcome, code]⟩
  | .answer src requester topic arg part count data =>
      some ⟨src, .answer, [requester, topic, arg, nibbles part count] ++ data⟩
  | .isolate src dest arg => some ⟨src, .command, commandPayload .isolate dest arg⟩
  | .restore src dest arg => some ⟨src, .command, commandPayload .restore dest arg⟩
  | .rehome src dest arg => some ⟨src, .command, commandPayload .rehome dest arg⟩
  | .ackFault src dest arg => some ⟨src, .command, commandPayload .ackFault dest arg⟩
  | .ackRelease src dest arg => some ⟨src, .command, commandPayload .ackRelease dest arg⟩
  | .accessOpen src dest arg => some ⟨src, .command, commandPayload .accessOpen dest arg⟩
  | .accessClose src dest arg => some ⟨src, .command, commandPayload .accessClose dest arg⟩
  | .accessLock src dest arg => some ⟨src, .command, commandPayload .accessLock dest arg⟩
  | .resetNode src dest arg => some ⟨src, .command, commandPayload .resetNode dest arg⟩
  | .queryFaults src dest arg clear => some ⟨src, .query, queryPayload .faults dest arg clear⟩
  | .queryUnitCounters src dest arg clear => some ⟨src, .query, queryPayload .unitCounters dest arg clear⟩
  | .queryNodeCounters src dest arg clear => some ⟨src, .query, queryPayload .nodeCounters dest arg clear⟩
  | .queryBerth src dest arg clear => some ⟨src, .query, queryPayload .berth dest arg clear⟩
  | .queryServiceMap src dest arg clear => some ⟨src, .query, queryPayload .serviceMap dest arg clear⟩
  | .queryPeer src dest arg clear => some ⟨src, .query, queryPayload .peer dest arg clear⟩
  | .powerOnReset _ => none
  | .supplyFall => none
  | .resetPinLow => none
  | .resetPinRelease _ => none
  | .configReadPassComplete _ => none
  | .configReadFail => none
  | .listenExpiry => none
  | .quietPeriodEnd => none
  | .attemptStart => none
  | .sentInFull => none
  | .arbitrationLost => none
  | .transmitError => none
  | .lineQuietExpiry => none
  | .discardedFrame _ _ => none
  | .commandedReset _ => none
  | .controlSample _ _ _ => none
  | .controlPeriod _ _ _ _ => none
  | .missedControlPeriod _ => none
  | .missedRunDriveFault _ => none
  | .driveFaultTaken _ => none
  | .unlockComplete _ => none
  | .unlockTimeout _ => none
  | .lockComplete _ => none
  | .lockingTimeout _ => none
  | .lockWatchTimeout _ => none
  | .openingComplete _ => none
  | .pendingCloseTaken _ => none
  | .closingTravelEnd _ => none
  | .reversingComplete _ => none
  | .obstacleCurrent _ => none
  | .reopenPauseEnd _ => none
  | .stallTimerExpiry _ => none
  | .stallPauseEnd _ => none
  | .travelTimerExpiry _ => none
  | .homingClosed _ => none
  | .homingWaitEnd _ => none
  | .homingTimerExpiry _ => none
  | .alignmentReading _ _ => none
  | .alignmentReadingTimeout _ => none
  | .fusionWindowExpiry => none
  | .heldRelease => none
  | .gapSample _ _ => none
  | .gapSampleTimeout _ => none
  | .gapFilterRelease _ => none
  | .zoneSample _ _ => none
  | .zoneSampleTimeout _ => none
  | .debouncedInputChange _ _ => none
  | .sensitiveEdgeChange _ _ => none
  | .emergencyWireAssert => none
  | .emergencyWireClear => none
  | .handleOperation _ => none
  | .handleReturn _ => none
  | .panelOperation _ => none
  | .panelReturn _ => none
  | .silenceTimerExpiry _ => none
  | .beaconCadenceExpiry => none
  | .beaconGapTimerExpiry => none
  | .neighbourAbsenceExpiry => none
  | .closeCycleWarningEnd => none
  | .memberRelease _ => none
  | .memberDeadline _ => none
  | .ownHoldDeadline _ => none
  | .departureCloseWarningEnd => none
  | .departureCloseRequest _ => none
  | .departureCloseDeadline => none
  | .emergencyCloseWarningEnd => none
  | .emergencyCloseRequest _ => none
  | .emergencyCloseDeadline _ => none
  | .accessCloseWarningEnd => none
  | .accessCloseRequest _ => none
  | .accessCloseDeadline _ => none
  | .pulseTimerExpiry _ => none

end Sys2Proof.Machine
end

