-- ==== Sys2Proof/Machine/Flags.lean ====
section
/-! DEFINITION. The conditions and flags the rules read off the state: when the part acts, hears and sends; the outputs
of a unit state; the open permit; the Secure Contact condition; holds and releases; the beacon's summary; the fault lines. -/

namespace Sys2Proof.Machine

/-! ### When the part acts -/

/-- Powered, and the reset pin not held low: blocks act (R36). -/
def State.acts (s : State) : Bool := s.supply && !s.resetLow

/-- It acts, and no RESET_NODE's RESULT has been reported: once it has, the reset follows at once, and until the reset is taken
the part takes no event but the resets, as in LOADING (R195, log entry 6). -/
def State.takes (s : State) : Bool := s.acts && !s.fr.resetReported

/-- The strap value is a bay controller's number (R1). -/
def State.strapOk (s : State) : Bool := isBay s.cl.own

/-- A load has ended: local inputs, filters and timers act (R15, R32). -/
def State.loaded (s : State) : Bool := s.takes && s.cl.phase != .loading

/-- A load has ended and unit `u` is configured, so that its connections are read (R32). -/
def State.active (s : State) (u : UnitNo) : Bool := s.loaded && s.configured u

/-- The node is RUNNING. -/
def State.running (s : State) : Bool := s.cl.phase == .running

/-- The LC hears and checks frames: LISTEN, RUNNING, and CONFIG_FAULT with a strap value of 1 to 40 (R15, R16, R19). -/
def State.hears (s : State) : Bool :=
  s.takes && (s.cl.phase == .listen || s.running || (s.cl.phase == .configFault && s.strapOk))

/-- CONFIG_FAULT with a strap value of 1 to 40, after its quiet period (R19). -/
def State.faultServing (s : State) : Bool := s.cl.phase == .configFault && s.strapOk && s.cl.quietTimer.isNone

/-- The LC is permitted to send (R53). -/
def State.canSend (s : State) : Bool :=
  s.takes && s.lc.line == .active && (s.running || s.faultServing)

/-! ### A unit's outputs by its state (section 7.1, R116) -/

/-- The states in which the drive enable is on. -/
def UnitState.driven : UnitState → Bool
  | .closedLocked => false
  | .unlocking => true
  | .opening => true
  | .opened => true
  | .closing => true
  | .reversing => true
  | .reopenWait => true
  | .heldOpen => true
  | .locking => true
  | .homing => true
  | .manualReleased => false
  | .releaseRestored => false
  | .isolated => false
  | .fault => false
  | .unknown => false
  | .notConfigured => false

/-- The states in which the solenoid is energised. -/
def UnitState.energised : UnitState → Bool
  | .closedLocked => false
  | .unlocking => true
  | .opening => true
  | .opened => true
  | .closing => true
  | .reversing => true
  | .reopenWait => true
  | .heldOpen => true
  | .locking => false
  | .homing => false
  | .manualReleased => false
  | .releaseRestored => false
  | .isolated => false
  | .fault => false
  | .unknown => false
  | .notConfigured => false

/-- The manual release states (R61). -/
def UnitState.released : UnitState → Bool
  | .manualReleased => true
  | .releaseRestored => true
  | _ => false

/-- The drive fault as the channel takes it: the input, or the run of three missed periods (R22, R133). -/
def State.driveFault (s : State) (u : UnitNo) : Bool :=
  (s.pins.units.get u).driveFault || decide (3 ≤ (s.dc.get u).missed)

/-! ### The open permit (R170) -/

/-- Unit `u`'s Door Service Map entry reads served (R110). -/
def State.served (s : State) (u : UnitNo) : Bool :=
  match s.ae.map.get u with
  | some e => e.reason == .served
  | none => false

/-- The car index of unit `u`'s map entry (R113). -/
def State.car (s : State) (u : UnitNo) : Option Nat := (s.ae.map.get u).bind MapEntry.car

/-- The berth source of the permit. -/
def State.berthPermit (s : State) (u : UnitNo) : Bool :=
  s.berthState == .released && s.served u && !s.pm.identityConflict && s.cl.phase != .configFault

/-- The access source of the permit. -/
def State.accessPermit (s : State) (u : UnitNo) : Bool :=
  s.iu.accessMarks.get u && !s.pm.identityConflict && s.cl.phase != .configFault

/-- The open permit of unit `u`: any one of the three sources (R170). -/
def State.permit (s : State) (u : UnitNo) : Bool := s.berthPermit u || s.iu.latch || s.accessPermit u

/-! ### The Secure Contact (R168) -/

/-- A configured unit is CLOSED_LOCKED or ISOLATED and its lock switch reads ENGAGED; a unit not configured is not counted. -/
def State.unitSecure (s : State) (u : UnitNo) : Bool :=
  !s.configured u ||
    ((s.unit u == .closedLocked || s.unit u == .isolated) && (s.pins.units.get u).lockEngaged)

/-- No gap alarm and no panel-open mark stands at unit `u`. -/
def State.unitQuiet (s : State) (u : UnitNo) : Bool :=
  (s.su.units.get u).alarm == .none && !s.iu.panelMarks.get u

/-- The condition on which the Secure Contact is commanded closed (R168). -/
def State.contactCondition (s : State) : Bool :=
  s.acts && s.running && UnitNo.all.all s.unitSecure && UnitNo.all.all s.unitQuiet && !s.iu.latch

/-- What the IU evaluates the contact on a change of (R169): unit states, gap alarms, panel-open marks and the latch. -/
def State.contactInputs (s : State) : Quad UnitState × Quad GapAlarm × Quad Bool × Bool :=
  (Quad.build s.unit, Quad.build fun u => (s.su.units.get u).alarm, s.iu.panelMarks, s.iu.latch)

/-! ### Releases and holds -/

/-- Some own unit is MANUAL_RELEASED or RELEASE_RESTORED (R173). -/
def State.ownReleased (s : State) : Bool := UnitNo.all.any fun u => (s.unit u).released

/-- The platform hold: the berth is CLOSING and the Release Set holds a number (R164). -/
def State.platformHold (s : State) : Bool := s.berthState == .closing && !s.iu.releaseSet.isEmpty

/-- A number joins the Release Set, kept in ascending order. -/
def insertNode (n : Node) : List Node → List Node
  | [] => [n]
  | m :: l => if n.toNat < m.toNat then n :: m :: l else if n = m then m :: l else m :: insertNode n l

/-- A number leaves the Release Set. -/
def eraseNode (n : Node) (l : List Node) : List Node := l.filter fun m => m != n

/-- The deadline of a warning's members: its end plus HOLD_MAX (R156, R180, R184, R88). -/
def State.deadline (s : State) (w : Warning) : Time := after w.stop s.cl.config.params.holdMax

/-- The own hold for a car, if the node holds it (R158). -/
def CloseCycle.holdFor (c : CloseCycle) (car : Nat) : Option OwnHold := c.holds.find? fun h => h.car == car

/-- A WAITING member governed by `w` is under a boarding hold (R163). -/
def State.boardingHold (s : State) (c : CloseCycle) (u : UnitNo) (w : Warning) : Bool :=
  !s.reached (s.deadline w) &&
    match s.car u with
    | none => false
    | some car =>
      (c.holdFor car).isSome || s.bu.holdList.any fun h => h.car == car && !earlier h.received w.start

/-- A gap filter does not hold a member back: it is not asserted, or the deadline has been reached (R159, R180, R184, R88). -/
def State.gapFree (s : State) (u : UnitNo) (w : Warning) : Bool := !s.gapAsserted u || s.reached (s.deadline w)

/-- The four conditions on which a WAITING member of the close cycle is sent its close request (R159). -/
def State.memberFree (s : State) (c : CloseCycle) (u : UnitNo) (w : Warning) : Bool :=
  (s.unit u == .opened || s.unit u == .heldOpen) && !s.boardingHold c u w && s.gapFree u w && !s.platformHold

/-- A member of a close is done (R166, R181). -/
def memberDone (st : UnitState) (status : MemberStatus) : Bool :=
  match st with
  | .closedLocked => true
  | .fault => true
  | .isolated => true
  | .heldOpen => status == .started
  | _ => false

/-- A warning period of the node is running (R33). -/
def State.warningRunning (s : State) : Bool :=
  (match s.bu.cycle with
    | some c => c.warnings.any Warning.running
    | none => false) ||
  (match s.bu.departure with
    | some d => d.warning.running
    | none => false) ||
  (match s.iu.emergencyClose with
    | some e => e.warning.running
    | none => false) ||
  (match s.iu.accessClose with
    | some a => a.warnings.any Warning.running
    | none => false)

/-! ### Neighbours and the beacon -/

/-- The configured neighbours (R6). -/
def State.neighbours (s : State) : List Node := [s.cl.config.up, s.cl.config.down].filter fun n => n != 0

/-- A configured neighbour qualifies for its silent-neighbour field (R63). -/
def State.qualifies (s : State) (n : Node) : Bool :=
  n != 0 && ((s.slot n).state == .silent || ((s.slot n).state == .absent && s.pm.absenceOver))

/-- The condition on which NOT_HEARD becomes set (R65): a configured neighbour is LIVE, and each LIVE one has a run of 3. -/
def State.unheard (s : State) : Bool :=
  (s.neighbours.any fun n => (s.slot n).state == .live) &&
    s.neighbours.all fun n => (s.slot n).state != .live || decide (3 ≤ (s.slot n).naming)

/-- The eight flags of beacon byte 4, bit 7 first (R61). -/
def State.beaconFlags (s : State) : Byte :=
  bit s.out.contact ++ bit (s.iu.releaseSet.contains s.cl.own) ++ bit s.iu.latch ++
    bit (UnitNo.all.any s.iu.accessMarks.get) ++ bit (UnitNo.all.any fun u => (s.su.units.get u).alarm != .none) ++
    bit s.pm.notHeard ++ bit s.fr.severe.isSome ++ bit s.fr.minor.isSome

/-- A unit's state code as the beacon and the answers show it: 15 where it is not configured (R60). -/
def State.unitCode (s : State) (u : UnitNo) : Nat := if s.configured u then (s.unit u).code else 15

/-- The summary as it stands: the payload of a beacon built now (R60 to R63). -/
def State.summary (s : State) : Beacon :=
  let faulted := s.cl.phase == .configFault
  { seq := if s.berthState == .idle then 0 else s.seq
    berthState := BitVec.ofNat 4 (if faulted then 7 else s.berthState.code)
    verdict := BitVec.ofNat 4 (if faulted then 0 else s.ae.verdict.code)
    units := Quad.build fun u => BitVec.ofNat 4 (s.unitCode u)
    flags := s.beaconFlags
    up := if s.qualifies s.cl.config.up then nodeByte s.cl.config.up else 0
    down := if s.qualifies s.cl.config.down then nodeByte s.cl.config.down else 0
    refusal := s.pm.lastRefusal.code }

/-! ### The fault lines (R190, R191) -/

/-- The level of SEVERE_OUT by the mode in force. -/
def State.severeLine (s : State) : Bool :=
  if s.cl.config.pulseMode then s.fr.severePulse.isSome else s.fr.severe.isSome || s.fr.severePulse.isSome

/-- The level of MINOR_OUT by the mode and the minor drive mark in force. -/
def State.minorLine (s : State) : Bool :=
  if s.cl.config.pulseMode then s.fr.minorPulse.isSome
  else (s.fr.minor.isSome && s.cl.config.minorDrive) || s.fr.minorPulse.isSome

end Sys2Proof.Machine
end

