-- ==== Sys2Proof/Machine/Ops.lean ====
section
/-! DEFINITION. The shared operations: enqueuing frames, reporting faults, gap alarms, holds, a unit's change of state with all
that hangs on it, the requests to a Door Channel, the closes, and the settling that ends an event. -/

namespace Sys2Proof.Machine

/-! ### The Transmit Queue (R47 to R49) -/

/-- The room of the Transmit Queue. -/
def queueRoom : Nat := 16

/-- Replace the Transmit Queue. -/
def State.setQueue (q : List TxEntry) (s : State) : State := s.modLc fun l => { l with queue := q }

/-- An entry takes its place after every entry of its own or a lower class and before every entry of a higher class (R47). -/
def insertByClass (e : TxEntry) : List TxEntry → List TxEntry
  | [] => [e]
  | x :: l => if x.kind.cls ≤ e.kind.cls then x :: insertByClass e l else e :: x :: l

/-- Remove the last entry that `p` holds of. -/
def removeLast (p : TxEntry → Bool) : List TxEntry → List TxEntry × Option TxEntry
  | [] => ([], none)
  | x :: l =>
    match removeLast p l with
    | (l', some y) => (x :: l', some y)
    | (_, none) => if p x then (l, some x) else (x :: l, none)

/-- The highest class among the entries not on the line (R49). -/
def topClass (q : List TxEntry) : Nat := q.foldl (fun m e => if e.onLine then m else max m e.kind.cls) 0

/-- One frame counted in TX_DROPS (R49). -/
def countDrop (s : State) : State := s.modNodeCounters fun c => { c with txDrops := c.txDrops.bump }

/-- The entry carries the RESULT of a RESET_NODE. -/
def TxEntry.isResetResult (e : TxEntry) : Bool := e.kind == .result && e.payload.getD 1 0 == SubCommand.resetNode.code

/-- The LC tells the FR that an entry has been sent, removed or dropped: the RESULT of a RESET_NODE is reported (R46, R195). -/
def reportGone (e : TxEntry) (s : State) : State :=
  if e.isResetResult && s.fr.resetDue then s.modFr fun r => { r with resetReported := true } else s

/-- A new beacon meets a queued one: it replaces its payload in place, or is held as its successor while it is on the line (R48). -/
def replaceBeacon (payload : List Byte) (q : List TxEntry) : List TxEntry :=
  q.map fun e =>
    if e.kind == .beacon then
      if e.onLine then { e with successor := some payload } else { e with payload := payload }
    else e

/-- A block enqueues a frame (R47 to R49). -/
def enqueue (kind : FrameKind) (payload : List Byte) (s : State) : State :=
  let q := s.lc.queue
  let new : TxEntry := ⟨kind, payload, none, false⟩
  if kind == .beacon && q.any fun e => e.kind == .beacon then s.setQueue (replaceBeacon payload q)
  else if q.length < queueRoom then s.setQueue (insertByClass new q)
  else if kind == .edge then countDrop s
  else if kind.cls < topClass q then
    match removeLast (fun e => !e.onLine && e.kind.cls == topClass q) q with
    | (q', some gone) => reportGone gone (countDrop (s.setQueue (insertByClass new q')))
    | (_, none) => reportGone new (countDrop s)
  else reportGone new (countDrop s)

/-- A unit in a payload byte, 255 for none (R54). -/
def unitByte : Option UnitNo → Byte
  | some u => byte u.val
  | none => 255

/-- A block enqueues an ALERT with the Berth Record's sequence. -/
def alert (kind : AlertKind) (u : Option UnitNo) (s : State) : State :=
  enqueue .alert [kind.code, unitByte u, s.seq] s

/-- The BU enqueues a HOLD with the action START (1) or END (2) (R158, R160). -/
def sendHold (action : Byte) (car : Nat) (s : State) : State := enqueue .hold [s.seq, action, byte car] s

/-- A refusal code becomes the node's last refusal code (R62). -/
def refuse (code : RefusalCode) (s : State) : State := s.modPm fun p => { p with lastRefusal := code }

/-- A block enqueues a RESULT; a code that is not NONE becomes the last refusal code (R46, R62). -/
def sendResult (requester : Node) (sub : SubCommand) (arg : Byte) (done : Bool) (code : RefusalCode) (s : State) : State :=
  let s := enqueue .result [nodeByte requester, sub.code, arg, if done then 1 else 2, code.code] s
  if code = .none then s else refuse code s

/-! ### Fault reports (R187 to R191) -/

/-- The position of a kind in the list of kind counters: its code less one. -/
def FaultKind.index : FaultKind → Nat
  | .lockFault => 0
  | .departUnsecured => 1
  | .trap => 2
  | .identityConflict => 3
  | .configFault => 4
  | .homeFail => 5
  | .travelIncomplete => 6
  | .driveFault => 7
  | .unlockFail => 8
  | .heldOpen => 9
  | .intrusion => 10
  | .notHeard => 11
  | .configClamped => 12
  | .accessPreempted => 13
  | .lineQuiet => 14
  | .handle => 15
  | .panel => 16

/-- The Fault Capture slot of a severity. -/
def FaultRecorder.slot (r : FaultRecorder) : Severity → Option FaultRecord
  | .severe => r.severe
  | .minor => r.minor

/-- Replace the slot of a severity. -/
def FaultRecorder.setSlot (sev : Severity) (x : Option FaultRecord) (r : FaultRecorder) : FaultRecorder :=
  match sev with
  | .severe => { r with severe := x }
  | .minor => { r with minor := x }

/-- Start or restart the pulse timer of a line at 500 ms (R191). -/
def startPulse (sev : Severity) (s : State) : State :=
  s.modFr fun r =>
    match sev with
    | .severe => { r with severePulse := s.timer 500 }
    | .minor => { r with minorPulse := s.timer 500 }

/-- A report counts in its kind's counter (R188). -/
def countKind (kind : FaultKind) (r : FaultRecorder) : FaultRecorder :=
  { r with kinds := r.kinds.set kind.index (r.kinds.getD kind.index (Counter.zero 16)).bump }

/-- In PULSE mode a report starts its line's pulse; a minor one only with the minor drive mark (R191). -/
def reportPulses (sev : Severity) (s : State) : Bool :=
  s.cl.config.pulseMode && (sev == .severe || s.cl.config.minorDrive)

/-- A block reports a fault: it fills an empty slot or counts, and pulses its line (R187, R188, R191). -/
def report (kind : FaultKind) (sev : Severity) (u : Option UnitNo) (s : State) : State :=
  let s' := s.modFr fun r =>
    match r.slot sev with
    | none => r.setSlot sev (some ⟨kind, u, s.seq, s.now⟩)
    | some _ => countKind kind r
  if reportPulses sev s then startPulse sev s' else s'

/-! ### Gap alarms (R148 to R151) -/

/-- Set unit `u`'s gap alarm. -/
def setAlarm (u : UnitNo) (a : GapAlarm) (s : State) : State := s.modSu u fun x => { x with alarm := a }

/-- Raise a TRAP alarm (R149). -/
def raiseTrap (u : UnitNo) (s : State) : State :=
  alert .trap (some u) (report .trap .severe (some u) (setAlarm u .trap s))

/-- Raise an INTRUSION alarm (R150). -/
def raiseIntrusion (u : UnitNo) (s : State) : State :=
  alert .intrusion (some u) (report .intrusion .minor (some u) (setAlarm u .intrusion s))

/-- The berth states in which a gap alarm is INTRUSION (R148). -/
def BerthState.beforeTrain : BerthState → Bool
  | .idle => true
  | .announced => true
  | _ => false

/-- The two events of R148 meet here: the alarm is raised when it is NONE, the filter stands asserted and the unit stands in
CLOSED_LOCKED. -/
def checkAlarm (u : UnitNo) (s : State) : State :=
  if (s.su.units.get u).alarm == .none && s.gapAsserted u && s.unit u == .closedLocked then
    if s.berthState.beforeTrain then raiseIntrusion u s else raiseTrap u s
  else s

/-- An INTRUSION alarm of unit `u` becomes TRAP (R151). -/
def intrusionToTrap (u : UnitNo) (s : State) : State :=
  if (s.su.units.get u).alarm == .intrusion then raiseTrap u s else s

/-- The BU sets the berth state, and hands the change to the SU (R151). Several units in INTRUSION become TRAP in unit order:
DESIGN CHOICE, log entry 19. -/
def setBerthState (b : BerthState) (s : State) : State :=
  let s := s.modBerth fun r => { r with state := b }
  if b.beforeTrain then s else forUnits intrusionToTrap s

/-! ### Own holds (R158, R160) -/

/-- Some unit still holds. -/
def OwnHold.standing (h : OwnHold) : Bool := UnitNo.all.any h.holders.get

/-- Unit `u`'s zone has become FREE: it leaves the holding units of its hold, which ends with a HOLD END when none is left (R160). -/
def zoneFreed (u : UnitNo) (s : State) : State :=
  match s.bu.cycle with
  | none => s
  | some c =>
    let holds := c.holds.map fun h => { h with holders := h.holders.set u false }
    (holds.filter fun h => !h.standing).foldl (fun s h => sendHold 2 h.car s)
      (s.setCycle (some { c with holds := holds.filter OwnHold.standing }))

/-- The close cycle ends; with `ends`, each own hold ends with a HOLD END (R166, R167). The order of several HOLD ENDs, that in
which the holds were created, is a DESIGN CHOICE (log entry 20). -/
def endCycle (ends : Bool) (s : State) : State :=
  match s.bu.cycle with
  | none => s
  | some c => (if ends then c.holds else []).foldl (fun s h => sendHold 2 h.car s) (s.setCycle none)

/-! ### Sensing at isolation (R154) and at a start (R32) -/

/-- A DEBOUNCED cell as started: conditioned CLEAR, its timer running if the raw level is ASSERTED (R29, R32). -/
def freshCell (raw : Bool) (ms : Nat) (s : State) : Debounced := ⟨false, if raw then s.timer ms else none⟩

/-- A unit's gap and zone filters, edge cell and stream timers start (R32, R154). -/
def startSensing (u : UnitNo) (s : State) : State :=
  s.modSu u fun x =>
    { x with
      gapWindow := [], clearRun := 0, gapAsserted := false, zoneWindow := [], zoneBusy := false
      edge := freshCell (s.pins.units.get u).edge 10 s, gapTimer := s.timer 40, zoneTimer := s.timer 200 }

/-- A unit's sensing is put to rest at its entry to ISOLATED; a zone that was BUSY is handed on as FREE (R154). -/
def restSensing (u : UnitNo) (s : State) : State :=
  let s' := s.modSu u fun x =>
    { x with
      gapWindow := [], clearRun := 0, gapAsserted := false, zoneWindow := [], zoneBusy := false
      edge := ⟨false, none⟩, alarm := .none, gapTimer := none, zoneTimer := none }
  if (s.su.units.get u).zoneBusy then zoneFreed u s' else s'

/-! ### What hangs on a unit's change of state -/

/-- No unit is left in the set. -/
def noneLeft (q : Quad Bool) : Bool := !(UnitNo.all.any q.get)

/-- Unit `u` leaves the departure close's covered set, which ends when it is empty (R88). -/
def dropCovered (u : UnitNo) (s : State) : State :=
  match s.bu.departure with
  | none => s
  | some d =>
    let covered := d.covered.set u false
    s.setDeparture (if noneLeft covered then none else some { d with covered := covered })

/-- Unit `u` leaves the access close, which is absent once it has no members (R184). -/
def dropAccessMember (u : UnitNo) (s : State) : State :=
  match s.iu.accessClose with
  | none => s
  | some a =>
    let members := a.members.set u none
    s.modIu fun i =>
      { i with accessClose :=
          if UnitNo.all.all (fun v => (members.get v).isNone) then none else some { a with members := members } }

/-- Unit `u`'s access-open mark is cleared, and with it its membership of the access close (R183, R184). -/
def clearAccess (u : UnitNo) (s : State) : State :=
  if s.iu.accessMarks.get u then
    dropAccessMember u (s.modIu fun i => { i with accessMarks := i.accessMarks.set u false })
  else s

/-- The own number's place in the Release Set follows the units (R173). -/
def syncOwnRelease (s : State) : State :=
  s.modIu fun i =>
    { i with releaseSet :=
        if s.ownReleased && s.strapOk then insertNode s.cl.own i.releaseSet else eraseNode s.cl.own i.releaseSet }

/-- A SEEKING unit's reading run empties (R94, R105). -/
def emptyRun (u : UnitNo) (s : State) : State :=
  s.modAe fun a => { a with searches := a.searches.set u { a.searches.get u with run := [] } }

/-- The states whose entry clears the access-open mark and ends the departure close's cover (R183, R88). -/
def UnitState.outOfHands : UnitState → Bool
  | .closedLocked => true
  | .isolated => true
  | .fault => true
  | .manualReleased => true
  | _ => false

/-- Unit `u` takes the Door Channel values `d`, whose state it enters, with all that hangs on the entry: sensing at isolation
(R154), the reading run (R105), the access-open mark (R183), the covered set (R88), the own Release Set entry (R173) and the gap
alarm (R148). -/
def moveUnit (u : UnitNo) (d : DoorChannel) (s : State) : State :=
  let old := s.unit u
  let s := s.setDc u d
  let s := if old == .isolated && d.st != .isolated then startSensing u s else s
  let s := if old != .isolated && d.st == .isolated then restSensing u s else s
  let s := if d.st == .isolated || d.st == .fault then emptyRun u s else s
  let s := if d.st.outOfHands then dropCovered u (clearAccess u s) else s
  checkAlarm u (syncOwnRelease s)

/-! ### Entering the states of a Door Channel (chapter 7) -/

/-- What every entry to a state does: outputs by the state's row at setpoint 0, timers stopped, the pending-close mark gone (R116, R120),
and the phase HOLD, which the entry to a movement replaces. DESIGN CHOICE, log entry 29: HOLD in UNLOCKING, LOCKING, HELD_OPEN,
CLOSED_LOCKED and the free states, and in OPEN reached otherwise than from OPENING, for which no rule names a phase. -/
def DoorChannel.into (st : UnitState) (d : DoorChannel) : DoorChannel :=
  { d with
    st := st, phase := .hold, pendingClose := false, lockTimer := none, travelTimer := none, stallTimer := none
    pauseTimer := none, homingTimer := none, enable := st.driven, solenoid := st.energised, setpoint := 0 }

/-- The severity of a fault that sends a unit to FAULT, judged from its switches (R134). -/
def FaultKind.unitSeverity (secure : Bool) : FaultKind → Severity
  | .travelIncomplete => if secure then .minor else .severe
  | .driveFault => if secure then .minor else .severe
  | _ => .severe

/-- Enter FAULT and report (R134). -/
def enterFault (kind : FaultKind) (u : UnitNo) (s : State) : State :=
  report kind (kind.unitSeverity (s.closedAndEngaged u)) (some u)
    (moveUnit u { (s.dc.get u).into .fault with attempt := 0 } s)

/-- A held drive fault is taken as the enable turns on (R133). -/
def takeHeldDriveFault (u : UnitNo) (s : State) : State :=
  if s.driveFault u then enterFault .driveFault u s else s

/-- Enter CLOSED_LOCKED, with the position 0 and no close run (R117, R122). -/
def enterClosedLocked (u : UnitNo) (s : State) : State :=
  moveUnit u { (s.dc.get u).into .closedLocked with position := 0, attempt := 0 } s

/-- Enter UNLOCKING (R121). -/
def enterUnlocking (u : UnitNo) (s : State) : State :=
  takeHeldDriveFault u (moveUnit u { (s.dc.get u).into .unlocking with lockTimer := s.timer 400 } s)

/-- Enter OPENING (R125, R131). -/
def enterOpening (u : UnitNo) (s : State) : State :=
  let d := s.dc.get u
  moveUnit u
    { d.into .opening with
      phase := .accelerate, stallCount := 0, stallRef := d.position
      travelTimer := s.timer s.cl.config.params.travelTimeout, stallTimer := s.timer 300 } s

/-- Enter OPEN with no close run under way. -/
def standOpen (u : UnitNo) (s : State) : State := moveUnit u { (s.dc.get u).into .opened with attempt := 0 } s

/-- Enter REOPEN_WAIT (R130). -/
def enterReopenWait (u : UnitNo) (s : State) : State :=
  moveUnit u { (s.dc.get u).into .reopenWait with pauseTimer := s.timer s.cl.config.params.reopenPause } s

/-- Enter HELD_OPEN, which ends the close run (R130, log entry 15). -/
def enterHeldOpen (u : UnitNo) (s : State) : State :=
  report .heldOpen .minor (some u) (moveUnit u { (s.dc.get u).into .heldOpen with attempt := 0 } s)

/-- The remaining distance of unit `u` driving open: leaf travel less position (R117). -/
def State.remainingOpen (s : State) (u : UnitNo) : Int :=
  ((s.cl.config.units.get u).travel : Int) - (s.dc.get u).position

/-- REVERSING has reached full travel: enter the target (R129). -/
def reverseDone (u : UnitNo) (s : State) : State :=
  match (s.dc.get u).target with
  | .reopenWait => enterReopenWait u s
  | .opened => standOpen u s

/-- Enter REVERSING, and pass straight through it where the remaining distance is already 0 or less (R129). -/
def enterReversing (target : ReverseTarget) (u : UnitNo) (s : State) : State :=
  let d := s.dc.get u
  let s := moveUnit u
    { d.into .reversing with
      phase := .accelerate, setpoint := d.setpoint, target := target, stallCount := 0, stallRef := d.position
      travelTimer := s.timer s.cl.config.params.travelTimeout, stallTimer := s.timer 300
      attempt := if target == .opened then 0 else d.attempt } s
  if s.remainingOpen u ≤ 0 then reverseDone u s else s

/-- An obstacle in CLOSING: one reversal counted, REVERSING with the target REOPEN_WAIT (R128, R129). -/
def reverseOnObstacle (u : UnitNo) (s : State) : State :=
  enterReversing .reopenWait u (s.modUnitCounters u fun c => { c with reversals := c.reversals.bump })

/-- An obstacle in HOMING: the leaves stop for 2,000 ms, or the fourth gives HOME_FAIL; during the wait it changes nothing
(R136, R146, log entry 16). -/
def stopOnObstacle (u : UnitNo) (s : State) : State :=
  let d := s.dc.get u
  if d.phase == .hold then s
  else if 3 ≤ d.retries then enterFault .homeFail u s
  else s.setDc u { d with phase := .hold, setpoint := 0, pauseTimer := s.timer 2000 }

/-- The channel takes an obstacle: one in CLOSING or HOMING, nothing elsewhere (R128, R136, R146). -/
def obstacle (u : UnitNo) (s : State) : State :=
  match s.unit u with
  | .closing => reverseOnObstacle u s
  | .homing => stopOnObstacle u s
  | _ => s

/-- The sensitive edge or the gap filter stands asserted (R128, R146). -/
def State.obstructed (s : State) (u : UnitNo) : Bool := s.edgeAsserted u || s.gapAsserted u

/-- Enter CLOSING for attempt `n`; a level already asserted is an obstacle at once (R127, R128). -/
def enterClosing (n : Nat) (u : UnitNo) (s : State) : State :=
  let s := moveUnit u
    { (s.dc.get u).into .closing with
      phase := .accelerate, attempt := n, overCount := 0, travelTimer := s.timer s.cl.config.params.travelTimeout } s
  if s.obstructed u then reverseOnObstacle u s else s

/-- OPENING has reached full travel: OPEN is entered and counted, and a pending close is taken (R125, R120). -/
def openingDone (u : UnitNo) (s : State) : State :=
  let kept := (s.dc.get u).pendingClose
  let s := (standOpen u s).modUnitCounters u fun c => { c with openCycles := c.openCycles.bump }
  if kept then enterClosing 1 u s else s

/-- Enter LOCKING (R122). -/
def enterLocking (u : UnitNo) (s : State) : State :=
  moveUnit u { (s.dc.get u).into .locking with position := 0, lockTimer := s.timer 400 } s

/-- Enter HOMING (R136). That the over-threshold count starts at 0 here is a DESIGN CHOICE (log entry 18). -/
def enterHoming (u : UnitNo) (s : State) : State :=
  takeHeldDriveFault u
    (moveUnit u
      { (s.dc.get u).into .homing with
        phase := .creep, retries := 0, overCount := 0, attempt := 0
        homingTimer := s.timer (2 * s.cl.config.params.travelTimeout) } s)

/-- Enter MANUAL_RELEASED (R139). -/
def enterManualReleased (u : UnitNo) (s : State) : State :=
  moveUnit u { (s.dc.get u).into .manualReleased with attempt := 0 } s

/-- Enter RELEASE_RESTORED (R140). -/
def enterReleaseRestored (u : UnitNo) (s : State) : State := moveUnit u ((s.dc.get u).into .releaseRestored) s

/-- Enter ISOLATED; the isolation mark is left to the caller (R137, R140). -/
def enterIsolated (mark : Bool) (u : UnitNo) (s : State) : State :=
  moveUnit u { (s.dc.get u).into .isolated with attempt := 0, isolationMark := mark } s

/-! ### Requests (section 7.2) -/

/-- An open request reaches unit `u` (R119). -/
def openRequest (u : UnitNo) (s : State) : State :=
  match s.unit u with
  | .closedLocked => if s.permit u then enterUnlocking u s else countIgnored u s
  | .unlocking => countIgnored u s
  | .opening => s.modDc u fun d => { d with pendingClose := false }
  | .opened => s
  | .closing => enterReversing .opened u s
  | .reversing => s.modDc u fun d => { d with target := .opened, attempt := 0 }
  | .reopenWait => standOpen u s
  | .heldOpen => countIgnored u s
  | .locking => countIgnored u s
  | .homing => countIgnored u s
  | .manualReleased => countIgnored u s
  | .releaseRestored => countIgnored u s
  | .isolated => countIgnored u s
  | .fault => countIgnored u s
  | .unknown => countIgnored u s
  | .notConfigured => s

/-- A close request reaches unit `u` (R120). -/
def closeRequest (u : UnitNo) (s : State) : State :=
  match s.unit u with
  | .closedLocked => countIgnored u s
  | .unlocking => countIgnored u s
  | .opening => s.modDc u fun d => { d with pendingClose := true }
  | .opened => enterClosing 1 u s
  | .closing => countIgnored u s
  | .reversing => countIgnored u s
  | .reopenWait => s
  | .heldOpen => enterClosing 1 u s
  | .locking => countIgnored u s
  | .homing => countIgnored u s
  | .manualReleased => countIgnored u s
  | .releaseRestored => countIgnored u s
  | .isolated => countIgnored u s
  | .fault => countIgnored u s
  | .unknown => countIgnored u s
  | .notConfigured => s

/-- The BU's close request, which the IU withholds while the latch is set (R89). -/
def berthCloseRequest (u : UnitNo) (s : State) : State := if s.iu.latch then s else closeRequest u s

/-- The BU's open request of a release or a REOPEN: the unit leaves the covered set (R88); the IU withholds it while the latch is
set (R89), of which the BU is not told. -/
def berthOpenRequest (u : UnitNo) (s : State) : State :=
  if s.iu.latch then dropCovered u s else openRequest u (dropCovered u s)

/-! ### The closes: judging and completing -/

/-- The warning of an index. -/
def warningAt (l : List Warning) (i : Nat) : Warning := l.getD i ⟨0, 0, false⟩

/-- Judge member `u` of the close cycle: sent its close request once the four conditions hold (R159). -/
def judgeMember (u : UnitNo) (s : State) : State :=
  match s.bu.cycle with
  | none => s
  | some c =>
    match c.members.get u with
    | none => s
    | some m =>
      if m.status == .waiting && s.memberFree c u (warningAt c.warnings m.warning) then
        berthCloseRequest u (s.setCycle (some { c with members := c.members.set u (some { m with status := .started }) }))
      else s

/-- The states in which the departure close and the access close send a request (R88, R184). -/
def UnitState.closable : UnitState → Bool
  | .opening => true
  | .opened => true
  | .heldOpen => true
  | _ => false

/-- Judge covered unit `u` of the departure close (R88). -/
def judgeCovered (u : UnitNo) (s : State) : State :=
  match s.bu.departure with
  | none => s
  | some d =>
    if !d.warning.running && d.covered.get u && (s.unit u).closable && s.gapFree u d.warning then
      berthCloseRequest u (dropCovered u s)
    else s

/-- The states in which a WAITING member of the emergency close cycle is not sent its request (R180). -/
def UnitState.turning : UnitState → Bool
  | .unlocking => true
  | .reversing => true
  | .reopenWait => true
  | _ => false

/-- Judge member `u` of the emergency close cycle (R180). -/
def judgeEmergencyMember (u : UnitNo) (s : State) : State :=
  match s.iu.emergencyClose with
  | none => s
  | some e =>
    match e.members.get u with
    | some .waiting =>
      if !(s.unit u).turning && s.gapFree u e.warning then
        closeRequest u (s.modIu fun i => { i with emergencyClose := some { e with members := e.members.set u (some .started) } })
      else s
    | _ => s

/-- Judge member `u` of the access close (R184). -/
def judgeAccessMember (u : UnitNo) (s : State) : State :=
  match s.iu.accessClose with
  | none => s
  | some a =>
    match a.members.get u with
    | none => s
    | some m =>
      if m.status == .waiting && (s.unit u).closable && s.gapFree u (warningAt a.warnings m.warning) then
        closeRequest u (dropAccessMember u s)
      else s

/-- The close cycle of a berth in CLOSING completes when every member is done: holds end with HOLD END, the cycle ends, the berth is
SECURED (R166). -/
def completeCycle (s : State) : State :=
  match s.bu.cycle with
  | none => s
  | some c =>
    if s.berthState == .closing && UnitNo.all.all (fun u => match c.members.get u with
        | none => true
        | some m => memberDone (s.unit u) m.status) then
      setBerthState .secured (endCycle true s)
    else s

/-- The IU's notice that the emergency close has completed: a berth in RELEASED or CLOSING goes to SECURED and its cycle ends
(R85, R167). -/
def emergencyNotice (s : State) : State :=
  match s.berthState with
  | .released => setBerthState .secured (endCycle true s)
  | .closing => setBerthState .secured (endCycle true s)
  | _ => s

/-- The emergency close cycle completes when every member is done (R181). -/
def completeEmergency (s : State) : State :=
  match s.iu.emergencyClose with
  | none => s
  | some e =>
    if UnitNo.all.all (fun u => match e.members.get u with
        | none => true
        | some m => memberDone (s.unit u) m) then
      emergencyNotice (s.modIu fun i => { i with emergencyClose := none })
    else s

/-- Every close judges its members, in unit order, and completes when they are done. The BU's closes come before the IU's
(log entry 10). -/
def settleCloses (s : State) : State :=
  completeEmergency (completeCycle
    (forUnits judgeAccessMember (forUnits judgeEmergencyMember (forUnits judgeCovered (forUnits judgeMember s)))))

/-- A unit comes to CLOSED_LOCKED by LOCKING, RESTORE or ACK_RELEASE: under the latch the IU sends it an open request in the
same event (R178). DESIGN CHOICE, log entry 28: the closes judge the unit in CLOSED_LOCKED before that request moves it, so that a cycle
of which it was the last member not done completes (R166, R181); the manual gives no order between the two. -/
def comeClosed (u : UnitNo) (s : State) : State :=
  let s := enterClosedLocked u s
  if s.iu.latch then openRequest u (settleCloses s) else s

/-! ### The end of an event -/

/-- The IU evaluates the Secure Contact (R168, R169). -/
def evalContact (s : State) : State := { s with out := { s.out with contact := s.contactCondition } }

/-- The PM builds a beacon and enqueues it; both timers restart (R59). -/
def sendBeacon (s : State) : State :=
  (enqueue .beacon (beaconBytes s.summary) s).modPm fun p =>
    { p with lastBeacon := some s.summary, changePending := false, cadence := s.timer 200, gap := s.timer 50 }

/-- The gap timer has expired (R59). -/
def State.gapOver (s : State) : Bool :=
  match s.pm.gap with
  | none => true
  | some t => s.reached t

/-- A summary that differs from the payload last enqueued gives a beacon at once, or a change pending (R59). -/
def changeBeacon (s : State) : State :=
  if s.pm.cadence.isSome && s.pm.lastBeacon != some s.summary then
    if s.gapOver then sendBeacon s else s.modPm fun p => { p with changePending := true }
  else s

/-- The FR drives the fault lines (R190, R191). -/
def driveLines (s : State) : State := { s with out := { s.out with severeOut := s.severeLine, minorOut := s.minorLine } }

/-- The warning output follows the running warning periods (R33). -/
def driveWarning (s : State) : State := { s with out := { s.out with warning := s.warningRunning } }

/-- The end of an event that cannot touch units, closes or warnings: fault lines and change beacon. -/
def finish (s : State) : State := changeBeacon (driveLines s)

/-- The end of any other event that began at `s0`: the closes are judged, the Secure Contact is evaluated if one of its
inputs has changed (R169), and the outputs and the beacon follow. -/
def settle (s0 s : State) : State :=
  let s := settleCloses s
  let s := if s.contactInputs == s0.contactInputs then s else evalContact s
  finish (driveWarning s)

/-! ### Peers and delivery (chapters 3 and 4) -/

/-- The PM learns that another station uses the own number (R43, R66). -/
def ownNumberFrame (s : State) : State :=
  if s.pm.identityConflict then s
  else report .identityConflict .severe none (s.modPm fun p => { p with identityConflict := true })

/-- A SILENT bay controller's beacon pairs with one at most 600 ms before it (R56). -/
def Slot.paired (x : Slot) (now : Time) : Bool :=
  match x.pairing with
  | some t => decide ((now - t).toNat ≤ 600)
  | none => false

/-- An accepted frame of the slot's number is noted (R56). -/
def Slot.note (x : Slot) (bay isBeacon : Bool) (now : Time) : Slot :=
  let live : Slot := { x with state := .live, lastFrame := some now, silenceTimer := some (after now 1000) }
  match x.state with
  | .absent => live
  | .live => live
  | .silent =>
    if !bay then live
    else if !isBeacon then { x with lastFrame := some now }
    else if x.paired now then { live with pairing := none }
    else { x with lastFrame := some now, pairing := some now }

/-- The activity note of an accepted frame (R44, R56). -/
def noteActivity (n : Node) (isBeacon : Bool) (s : State) : State :=
  s.setSlot n ((s.slot n).note (isBay n) isBeacon s.now)

/-- NOT_HEARD becomes set, and is reported, when its condition holds (R65). -/
def testNotHeard (s : State) : State :=
  if !s.pm.notHeard && s.unheard then
    report .notHeard .minor none (s.modPm fun p => { p with notHeard := true })
  else s

/-- A frame reaches the LC: discarded and counted if it fails a check, handed to the PM alone under the own number, and
otherwise noted and given to `deliver` (R41 to R44). -/
def receive (f : Frame) (deliver : State → State) (s : State) : State :=
  if !f.ok then countDiscard s
  else if f.source = s.cl.own then ownNumberFrame s
  else deliver (noteActivity f.source (f.kind == .beacon) s)

/-- Delivered in RUNNING alone (R16, R19, R44). -/
def inRunning (g : State → State) (s : State) : State := if s.running then g s else s

/-- A frame command whose delivery cannot touch units, closes or warnings. -/
def onFrame (f : Frame) (deliver : State → State) (s : State) : State :=
  if s.hears then finish (receive f deliver s) else s

/-- A frame command of any other kind. -/
def onFrameSettling (f : Frame) (deliver : State → State) (s : State) : State :=
  if s.hears then settle s (receive f deliver s) else s

/-- A local event of a configured unit, after the load (R32). -/
def onUnit (u : UnitNo) (g : State → State) (s : State) : State := if s.active u then settle s (g s) else s

/-- A local event of the node, after the load. -/
def onNode (g : State → State) (s : State) : State := if s.loaded then settle s (g s) else s

/-- What the expiry of a timer does: nothing if it does not run; otherwise node time comes to its expiry and `g` follows
(log entry 1). -/
def onExpiry (timer : Option Time) (g : State → State) (s : State) : State :=
  match timer with
  | none => s
  | some t => g (s.reach t)

end Sys2Proof.Machine
end

