-- ==== Sys2Proof/Machine/Align.lean ====
section
/-! DEFINITION. The Alignment Engine: readings and runs, own and peer samples, the fix and the Door Service Map (chapter 6). -/

namespace Sys2Proof.Machine

/-! ### Readings (R26, R93) -/

/-- The reading as the SU hands it on: none is "no train door in view" (R26). -/
def checkReading : Reading → Option (Int × Int × Nat)
  | .noDoor => none
  | .damaged => none
  | .inView a b q =>
    if a ≤ b ∧ -1500 ≤ a ∧ a ≤ 1500 ∧ -1500 ≤ b ∧ b ≤ 1500 ∧ 1 ≤ q ∧ q ≤ 3 then some (a, b, q) else none

/-- The observed centre offset: the mean of the edge offsets, rounded half toward +∞ (R93). -/
def centreOffset (a b : Int) : Int := (a + b + 1) / 2

/-- An offset joins the run at the newest end; of six the oldest leaves (R93). -/
def joinRun (run : List Int) (c : Int) : List Int := (run ++ [c]).drop ((run.length + 1) - 5)

/-- The run holds five offsets whose largest exceeds the smallest by no more than 20 mm (R93). -/
def stableRun (run : List Int) : Bool := run.length == 5 && run.all fun x => run.all fun y => decide (x - y ≤ 20)

/-! ### Doors -/

/-- The first of the list with the smallest value of `f`. -/
def pickLeast {α : Type} (f : α → Int) : List α → Option α
  | [] => none
  | x :: l =>
    match pickLeast f l with
    | none => some x
    | some y => if f y < f x then some y else some x

/-- The berth's consist, from the AE's particulars. -/
def State.trainConsist (s : State) : Option Consist := s.ae.consist.bind fun i => s.cl.config.consists[i]?

/-- The doors of the berth's consist with their numbers from 1. -/
def State.trainDoors (s : State) : List (TrainDoor × Nat) :=
  match s.trainConsist with
  | none => []
  | some c => c.doors.zipIdx 1

/-! ### Own samples (R96 to R101) -/

/-- The weight of a sample by its quality (R99, R102). -/
def qualityWeight (q : Nat) : Nat := if q = 3 then 4 else if q = 2 then 2 else 1

/-- A sample joins the set at the newest position; an older one of its key leaves (R101). -/
def joinSample (x : Sample) (l : List Sample) : List Sample :=
  (l.filter fun y => !(y.source == x.source && y.unit == x.unit)) ++ [x]

/-- The quality after the width check (R98). -/
def checkedQuality (w h : Int) (q : Nat) : Nat := if (w - 2 * h).natAbs ≤ 200 then q else q - 1

/-- What a stable reading comes to (R97 to R99): an own sample and its quality, or the outcome of its discard. -/
def deriveSample (s : State) (u : UnitNo) (a b : Int) (q : Nat) : Except SearchOutcome (Sample × Nat) :=
  let centre : Int := (s.cl.config.units.get u).centre + centreOffset a b
  let s0 : Int := (s.ae.s0.getD 0 : Nat)
  let distance := fun (d : TrainDoor × Nat) => (((centre - (s0 - (d.1.distance : Int))).natAbs : Nat) : Int)
  match pickLeast distance s.trainDoors with
  | none => .error .noMatch
  | some d =>
    let quality := checkedQuality (b - a) d.1.halfWidth q
    let stop := centre + d.1.distance
    if (s.cl.config.params.stopTol : Int) + 300 < distance d then .error .noMatch
    else if quality = 0 then .error .lowQuality
    else if stop < 0 ∨ 400000 < stop then .error .noMatch
    else .ok (⟨s.cl.own, u.val, d.2, stop.toNat, qualityWeight quality⟩, quality)

/-- Unit `u`'s search ends with an outcome, its run emptied (R93). -/
def endSearch (u : UnitNo) (o : SearchOutcome) (s : State) : State :=
  s.modAe fun a => { a with searches := a.searches.set u ⟨o, []⟩ }

/-- The EDGE of an own sample (R100). -/
def sendEdge (x : Sample) (quality : Nat) (s : State) : State :=
  enqueue .edge
    ([s.seq, nibbles (BitVec.ofNat 4 x.unit) (BitVec.ofNat 4 quality), byte x.door] ++ bytes3 (BitVec.ofNat 24 x.stop)) s

/-- A stable reading gives the own sample, stored and published, or ends the search with a discard (R93, R99, R100, R67). -/
def takeStable (u : UnitNo) (a b : Int) (q : Nat) (s : State) : State :=
  match deriveSample s u a b q with
  | .error o => endSearch u o s
  | .ok (x, quality) =>
    let s := endSearch u .sampled (s.modAe fun ae => { ae with samples := joinSample x ae.samples })
    if s.pm.identityConflict then s else sendEdge x quality s

/-- Unit `u`'s reading run becomes `run`. -/
def setRun (u : UnitNo) (run : List Int) (s : State) : State :=
  s.modAe fun a => { a with searches := a.searches.set u { a.searches.get u with run := run } }

/-- A reading the SU hands the AE (R92 to R94). -/
def takeReading (u : UnitNo) (r : Option (Int × Int × Nat)) (s : State) : State :=
  if (s.ae.searches.get u).outcome != .seeking then s
  else if s.unit u == .isolated || s.unit u == .fault then setRun u [] s
  else
    match r with
    | none => setRun u [] s
    | some (a, b, q) =>
      let run := joinRun (s.ae.searches.get u).run (centreOffset a b)
      if stableRun run then takeStable u a b q s else setRun u run s

/-- Restart unit `u`'s reading timer (R26). -/
def restartAlign (u : UnitNo) (ms : Nat) (s : State) : State := s.modSu u fun x => { x with alignTimer := s.timer ms }

/-- ALIGNMENT_READING (R26, R93). -/
def execAlignmentReading (u : UnitNo) (reading : Reading) (s : State) : Host.Outcome State Fault Refusal :=
  .next (if s.active u then finish (takeReading u (checkReading reading) (restartAlign u 40 s)) else s)

/-- ALIGNMENT_READING_TIMEOUT: a "no train door in view" is stood in (R26). -/
def execAlignmentReadingTimeout (u : UnitNo) (s : State) : Host.Outcome State Fault Refusal :=
  .next
    (if s.active u then
      onExpiry (s.su.units.get u).alignTimer (fun s => finish (takeReading u none (restartAlign u 20 s))) s
    else s)

/-! ### Peer samples (R102, R103) -/

/-- One EDGE counted in LATE_SAMPLES (R102). -/
def countLate (s : State) : State := s.modNodeCounters fun c => { c with lateSamples := c.lateSamples.bump }

/-- One EDGE counted in SAMPLE_OVERFLOW (R103). -/
def countOverflow (s : State) : State := s.modNodeCounters fun c => { c with sampleOverflow := c.sampleOverflow.bump }

/-- A sample of the key is held. -/
def State.holdsKey (s : State) (src : Node) (unit : Nat) : Bool :=
  s.ae.samples.any fun y => y.source == src && y.unit == unit

/-- The peer samples held. -/
def State.peerSamples (s : State) : Nat := (s.ae.samples.filter fun y => y.source != s.cl.own).length

/-- An admitted peer sample is keyed into the set (R103). -/
def admitSample (x : Sample) (s : State) : State :=
  if s.holdsKey x.source x.unit || decide (s.peerSamples < 60) then
    s.modAe fun a => { a with samples := joinSample x a.samples }
  else countOverflow s

/-- An EDGE the LC delivers to the AE (R102). -/
def takeEdge (src : Node) (seq : Byte) (unit quality : BitVec 4) (door : Byte) (stop : BitVec 24) (s : State) : State :=
  if s.pm.identityConflict then s
  else if seq != s.seq then countDiscard s
  else if s.berthState == .announced || s.berthState == .fusing then
    admitSample ⟨src, unit.toNat, door.toNat, stop.toNat, qualityWeight quality.toNat⟩ s
  else countLate s

/-- EDGE (R102, R103). -/
def execEdge (src : Node) (seq : Byte) (unit quality : BitVec 4) (door : Byte) (stop : BitVec 24) (s : State) :
    Host.Outcome State Fault Refusal :=
  .next (onFrame ⟨src, .edge, [seq, nibbles unit quality, door] ++ bytes3 stop⟩
    (inRunning (takeEdge src seq unit quality door stop)) s)

/-! ### The berth and the window (R91, R105) -/

/-- The AE is told a new berth (R91). -/
def alignTake (seq : Byte) (consist s0 : Nat) (s : State) : State :=
  s.modAe fun a => { a with seq := seq, consist := some consist, s0 := some s0, searches := Quad.same ⟨.none, []⟩ }

/-- The AE is told the end of a berth (R91). -/
def alignEnd (s : State) : State := s.modAe fun _ => AlignEngine.reset

/-- The fusion window opens, and with it every configured unit's search (R92, R105). -/
def openWindow (s : State) : State :=
  s.modAe fun a =>
    { a with
      window := s.timer s.cl.config.params.fusionWindow
      searches := Quad.build fun u => if s.configured u then ⟨.seeking, []⟩ else a.searches.get u }

/-! ### The fix (R106 to R108) -/

/-- The total weight of samples. -/
def totalWeight (l : List Sample) : Nat := (l.map Sample.weight).sum

/-- The weight of the samples with a stop no greater than `m`. -/
def runningWeight (l : List Sample) (m : Nat) : Nat := totalWeight (l.filter fun x => decide (x.stop ≤ m))

/-- The smallest of a list of numbers. -/
def smallest : List Nat → Option Nat
  | [] => none
  | x :: l =>
    match smallest l with
    | none => some x
    | some y => some (min x y)

/-- The weighted median: the smallest stop for which twice the running weight is at least the total (R106). -/
def median (l : List Sample) : Option Nat :=
  smallest ((l.filter fun x => decide (totalWeight l ≤ 2 * runningWeight l x.stop)).map Sample.stop)

/-- The retained set: the samples within 150 mm of the median (R107). -/
def retained (l : List Sample) : List Sample :=
  match median l with
  | none => []
  | some m => l.filter fun x => decide (((x.stop : Int) - m).natAbs ≤ 150)

/-- The fused stop of a retained set: its weighted mean rounded half toward +∞ (R107). -/
def fusedStop (r : List Sample) : Nat :=
  (2 * (r.map fun x => x.weight * x.stop).sum + totalWeight r) / (2 * totalWeight r)

/-- A fix: verdict, S_hat and margin (R108). -/
structure Fix where
  verdict : Verdict
  sHat : Option Nat
  margin : Option Nat
  deriving DecidableEq, Repr

/-- The verdict's tests in order (R108). -/
def computeFix (l : List Sample) (own : Node) (s0 stopTol : Nat) : Fix :=
  let r := retained l
  if totalWeight r < 3 then ⟨.unaligned, none, none⟩
  else if stopTol < ((fusedStop r : Int) - s0).natAbs then ⟨.outOfTolerance, some (fusedStop r), none⟩
  else if decide (8 ≤ totalWeight r) && (r.any fun x => x.source == own) && (r.any fun x => x.source != own) then
    ⟨.aligned, some (fusedStop r), some 40⟩
  else ⟨.degraded, some (fusedStop r), some 120⟩

/-- The verdict opens units: ALIGNED or DEGRADED. -/
def Verdict.opens : Verdict → Bool
  | .aligned => true
  | .degraded => true
  | _ => false

/-! ### The Door Service Map (R110 to R113) -/

/-- The overlap of unit and train door openings with the fused stop `sHat` (R111). -/
def overlap (g : UnitGeometry) (sHat : Nat) (d : TrainDoor) : Int :=
  let c : Int := (sHat : Int) - d.distance
  min ((g.centre : Int) + g.halfWidth) (c + d.halfWidth) - max ((g.centre : Int) - g.halfWidth) (c - d.halfWidth)

/-- The best door: the largest overlap, the smallest k among equals (R111), where the overlap is above 0. -/
def bestDoor (g : UnitGeometry) (sHat : Nat) (doors : List (TrainDoor × Nat)) : Option (TrainDoor × Nat) :=
  (pickLeast (fun d => -overlap g sHat d.1) doors).filter fun d => decide (0 < overlap g sHat d.1)

/-- The car whose span contains a chainage, for a train stopped at `stop` (R14). `lengths` is L_cum_0 to L_cum_N. -/
def carAt (lengths : List Nat) (stop : Nat) (x : Int) : Option Nat :=
  ((lengths.zip lengths.tail).zipIdx 1).findSome? fun ((front, rear), j) =>
    if (stop : Int) - rear < x ∧ x ≤ (stop : Int) - front then some j else none

/-- The reason of an entry whose unit stands in `st`, with best door and effective clear width `best` (R112). -/
def mapReason (st : UnitState) (best : Option (Nat × Int)) (isolated : List Nat) (minClear : Nat) : MapReason :=
  if st = .isolated then .unitIsolated
  else if st = .fault then .unitFault
  else
    match best with
    | none => .noTrainDoor
    | some (k, width) =>
      if isolated.contains k then .trainDoorIsolated
      else if width < minClear then .partialWidth
      else .served

/-- Unit `u`'s entry for an ALIGNED or DEGRADED fix (R111 to R113). -/
def placedEntry (s : State) (sHat margin : Nat) (u : UnitNo) : MapEntry :=
  let g := s.cl.config.units.get u
  let reason := fun best => mapReason (s.unit u) best s.bu.berth.isolated s.cl.config.params.minClear
  match bestDoor g sHat s.trainDoors with
  | some (d, k) =>
    let o := overlap g sHat d
    let width := o - margin - g.skew
    ⟨reason (some (k, width)), some k, some d.car, some o, some width⟩
  | none => ⟨reason none, none, s.trainConsist.bind fun c => carAt c.lengths sHat g.centre, none, none⟩

/-- Unit `u`'s entry (R110). -/
def mapEntry (s : State) (f : Fix) (u : UnitNo) : MapEntry :=
  match f.verdict.opens, f.sHat, f.margin with
  | true, some sHat, some margin => placedEntry s sHat margin u
  | _, _, _ => ⟨.verdict, none, none, none, none⟩

/-- The searches end at the window close: SEEKING becomes NOT_FOUND, the runs empty (R95). -/
def Search.close (x : Search) : Search := ⟨if x.outcome = .seeking then .notFound else x.outcome, []⟩

/-- The fix of the Sample Set as it stands. -/
def State.fix (s : State) : Fix := computeFix s.ae.samples s.cl.own (s.ae.s0.getD 0) s.cl.config.params.stopTol

/-- The AE's part of the window close (R95, R105). -/
def fixBerth (s : State) : State :=
  s.modAe fun a =>
    { a with
      window := none, verdict := s.fix.verdict, sHat := s.fix.sHat, margin := s.fix.margin
      searches := Quad.build fun u => (a.searches.get u).close
      map := Quad.build fun u => if s.configured u then some (mapEntry s s.fix u) else none }

end Sys2Proof.Machine
end

