-- ==== Sys2Proof/Machine/Interlock.lean ====
section
/-! DEFINITION. The Interlock Unit's own operations: handle and panel operations, the station emergency latch with its entry
and exit, and the joining of the access close (chapter 10). -/

namespace Sys2Proof.Machine

/-- A warning period of WARN_TIME starting now (R33). -/
def State.newWarning (s : State) : Warning := ⟨s.now, after s.now s.cl.config.params.warnTime, true⟩

/-- What the IU does for a handle operation, besides the Release Set (R171, steps 1 to 3). -/
def noteHandle (u : UnitNo) (s : State) : State :=
  alert .handle (some u) (report .handle .minor (some u)
    (s.modUnitCounters u fun c => { c with handleReleases := c.handleReleases.bump }))

/-- A panel operation (R175). -/
def notePanel (u : UnitNo) (s : State) : State :=
  alert .panel (some u) (report .panel .minor (some u)
    (s.modIu fun i => { i with panelMarks := i.panelMarks.set u true }))

/-! ### The latch (R176, R177, R179) -/

/-- The states whose units are sent no open request at the entry to the latch (R177). -/
def UnitState.spared : UnitState → Bool
  | .isolated => true
  | .fault => true
  | .manualReleased => true
  | _ => false

/-- The entry's open request to unit `u` (R177, step 3). -/
def latchRequest (u : UnitNo) (s : State) : State :=
  if s.configured u && !(s.unit u).spared then openRequest u s else s

/-- The entry to the latch (R177). -/
def enterLatch (s : State) : State :=
  forUnits latchRequest (s.modIu fun i =>
    { i with latch := true, emergencyClose := none, accessClose := none, accessMarks := Quad.same false })

/-- A mark set while the latch is CLEAR sets the latch (R176). -/
def latchIfClear (s : State) : State := if s.iu.latch then s else enterLatch s

/-- The WIRE mark is set, with its ALERT (R176). -/
def setWire (s : State) : State := alert .wireEmergency none (s.modIu fun i => { i with wireMark := true })

/-- The LINE mark is set or cleared (R16, R176). -/
def setLine (b : Bool) (s : State) : State := s.modIu fun i => { i with lineMark := b }

/-- The states whose units become members of the emergency close cycle (R180). -/
def UnitState.emergencyMember : UnitState → Bool
  | .unlocking => true
  | .opening => true
  | .opened => true
  | .closing => true
  | .reversing => true
  | .reopenWait => true
  | .heldOpen => true
  | .manualReleased => true
  | .releaseRestored => true
  | .unknown => true
  | _ => false

/-- The exit from the latch, which starts the emergency close cycle (R179, R180). -/
def exitLatch (s : State) : State :=
  let cycle : EmergencyClose :=
    { warning := s.newWarning
      members := Quad.build fun u => if s.configured u && (s.unit u).emergencyMember then some .underWarning else none }
  s.modIu fun i => { i with latch := false, wireMark := false, lineMark := false, emergencyClose := some cycle }

/-! ### The access close (R184) -/

/-- The members the access close has now. -/
def State.accessMembers (s : State) : Quad (Option Member) :=
  match s.iu.accessClose with
  | none => Quad.same none
  | some a => a.members

/-- The warnings the access close has now. -/
def State.accessWarnings (s : State) : List Warning :=
  match s.iu.accessClose with
  | none => []
  | some a => a.warnings

/-- The units of `q` that are not members yet join the access close, under one new warning (R184). -/
def joinAccess (q : Quad Bool) (s : State) : State :=
  let joins := fun u => q.get u && (s.accessMembers.get u).isNone
  if UnitNo.all.any joins then
    let joined : AccessClose :=
      { warnings := s.accessWarnings ++ [s.newWarning]
        members := Quad.build fun u =>
          if joins u then some ⟨s.accessWarnings.length, .underWarning⟩ else s.accessMembers.get u }
    s.modIu fun i => { i with accessClose := some joined }
  else s

end Sys2Proof.Machine
end

