-- ==== Sys2Proof/Machine/Berths.lean ====
section
/-! DEFINITION. The Berth Unit's frames and the window close (chapter 5), and the Hold List (section 9.3). -/

namespace Sys2Proof.Machine

/-! ### Announcement (R72 to R77) -/

/-- The consist of an index is present (R13). -/
def State.consistPresent (s : State) (i : Nat) : Bool := decide (i < s.cl.config.consists.length)

/-- The door count K of the record's consist. -/
def State.doorCount (s : State) : Nat :=
  match s.bu.berth.consist.bind fun i => s.cl.config.consists[i]? with
  | none => 0
  | some c => c.doors.length

/-- One train door index meets the isolated list (R73). -/
def addIndex (s : State) (x : Byte) : State :=
  let k := x.toNat
  let l := s.bu.berth.isolated
  if k = 0 ∨ k ∈ l then s
  else if s.doorCount < k ∨ 10 ≤ l.length then countDiscard s
  else s.modBerth fun b => { b with isolated := l ++ [k] }

/-- The indices of a frame in their order (R73). -/
def addIndices (l : List Byte) (s : State) : State := l.foldl addIndex s

/-- A BERTH is refused with CONFLICT (R76). -/
def refuseBerth (s : State) : State :=
  refuse .conflict (s.modNodeCounters fun c => { c with berthConflict := c.berthConflict.bump })

/-- A BERTH is taken into an IDLE record (R72, R73, R91). -/
def takeBerth (seq consist : Byte) (s0 : BitVec 24) (doors : List Byte) (s : State) : State :=
  let s := s.modBerth fun _ =>
    { Berth.none with seq := seq, consist := some consist.toNat, s0 := some s0.toNat, state := .announced }
  alignTake seq consist.toNat s0.toNat (addIndices doors s)

/-- Units open for access are handed to the IU, and reported, at a BERTH taken in IDLE (R77). -/
def preemptAccess (s : State) : State :=
  match UnitNo.all.find? s.iu.accessMarks.get with
  | none => s
  | some u => report .accessPreempted .minor (some u) (joinAccess s.iu.accessMarks s)

/-- The held berth ends for a replacement (R75). -/
def endForReplacement (s : State) : State :=
  ((alignEnd s).setCycle none).setHoldList [] |>.modBerth fun _ => Berth.none

/-- The states in which a berth may be replaced (R75). -/
def BerthState.replaceable : BerthState → Bool
  | .announced => true
  | .fusing => true
  | .fixed => true
  | .secured => true
  | _ => false

/-- Every configured unit is CLOSED_LOCKED or ISOLATED (R75). -/
def State.unitsShut (s : State) : Bool :=
  UnitNo.all.all fun u => !s.configured u || s.unit u == .closedLocked || s.unit u == .isolated

/-- A BERTH reaches the BU (R72, R75, R76). -/
def onBerth (seq consist : Byte) (s0 : BitVec 24) (doors : List Byte) (s : State) : State :=
  if s.berthState == .idle then
    if s.consistPresent consist.toNat then preemptAccess (takeBerth seq consist s0 doors s) else refuseBerth s
  else if seq = s.seq then s
  else if s.berthState.replaceable && s.unitsShut && s.consistPresent consist.toNat then
    takeBerth seq consist s0 doors (endForReplacement s)
  else refuseBerth s

/-- BERTH (R72). -/
def execBerth (src : Node) (seq consist : Byte) (s0 : BitVec 24) (d1 d2 d3 : Byte) (s : State) :
    Host.Outcome State Fault Refusal :=
  .next (onFrameSettling ⟨src, .berth, [seq, consist] ++ bytes3 s0 ++ [d1, d2, d3]⟩
    (inRunning (onBerth seq consist s0 [d1, d2, d3])) s)

/-- A berth frame of the record's sequence acts by `g`; any other is discarded and counted (R71). -/
def onSequence (seq : Byte) (g : State → State) (s : State) : State := if seq = s.seq then g s else countDiscard s

/-- BERTH_EXT in ANNOUNCED or FUSING adds to the isolated list (R74). -/
def onBerthExt (doors : List Byte) (s : State) : State :=
  if s.berthState == .announced || s.berthState == .fusing then addIndices doors s else s

/-- BERTH_EXT (R74). -/
def execBerthExt (src : Node) (seq d1 d2 d3 d4 d5 d6 d7 : Byte) (s : State) : Host.Outcome State Fault Refusal :=
  .next (onFrame ⟨src, .berthExt, [seq, d1, d2, d3, d4, d5, d6, d7]⟩
    (inRunning (onSequence seq (onBerthExt [d1, d2, d3, d4, d5, d6, d7]))) s)

/-! ### Standstill and the window close (R78, R79) -/

/-- STANDSTILL in ANNOUNCED opens the window (R78). -/
def onStandstill (s : State) : State :=
  if s.berthState == .announced then openWindow (setBerthState .fusing s) else s

/-- STANDSTILL (R78). -/
def execStandstill (src : Node) (seq : Byte) (s : State) : Host.Outcome State Fault Refusal :=
  .next (onFrameSettling ⟨src, .standstill, [seq]⟩ (inRunning (onSequence seq onStandstill)) s)

/-- The BU's open request to unit `u`, if the map marks it served (R82, R84). -/
def openServed (u : UnitNo) (s : State) : State :=
  if s.configured u && s.served u then berthOpenRequest u s else s

/-- A release is acted on (R82). -/
def actRelease (s : State) : State := forUnits openServed (setBerthState .released s)

/-- The verdict's test of a release in FIXED (R80, test 6). -/
def releaseByVerdict (s : State) : State := if s.bu.berth.verdict.opens then actRelease s else refuse .verdict s

/-- A held release is judged at the window close, its mark cleared (R81). -/
def judgeHeld (s : State) : State :=
  let s := s.modBerth fun b => { b with pendingRelease := false }
  if s.pm.identityConflict then refuse .nodeState s
  else if s.iu.latch then refuse .emergency s
  else releaseByVerdict s

/-- The BU's part of the window close (R79, R109). -/
def copyFix (s : State) : State :=
  setBerthState .fixed (s.modBerth fun b =>
    { b with verdict := s.ae.verdict, sHat := s.ae.sHat.map (min 400000) })

/-- The window closes: fix, map, FIXED, and the held release (R79, R105). -/
def closeWindow (s : State) : State :=
  let s := copyFix (fixBerth s)
  if s.bu.berth.pendingRelease then judgeHeld s else s

/-- The expiry of the window. -/
def onWindow (s : State) : State := onExpiry s.ae.window (fun s' => settle s' (closeWindow s')) s

/-- FUSION_WINDOW_EXPIRY (R105, R79). -/
def execFusionWindowExpiry (s : State) : Host.Outcome State Fault Refusal := .next (if s.loaded then onWindow s else s)

/-- HELD_RELEASE: the held release is judged as its window closes (R81). -/
def execHeldRelease (s : State) : Host.Outcome State Fault Refusal :=
  .next
    (if s.loaded && s.bu.berth.pendingRelease then
      match s.berthState with
      | .fusing => onWindow s
      | .fixed => settle s (judgeHeld s)
      | _ => s
    else s)

/-! ### Release, close and reopen (R80 to R84) -/

/-- RELEASE by its tests in order (R80). -/
def onRelease (s : State) : State :=
  match s.berthState with
  | .released => s
  | .closing => s
  | .secured => s
  | b =>
    if s.pm.identityConflict then refuse .nodeState s
    else if s.iu.latch then refuse .emergency s
    else
      match b with
      | .announced => refuse .noStandstill s
      | .fusing => s.modBerth fun r => { r with pendingRelease := true }
      | .fixed => releaseByVerdict s
      | _ => s

/-- RELEASE (R80). -/
def execRelease (src : Node) (seq : Byte) (s : State) : Host.Outcome State Fault Refusal :=
  .next (onFrameSettling ⟨src, .release, [seq]⟩ (inRunning (onSequence seq onRelease)) s)

/-- The close cycle starts over the units standing open (R157). -/
def startCycle (s : State) : State :=
  s.setCycle (some
    { warnings := [s.newWarning]
      members := Quad.build fun u =>
        if s.configured u && (s.unit u == .opened || s.unit u == .heldOpen) then some ⟨0, .underWarning⟩ else none
      holds := [] })

/-- Unit `u` is a configured unit standing in HELD_OPEN. -/
def State.heldOpen (s : State) (u : UnitNo) : Bool := s.configured u && s.unit u == .heldOpen

/-- A CLOSE in CLOSING starts a new warning for the HELD_OPEN units (R165). -/
def repeatClose (s : State) : State :=
  match s.bu.cycle with
  | none => s
  | some c =>
    if UnitNo.all.any s.heldOpen then
      s.setCycle (some
        { c with
          warnings := c.warnings ++ [s.newWarning]
          members := Quad.build fun u =>
            if s.heldOpen u then some ⟨c.warnings.length, .underWarning⟩ else c.members.get u })
    else s

/-- CLOSE by the berth's state (R83). -/
def onClose (s : State) : State :=
  match s.berthState with
  | .released => startCycle (setBerthState .closing s)
  | .closing => repeatClose s
  | .fixed => setBerthState .secured s
  | .fusing => s.modBerth fun b => { b with pendingRelease := false }
  | _ => s

/-- CLOSE (R83). -/
def execClose (src : Node) (seq : Byte) (s : State) : Host.Outcome State Fault Refusal :=
  .next (onFrameSettling ⟨src, .close, [seq]⟩ (inRunning (onSequence seq onClose)) s)

/-- REOPEN of a berth in CLOSING or SECURED (R84). -/
def reopenBerth (s : State) : State :=
  if s.bu.berth.verdict.opens then forUnits openServed (endCycle true (setBerthState .released s))
  else refuse .verdict s

/-- REOPEN by the berth's state (R84). -/
def onReopen (s : State) : State :=
  match s.berthState with
  | .closing => reopenBerth s
  | .secured => reopenBerth s
  | _ => s

/-- REOPEN (R84). -/
def execReopen (src : Node) (seq : Byte) (s : State) : Host.Outcome State Fault Refusal :=
  .next (onFrameSettling ⟨src, .reopen, [seq]⟩ (inRunning (onSequence seq onReopen)) s)

/-! ### Departure (R86 to R88) -/

/-- The states of a unit secured for departure (R87). -/
def UnitState.departable : UnitState → Bool
  | .closedLocked => true
  | .isolated => true
  | .fault => true
  | _ => false

/-- Unit `u` is unsecured at a DEPART (R87). -/
def State.unsecured (s : State) (u : UnitNo) : Bool := s.configured u && !(s.unit u).departable

/-- The states of a unit the departure close covers (R87). -/
def UnitState.coverable : UnitState → Bool
  | .unlocking => true
  | .opening => true
  | .opened => true
  | .closing => true
  | .reversing => true
  | .reopenWait => true
  | .heldOpen => true
  | _ => false

/-- The units the departure close covers. -/
def State.coveredUnits (s : State) : Quad Bool := Quad.build fun u => s.configured u && (s.unit u).coverable

/-- The unsecured units are reported and alerted (R87). -/
def reportUnsecured (s : State) : State :=
  match UnitNo.all.find? s.unsecured with
  | none => s
  | some u => alert .departUnsecured (some u) (report .departUnsecured .severe (some u) s)

/-- The departure close starts over the units found (R88). -/
def startDeparture (covered : Quad Bool) (s : State) : State :=
  if noneLeft covered then s else s.setDeparture (some ⟨covered, s.newWarning⟩)

/-- DEPART ends the berth (R86). -/
def onDepart (s : State) : State :=
  let covered := s.coveredUnits
  let s := ((alignEnd (reportUnsecured s)).setCycle none).setHoldList []
  let s := syncOwnRelease (s.modIu fun i => { i with releaseSet := [] })
  startDeparture covered (s.modBerth fun _ => Berth.none)

/-- DEPART (R86). -/
def execDepart (src : Node) (seq : Byte) (s : State) : Host.Outcome State Fault Refusal :=
  .next (onFrameSettling ⟨src, .depart, [seq]⟩ (inRunning (onSequence seq onDepart)) s)

/-! ### The Hold List (R161) -/

/-- The entry has the key. -/
def HoldEntry.hasKey (src : Node) (car : Nat) (h : HoldEntry) : Bool := h.source == src && h.car == car

/-- A START refreshes or joins, evicting the oldest of 16 (R161). -/
def holdStartList (src : Node) (car : Nat) (s : State) : State :=
  let l := s.bu.holdList
  let new : HoldEntry := ⟨src, car, s.now⟩
  if l.any (HoldEntry.hasKey src car) then s.setHoldList ((l.filter fun h => !HoldEntry.hasKey src car h) ++ [new])
  else if l.length < 16 then s.setHoldList (l ++ [new])
  else (s.setHoldList (l.drop 1 ++ [new])).modNodeCounters fun c => { c with holdEvictions := c.holdEvictions.bump }

/-- An END removes the entry of its key (R161). -/
def holdEndList (src : Node) (car : Nat) (s : State) : State :=
  s.setHoldList (s.bu.holdList.filter fun h => !HoldEntry.hasKey src car h)

/-- A HOLD of the record's sequence from a LIVE slot acts by `g`; any other is discarded and counted (R161). -/
def onHold (src : Node) (seq : Byte) (g : State → State) (s : State) : State :=
  if seq = s.seq ∧ (s.slot src).state = .live then g s else countDiscard s

/-- HOLD START (R161). -/
def execHoldStart (src : Node) (seq car : Byte) (s : State) : Host.Outcome State Fault Refusal :=
  .next (onFrameSettling ⟨src, .hold, [seq, 1, car]⟩
    (inRunning (onHold src seq (holdStartList src car.toNat))) s)

/-- HOLD END (R161). -/
def execHoldEnd (src : Node) (seq car : Byte) (s : State) : Host.Outcome State Fault Refusal :=
  .next (onFrameSettling ⟨src, .hold, [seq, 2, car]⟩
    (inRunning (onHold src seq (holdEndList src car.toNat))) s)

end Sys2Proof.Machine
end

