-- ==== Sys2Proof/Machine/Closing.lean ====
section
/-! DEFINITION. The warnings, deadlines and requests of the four closes: the close cycle (chapter 9), the departure close (R88), the
emergency close cycle (R180) and the access close (R184). -/

namespace Sys2Proof.Machine

/-! ### Warnings -/

/-- The index of the earliest running warning. Warnings of one record all last WARN_TIME, so the first started ends first. -/
def firstRunning (l : List Warning) : Option Nat := l.findIdx? Warning.running

/-- The end of the earliest running warning. -/
def firstEnd (l : List Warning) : Option Time := (l.find? Warning.running).map Warning.stop

/-- A warning has ended: it no longer counts toward the output (R33). -/
def Warning.ended (w : Warning) : Warning := { w with running := false }

/-- Warning `i` of a list has ended. -/
def endWarning (l : List Warning) (i : Nat) : List Warning := l.set i (warningAt l i).ended

/-- A member governed by warning `i` and still under it becomes WAITING (R158, R184). -/
def Member.wait (i : Nat) (m : Member) : Member :=
  if m.warning = i ∧ m.status = .underWarning then { m with status := .waiting } else m

/-- Every member governed by warning `i` and still under it becomes WAITING. -/
def waitMembers (i : Nat) (q : Quad (Option Member)) : Quad (Option Member) := Quad.build fun u => (q.get u).map (Member.wait i)

/-! ### The close cycle (R158 to R163) -/

/-- Unit `u` is one of the members that the ending of warning `i` makes WAITING. -/
def CloseCycle.endsUnder (c : CloseCycle) (i : Nat) (u : UnitNo) : Bool :=
  match c.members.get u with
  | none => false
  | some m => m.warning == i && m.status == .underWarning

/-- A member found serving a busy zone at its warning's end: served, standing open, BUSY (R158). -/
def State.findsBusy (s : State) (u : UnitNo) : Bool :=
  s.served u && (s.unit u == .opened || s.unit u == .heldOpen) && (s.su.units.get u).zoneBusy

/-- Unit `u` joins the own hold of `car`, or makes one with a HOLD START (R158). -/
def joinHold (u : UnitNo) (car : Nat) (deadline : Time) (c : CloseCycle) (s : State) : State :=
  if (c.holdFor car).isSome then
    s.setCycle (some
      { c with holds := c.holds.map fun h => if h.car = car then { h with holders := h.holders.set u true } else h })
  else
    sendHold 1 car (s.setCycle (some
      { c with holds := c.holds ++ [⟨car, (Quad.same false).set u true, deadline⟩] }))

/-- The boarding hold of a member found busy; with HOLD_MAX at 0 there is none (R158). -/
def formHold (deadline : Time) (u : UnitNo) (s : State) : State :=
  match s.bu.cycle, s.car u with
  | some c, some car =>
    if s.findsBusy u && decide (0 < s.cl.config.params.holdMax) then joinHold u car deadline c s else s
  | _, _ => s

/-- Warning `i` of the cycle ends: its members wait, and the own holds are formed (R158). -/
def endCycleWarning (c : CloseCycle) (i : Nat) (s : State) : State :=
  let deadline := s.deadline (warningAt c.warnings i)
  let s := s.setCycle (some { c with warnings := endWarning c.warnings i, members := waitMembers i c.members })
  forUnits (fun u s => if c.endsUnder i u then formHold deadline u s else s) s

/-- CLOSE_CYCLE_WARNING_END (R158). -/
def execCloseCycleWarningEnd (s : State) : Host.Outcome State Fault Refusal :=
  .next
    (match s.bu.cycle with
    | none => s
    | some c =>
      match firstRunning c.warnings with
      | none => s
      | some i =>
        let s' := s.reach (warningAt c.warnings i).stop
        if s.loaded then settle s' (endCycleWarning c i s') else s)

/-- MEMBER_RELEASE (R159). -/
def execMemberRelease (u : UnitNo) (s : State) : Host.Outcome State Fault Refusal := .next (onUnit u (judgeMember u) s)

/-- The deadline of member `u` of the cycle, while it is WAITING (R156). -/
def State.memberDeadline (s : State) (u : UnitNo) : Option Time :=
  match s.bu.cycle with
  | none => none
  | some c =>
    match c.members.get u with
    | none => none
    | some m => if m.status = .waiting then some (s.deadline (warningAt c.warnings m.warning)) else none

/-- MEMBER_DEADLINE: the member is judged with no boarding hold and no gap wait binding it (R159, R163). -/
def execMemberDeadline (u : UnitNo) (s : State) : Host.Outcome State Fault Refusal :=
  .next (if s.loaded then onExpiry (s.memberDeadline u) (fun s' => settle s' (judgeMember u s')) s else s)

/-- The own hold of a car. -/
def State.ownHold (s : State) (car : Nat) : Option OwnHold := s.bu.cycle.bind fun c => c.holdFor car

/-- An own hold ends with a HOLD END (R160). -/
def endHold (car : Nat) (s : State) : State :=
  match s.bu.cycle with
  | none => s
  | some c => sendHold 2 car (s.setCycle (some { c with holds := c.holds.filter fun h => h.car != car }))

/-- OWN_HOLD_DEADLINE (R160). -/
def execOwnHoldDeadline (car : Nat) (s : State) : Host.Outcome State Fault Refusal :=
  .next
    (if s.loaded then
      onExpiry ((s.ownHold car).map OwnHold.deadline) (fun s' => settle s' (endHold car s')) s
    else s)

/-! ### The departure close (R88) -/

/-- The end of the departure close's warning, while it runs. -/
def State.departureEnd (s : State) : Option Time :=
  s.bu.departure.bind fun d => if d.warning.running then some d.warning.stop else none

/-- The departure close's warning ends (R88). -/
def endDepartureWarning (s : State) : State :=
  s.setDeparture (s.bu.departure.map fun d => { d with warning := d.warning.ended })

/-- DEPARTURE_CLOSE_WARNING_END (R88). -/
def execDepartureCloseWarningEnd (s : State) : Host.Outcome State Fault Refusal :=
  .next (if s.loaded then onExpiry s.departureEnd (fun s' => settle s' (endDepartureWarning s')) s else s)

/-- DEPARTURE_CLOSE_REQUEST (R88). -/
def execDepartureCloseRequest (u : UnitNo) (s : State) : Host.Outcome State Fault Refusal :=
  .next (onUnit u (judgeCovered u) s)

/-- The deadline of the departure close, once its warning has ended (R88). -/
def State.departureDeadline (s : State) : Option Time :=
  s.bu.departure.bind fun d => if d.warning.running then none else some (s.deadline d.warning)

/-- DEPARTURE_CLOSE_DEADLINE: the covered units are judged with no gap wait (R88). -/
def execDepartureCloseDeadline (s : State) : Host.Outcome State Fault Refusal :=
  .next (if s.loaded then onExpiry s.departureDeadline (fun s' => settle s' (forUnits judgeCovered s')) s else s)

/-! ### The emergency close cycle (R180) -/

/-- The end of the emergency close cycle's warning, while it runs. -/
def State.emergencyEnd (s : State) : Option Time :=
  s.iu.emergencyClose.bind fun e => if e.warning.running then some e.warning.stop else none

/-- A member under the warning becomes WAITING. -/
def MemberStatus.wait : MemberStatus → MemberStatus
  | .underWarning => .waiting
  | .waiting => .waiting
  | .started => .started

/-- The emergency close cycle's warning ends (R180). -/
def endEmergencyWarning (s : State) : State :=
  s.modIu fun i =>
    { i with emergencyClose := i.emergencyClose.map fun e =>
        { warning := e.warning.ended, members := Quad.build fun u => (e.members.get u).map MemberStatus.wait } }

/-- EMERGENCY_CLOSE_WARNING_END (R180). -/
def execEmergencyCloseWarningEnd (s : State) : Host.Outcome State Fault Refusal :=
  .next (if s.loaded then onExpiry s.emergencyEnd (fun s' => settle s' (endEmergencyWarning s')) s else s)

/-- EMERGENCY_CLOSE_REQUEST (R180). -/
def execEmergencyCloseRequest (u : UnitNo) (s : State) : Host.Outcome State Fault Refusal :=
  .next (onUnit u (judgeEmergencyMember u) s)

/-- The deadline of member `u` of the emergency close cycle, while it is WAITING (R180). -/
def State.emergencyDeadline (s : State) (u : UnitNo) : Option Time :=
  s.iu.emergencyClose.bind fun e => if e.members.get u = some .waiting then some (s.deadline e.warning) else none

/-- EMERGENCY_CLOSE_DEADLINE: the member is judged with no gap wait (R180). -/
def execEmergencyCloseDeadline (u : UnitNo) (s : State) : Host.Outcome State Fault Refusal :=
  .next (if s.loaded then onExpiry (s.emergencyDeadline u) (fun s' => settle s' (judgeEmergencyMember u s')) s else s)

/-! ### The access close (R184) -/

/-- Warning `i` of the access close ends: its members wait (R184). -/
def endAccessWarning (a : AccessClose) (i : Nat) (s : State) : State :=
  s.modIu fun x =>
    { x with accessClose := some { warnings := endWarning a.warnings i, members := waitMembers i a.members } }

/-- ACCESS_CLOSE_WARNING_END (R184). -/
def execAccessCloseWarningEnd (s : State) : Host.Outcome State Fault Refusal :=
  .next
    (match s.iu.accessClose with
    | none => s
    | some a =>
      match firstRunning a.warnings with
      | none => s
      | some i =>
        let s' := s.reach (warningAt a.warnings i).stop
        if s.loaded then settle s' (endAccessWarning a i s') else s)

/-- ACCESS_CLOSE_REQUEST (R184). -/
def execAccessCloseRequest (u : UnitNo) (s : State) : Host.Outcome State Fault Refusal :=
  .next (onUnit u (judgeAccessMember u) s)

/-- The deadline of member `u` of the access close, while it is WAITING (R184). -/
def State.accessDeadline (s : State) (u : UnitNo) : Option Time :=
  match s.iu.accessClose with
  | none => none
  | some a =>
    match a.members.get u with
    | none => none
    | some m => if m.status = .waiting then some (s.deadline (warningAt a.warnings m.warning)) else none

/-- ACCESS_CLOSE_DEADLINE: the member is judged with no gap wait (R184). -/
def execAccessCloseDeadline (u : UnitNo) (s : State) : Host.Outcome State Fault Refusal :=
  .next (if s.loaded then onExpiry (s.accessDeadline u) (fun s' => settle s' (judgeAccessMember u s')) s else s)

end Sys2Proof.Machine
end

