-- ==== Sys2Proof/Machine/Commands.lean ====
section
/-! DEFINITION. The COMMAND frames: delivery, the deciding of named units and the RESULT (R45, R46), and each sub-command. -/

namespace Sys2Proof.Machine

/-! ### Delivery and deciding (R19, R45, R46) -/

/-- The RESULT argument of a COMMAND that names no units: the severity of an ACK_FAULT, else 0 (R46). -/
def SubCommand.plainArg (sub : SubCommand) (arg : Byte) : Byte := if sub = .ackFault then arg else 0

/-- A COMMAND addressed to this node acts by `g` in RUNNING, and is refused with NODE_STATE in CONFIG_FAULT (R19, R45). -/
def onCommand (src : Node) (sub : SubCommand) (dest arg : Byte) (g : State → State) (s : State) : State :=
  if dest != nodeByte s.cl.own then s
  else if s.running then g s
  else if s.faultServing then sendResult src sub (sub.plainArg arg) false .nodeState s
  else s

/-- The deciding of a COMMAND's units so far: the state, the units taken, and the code of the lowest refused unit (R46). -/
structure Deciding where
  state : State
  taken : Quad Bool
  code : RefusalCode

/-- One named unit is decided by `g`, which answers the refusal code or `none` where it takes the unit; a unit at or above the
unit count is refused with UNIT_STATE (R45). -/
def decideUnit (arg : Byte) (g : UnitNo → State → State × RefusalCode) (d : Deciding) (u : UnitNo) : Deciding :=
  if !arg.getLsbD u.val then d
  else
    let r := if d.state.configured u then g u d.state else (d.state, .unitState)
    { state := r.1, taken := d.taken.set u (r.2 == .none), code := if d.code = .none then r.2 else d.code }

/-- Every named unit is decided, in unit order, as R172, R182 and R184 say of the IU's sub-commands. For ISOLATE, RESTORE and REHOME,
whose channels R135, R137 and R138 put in no order, that is a DESIGN CHOICE (log entry 21). -/
def decideUnits (arg : Byte) (g : UnitNo → State → State × RefusalCode) (s : State) : Deciding :=
  UnitNo.all.foldl (decideUnit arg g) ⟨s, Quad.same false, .none⟩

/-- A unit set as a byte: bit u for unit u. -/
def unitSet (q : Quad Bool) : Byte :=
  (0 : BitVec 4) ++ (bit q.q3 ++ bit q.q2 ++ bit q.q1 ++ bit q.q0)

/-- The RESULT of a COMMAND that names units (R46). -/
def sendUnitResult (src : Node) (sub : SubCommand) (d : Deciding) : State :=
  sendResult src sub (unitSet d.taken) (UnitNo.all.any d.taken.get) d.code d.state

/-- A COMMAND that names units is decided unit by unit and draws its RESULT (R45, R46). -/
def unitCommand (src : Node) (sub : SubCommand) (arg : Byte) (g : UnitNo → State → State × RefusalCode) (s : State) : State :=
  sendUnitResult src sub (decideUnits arg g s)

/-! ### ISOLATE, RESTORE, REHOME, ACK_RELEASE (R135, R137, R138, R140, R172) -/

/-- Unit `u`'s handle capture is consumed (R31). -/
def consumeHandle (u : UnitNo) (s : State) : State :=
  s.modSu u fun x => { x with handle := { x.handle with held := false } }

/-- ISOLATE reaches unit `u` (R137). -/
def isolateUnit (u : UnitNo) (s : State) : State × RefusalCode :=
  match s.unit u with
  | .closedLocked => (enterIsolated true u s, .none)
  | .fault => (enterIsolated true u s, .none)
  | .unknown => (enterIsolated true u s, .none)
  | .releaseRestored => (enterIsolated true u (consumeHandle u s), .none)
  | _ => (s, .unitState)

/-- The way back to service: CLOSED_LOCKED when the switches show it, else HOMING (R138, R140). -/
def bringBack (u : UnitNo) (s : State) : State := if s.closedAndEngaged u then comeClosed u s else enterHoming u s

/-- RESTORE reaches unit `u` (R138). -/
def restoreUnit (u : UnitNo) (s : State) : State × RefusalCode :=
  if s.unit u = .isolated then (bringBack u (s.modDc u fun d => { d with isolationMark := false }), .none)
  else (s, .unitState)

/-- REHOME reaches unit `u` (R135). -/
def rehomeUnit (u : UnitNo) (s : State) : State × RefusalCode :=
  match s.unit u with
  | .fault => (enterHoming u s, .none)
  | .unknown => (enterHoming u s, .none)
  | _ => (s, .unitState)

/-- ACK_RELEASE reaches unit `u` (R140, R172). -/
def ackReleaseUnit (u : UnitNo) (s : State) : State × RefusalCode :=
  if s.unit u = .releaseRestored then
    let s := consumeHandle u s
    (if (s.dc.get u).isolationMark then enterIsolated true u s else bringBack u s, .none)
  else (s, .unitState)

/-- ISOLATE (R137). -/
def execIsolate (src : Node) (dest arg : Byte) (s : State) : Host.Outcome State Fault Refusal :=
  .next (onFrameSettling ⟨src, .command, commandPayload .isolate dest arg⟩
    (onCommand src .isolate dest arg (unitCommand src .isolate arg isolateUnit)) s)

/-- RESTORE (R138). -/
def execRestore (src : Node) (dest arg : Byte) (s : State) : Host.Outcome State Fault Refusal :=
  .next (onFrameSettling ⟨src, .command, commandPayload .restore dest arg⟩
    (onCommand src .restore dest arg (unitCommand src .restore arg restoreUnit)) s)

/-- REHOME (R135). -/
def execRehome (src : Node) (dest arg : Byte) (s : State) : Host.Outcome State Fault Refusal :=
  .next (onFrameSettling ⟨src, .command, commandPayload .rehome dest arg⟩
    (onCommand src .rehome dest arg (unitCommand src .rehome arg rehomeUnit)) s)

/-- ACK_RELEASE (R172). -/
def execAckRelease (src : Node) (dest arg : Byte) (s : State) : Host.Outcome State Fault Refusal :=
  .next (onFrameSettling ⟨src, .command, commandPayload .ackRelease dest arg⟩
    (onCommand src .ackRelease dest arg (unitCommand src .ackRelease arg ackReleaseUnit)) s)

/-! ### ACCESS_OPEN, ACCESS_CLOSE, ACCESS_LOCK (R182, R184, R185) -/

/-- The node-wide tests of ACCESS_OPEN, in order (R182). -/
def State.accessRefusal (s : State) : RefusalCode :=
  if !s.running || s.pm.identityConflict then .nodeState
  else if s.iu.latch then .emergency
  else if s.iu.accessLock then .locked
  else if s.berthState != .idle then .notIdle
  else .none

/-- ACCESS_OPEN reaches unit `u` once the node-wide tests gave `wide` (R182). -/
def accessOpenUnit (wide : RefusalCode) (u : UnitNo) (s : State) : State × RefusalCode :=
  if wide != .none then (s, wide)
  else if s.unit u = .closedLocked then
    (openRequest u (s.modIu fun i => { i with accessMarks := i.accessMarks.set u true }), .none)
  else (s, .unitState)

/-- ACCESS_OPEN decided (R182). -/
def takeAccessOpen (src : Node) (arg : Byte) (s : State) : State :=
  unitCommand src .accessOpen arg (accessOpenUnit s.accessRefusal) s

/-- ACCESS_OPEN (R182). -/
def execAccessOpen (src : Node) (dest arg : Byte) (s : State) : Host.Outcome State Fault Refusal :=
  .next (onFrameSettling ⟨src, .command, commandPayload .accessOpen dest arg⟩
    (onCommand src .accessOpen dest arg (takeAccessOpen src arg)) s)

/-- ACCESS_CLOSE decides unit `u`, which changes nothing yet (R184). -/
def accessCloseUnit (u : UnitNo) (s : State) : State × RefusalCode :=
  if s.iu.latch then (s, .emergency) else if s.iu.accessMarks.get u then (s, .none) else (s, .unitState)

/-- ACCESS_CLOSE decided: the units taken join the access close together (R184). -/
def takeAccessClose (src : Node) (arg : Byte) (s : State) : State :=
  let d := decideUnits arg accessCloseUnit s
  sendUnitResult src .accessClose { d with state := joinAccess d.taken d.state }

/-- ACCESS_CLOSE (R184). -/
def execAccessClose (src : Node) (dest arg : Byte) (s : State) : Host.Outcome State Fault Refusal :=
  .next (onFrameSettling ⟨src, .command, commandPayload .accessClose dest arg⟩
    (onCommand src .accessClose dest arg (takeAccessClose src arg)) s)

/-- ACCESS_LOCK is taken (R185). -/
def takeAccessLock (src : Node) (s : State) : State :=
  sendResult src .accessLock 0 true .none (s.modIu fun i => { i with accessLock := true })

/-- ACCESS_LOCK (R185). -/
def execAccessLock (src : Node) (dest arg : Byte) (s : State) : Host.Outcome State Fault Refusal :=
  .next (onFrame ⟨src, .command, commandPayload .accessLock dest arg⟩
    (onCommand src .accessLock dest arg (takeAccessLock src)) s)

/-! ### ACK_FAULT and RESET_NODE (R189, R195) -/

/-- The severity of a code: 1 SEVERE, else MINOR (section 3.6). -/
def severityOf (code : Byte) : Severity := if code = 1 then .severe else .minor

/-- ACK_FAULT is taken: a filled slot is emptied, an empty one gives a test pulse (R189). -/
def takeAckFault (src : Node) (arg : Byte) (s : State) : State :=
  let sev := severityOf arg
  sendResult src .ackFault arg true .none
    (if (s.fr.slot sev).isSome then s.modFr fun r => r.setSlot sev none else startPulse sev s)

/-- ACK_FAULT (R189). -/
def execAckFault (src : Node) (dest arg : Byte) (s : State) : Host.Outcome State Fault Refusal :=
  .next (onFrame ⟨src, .command, commandPayload .ackFault dest arg⟩
    (onCommand src .ackFault dest arg (takeAckFault src arg)) s)

/-- RESET_NODE is taken: a reset is due once its RESULT is reported (R195). -/
def takeResetNode (src : Node) (s : State) : State :=
  sendResult src .resetNode 0 true .none (s.modFr fun r => { r with resetDue := true })

/-- RESET_NODE reaches the FR in RUNNING and in CONFIG_FAULT after its quiet period (R19, R195). -/
def onResetNode (src : Node) (dest : Byte) (s : State) : State :=
  if dest == nodeByte s.cl.own && (s.running || s.faultServing) then takeResetNode src s else s

/-- RESET_NODE (R195). -/
def execResetNode (src : Node) (dest arg : Byte) (s : State) : Host.Outcome State Fault Refusal :=
  .next (onFrame ⟨src, .command, commandPayload .resetNode dest arg⟩ (onResetNode src dest) s)

/-! ### The fault lines' pulses (R190, R191) -/

/-- The pulse timer of a line. -/
def FaultRecorder.pulse (r : FaultRecorder) : FaultLine → Option Time
  | .severe => r.severePulse
  | .minor => r.minorPulse

/-- A pulse ends: the line follows its mode (R190, R191). -/
def endPulse (line : FaultLine) (s : State) : State :=
  finish (s.modFr fun r =>
    match line with
    | .severe => { r with severePulse := none }
    | .minor => { r with minorPulse := none })

/-- PULSE_TIMER_EXPIRY (R190, R191). -/
def execPulseTimerExpiry (line : FaultLine) (s : State) : Host.Outcome State Fault Refusal :=
  .next (if s.loaded then onExpiry (s.fr.pulse line) (endPulse line) s else s)

end Sys2Proof.Machine
end

