-- ==== Sys2Proof/Machine/Doors.lean ====
section
/-! DEFINITION. The Door Channels' samples, control periods, motion and timers (chapter 7). -/

namespace Sys2Proof.Machine

/-! ### Delivery -/

/-- An event of a configured unit in the state `st`; in any other state it cannot come about (log entry 1). -/
def onUnitIn (u : UnitNo) (st : UnitState) (g : State → State) (s : State) : State :=
  if s.active u && s.unit u == st then settle s (g s) else s

/-- The expiry of a timer of a configured unit in a state that runs it. -/
def onUnitTimer (u : UnitNo) (runs : UnitState → Bool) (timer : DoorChannel → Option Time) (g : State → State) (s : State) :
    State :=
  if s.active u && runs (s.unit u) then onExpiry (timer (s.dc.get u)) (fun s' => settle s' (g s')) s else s

/-- OPENING or REVERSING: driven open. -/
def UnitState.drivenOpen : UnitState → Bool
  | .opening => true
  | .reversing => true
  | _ => false

/-- OPENING, CLOSING or REVERSING: a movement under its travel timer (R132). -/
def UnitState.travels : UnitState → Bool
  | .opening => true
  | .closing => true
  | .reversing => true
  | _ => false

/-! ### Control samples (R22, R117, R128) -/

/-- The leaves are driven closed, so that the current counts toward an obstacle: CLOSING, and HOMING while it drives (R128, R136). -/
def DoorChannel.closes (d : DoorChannel) : Bool := d.st == .closing || (d.st == .homing && d.phase != .hold)

/-- The over-threshold count after a sample (R128). -/
def nextOver (count current threshold : Nat) : Nat := if threshold < current then min 3 (count + 1) else 0

/-- A valid sample: the motion joins the position, a missed run ends, the current is offered to the count (R22, R117, R128). -/
def takeSample (u : UnitNo) (motion : Int) (current : Nat) (s : State) : State :=
  let d := s.dc.get u
  let count := if d.closes then nextOver d.overCount current (s.cl.config.units.get u).threshold else d.overCount
  let s := s.setDc u { d with position := d.position + motion, missed := 0, overCount := count }
  if d.closes && count == 3 then obstacle u s else s

/-- A 10 ms period without a valid sample (R22). -/
def takeMissed (u : UnitNo) (s : State) : State := s.modDc u fun d => { d with missed := min 3 (d.missed + 1) }

/-- CONTROL_SAMPLE; a motion outside −50 to +50 is taken as missed (R22). -/
def execControlSample (u : UnitNo) (motion : Int) (current : Nat) (s : State) : Host.Outcome State Fault Refusal :=
  .next (onUnit u (if -50 ≤ motion ∧ motion ≤ 50 then takeSample u motion current else takeMissed u) s)

/-- MISSED_CONTROL_PERIOD (R22). -/
def execMissedControlPeriod (u : UnitNo) (s : State) : Host.Outcome State Fault Refusal := .next (onUnit u (takeMissed u) s)

/-- MISSED_RUN_DRIVE_FAULT: the third consecutive missed period (R22). -/
def execMissedRunDriveFault (u : UnitNo) (s : State) : Host.Outcome State Fault Refusal :=
  .next (onUnit u (fun s => s.modDc u fun d => { d with missed := 3 }) s)

/-! ### Speeds (R124 to R126) -/

/-- The integer square root by bits: the largest number with `n` bits above `acc` whose square is at most `x`. -/
def isqrtBits (x : Nat) : Nat → Nat → Nat
  | 0, acc => acc
  | n + 1, acc => isqrtBits x n (if (acc + 2 ^ n) * (acc + 2 ^ n) ≤ x then acc + 2 ^ n else acc)

/-- The integer square root of a number below 2^32 (R126). -/
def isqrt (x : Nat) : Nat := isqrtBits x 16 0

/-- The energy cap v_cap (R126). -/
def energyCap (energy mass : Nat) : Nat := isqrt (2000000 * energy / mass)

/-- The smaller of close cruise, energy cap and 800; no cap applies where there is no energy limit (R126, R18). -/
def cappedCruise (energy : Option Nat) (g : UnitGeometry) : Nat :=
  match energy with
  | none => min g.profile.closeCruise 800
  | some e => min (min g.profile.closeCruise (energyCap e g.mass)) 800

/-- The factor f_n of attempt n (R126). -/
def attemptFactor (n : Nat) : Nat := if n ≤ 1 then 4 else if n = 2 then 3 else 2

/-- The closing cruise of attempt n (R126). -/
def closingCruise (energy : Option Nat) (g : UnitGeometry) (n : Nat) : Nat :=
  max g.profile.creep (cappedCruise energy g * attemptFactor n / 4)

/-- The opening cruise (R125). -/
def openingCruise (p : Profile) : Nat := min p.openCruise 800

/-- The speed step s (R124). -/
def speedStep (p : Profile) : Int := p.accel / 100

/-- The braking point: the remaining distance at or below which a movement at speed `v` brakes (R124). -/
def brakingPoint (p : Profile) (v : Int) : Int :=
  p.creepDistance + (v * v - (p.creep : Int) * p.creep) / (2 * p.accel)

/-- A period in BRAKE (R124). -/
def brakeStep (p : Profile) (v : Int) : MotionPhase × Int :=
  let w := max (v - speedStep p) p.creep
  (if w = p.creep then .creep else .brake, w)

/-- The phase and speed of the next period, from the phase and speed before it, the cruise speed and the remaining distance
(R124). A speed below 0 is a reversal still running down, which only steps up (R129, log entry 14). -/
def nextMotion (p : Profile) (cruise remaining : Int) (phase : MotionPhase) (v : Int) : MotionPhase × Int :=
  match phase with
  | .accelerate =>
    if v < 0 then (.accelerate, min (v + speedStep p) cruise)
    else if remaining ≤ p.creepDistance then (.creep, p.creep)
    else if remaining ≤ brakingPoint p v then brakeStep p v
    else
      let w := min (v + speedStep p) cruise
      (if w = cruise then .cruise else .accelerate, w)
  | .cruise =>
    if remaining ≤ p.creepDistance then (.creep, p.creep)
    else if remaining ≤ brakingPoint p v then brakeStep p v
    else (.cruise, cruise)
  | .brake => brakeStep p v
  | .creep => (.creep, p.creep)
  | .pause => (.pause, 0)
  | .hold => (.hold, 0)

/-- A Door Channel driven open takes its next phase and setpoint (R124, R125, R129). -/
def driveOpen (g : UnitGeometry) (remaining : Int) (d : DoorChannel) : DoorChannel :=
  let m := nextMotion g.profile (openingCruise g.profile) remaining d.phase d.setpoint
  { d with phase := m.1, setpoint := m.2 }

/-- A Door Channel driven closed takes its next phase and setpoint (R124, R127). -/
def driveClosed (energy : Option Nat) (g : UnitGeometry) (d : DoorChannel) : DoorChannel :=
  let m := nextMotion g.profile (closingCruise energy g d.attempt) d.position d.phase (-d.setpoint)
  { d with phase := m.1, setpoint := -m.2 }

/-! ### The control period (R121 to R136) -/

/-- The stall watch: a position more than 2 mm from the reference becomes it (R131). -/
def watchStall (u : UnitNo) (s : State) : State :=
  let d := s.dc.get u
  if d.phase != .pause && decide (2 < (d.position - d.stallRef).natAbs) then
    s.setDc u { d with stallRef := d.position, stallTimer := s.timer 300 }
  else s

/-- A period of a movement driven open, which ends by `done` at full travel (R125, R129). -/
def periodOpen (u : UnitNo) (done : State → State) (s : State) : State :=
  if s.remainingOpen u ≤ 0 then done s
  else (watchStall u s).modDc u (driveOpen (s.cl.config.units.get u) (s.remainingOpen u))

/-- The end of closing travel stands (R127). DESIGN CHOICE, log entry 27: whether the unit is in CREEP is read from the phase of the period
before. -/
def State.travelEnded (s : State) (u : UnitNo) : Bool :=
  let d := s.dc.get u
  (s.pins.units.get u).closed &&
    (decide (d.position ≤ 3) ||
      (d.phase == .creep && decide (d.position ≤ (s.cl.config.units.get u).profile.creepDistance)))

/-- A period in CLOSING: the end of travel is judged before the phase and the speed are set (R124, R127; DESIGN CHOICE, log entry 27). -/
def periodClosing (u : UnitNo) (s : State) : State :=
  if s.travelEnded u then enterLocking u s
  else s.modDc u (driveClosed s.cl.config.energy (s.cl.config.units.get u))

/-- A period in HOMING (R136). -/
def periodHoming (u : UnitNo) (s : State) : State :=
  if (s.pins.units.get u).closed then enterLocking u s
  else
    s.modDc u fun d =>
      { d with setpoint := if d.phase == .hold then 0 else -((s.cl.config.units.get u).profile.creep : Int) }

/-- The lock watch's period in CLOSED_LOCKED (R123). -/
def periodLocked (u : UnitNo) (s : State) : State :=
  s.modDc u fun d =>
    { d with lockTimer := if s.closedAndEngaged u then none else if d.lockTimer.isSome then d.lockTimer else s.timer 400 }

/-- A control period of unit `u`, once the drive fault has been read (R121 to R136). -/
def periodByState (u : UnitNo) (s : State) : State :=
  match s.unit u with
  | .closedLocked => periodLocked u s
  | .unlocking => if (s.pins.units.get u).lockEngaged then s else enterOpening u s
  | .opening => periodOpen u (openingDone u) s
  | .closing => periodClosing u s
  | .reversing => periodOpen u (reverseDone u) s
  | .locking => if (s.pins.units.get u).lockEngaged then comeClosed u s else s
  | .homing => periodHoming u s
  | _ => s

/-- A control period: the drive fault first, then the state's own part (R133, log entry 11). -/
def takePeriod (u : UnitNo) (s : State) : State :=
  if (s.dc.get u).enable && s.driveFault u then enterFault .driveFault u s else periodByState u s

/-- The levels of unit `u`'s switches and drive fault input. -/
def setLevels (u : UnitNo) (lockEngaged closed driveFault : Bool) (s : State) : State :=
  s.modPins u fun p => { p with lockEngaged := lockEngaged, closed := closed, driveFault := driveFault }

/-- CONTROL_PERIOD: the levels stand so, the channel acts on them, and the IU evaluates the Secure Contact (R124, R169). -/
def execControlPeriod (u : UnitNo) (lockEngaged closed driveFault : Bool) (s : State) : Host.Outcome State Fault Refusal :=
  .next (onUnit u (fun s => evalContact (takePeriod u s)) (setLevels u lockEngaged closed driveFault s))

/-- A drive fault taken: one that does not stand is the input asserting (R133, log entry 1). -/
def takeDriveFault (u : UnitNo) (s : State) : State :=
  enterFault .driveFault u (if s.driveFault u then s else s.modPins u fun p => { p with driveFault := true })

/-- DRIVE_FAULT_TAKEN; while the enable is off the fault is held and nothing happens (R133). -/
def execDriveFaultTaken (u : UnitNo) (s : State) : Host.Outcome State Fault Refusal :=
  .next (if (s.dc.get u).enable then onUnit u (takeDriveFault u) s else s)

/-! ### The lock (R121 to R123) -/

/-- UNLOCK_COMPLETE: the lock switch reads RELEASED (R121). -/
def execUnlockComplete (u : UnitNo) (s : State) : Host.Outcome State Fault Refusal :=
  .next (onUnitIn u .unlocking (fun s => enterOpening u (s.modPins u fun p => { p with lockEngaged := false })) s)

/-- An unlock failure: back to CLOSED_LOCKED, counted and reported (R121). -/
def failUnlock (u : UnitNo) (s : State) : State :=
  enterClosedLocked u (report .unlockFail .minor (some u)
    (s.modUnitCounters u fun c => { c with unlockFails := c.unlockFails.bump }))

/-- UNLOCK_TIMEOUT (R121). -/
def execUnlockTimeout (u : UnitNo) (s : State) : Host.Outcome State Fault Refusal :=
  .next (onUnitTimer u (fun st => st == .unlocking) DoorChannel.lockTimer (failUnlock u) s)

/-- LOCK_COMPLETE: the lock switch reads ENGAGED (R122). -/
def execLockComplete (u : UnitNo) (s : State) : Host.Outcome State Fault Refusal :=
  .next (onUnitIn u .locking (fun s => comeClosed u (s.modPins u fun p => { p with lockEngaged := true })) s)

/-- LOCKING_TIMEOUT (R122). -/
def execLockingTimeout (u : UnitNo) (s : State) : Host.Outcome State Fault Refusal :=
  .next (onUnitTimer u (fun st => st == .locking) DoorChannel.lockTimer (enterFault .lockFault u) s)

/-- LOCK_WATCH_TIMEOUT (R123). -/
def execLockWatchTimeout (u : UnitNo) (s : State) : Host.Outcome State Fault Refusal :=
  .next (onUnitTimer u (fun st => st == .closedLocked) DoorChannel.lockTimer (enterFault .lockFault u) s)

/-! ### Ends of movements (R120, R125, R127, R129) -/

/-- The leaves stand at full travel or past it: the remaining distance is 0 or less. -/
def atFullTravel (u : UnitNo) (s : State) : State :=
  s.modDc u fun d => { d with position := max d.position (s.cl.config.units.get u).travel }

/-- OPENING_COMPLETE (R125). -/
def execOpeningComplete (u : UnitNo) (s : State) : Host.Outcome State Fault Refusal :=
  .next (onUnitIn u .opening (fun s => openingDone u (atFullTravel u s)) s)

/-- PENDING_CLOSE_TAKEN: OPEN is entered with the mark set (R120). -/
def execPendingCloseTaken (u : UnitNo) (s : State) : Host.Outcome State Fault Refusal :=
  .next
    (if (s.dc.get u).pendingClose then onUnitIn u .opening (fun s => openingDone u (atFullTravel u s)) s else s)

/-- CLOSING_TRAVEL_END: the closed switch reads CLOSED at the end of travel (R127). -/
def execClosingTravelEnd (u : UnitNo) (s : State) : Host.Outcome State Fault Refusal :=
  .next (onUnitIn u .closing (fun s => enterLocking u (s.modPins u fun p => { p with closed := true })) s)

/-- REVERSING_COMPLETE (R129). -/
def execReversingComplete (u : UnitNo) (s : State) : Host.Outcome State Fault Refusal :=
  .next (onUnitIn u .reversing (fun s => reverseDone u (atFullTravel u s)) s)

/-- OBSTACLE_CURRENT: the over-threshold count reaches 3 in CLOSING, or in HOMING while it drives (R128, R136). -/
def execObstacleCurrent (u : UnitNo) (s : State) : Host.Outcome State Fault Refusal :=
  .next
    (if (s.dc.get u).closes then onUnit u (fun s => obstacle u (s.modDc u fun d => { d with overCount := 3 })) s else s)

/-! ### Pauses, stalls and travel time (R130 to R132) -/

/-- The pause of REOPEN_WAIT has ended (R130). -/
def endReopenPause (u : UnitNo) (s : State) : State :=
  if (s.dc.get u).attempt < s.cl.config.params.maxAttempts then enterClosing ((s.dc.get u).attempt + 1) u s
  else enterHeldOpen u s

/-- REOPEN_PAUSE_END (R130). -/
def execReopenPauseEnd (u : UnitNo) (s : State) : Host.Outcome State Fault Refusal :=
  .next (onUnitTimer u (fun st => st == .reopenWait) DoorChannel.pauseTimer (endReopenPause u) s)

/-- A stall: one more is counted, and the drive pauses, or at the third the unit enters FAULT with TRAVEL_INCOMPLETE (R131). -/
def takeStall (u : UnitNo) (s : State) : State :=
  let d := s.dc.get u
  if 2 ≤ d.stallCount then enterFault .travelIncomplete u (s.setDc u { d with stallCount := d.stallCount + 1 })
  else
    s.setDc u
      { d with
        stallCount := d.stallCount + 1, phase := .pause, setpoint := 0, stallTimer := none, pauseTimer := s.timer 500 }

/-- STALL_TIMER_EXPIRY (R131). -/
def execStallTimerExpiry (u : UnitNo) (s : State) : Host.Outcome State Fault Refusal :=
  .next (onUnitTimer u UnitState.drivenOpen DoorChannel.stallTimer (takeStall u) s)

/-- The stall pause has ended: the movement restarts from speed 0 (R131). -/
def endStallPause (u : UnitNo) (s : State) : State :=
  s.modDc u fun d =>
    { d with
      phase := .accelerate, setpoint := 0, stallRef := d.position, stallTimer := s.timer 300, pauseTimer := none }

/-- STALL_PAUSE_END (R131). -/
def execStallPauseEnd (u : UnitNo) (s : State) : Host.Outcome State Fault Refusal :=
  .next (onUnitTimer u UnitState.drivenOpen DoorChannel.pauseTimer (endStallPause u) s)

/-- TRAVEL_TIMER_EXPIRY (R132). -/
def execTravelTimerExpiry (u : UnitNo) (s : State) : Host.Outcome State Fault Refusal :=
  .next (onUnitTimer u UnitState.travels DoorChannel.travelTimer (enterFault .travelIncomplete u) s)

/-! ### Homing (R136) -/

/-- HOMING_CLOSED: the closed switch reads CLOSED (R136). -/
def execHomingClosed (u : UnitNo) (s : State) : Host.Outcome State Fault Refusal :=
  .next (onUnitIn u .homing (fun s => enterLocking u (s.modPins u fun p => { p with closed := true })) s)

/-- The wait has ended: the leaves drive closed again, unless an obstacle still stands or the retries are spent (R136). That the
over-threshold count starts at 0 again is a DESIGN CHOICE (log entry 18), and so is HOME_FAIL at the end of a wait with the retries
spent, which no run reaches (log entry 24). -/
def endHomingWait (u : UnitNo) (s : State) : State :=
  let d := s.dc.get u
  if d.retries < 3 then
    let s := s.setDc u { d with retries := d.retries + 1, phase := .creep, pauseTimer := none, overCount := 0 }
    if s.obstructed u then stopOnObstacle u s else s
  else enterFault .homeFail u s

/-- HOMING_WAIT_END (R136). -/
def execHomingWaitEnd (u : UnitNo) (s : State) : Host.Outcome State Fault Refusal :=
  .next (onUnitTimer u (fun st => st == .homing) DoorChannel.pauseTimer (endHomingWait u) s)

/-- HOMING_TIMER_EXPIRY (R136). -/
def execHomingTimerExpiry (u : UnitNo) (s : State) : Host.Outcome State Fault Refusal :=
  .next (onUnitTimer u (fun st => st == .homing) DoorChannel.homingTimer (enterFault .homeFail u) s)

end Sys2Proof.Machine
end

