-- ==== Sys2Proof/Machine/Line.lean ====
section
/-! DEFINITION. The Line Controller's sending: attempts and their three ends, LINE_QUIET, and discarded frames (sections 3.4
and 3.5). -/

namespace Sys2Proof.Machine

/-- The entry on the line, if an attempt is under way. -/
def State.onLine (s : State) : Option TxEntry := s.lc.queue.find? fun e => e.onLine

/-- The frame on the line: the entry under way, with the own number as its source (R1, R39). -/
def State.lineFrame (s : State) : Option Frame := s.onLine.map fun e => ⟨s.cl.own, e.kind, e.payload⟩

/-- The bytes that the frame on the line carries: header with the own number, payload and check (R1, R39, section 3.6). -/
def State.lineBytes (s : State) : Option (List Byte) := s.lineFrame.map Frame.bytes

/-- An attempt begins with the head (R47). -/
def beginAttempt (s : State) : State :=
  match s.lc.queue with
  | [] => s
  | e :: q => s.setQueue ({ e with onLine := true } :: q)

/-- ATTEMPT_START (R47, R50, R53). -/
def execAttemptStart (s : State) : Host.Outcome State Fault Refusal :=
  .next (if s.canSend && s.onLine.isNone then beginAttempt s else s)

/-- An entry leaves the line; a beacon takes its successor as its payload (R48). -/
def TxEntry.offLine (e : TxEntry) : TxEntry :=
  { e with onLine := false, payload := e.successor.getD e.payload, successor := none }

/-- The entry that was on the line stays in its place (R47, R48). -/
def endAttempt (s : State) : State := s.setQueue (s.lc.queue.map fun e => if e.onLine then e.offLine else e)

/-- The entry that was on the line leaves the queue, unless it is a beacon with a successor (R48, R50). -/
def takeSent (s : State) : State :=
  (s.setQueue (s.lc.queue.filterMap fun e =>
    if e.onLine then if e.successor.isSome then some e.offLine else none else some e)).modLc fun l => { l with errors := 0 }

/-- SENT_IN_FULL (R50, R48, R46). -/
def execSentInFull (s : State) : Host.Outcome State Fault Refusal :=
  .next
    (match s.onLine with
    | none => s
    | some e => if s.takes then finish (reportGone e (takeSent s)) else s)

/-- ARBITRATION_LOST (R40, R50). It takes an entry off the line even while a reported reset waits, which empties the queue. -/
def execArbitrationLost (s : State) : Host.Outcome State Fault Refusal :=
  .next (if s.acts && s.onLine.isSome then endAttempt s else s)

/-- The LC enters LINE_QUIET (R52). -/
def enterLineQuiet (s : State) : State :=
  report .lineQuiet .minor none
    ((s.modLc fun l => { l with line := .lineQuiet, quietTimer := s.timer 2000 }).modNodeCounters fun c =>
      { c with lineQuietEvents := c.lineQuietEvents.bump })

/-- The consecutive transmit-error count rises; the 32nd error brings LINE_QUIET (R51, R52). -/
def countError (s : State) : State :=
  let s := s.modLc fun l => { l with errors := min 32 (l.errors + 1) }
  if 32 ≤ s.lc.errors then enterLineQuiet s else s

/-- TRANSMIT_ERROR (R51, R52). -/
def execTransmitError (s : State) : Host.Outcome State Fault Refusal :=
  .next (if s.takes && s.onLine.isSome then finish (countError (endAttempt s)) else s)

/-- The LC returns to ACTIVE (R52). -/
def leaveLineQuiet (s : State) : State := s.modLc fun l => { l with line := .active, errors := 0, quietTimer := none }

/-- LINE_QUIET_EXPIRY (R52). -/
def execLineQuietExpiry (s : State) : Host.Outcome State Fault Refusal :=
  .next (if s.takes then onExpiry s.lc.quietTimer leaveLineQuiet s else s)

/-- DISCARDED_FRAME: what was heard fails a check of R41 or R42, and is counted. Bytes that pass every check are no discarded
frame, and the command does nothing (log entry 1). -/
def execDiscardedFrame (heard : List Byte) (framing : Bool) (s : State) : Host.Outcome State Fault Refusal :=
  .next (if s.hears && (acceptBytes heard framing).isNone then countDiscard s else s)

end Sys2Proof.Machine
end

