-- ==== Sys2Proof/Config.lean ====
section
/-! DEFINITION. The free values: values the manual does not state. Each is an opaque constant: nothing in Lean can
evaluate it, so every statement holds whatever it is. The ones that may differ at each use are applied to
the counter `State.freeCount`. -/

namespace Sys2Proof

/-- FREE VALUE (log entry 8). R7 refuses a unit whose PED opening leaves chainage 0 to 400,000 with "the offset of the
failing field" and does not say which of the two fields of the opening, p_u or H_u, is the failing one. True: H_u. -/
opaque Config.openingChargedToHalfWidth : Bool

/-- FREE VALUE (log entry 9). The three bytes a BERTH answer sends for an S0 that is absent: R193's table gives no absent
code for S0. -/
opaque Config.absentS0 : Nat → BitVec 24

/-- FREE VALUE (log entry 9). The four bytes a PEER answer sends for an absent pairing time: R193's table gives no code. -/
opaque Config.absentPairingTime : Nat → BitVec 32

/-- FREE VALUE (log entry 9). The eight bytes a PEER answer sends for an absent last beacon: R193's table gives no code. -/
opaque Config.absentLastBeacon : Nat → BitVec 64

/-- FREE VALUE (log entry 9). The bits of an answer byte to which R193's table gives no field. -/
opaque Config.unusedBits : Nat → BitVec 8

end Sys2Proof
end

