-- ==== Sys2Proof/Machine/Record.lean ====
section
/-! DEFINITION. The configuration record (section 1.2): its checks in order, the clamped fields, and the configuration built
from a record that passed (R3 to R13) or taken in place of one that did not (R18). -/

namespace Sys2Proof.Machine

/-! ### Fields -/

/-- The byte at an offset of a record. -/
def field1 (r : List Byte) (o : Nat) : Nat := (r.getD o 0).toNat

/-- The two-byte field at an offset, most significant byte first. -/
def field2 (r : List Byte) (o : Nat) : Nat := field1 r o * 256 + field1 r (o + 1)

/-- The three-byte field at an offset, most significant byte first. -/
def field3 (r : List Byte) (o : Nat) : Nat := field1 r o * 65536 + field2 r (o + 1)

/-- A value lies in a range, both ends included. -/
def inRange (lo hi n : Nat) : Bool := decide (lo ≤ n) && decide (n ≤ hi)

/-- The nearer bound of a clamped field's range, or the value itself within it (R9). -/
def clamp (lo hi n : Nat) : Nat := if n < lo then lo else if hi < n then hi else n

/-- What a clamped field adds to the tally (R9). -/
def clampCount (lo hi n : Nat) : Nat := if inRange lo hi n then 0 else 1

/-- The reasons whose outcome carries offset 0 and no index, and the general form (R11). -/
def LoadOutcome.refused (reason : LoadReason) (offset : Nat) (index : Option Nat) : LoadOutcome := ⟨reason, offset, index, 0⟩

/-! ### The clamped fields (R9) -/

/-- A clamped field: its offset, its size in bytes (1 or 2), its range. -/
structure Clamped where
  offset : Nat
  wide : Bool
  lo : Nat
  hi : Nat
  deriving DecidableEq, Repr

/-- The field as the record holds it. -/
def Clamped.raw (c : Clamped) (r : List Byte) (base : Nat) : Nat :=
  if c.wide then field2 r (base + c.offset) else field1 r (base + c.offset)

/-- The field brought into its range. -/
def Clamped.value (c : Clamped) (r : List Byte) (base : Nat) : Nat := clamp c.lo c.hi (c.raw r base)

/-- Its part of the tally. -/
def Clamped.count (c : Clamped) (r : List Byte) (base : Nat) : Nat := clampCount c.lo c.hi (c.raw r base)

/-- MIN_CLEAR (record offset 9). -/
def Clamped.minClear : Clamped := ⟨9, true, 600, 1400⟩
/-- STOP_TOL (offset 11). -/
def Clamped.stopTol : Clamped := ⟨11, true, 100, 1000⟩
/-- FUSION_WINDOW (offset 13). -/
def Clamped.fusionWindow : Clamped := ⟨13, true, 300, 2000⟩
/-- WARN_TIME (offset 15). -/
def Clamped.warnTime : Clamped := ⟨15, true, 2000, 5000⟩
/-- HOLD_MAX (offset 17). -/
def Clamped.holdMax : Clamped := ⟨17, true, 0, 8000⟩
/-- REOPEN_PAUSE (offset 19). -/
def Clamped.reopenPause : Clamped := ⟨19, true, 1000, 5000⟩
/-- MAX_CLOSE_ATTEMPTS (offset 21). -/
def Clamped.maxAttempts : Clamped := ⟨21, false, 1, 5⟩
/-- TRAVEL_TIMEOUT (offset 22). -/
def Clamped.travelTimeout : Clamped := ⟨22, true, 2000, 8000⟩
/-- The energy limit E (offset 24). -/
def Clamped.energy : Clamped := ⟨24, false, 1, 10⟩

/-- The nine clamped fields of the node part. -/
def Clamped.ofNode : List Clamped :=
  [Clamped.minClear, Clamped.stopTol, Clamped.fusionWindow, Clamped.warnTime, Clamped.holdMax, Clamped.reopenPause,
    Clamped.maxAttempts, Clamped.travelTimeout, Clamped.energy]

/-- Custom open cruise (unit entry offset 10). -/
def Clamped.openCruise : Clamped := ⟨10, true, 100, 800⟩
/-- Custom close cruise (offset 12). -/
def Clamped.closeCruise : Clamped := ⟨12, true, 100, 800⟩
/-- Custom acceleration (offset 14). -/
def Clamped.accel : Clamped := ⟨14, true, 300, 1500⟩
/-- Custom creep speed (offset 16). -/
def Clamped.creep : Clamped := ⟨16, false, 20, 100⟩
/-- Custom creep distance (offset 17). -/
def Clamped.creepDistance : Clamped := ⟨17, false, 50, 200⟩
/-- Obstacle current threshold (offset 18). -/
def Clamped.threshold : Clamped := ⟨18, true, 1000, 8000⟩

/-- The five custom profile fields of a unit entry with template index 4. -/
def Clamped.ofProfile : List Clamped :=
  [Clamped.openCruise, Clamped.closeCruise, Clamped.accel, Clamped.creep, Clamped.creepDistance]

/-! ### Unit entries (R7, R10) -/

/-- The offset of unit `u`'s entry. -/
def unitEntry (u : UnitNo) : Nat := 26 + 20 * u.val

/-- The units below the record's unit count. -/
def recordUnits (r : List Byte) : List UnitNo := UnitNo.all.filter fun u => decide (u.val < field1 r 6)

/-- The built-in templates A to D (section 7.4), and none for another index. -/
def Profile.template : Nat → Profile
  | 0 => ⟨300, 250, 600, 40, 80⟩
  | 1 => ⟨450, 400, 800, 50, 100⟩
  | 2 => ⟨600, 500, 1000, 60, 100⟩
  | 3 => ⟨700, 600, 1200, 60, 120⟩
  | _ => Profile.none

/-- The smaller of a unit's clamped custom cruise speeds. -/
def smallerCruise (r : List Byte) (base : Nat) : Nat :=
  min (Clamped.openCruise.value r base) (Clamped.closeCruise.value r base)

/-- A unit's resolved profile (R10). -/
def resolveProfile (r : List Byte) (base : Nat) : Profile :=
  if field1 r (base + 9) = 4 then
    { openCruise := Clamped.openCruise.value r base, closeCruise := Clamped.closeCruise.value r base
      accel := Clamped.accel.value r base, creep := min (Clamped.creep.value r base) (smallerCruise r base)
      creepDistance := Clamped.creepDistance.value r base }
  else Profile.template (field1 r (base + 9))

/-- What a unit entry adds to the clamp tally: its threshold, and under template 4 its five custom values and the lowering of
its creep speed (R9, R10). -/
def unitTally (r : List Byte) (base : Nat) : Nat :=
  Clamped.threshold.count r base +
    if field1 r (base + 9) = 4 then
      (Clamped.ofProfile.map fun c => c.count r base).sum +
        if smallerCruise r base < Clamped.creep.value r base then 1 else 0
    else 0

/-- A unit's Geometry Table entry (R12). -/
def unitGeometry (r : List Byte) (u : UnitNo) : UnitGeometry :=
  let base := unitEntry u
  { centre := field3 r base, halfWidth := field2 r (base + 3), skew := field1 r (base + 5), travel := field2 r (base + 6)
    mass := field1 r (base + 8), profile := resolveProfile r base, threshold := Clamped.threshold.value r base }

/-- The PED opening leaves chainage 0 to 400,000 (R7). -/
def openingOutside (g : UnitGeometry) : Bool := decide (g.centre < g.halfWidth) || decide (400000 < g.centre + g.halfWidth)

/-- The offset, within the unit entry, of its first field that fails (R7). Which field an opening off the platform is charged to
is a free value (log entry 8). -/
def unitEntryFails (r : List Byte) (u : UnitNo) : Option Nat :=
  let g := unitGeometry r u
  if 400000 < g.centre then some 0
  else if openingOutside g && !Config.openingChargedToHalfWidth then some 0
  else if !inRange 400 1500 g.halfWidth then some 3
  else if openingOutside g then some 3
  else if !inRange 0 200 g.skew then some 5
  else if !inRange 600 1600 g.travel then some 6
  else if !inRange 20 200 g.mass then some 8
  else if !inRange 0 4 (field1 r (unitEntry u + 9)) then some 9
  else none

/-- Two openings share a stretch longer than 0 mm (R7). -/
def openingsShare (a b : UnitGeometry) : Bool :=
  decide (max ((a.centre : Int) - a.halfWidth) ((b.centre : Int) - b.halfWidth) <
    min ((a.centre : Int) + a.halfWidth) ((b.centre : Int) + b.halfWidth))

/-- The unit entries' first failure: a field, unit by unit, and then a pair of openings, charged to the higher-numbered unit (R7).
Where several pairs overlap, the pair whose higher-numbered unit is the lowest gives the outcome: R7 gives no order of the pairs, and
this one is a DESIGN CHOICE (log entry 13). -/
def unitsFail (r : List Byte) : Option LoadOutcome :=
  match (recordUnits r).findSome? fun u => (unitEntryFails r u).map fun o => (u, o) with
  | some (u, o) => some (LoadOutcome.refused .unitField (unitEntry u + o) (some u.val))
  | none =>
    ((recordUnits r).find? fun u =>
      (recordUnits r).any fun v => decide (v.val < u.val) && openingsShare (unitGeometry r u) (unitGeometry r v)).map
      fun u => LoadOutcome.refused .unitField (unitEntry u) (some u.val)

/-! ### The structure (R5) -/

/-- Walk `n` consist entries from an offset: the failing offset, if the walk fails. -/
def walkConsists (r : List Byte) (length : Nat) : Nat → Nat → Option Nat
  | 0, pos => if pos + 2 = length then none else some 0
  | n + 1, pos =>
    if length ≤ pos + 2 then some 0
    else if inRange 1 10 (field1 r pos) then walkConsists r length n (pos + 1 + 23 * field1 r pos)
    else some pos

/-- The failing offset of the structure check. -/
def structureFails (r : List Byte) (length : Nat) : Option Nat :=
  if inRange 1 6 (field1 r 25) then walkConsists r length (field1 r 25) 106 else some 25

/-- The offsets at which the `n` consist entries from an offset stand. -/
def consistOffsets (r : List Byte) : Nat → Nat → List Nat
  | 0, _ => []
  | n + 1, pos => pos :: consistOffsets r n (pos + 1 + 23 * field1 r pos)

/-! ### Node fields (R6) -/

/-- The offset of the first node field that fails. -/
def nodeFieldFails (r : List Byte) (own : Node) : Option Nat :=
  if !inRange 0 7 (field1 r 3) then some 3
  else if !inRange 0 40 (field1 r 4) || field1 r 4 == own.toNat then some 4
  else if !inRange 0 40 (field1 r 5) || field1 r 5 == own.toNat || (field1 r 5 != 0 && field1 r 5 == field1 r 4) then some 5
  else if !inRange 1 4 (field1 r 6) then some 6
  else if !inRange 0 1 (field1 r 7) then some 7
  else if !inRange 0 1 (field1 r 8) then some 8
  else none

/-! ### Consists (R8, R13) -/

/-- The offsets of the car entries of the consist entry at `pos`. -/
def carOffsets (r : List Byte) (pos : Nat) : List Nat := (List.range (field1 r pos)).map fun j => pos + 1 + 23 * j

/-- The first failing offset of `n` door slots from an offset, behind a door at `last` (0 for none) in a car of `length`. -/
def doorsFail (r : List Byte) (length : Nat) : Nat → Nat → Nat → Option Nat
  | 0, _, _ => none
  | n + 1, pos, last =>
    if !inRange 1 (length - 1) (field2 r pos) || decide (field2 r pos ≤ last) then some pos
    else if !inRange 300 900 (field2 r (pos + 2)) then some (pos + 2)
    else doorsFail r length n (pos + 4) (field2 r pos)

/-- The first failing offset of the car entry at `pos`. -/
def carFails (r : List Byte) (pos : Nat) : Option Nat :=
  if !inRange 8000 26000 (field2 r pos) then some pos
  else if !inRange 0 5 (field1 r (pos + 2)) then some (pos + 2)
  else doorsFail r (field2 r pos) (field1 r (pos + 2)) (pos + 3) 0

/-- The first failing offset of the consist entry at `pos`: one with no door at its car count (R8). -/
def consistFails (r : List Byte) (pos : Nat) : Option Nat :=
  if (carOffsets r pos).all fun c => field1 r (c + 2) == 0 then some pos else (carOffsets r pos).findSome? (carFails r)

/-- The consist entries' first failure. -/
def consistsFail (r : List Byte) : Option LoadOutcome :=
  ((consistOffsets r (field1 r 25) 106).zipIdx.findSome? fun (pos, i) => (consistFails r pos).map fun o => (i, o)).map
    fun (i, o) => LoadOutcome.refused .consistField o (some i)

/-- The running sums of the car lengths of the cars at the given offsets, from `sum` on. -/
def cumulate (r : List Byte) : List Nat → Nat → List Nat
  | [], sum => [sum]
  | c :: l, sum => sum :: cumulate r l (sum + field2 r c)

/-- The doors of `n` slots from an offset in the car of index `car` whose front stands at `front`. -/
def carDoors (r : List Byte) (car front : Nat) : Nat → Nat → List TrainDoor
  | 0, _ => []
  | n + 1, pos => ⟨front + field2 r pos, car, field2 r (pos + 2)⟩ :: carDoors r car front n (pos + 4)

/-- The consist built from the entry at `pos`: the cumulative lengths and the door list (R13). -/
def buildConsist (r : List Byte) (pos : Nat) : Consist :=
  let cars := carOffsets r pos
  let lengths := cumulate r cars 0
  { lengths := lengths
    doors := (cars.zipIdx.map fun (c, j) => carDoors r (j + 1) (lengths.getD j 0) (field1 r (c + 2)) (c + 3)).flatten }

/-! ### The checks in order, and what they build -/

/-- The clamp tally of a record that passes (R9). -/
def clampTally (r : List Byte) : Nat :=
  (Clamped.ofNode.map fun c => c.count r 0).sum + ((recordUnits r).map fun u => unitTally r (unitEntry u)).sum

/-- The record passes the check of R3. -/
def checkPasses (r : List Byte) (length : Nat) : Bool :=
  bytes2 (recordCheck (r.take (length - 2))) == (r.take length).drop (length - 2)

/-- The load outcome of a record of `length` bytes on a node whose strap value is `own` (R3 to R9, R11). -/
def judgeRecord (r : List Byte) (length : Nat) (own : Node) : LoadOutcome :=
  if !checkPasses r length then LoadOutcome.refused .check 0 none
  else if field1 r 2 != own.toNat then LoadOutcome.refused .strap 0 none
  else
    match structureFails r length with
    | some o => LoadOutcome.refused .structural o none
    | none =>
      match nodeFieldFails r own with
      | some o => LoadOutcome.refused .nodeField o none
      | none =>
        match unitsFail r with
        | some x => x
        | none =>
          match consistsFail r with
          | some x => x
          | none => ⟨.ok, 0, none, clampTally r⟩

/-- The configuration a record gives (R6, R9, R10, R12, R13). -/
def buildConfig (r : List Byte) : NodeConfig :=
  { faceId := byte (field1 r 3), up := BitVec.ofNat 6 (field1 r 4), down := BitVec.ofNat 6 (field1 r 5)
    unitCount := field1 r 6, pulseMode := field1 r 7 == 1, minorDrive := field1 r 8 == 1
    params :=
      { minClear := Clamped.minClear.value r 0, stopTol := Clamped.stopTol.value r 0
        fusionWindow := Clamped.fusionWindow.value r 0, warnTime := Clamped.warnTime.value r 0
        holdMax := Clamped.holdMax.value r 0, reopenPause := Clamped.reopenPause.value r 0
        maxAttempts := Clamped.maxAttempts.value r 0, travelTimeout := Clamped.travelTimeout.value r 0 }
    energy := some (Clamped.energy.value r 0)
    units := Quad.build fun u => if u.val < field1 r 6 then unitGeometry r u else UnitGeometry.none
    consists := (consistOffsets r (field1 r 25) 106).map (buildConsist r) }

/-- A unit's geometry under the fallback configuration (R18). R18 gives no p_u, H_u, skew allowance and moving mass: that they are
0 is a DESIGN CHOICE (log entry 17). -/
def UnitGeometry.fallback : UnitGeometry :=
  { UnitGeometry.none with travel := 600, profile := ⟨150, 150, 600, 40, 80⟩, threshold := 4000 }

/-- The fallback configuration over a unit count (R18). -/
def NodeConfig.fallback (count : Nat) : NodeConfig :=
  { faceId := 0, up := 0, down := 0, unitCount := count, pulseMode := false, minorDrive := true
    params :=
      { minClear := 1100, stopTol := 500, fusionWindow := 800, warnTime := 3000, holdMax := 4000, reopenPause := 2000
        maxAttempts := 3, travelTimeout := 5000 }
    energy := Option.none
    units := Quad.build fun u => if u.val < count then UnitGeometry.fallback else UnitGeometry.none
    consists := [] }

/-- The unit count of the fallback configuration after a record was read: the record's own if it passed the check of R3 and
the count lies in 1 to 4, otherwise 4 (R18). -/
def fallbackCount (r : List Byte) (length : Nat) : Nat :=
  if checkPasses r length && inRange 1 4 (field1 r 6) then field1 r 6 else 4

end Sys2Proof.Machine
end

