-- ==== Sys2Proof/Machine/Loading.lean ====
section
/-! DEFINITION. Supply, resets and start-up: the resets and what survives them, the load and its end, and the entries to
RUNNING and to the serving part of CONFIG_FAULT (chapters 1 and 2). -/

namespace Sys2Proof.Machine

/-! ### The load end (R15, R18, R32, R118) -/

/-- A LATCHED cell as started at the load end: its live level from the raw input, HELD if that is ASSERTED (R32). -/
def startLatched (raw : Bool) : Latched := ⟨raw, raw⟩

/-- A configured unit's cells, streams and filters start (R32). -/
def startUnitSensing (u : UnitNo) (s : State) : State :=
  if s.configured u then
    (startSensing u s).modSu u fun x =>
      { x with
        handle := startLatched (s.pins.units.get u).handle, panel := startLatched (s.pins.units.get u).panel
        alignTimer := s.timer 40 }
  else s

/-- The start state of a unit, by the first test that holds (R118). -/
def State.startState (s : State) (u : UnitNo) : UnitState :=
  if (s.su.units.get u).handle.live then .manualReleased
  else if (s.dc.get u).isolationMark then .isolated
  else if s.closedAndEngaged u then .closedLocked
  else .unknown

/-- A configured unit takes its start state; the mark of a unit that is not configured is cleared (R15, R118). The phase HOLD of a start
state is a DESIGN CHOICE (log entry 29). -/
def startUnit (u : UnitNo) (s : State) : State :=
  if s.configured u then
    let d := (s.dc.get u).into (s.startState u)
    moveUnit u (if s.startState u == .closedLocked then { d with position := 0 } else d) s
  else s.modDc u fun d => { d with isolationMark := false }

/-- Captures found HELD at the load end are taken as operations (R171, R175). Of several, unit by unit and each unit's handle before
its panel: DESIGN CHOICE, log entry 23. -/
def takeCaptures (u : UnitNo) (s : State) : State :=
  if s.configured u then
    let s := if (s.su.units.get u).handle.held then noteHandle u s else s
    if (s.su.units.get u).panel.held then notePanel u s else s
  else s

/-- The load's report to the FR (R9, R11). -/
def reportLoad (o : LoadOutcome) (s : State) : State :=
  match o.reason with
  | .ok => if 0 < o.clamps then report .configClamped .minor none s else s
  | .unitField => report .configFault .severe (o.index.bind UnitNo.ofNat?) s
  | _ => report .configFault .severe none s

/-- The CL at the end of a load. -/
def Loader.ended (l : Loader) (o : LoadOutcome) (c : NodeConfig) (t : Option Time) : Loader :=
  if o.reason = .ok then { l with phase := .listen, outcome := some o, config := c, listenTimer := t }
  else { l with phase := .configFault, outcome := some o, config := c, quietTimer := if isBay l.own then t else none }

/-- The load ends with an outcome and the configuration in force from now on (R15, R16, R18, R19; orders: log entry 12). -/
def endLoad (o : LoadOutcome) (c : NodeConfig) (s : State) : State :=
  let s := reportLoad o (s.modCl fun l => l.ended o c (s.timer 600))
  let s := forUnits startUnitSensing { s with su := { s.su with wire := freshCell s.pins.wire 50 s } }
  driveLines (forUnits takeCaptures (forUnits startUnit s))

/-- The load ends in CONFIG_FAULT before any record has passed its check (R1, R2). -/
def refuseLoad (reason : LoadReason) (s : State) : State :=
  endLoad (LoadOutcome.refused reason 0 none) (NodeConfig.fallback 4) s

/-! ### Resets (R15, R20, R35, R36) -/

/-- A fault line through a node reset: a pulse ends, a line held by its flag in LEVEL mode stays (R35). -/
def State.heldLine (s : State) (level flag drive : Bool) : Bool :=
  level && (s.cl.phase == .loading || (!s.cl.config.pulseMode && flag && drive))

/-- A Door Channel with its outputs off. -/
def DoorChannel.off (d : DoorChannel) : DoorChannel := { d with enable := false, solenoid := false, setpoint := 0 }

/-- The outputs held safe, no pulse under way, and an attempt abandoned: nothing is on the line (R35, R36, R53). -/
def holdSafe (s : State) : State :=
  { endAttempt s with
    dc := Quad.build fun u => (s.dc.get u).off
    fr := { s.fr with severePulse := none, minorPulse := none }
    out :=
      { warning := false, contact := false, severeOut := s.heldLine s.out.severeOut s.fr.severe.isSome true
        minorOut := s.heldLine s.out.minorOut s.fr.minor.isSome s.cl.config.minorDrive } }

/-- LOADING begins with the straps as they stand: a value that is no bay controller's ends it at once (R1, R15). -/
def startLoading (s : State) : State := if s.strapOk then s else refuseLoad .strap s

/-- Power-on values everywhere; the pins' levels, the queue of commands and the model's own counter stand. -/
def powerOnValues (straps : BitVec 6) (s : State) : State :=
  { State.reset with
    resetLow := s.resetLow, pins := { s.pins with straps := straps }, cl := Loader.loading straps
    freeCount := s.freeCount, pending := s.pending }

/-- A node reset: everything restarts but the isolation marks, ACCESS_LOCK, the Fault Capture and the counters (R20, R35). -/
def nodeReset (straps : BitVec 6) (s : State) : State :=
  startLoading
    { State.reset with
      pins := { s.pins with straps := straps }, cl := Loader.loading straps
      dc := Quad.build fun u => DoorChannel.reset (s.dc.get u).isolationMark
      iu := InterlockUnit.reset s.iu.accessLock
      fr := { s.fr with severePulse := none, minorPulse := none, resetDue := false, resetReported := false }
      out := (holdSafe s).out, freeCount := s.freeCount, pending := s.pending }

/-- POWER_ON_RESET: the supply has risen; the part takes its power-on values and LOADING begins, unless the reset pin still holds
it (R36). -/
def execPowerOnReset (straps : BitVec 6) (s : State) : Host.Outcome State Fault Refusal :=
  .next (if s.resetLow then powerOnValues straps s else startLoading (powerOnValues straps s))

/-- SUPPLY_FALL: the outputs are held safe, and nothing is sent, until the supply rises (R34, R36). -/
def execSupplyFall (s : State) : Host.Outcome State Fault Refusal := .next { holdSafe s with supply := false }

/-- RESET_PIN_LOW: the outputs are held safe, an attempt under way is abandoned, and no block acts while the pin stays low (R35, R36,
R53). -/
def execResetPinLow (s : State) : Host.Outcome State Fault Refusal := .next { holdSafe s with resetLow := true }

/-- RESET_PIN_RELEASE: a pin that was low goes high, and a powered part starts LOADING (R36). -/
def execResetPinRelease (straps : BitVec 6) (s : State) : Host.Outcome State Fault Refusal :=
  .next
    (if !s.resetLow then s
    else if s.supply then nodeReset straps s
    else { s with resetLow := false })

/-- COMMANDED_RESET: once the RESULT of a RESET_NODE has been reported, the node resets as by the pin (R36, R195). -/
def execCommandedReset (straps : BitVec 6) (s : State) : Host.Outcome State Fault Refusal :=
  .next (if s.acts && s.fr.resetReported then nodeReset straps s else s)

/-! ### The load (R2 to R11) -/

/-- A pass that a failed read ended: a new one starts, or the third failure ends the load (R2). -/
def failPass (s : State) : State :=
  if s.cl.failures < 2 then s.modCl fun l => { l with failures := l.failures + 1 } else refuseLoad .link s

/-- A whole record has been read. -/
def takeRecord (record : List Byte) (length : Nat) (s : State) : State :=
  let o := judgeRecord record length s.cl.own
  endLoad o (if o.reason = .ok then buildConfig record else NodeConfig.fallback (fallbackCount record length)) s

/-- What a pass delivered: the length first, then the record. A pass that ends before its bytes do is a failed read (R2). -/
def takePass (bytes : List Byte) (s : State) : State :=
  if bytes.length < 2 then failPass s
  else if !inRange 132 1494 (field2 bytes 0) then refuseLoad .length s
  else if bytes.length < field2 bytes 0 then failPass s
  else takeRecord (bytes.take (field2 bytes 0)) (field2 bytes 0) s

/-- The CL is reading the configuration memory. -/
def State.reading (s : State) : Bool := s.acts && s.cl.phase == .loading

/-- CONFIG_READ_PASS_COMPLETE (R2 to R11). -/
def execConfigReadPassComplete (bytes : List Byte) (s : State) : Host.Outcome State Fault Refusal :=
  .next (if s.reading then takePass bytes s else s)

/-- CONFIG_READ_FAIL (R2). -/
def execConfigReadFail (s : State) : Host.Outcome State Fault Refusal := .next (if s.reading then failPass s else s)

/-! ### The ends of the two waits (R17, R19) -/

/-- The wire's part at the moment the IU begins to act on it: WIRE, and the latch if either mark is set (R17, R19, R176). -/
def takeMarks (s : State) : State :=
  let s := if s.su.wire.level then setWire s else s
  if s.iu.wireMark || s.iu.lineMark then latchIfClear s else s

/-- The entry to RUNNING (R17). -/
def enterRunning (s : State) : State :=
  let s := s.modCl fun l => { l with phase := .running, listenTimer := none, runningTime := some s.now }
  let s := sendBeacon (s.modPm fun p => { p with absenceTimer := s.timer 5000 })
  takeMarks (evalContact s)

/-- LISTEN_EXPIRY (R17). -/
def execListenExpiry (s : State) : Host.Outcome State Fault Refusal :=
  .next
    (if s.acts && s.cl.phase == .listen then onExpiry s.cl.listenTimer (fun s' => settle s' (enterRunning s')) s else s)

/-- The end of the quiet period (R19). -/
def endQuietPeriod (s : State) : State := takeMarks (sendBeacon (s.modCl fun l => { l with quietTimer := none }))

/-- QUIET_PERIOD_END (R19). -/
def execQuietPeriodEnd (s : State) : Host.Outcome State Fault Refusal :=
  .next
    (if s.acts && s.cl.phase == .configFault then onExpiry s.cl.quietTimer (fun s' => settle s' (endQuietPeriod s')) s
    else s)

end Sys2Proof.Machine
end

