-- ==== Sys2Proof/Machine/Peers.lean ====
section
/-! DEFINITION. The Peer Monitor's frames and timers (chapter 4), and the emergency, alert, result and answer frames (R44). -/

namespace Sys2Proof.Machine

/-! ### Beacons heard (R56, R58, R64, R65) -/

/-- The beacon names this node (R64). -/
def namesOwn (b : Beacon) (own : Node) : Bool := b.up == nodeByte own || b.down == nodeByte own

/-- The beacon's release-active flag: bit 6 of its flags (section 3.6). -/
def releaseActive (b : Beacon) : Bool := b.flags.getLsbD 6

/-- The naming run after a beacon (R64). -/
def nextNaming (run : Nat) (names : Bool) : Nat := if names then min 3 (run + 1) else 0

/-- A configured neighbour's beacon is examined for names: one that does not name this node clears NOT_HEARD where it is set, and at
every other the condition of NOT_HEARD is tested (R64, R65). DEDUCED, log entry 31: the one that clears is not followed by a test, and
the test comes once, when the slot's state and the run have moved. -/
def takeNaming (src : Node) (b : Beacon) (s : State) : State :=
  if s.neighbours.contains src then
    let names := namesOwn b s.cl.own
    let s := s.setSlot src { s.slot src with naming := nextNaming (s.slot src).naming names }
    if s.pm.notHeard && !names then s.modPm fun p => { p with notHeard := false } else testNotHeard s
  else s

/-- A bay controller joins or leaves the Release Set by its beacon's flag (R58, R173). -/
def takeReleaseFlag (src : Node) (active : Bool) (s : State) : State :=
  s.modIu fun i => { i with releaseSet := if active then insertNode src i.releaseSet else eraseNode src i.releaseSet }

/-- A beacon's content is taken (R56, R58, R64). -/
def takeBeacon (src : Node) (b : Beacon) (s : State) : State :=
  takeReleaseFlag src (releaseActive b)
    (takeNaming src b (s.setSlot src { s.slot src with lastBeacon := some b }))

/-- BEACON (R56, R58, R64, R65). -/
def execBeacon (src : Node) (content : Beacon) (s : State) : Host.Outcome State Fault Refusal :=
  .next (onFrameSettling ⟨src, .beacon, beaconBytes content⟩ (takeBeacon src content) s)

/-! ### Other frames (R44) -/

/-- STATION_EMERGENCY OPEN: LINE in LISTEN, LINE and the latch in RUNNING (R16, R176). -/
def takeOpenCall (s : State) : State :=
  if s.cl.phase = .listen then setLine true s
  else if s.running then latchIfClear (setLine true s)
  else s

/-- STATION_EMERGENCY OPEN (R176). -/
def execStationEmergencyOpen (src : Node) (s : State) : Host.Outcome State Fault Refusal :=
  .next (onFrameSettling ⟨src, .stationEmergency, [1]⟩ takeOpenCall s)

/-- STATION_EMERGENCY RESET: clears LINE in LISTEN; in RUNNING decided by the latch and the wire (R16, R179). -/
def takeResetCall (s : State) : State :=
  if s.cl.phase = .listen then setLine false s
  else if s.running && s.iu.latch then
    if s.su.wire.level then countDiscard s else exitLatch s
  else s

/-- STATION_EMERGENCY RESET (R179). -/
def execStationEmergencyReset (src : Node) (s : State) : Host.Outcome State Fault Refusal :=
  .next (onFrameSettling ⟨src, .stationEmergency, [2]⟩ takeResetCall s)

/-- An ALERT delivered to the IU: HANDLE adds its sender to the Release Set, the other kinds change nothing (R44, R173). -/
def takeAlert (src : Node) (kind : Byte) (s : State) : State :=
  if kind = AlertKind.handle.code then s.modIu fun i => { i with releaseSet := insertNode src i.releaseSet } else s

/-- ALERT of kind HANDLE (R173). -/
def execAlertHandle (src : Node) (unit seq : Byte) (s : State) : Host.Outcome State Fault Refusal :=
  .next (onFrameSettling ⟨src, .alert, [1, unit, seq]⟩ (inRunning (takeAlert src 1)) s)

/-- ALERT of another kind (R44). -/
def execAlert (src : Node) (kind unit seq : Byte) (s : State) : Host.Outcome State Fault Refusal :=
  .next (onFrameSettling ⟨src, .alert, [kind, unit, seq]⟩ (inRunning (takeAlert src kind)) s)

/-- RESULT heard from another node: an activity note (R44). -/
def execResult (src : Node) (requester sub arg outcome code : Byte) (s : State) : Host.Outcome State Fault Refusal :=
  .next (onFrame ⟨src, .result, [requester, sub, arg, outcome, code]⟩ id s)

/-- ANSWER heard from another node: an activity note (R44). -/
def execAnswer (src : Node) (requester topic arg : Byte) (part count : BitVec 4) (data : List Byte) (s : State) :
    Host.Outcome State Fault Refusal :=
  .next (onFrame ⟨src, .answer, [requester, topic, arg, nibbles part count] ++ data⟩ id s)

/-! ### Timers (R57, R59, R63) -/

/-- The slot of a number whose silence timer has expired (R57). -/
def Slot.fallSilent (x : Slot) : Slot :=
  { x with state := .silent, silence := x.silence.bump, naming := 0, pairing := none, silenceTimer := none }

/-- The BU hears that a number has gone silent (R162). -/
def purgeHolds (n : Node) (s : State) : State := s.setHoldList (s.bu.holdList.filter fun h => h.source != n)

/-- A LIVE slot becomes SILENT (R57, R65, R162). -/
def fallSilent (n : Node) (s : State) : State :=
  let s := s.setSlot n (s.slot n).fallSilent
  let s := if isBay n then purgeHolds n s else s
  if s.neighbours.contains n then testNotHeard s else s

/-- SILENCE_TIMER_EXPIRY (R57). -/
def execSilenceTimerExpiry (node : Node) (s : State) : Host.Outcome State Fault Refusal :=
  .next
    (if s.loaded then onExpiry (s.slot node).silenceTimer (fun s' => settle s' (fallSilent node s')) s else s)

/-- BEACON_CADENCE_EXPIRY (R59). -/
def execBeaconCadenceExpiry (s : State) : Host.Outcome State Fault Refusal :=
  .next (if s.loaded then onExpiry s.pm.cadence sendBeacon s else s)

/-- The gap timer has expired: a pending change is sent if the summary still differs (R59). -/
def endGap (s : State) : State :=
  let s := s.modPm fun p => { p with gap := none }
  if s.pm.changePending then
    if s.pm.lastBeacon = some s.summary then s.modPm fun p => { p with changePending := false } else sendBeacon s
  else s

/-- BEACON_GAP_TIMER_EXPIRY (R59). -/
def execBeaconGapTimerExpiry (s : State) : Host.Outcome State Fault Refusal :=
  .next (if s.loaded then onExpiry s.pm.gap endGap s else s)

/-- The 5,000 ms from the RUNNING time have passed (R63). -/
def endAbsence (s : State) : State := finish (s.modPm fun p => { p with absenceTimer := none, absenceOver := true })

/-- NEIGHBOUR_ABSENCE_EXPIRY (R63). -/
def execNeighbourAbsenceExpiry (s : State) : Host.Outcome State Fault Refusal :=
  .next (if s.loaded then onExpiry s.pm.absenceTimer endAbsence s else s)

end Sys2Proof.Machine
end

