-- ==== Sys2Proof/Machine/Queries.lean ====
section
/-! DEFINITION. The QUERY frames: the answer data of each topic, the cutting into parts, and the clear mark (R193, R194). -/

namespace Sys2Proof.Machine

/-! ### Building bytes -/

/-- A byte of eight bits, bit 7 first. -/
def bitsByte (b7 b6 b5 b4 b3 b2 b1 b0 : Bool) : Byte :=
  bit b7 ++ bit b6 ++ bit b5 ++ bit b4 ++ bit b3 ++ bit b2 ++ bit b1 ++ bit b0

/-- A byte whose bits under `mask` have no field: a free value stands there (log entry 9). -/
def withUnused (mask : Byte) (draw : Nat) (b : Byte) : Byte := (b &&& ~~~mask) ||| (Config.unusedBits draw &&& mask)

/-- The code of a fault kind (section 11.1). -/
def FaultKind.code (k : FaultKind) : Nat := k.index + 1

/-- The eight bytes of a Fault Capture slot; an empty one sends zeros (R193). -/
def slotBytes : Option FaultRecord → List Byte
  | none => [0, 0, 0, 0, 0, 0, 0, 0]
  | some r => [1, byte r.kind.code, unitByte r.unit, r.seq] ++ bytes4 r.time

/-- The latch of a fault kind's counter, by code. -/
def FaultRecorder.kindLatch (r : FaultRecorder) (code : Nat) : Bool := (r.kinds.getD (code - 1) (Counter.zero 16)).latch

/-- The FAULTS data (section 11.5). -/
def faultsData (s : State) : List Byte :=
  let l := s.fr.kindLatch
  slotBytes s.fr.severe ++ slotBytes s.fr.minor ++
    ((List.range 17).map fun i => bytes2 (s.fr.kinds.getD i (Counter.zero 16)).count).flatten ++
    [ bitsByte (l 1) (l 2) (l 3) (l 4) (l 5) (l 6) (l 7) (l 8),
      bitsByte (l 9) (l 10) (l 11) (l 12) (l 13) (l 14) (l 15) (l 16),
      withUnused 0x7F s.freeCount (bitsByte (l 17) false false false false false false false) ]

/-- The UNIT_COUNTERS data of unit `u` (section 11.5). -/
def unitData (s : State) (u : UnitNo) : List Byte :=
  let c := s.fr.unitCounters.get u
  let x := s.su.units.get u
  [ byte (s.unitCode u),
    withUnused 0x04 s.freeCount
      (bitsByte (s.dc.get u).isolationMark x.handle.held x.panel.held (s.iu.panelMarks.get u) (s.iu.accessMarks.get u) false
        (x.alarm == .trap) (x.alarm == .intrusion)) ] ++
    bytes4 c.openCycles.count ++ bytes2 c.reversals.count ++ bytes2 c.unlockFails.count ++ bytes2 c.handleReleases.count ++
    bytes2 c.requestIgnored.count ++
    [ withUnused 0x07 (s.freeCount + 1)
        (bitsByte c.openCycles.latch c.reversals.latch c.unlockFails.latch c.handleReleases.latch c.requestIgnored.latch false
          false false) ]

/-- The codes of the load outcome's reasons (section 11.5). -/
def LoadReason.code : LoadReason → Nat
  | .ok => 0
  | .link => 1
  | .length => 2
  | .check => 3
  | .strap => 4
  | .structural => 5
  | .nodeField => 6
  | .unitField => 7
  | .consistField => 8

/-- The five bytes of a load outcome. -/
def LoadOutcome.bytes (o : LoadOutcome) : List Byte :=
  [byte o.reason.code] ++ bytes2 (BitVec.ofNat 16 o.offset) ++
    [match o.index with
      | none => 255
      | some i => byte i,
      byte o.clamps]

/-- The NODE_COUNTERS data (section 11.5). -/
def nodeData (s : State) : List Byte :=
  let c := s.fr.nodeCounters
  [ if s.cl.phase = .configFault then 3 else 2, s.cl.config.faceId, if s.iu.accessLock then 1 else 0,
    withUnused 0x1F s.freeCount
      (bitsByte s.pm.identityConflict s.pm.notHeard (s.lc.line == .lineQuiet) false false false false false) ] ++
    (s.cl.outcome.getD ⟨.ok, 0, none, 0⟩).bytes ++
    bytes2 c.discardedFrames.count ++ bytes2 c.txDrops.count ++ bytes2 c.lineQuietEvents.count ++
    bytes2 c.lateSamples.count ++ bytes2 c.sampleOverflow.count ++ bytes2 c.berthConflict.count ++
    bytes2 c.holdEvictions.count ++
    [ withUnused 0x01 (s.freeCount + 1)
        (bitsByte c.discardedFrames.latch c.txDrops.latch c.lineQuietEvents.latch c.lateSamples.latch c.sampleOverflow.latch
          c.berthConflict.latch c.holdEvictions.latch false) ]

/-- The two bits of a member's status, 0 for none (section 11.5). -/
def memberCode : Option Member → BitVec 2
  | none => 0
  | some m =>
    match m.status with
    | .underWarning => 1
    | .waiting => 2
    | .started => 3

/-- The close cycle's members. -/
def State.cycleMembers (s : State) : Quad (Option Member) :=
  match s.bu.cycle with
  | none => Quad.same none
  | some c => c.members

/-- The cars the node holds. -/
def State.heldCars (s : State) : List Nat :=
  match s.bu.cycle with
  | none => []
  | some c => c.holds.map OwnHold.car

/-- Car c in bit c of a pair of bytes. -/
def carBits (l : List Nat) : BitVec 16 := l.foldl (fun m c => m ||| (1 <<< c)) 0

/-- Node p in bit p - 1 of five bytes. -/
def nodeBits (l : List Node) : BitVec 40 := l.foldl (fun m p => m ||| (1 <<< (p.toNat - 1))) 0

/-- Five bytes of a 40-bit field. -/
def bytes5 (x : BitVec 40) : List Byte :=
  [x.extractLsb' 32 8, x.extractLsb' 24 8, x.extractLsb' 16 8, x.extractLsb' 8 8, x.extractLsb' 0 8]

/-- The Release Set and the Hold List's part of the BERTH data. -/
def holdListBytes (s : State) : List Byte :=
  byte s.bu.holdList.length :: (s.bu.holdList.map fun h => [nodeByte h.source, byte h.car]).flatten

/-- The BERTH data (section 11.5). DEDUCED, log entry 30: the Release Set is sent as it stands at IDLE too, where section 11.5 says that
every field is absent or empty and R173 and R174 let the set hold numbers. DESIGN CHOICE, log entry 32: the ten slots carry the indices of
the isolated list in the order in which they joined, the empty slots last; R73 calls the list a set, and the table gives no order. -/
def berthData (s : State) : List Byte :=
  let b := s.bu.berth
  let m := s.cycleMembers
  let cars := carBits s.heldCars
  [ b.seq,
    withUnused 0x02 s.freeCount (byte (b.state.code * 32 + b.verdict.code * 4 + if b.pendingRelease then 1 else 0)),
    match b.consist with
    | none => 255
    | some i => byte i ] ++
    bytes3 (match b.s0 with
      | none => Config.absentS0 s.freeCount
      | some x => BitVec.ofNat 24 x) ++
    bytes3 (BitVec.ofNat 24 (b.sHat.getD 16777215)) ++
    ((List.range 10).map fun i => byte (b.isolated.getD i 0)) ++
    [memberCode m.q0 ++ memberCode m.q1 ++ memberCode m.q2 ++ memberCode m.q3] ++
    [ withUnused 0xF8 (s.freeCount + 1) (cars.extractLsb' 8 8), withUnused 0x01 (s.freeCount + 2) (cars.extractLsb' 0 8) ] ++
    holdListBytes s ++ bytes5 (nodeBits s.iu.releaseSet)

/-- The codes of the search outcomes (section 11.5). -/
def SearchOutcome.code : SearchOutcome → Nat
  | .none => 0
  | .seeking => 1
  | .sampled => 2
  | .noMatch => 3
  | .lowQuality => 4
  | .notFound => 5

/-- The codes of the map reasons (section 11.5). -/
def MapReason.code : MapReason → Nat
  | .served => 1
  | .verdict => 2
  | .noTrainDoor => 3
  | .partialWidth => 4
  | .trainDoorIsolated => 5
  | .unitIsolated => 6
  | .unitFault => 7

/-- A signed 16-bit field. -/
def signed16 (x : Int) : List Byte := bytes2 (BitVec.ofInt 16 x)

/-- The eight bytes of a unit in the SERVICE_MAP data. -/
def mapBytes (s : State) (u : UnitNo) : List Byte :=
  let search := byte (s.ae.searches.get u).outcome.code
  match s.ae.map.get u with
  | none => [0, search, 0, 0] ++ signed16 0 ++ signed16 (-32768)
  | some e =>
    [byte e.reason.code, search, byte (e.door.getD 0), byte (e.car.getD 0)] ++ signed16 (e.overlap.getD 0) ++
      signed16 (e.width.getD (-32768))

/-- The SERVICE_MAP data (section 11.5). DEDUCED, log entry 26: it carries the margin, as the table of R193 says, although R109 says that
the margin is not shown on the line. -/
def serviceMapData (s : State) : List Byte :=
  [byte s.ae.verdict.code, byte (s.ae.margin.getD 0)] ++
    ((UnitNo.all.filter s.configured).map (mapBytes s)).flatten

/-- The two bits of a slot's state. -/
def Liveness.code : Liveness → BitVec 2
  | .absent => 0
  | .live => 1
  | .silent => 2

/-- The slot a PEER query reads: an empty one under the own number (R55). -/
def State.peerSlot (s : State) (n : Byte) : Slot :=
  if n = nodeByte s.cl.own then Slot.empty else s.slot (n.setWidth 6)

/-- The PEER data of a slot (section 11.5). -/
def peerData (x : Slot) (draw : Nat) : List Byte :=
  [withUnused 0x04 draw
      (x.state.code ++ bit x.pairing.isSome ++ bit x.lastBeacon.isSome ++ bit x.silence.latch ++ (0 : BitVec 1) ++
        BitVec.ofNat 2 x.naming)] ++
    bytes4 (if x.state = .absent then 0 else x.lastFrame.getD 0) ++
    bytes4 (x.pairing.getD (Config.absentPairingTime draw)) ++
    (match x.lastBeacon with
      | some b => beaconBytes b
      | none => bytes4 ((Config.absentLastBeacon draw).extractLsb' 32 32) ++
          bytes4 ((Config.absentLastBeacon draw).extractLsb' 0 32)) ++
    bytes2 x.silence.count

/-! ### Parts and delivery (R193, R194) -/

/-- Cut data into parts of four bytes (R193). -/
def parts : List Byte → List (List Byte)
  | [] => []
  | [a] => [[a]]
  | [a, b] => [[a, b]]
  | [a, b, c] => [[a, b, c]]
  | a :: b :: c :: d :: l => [a, b, c, d] :: parts l

/-- Enqueue the parts from number `n` on, of `count` (R193). -/
def sendParts (src : Node) (topic : Topic) (arg : Byte) (count : Nat) : Nat → List (List Byte) → State → State
  | _, [], s => s
  | n, p :: l, s =>
    sendParts src topic arg count (n + 1) l
      (enqueue .answer ([nodeByte src, topic.code, arg, nibbles (BitVec.ofNat 4 n) (BitVec.ofNat 4 count)] ++ p) s)

/-- How many free values an answer may draw. -/
def drawsPerAnswer : Nat := 4

/-- An answer is built and enqueued, and with the clear mark its counters are zeroed by `zero` (R193, R194). -/
def answerQuery (src : Node) (topic : Topic) (arg clear : Byte) (data : List Byte) (zero : State → State) (s : State) : State :=
  let s := sendParts src topic arg (parts data).length 1 (parts data) { s with freeCount := s.freeCount + drawsPerAnswer }
  if clear = 1 then zero s else s

/-- A QUERY addressed to this node reaches the FR in RUNNING and in CONFIG_FAULT after its quiet period (R19, R45, R193). -/
def onQuery (dest : Byte) (g : State → State) (s : State) : State :=
  if dest == nodeByte s.cl.own && (s.running || s.faultServing) then g s else s

/-- Zero the fault-kind counters (R194). -/
def zeroKinds (s : State) : State := s.modFr fun r => { r with kinds := List.replicate 17 (Counter.zero 16) }

/-- QUERY FAULTS answered (R193). -/
def answerFaults (src : Node) (arg clear : Byte) (s : State) : State :=
  answerQuery src .faults arg clear (faultsData s) zeroKinds s

/-- QUERY FAULTS (R193). -/
def execQueryFaults (src : Node) (dest arg clear : Byte) (s : State) : Host.Outcome State Fault Refusal :=
  .next (onFrame ⟨src, .query, queryPayload .faults dest arg clear⟩ (onQuery dest (answerFaults src arg clear)) s)

/-- Zero unit `u`'s counters (R194). -/
def zeroUnit (u : UnitNo) (s : State) : State := s.modUnitCounters u fun _ => UnitCounters.zero

/-- QUERY UNIT_COUNTERS answered (R193). -/
def answerUnit (src : Node) (arg clear : Byte) (s : State) : State :=
  match UnitNo.ofNat? arg.toNat with
  | none => s
  | some u => answerQuery src .unitCounters arg clear (unitData s u) (zeroUnit u) s

/-- QUERY UNIT_COUNTERS (R193). -/
def execQueryUnitCounters (src : Node) (dest arg clear : Byte) (s : State) : Host.Outcome State Fault Refusal :=
  .next (onFrame ⟨src, .query, queryPayload .unitCounters dest arg clear⟩ (onQuery dest (answerUnit src arg clear)) s)

/-- Zero the node counters (R194). -/
def zeroNode (s : State) : State := s.modNodeCounters fun _ => NodeCounters.zero

/-- QUERY NODE_COUNTERS answered (R193). -/
def answerNode (src : Node) (arg clear : Byte) (s : State) : State :=
  answerQuery src .nodeCounters arg clear (nodeData s) zeroNode s

/-- QUERY NODE_COUNTERS (R193). -/
def execQueryNodeCounters (src : Node) (dest arg clear : Byte) (s : State) : Host.Outcome State Fault Refusal :=
  .next (onFrame ⟨src, .query, queryPayload .nodeCounters dest arg clear⟩ (onQuery dest (answerNode src arg clear)) s)

/-- QUERY BERTH answered; the clear mark clears nothing (R193, R194). -/
def answerBerth (src : Node) (arg clear : Byte) (s : State) : State :=
  answerQuery src .berth arg clear (berthData s) id s

/-- QUERY BERTH (R193). -/
def execQueryBerth (src : Node) (dest arg clear : Byte) (s : State) : Host.Outcome State Fault Refusal :=
  .next (onFrame ⟨src, .query, queryPayload .berth dest arg clear⟩ (onQuery dest (answerBerth src arg clear)) s)

/-- QUERY SERVICE_MAP answered; the clear mark clears nothing (R193, R194). -/
def answerServiceMap (src : Node) (arg clear : Byte) (s : State) : State :=
  answerQuery src .serviceMap arg clear (serviceMapData s) id s

/-- QUERY SERVICE_MAP (R193). -/
def execQueryServiceMap (src : Node) (dest arg clear : Byte) (s : State) : Host.Outcome State Fault Refusal :=
  .next (onFrame ⟨src, .query, queryPayload .serviceMap dest arg clear⟩ (onQuery dest (answerServiceMap src arg clear)) s)

/-- Zero a slot's SILENCE_COUNT; the own number has no slot (R55, R194). -/
def zeroSilence (n : Byte) (s : State) : State :=
  if n = nodeByte s.cl.own then s
  else s.setSlot (n.setWidth 6) { s.slot (n.setWidth 6) with silence := Counter.zero 16 }

/-- QUERY PEER answered (R55, R193). -/
def answerPeer (src : Node) (arg clear : Byte) (s : State) : State :=
  answerQuery src .peer arg clear (peerData (s.peerSlot arg) s.freeCount) (zeroSilence arg) s

/-- QUERY PEER (R193). -/
def execQueryPeer (src : Node) (dest arg clear : Byte) (s : State) : Host.Outcome State Fault Refusal :=
  .next (onFrame ⟨src, .query, queryPayload .peer dest arg clear⟩ (onQuery dest (answerPeer src arg clear)) s)

end Sys2Proof.Machine
end

