-- ==== Sys2Proof/Machine/Sensing.lean ====
section
/-! DEFINITION. The Sensing Unit's streams, filters and cells, and the handle, panel and wire events (chapter 8, sections 2.3
and 2.4). -/

namespace Sys2Proof.Machine

/-- A configured unit's gap, zone and edge sensing runs: a load has ended and the unit is not ISOLATED (R32, R154). -/
def State.senses (s : State) (u : UnitNo) : Bool := s.active u && s.unit u != .isolated

/-- A sample joins a window of `room` at its newest end; one too many pushes the oldest out (R141, R143). -/
def joinWindow (room : Nat) (l : List Bool) (x : Bool) : List Bool := (l ++ [x]).drop ((l.length + 1) - room)

/-- The OCCUPIED samples of a window. -/
def occupied (l : List Bool) : Nat := l.count true

/-! ### The gap filter (R141, R142) -/

/-- The gap filter after a sample (R141). -/
def UnitSensing.gapStep (x : UnitSensing) (occ : Bool) : UnitSensing :=
  let window := joinWindow 5 x.gapWindow occ
  let run := if occ then 0 else x.clearRun + 1
  { x with
    gapWindow := window, clearRun := run
    gapAsserted := if x.gapAsserted then decide (run < 10) else decide (3 ≤ occupied window) }

/-- A change of the gap level is handed on: to the Door Channel, then to the alarm logic (R142, R146, R148, R152). -/
def gapChanged (u : UnitNo) (asserted : Bool) (s : State) : State :=
  if asserted then checkAlarm u (obstacle u s) else setAlarm u .none s

/-- A gap sample is fed to unit `u`'s filter (R141, R142). -/
def feedGap (u : UnitNo) (occ : Bool) (s : State) : State :=
  let x := (s.su.units.get u).gapStep occ
  let s' := s.setSu u x
  if x.gapAsserted == s.gapAsserted u then s' else gapChanged u x.gapAsserted s'

/-- A gap sample as taken: a damaged one is OCCUPIED (R27). -/
def Presence.gap : Presence → Bool
  | .occupied => true
  | .clear => false
  | .damaged => true

/-- GAP_SAMPLE (R27, R141). -/
def execGapSample (u : UnitNo) (sample : Presence) (s : State) : Host.Outcome State Fault Refusal :=
  .next
    (if s.senses u then
      settle s (feedGap u (Presence.gap sample) (s.modSu u fun x => { x with gapTimer := s.timer 40 }))
    else s)

/-- GAP_SAMPLE_TIMEOUT: an OCCUPIED sample is stood in (R27). -/
def execGapSampleTimeout (u : UnitNo) (s : State) : Host.Outcome State Fault Refusal :=
  .next
    (if s.senses u then
      onExpiry (s.su.units.get u).gapTimer
        (fun s => settle s (feedGap u true (s.modSu u fun x => { x with gapTimer := s.timer 20 }))) s
    else s)

/-- The tenth consecutive CLEAR sample has come to an asserted filter (R141, R142). -/
def releaseGap (u : UnitNo) (s : State) : State :=
  gapChanged u false (s.modSu u fun x =>
    { x with gapWindow := List.replicate 5 false, clearRun := 10, gapAsserted := false })

/-- GAP_FILTER_RELEASE (R141, R142). It leaves the scanner's timer as it stands: DESIGN CHOICE, log entry 22. -/
def execGapFilterRelease (u : UnitNo) (s : State) : Host.Outcome State Fault Refusal :=
  .next (if s.senses u && s.gapAsserted u then settle s (releaseGap u s) else s)

/-! ### The zone filter (R143, R147) -/

/-- The zone filter after a sample (R143). -/
def UnitSensing.zoneStep (x : UnitSensing) (occ : Bool) : UnitSensing :=
  let window := joinWindow 10 x.zoneWindow occ
  { x with
    zoneWindow := window
    zoneBusy := if x.zoneBusy then decide (2 < occupied window) else decide (7 ≤ occupied window) }

/-- A zone sample is fed to unit `u`'s filter; a zone become FREE reaches the BU (R143, R147). -/
def feedZone (u : UnitNo) (occ : Bool) (s : State) : State :=
  let x := s.su.units.get u
  let s' := s.setSu u (x.zoneStep occ)
  if x.zoneBusy && !(x.zoneStep occ).zoneBusy then zoneFreed u s' else s'

/-- A zone sample as taken: a damaged one is CLEAR (R28). -/
def Presence.zone : Presence → Bool
  | .occupied => true
  | .clear => false
  | .damaged => false

/-- ZONE_SAMPLE (R28, R143). -/
def execZoneSample (u : UnitNo) (sample : Presence) (s : State) : Host.Outcome State Fault Refusal :=
  .next
    (if s.senses u then
      settle s (feedZone u (Presence.zone sample) (s.modSu u fun x => { x with zoneTimer := s.timer 200 }))
    else s)

/-- ZONE_SAMPLE_TIMEOUT: a CLEAR sample is stood in (R28). -/
def execZoneSampleTimeout (u : UnitNo) (s : State) : Host.Outcome State Fault Refusal :=
  .next
    (if s.senses u then
      onExpiry (s.su.units.get u).zoneTimer
        (fun s => settle s (feedZone u false (s.modSu u fun x => { x with zoneTimer := s.timer 100 }))) s
    else s)

/-! ### DEBOUNCED cells (R29, R145, R176) -/

/-- A cell whose raw level is now `raw`: its timer runs while raw and conditioned levels differ (R29). -/
def Debounced.follow (c : Debounced) (raw : Bool) (timer : Option Time) : Debounced :=
  ⟨c.level, if raw = c.level then none else if c.timer.isSome then c.timer else timer⟩

/-- Set the raw level of a DEBOUNCED input. -/
def setRaw (input : DebouncedInput) (level : Bool) (s : State) : State :=
  match input with
  | .edge u => s.modPins u fun p => { p with edge := level }
  | .wire => { s with pins := { s.pins with wire := level } }

/-- Change the wire's cell. -/
def State.setWireCell (c : Debounced) (s : State) : State := { s with su := { s.su with wire := c } }

/-- The cell takes the raw level in, where it runs (R29, R32, R154). -/
def followRaw (input : DebouncedInput) (level : Bool) (s : State) : State :=
  match input with
  | .edge u => if s.senses u then s.modSu u fun x => { x with edge := x.edge.follow level (s.timer 10) } else s
  | .wire => if s.loaded then s.setWireCell (s.su.wire.follow level (s.timer 50)) else s

/-- DEBOUNCED_INPUT_CHANGE (R29). -/
def execDebouncedInputChange (input : DebouncedInput) (level : Bool) (s : State) : Host.Outcome State Fault Refusal :=
  .next (followRaw input level (setRaw input level s))

/-- The debounce time of a cell has passed: node time stands at the timer's expiry, if it ran (log entry 1). -/
def State.debounced (c : Debounced) (s : State) : State :=
  match c.timer with
  | none => s
  | some t => s.reach t

/-- The conditioned sensitive edge becomes `level` (R145, R146). -/
def changeEdge (u : UnitNo) (level : Bool) (s : State) : State :=
  let s := (setRaw (.edge u) level s).modSu u fun x => { x with edge := ⟨level, none⟩ }
  if level then obstacle u s else s

/-- SENSITIVE_EDGE_CHANGE (R145). -/
def execSensitiveEdgeChange (u : UnitNo) (level : Bool) (s : State) : Host.Outcome State Fault Refusal :=
  .next
    (if s.senses u && s.edgeAsserted u != level then
      let s' := s.debounced (s.su.units.get u).edge
      settle s' (changeEdge u level s')
    else s)

/-- The conditioned wire becomes `level`. -/
def changeWire (level : Bool) (s : State) : State := (setRaw .wire level s).setWireCell ⟨level, none⟩

/-- The IU acts on the wire: in RUNNING, and in CONFIG_FAULT after the quiet period with a strap value of 1 to 40 (R176). -/
def State.wireActs (s : State) : Bool := s.running || s.faultServing

/-- The wire's conditioned assertion (R176). -/
def assertWire (s : State) : State :=
  let s := changeWire true s
  if s.wireActs then latchIfClear (setWire s) else s

/-- EMERGENCY_WIRE_ASSERT (R176). -/
def execEmergencyWireAssert (s : State) : Host.Outcome State Fault Refusal :=
  .next
    (if s.loaded && !s.su.wire.level then
      let s' := s.debounced s.su.wire
      settle s' (assertWire s')
    else s)

/-- The wire's conditioned release: the WIRE mark is cleared (R176). -/
def clearWire (s : State) : State := (changeWire false s).modIu fun i => { i with wireMark := false }

/-- EMERGENCY_WIRE_CLEAR (R176). -/
def execEmergencyWireClear (s : State) : Host.Outcome State Fault Refusal :=
  .next
    (if s.loaded && s.su.wire.level then
      let s' := s.debounced s.su.wire
      settle s' (clearWire s')
    else s)

/-! ### LATCHED cells (R30, R31, R139, R140, R171, R175) -/

/-- A handle operation: the capture, the channel, the IU (R30, R139, R171). -/
def operateHandle (u : UnitNo) (s : State) : State :=
  noteHandle u (enterManualReleased u (s.modSu u fun x => { x with handle := ⟨true, true⟩ }))

/-- HANDLE_OPERATION (R139, R171). -/
def execHandleOperation (u : UnitNo) (s : State) : Host.Outcome State Fault Refusal :=
  .next
    (let s' := s.modPins u fun p => { p with handle := true }
    if s.active u && !(s.su.units.get u).handle.live then settle s (operateHandle u s') else s')

/-- The handle's return: a released unit waits for its acknowledgement (R140). -/
def returnHandle (u : UnitNo) (s : State) : State :=
  let s := s.modSu u fun x => { x with handle := { x.handle with live := false } }
  if s.unit u = .manualReleased then enterReleaseRestored u s else s

/-- HANDLE_RETURN (R140). -/
def execHandleReturn (u : UnitNo) (s : State) : Host.Outcome State Fault Refusal :=
  .next
    (let s' := s.modPins u fun p => { p with handle := false }
    if s.active u && (s.su.units.get u).handle.live then settle s (returnHandle u s') else s')

/-- A panel operation (R30, R175). -/
def operatePanel (u : UnitNo) (s : State) : State := notePanel u (s.modSu u fun x => { x with panel := ⟨true, true⟩ })

/-- PANEL_OPERATION (R175). -/
def execPanelOperation (u : UnitNo) (s : State) : Host.Outcome State Fault Refusal :=
  .next
    (let s' := s.modPins u fun p => { p with panel := true }
    if s.active u && !(s.su.units.get u).panel.live then settle s (operatePanel u s') else s')

/-- The panel's return: the mark is cleared and the capture consumed (R31, R175). -/
def returnPanel (u : UnitNo) (s : State) : State :=
  (s.modSu u fun x => { x with panel := ⟨false, false⟩ }).modIu fun i => { i with panelMarks := i.panelMarks.set u false }

/-- PANEL_RETURN (R175). -/
def execPanelReturn (u : UnitNo) (s : State) : Host.Outcome State Fault Refusal :=
  .next
    (let s' := s.modPins u fun p => { p with panel := false }
    if s.active u && (s.su.units.get u).panel.live then settle s (returnPanel u s') else s')

end Sys2Proof.Machine
end

