-- ==== Sys2Proof/Machine/Dispatch.lean ====
section
/-! DEFINITION. The meaning of a command: one arm for each, one direct call of its meaning. -/

namespace Sys2Proof.Machine

def exec (i : Instr) (s : State) : Host.Outcome State Fault Refusal :=
  match i with
  | .powerOnReset straps => Sys2Proof.Machine.execPowerOnReset straps s
  | .supplyFall => Sys2Proof.Machine.execSupplyFall s
  | .resetPinLow => Sys2Proof.Machine.execResetPinLow s
  | .resetPinRelease straps => Sys2Proof.Machine.execResetPinRelease straps s
  | .configReadPassComplete bytes => Sys2Proof.Machine.execConfigReadPassComplete bytes s
  | .configReadFail => Sys2Proof.Machine.execConfigReadFail s
  | .listenExpiry => Sys2Proof.Machine.execListenExpiry s
  | .quietPeriodEnd => Sys2Proof.Machine.execQuietPeriodEnd s
  | .attemptStart => Sys2Proof.Machine.execAttemptStart s
  | .sentInFull => Sys2Proof.Machine.execSentInFull s
  | .arbitrationLost => Sys2Proof.Machine.execArbitrationLost s
  | .transmitError => Sys2Proof.Machine.execTransmitError s
  | .lineQuietExpiry => Sys2Proof.Machine.execLineQuietExpiry s
  | .discardedFrame heard framing => Sys2Proof.Machine.execDiscardedFrame heard framing s
  | .stationEmergencyOpen src => Sys2Proof.Machine.execStationEmergencyOpen src s
  | .stationEmergencyReset src => Sys2Proof.Machine.execStationEmergencyReset src s
  | .alertHandle src unit seq => Sys2Proof.Machine.execAlertHandle src unit seq s
  | .alert src kind unit seq => Sys2Proof.Machine.execAlert src kind unit seq s
  | .berth src seq consist s0 d1 d2 d3 => Sys2Proof.Machine.execBerth src seq consist s0 d1 d2 d3 s
  | .berthExt src seq d1 d2 d3 d4 d5 d6 d7 => Sys2Proof.Machine.execBerthExt src seq d1 d2 d3 d4 d5 d6 d7 s
  | .standstill src seq => Sys2Proof.Machine.execStandstill src seq s
  | .release src seq => Sys2Proof.Machine.execRelease src seq s
  | .close src seq => Sys2Proof.Machine.execClose src seq s
  | .reopen src seq => Sys2Proof.Machine.execReopen src seq s
  | .depart src seq => Sys2Proof.Machine.execDepart src seq s
  | .holdStart src seq car => Sys2Proof.Machine.execHoldStart src seq car s
  | .holdEnd src seq car => Sys2Proof.Machine.execHoldEnd src seq car s
  | .edge src seq unit quality door stop => Sys2Proof.Machine.execEdge src seq unit quality door stop s
  | .beacon src content => Sys2Proof.Machine.execBeacon src content s
  | .result src requester sub arg outcome code => Sys2Proof.Machine.execResult src requester sub arg outcome code s
  | .answer src requester topic arg part count data => Sys2Proof.Machine.execAnswer src requester topic arg part count data s
  | .isolate src dest arg => Sys2Proof.Machine.execIsolate src dest arg s
  | .restore src dest arg => Sys2Proof.Machine.execRestore src dest arg s
  | .rehome src dest arg => Sys2Proof.Machine.execRehome src dest arg s
  | .ackFault src dest arg => Sys2Proof.Machine.execAckFault src dest arg s
  | .ackRelease src dest arg => Sys2Proof.Machine.execAckRelease src dest arg s
  | .accessOpen src dest arg => Sys2Proof.Machine.execAccessOpen src dest arg s
  | .accessClose src dest arg => Sys2Proof.Machine.execAccessClose src dest arg s
  | .accessLock src dest arg => Sys2Proof.Machine.execAccessLock src dest arg s
  | .resetNode src dest arg => Sys2Proof.Machine.execResetNode src dest arg s
  | .commandedReset straps => Sys2Proof.Machine.execCommandedReset straps s
  | .queryFaults src dest arg clear => Sys2Proof.Machine.execQueryFaults src dest arg clear s
  | .queryUnitCounters src dest arg clear => Sys2Proof.Machine.execQueryUnitCounters src dest arg clear s
  | .queryNodeCounters src dest arg clear => Sys2Proof.Machine.execQueryNodeCounters src dest arg clear s
  | .queryBerth src dest arg clear => Sys2Proof.Machine.execQueryBerth src dest arg clear s
  | .queryServiceMap src dest arg clear => Sys2Proof.Machine.execQueryServiceMap src dest arg clear s
  | .queryPeer src dest arg clear => Sys2Proof.Machine.execQueryPeer src dest arg clear s
  | .controlSample u motion current => Sys2Proof.Machine.execControlSample u motion current s
  | .controlPeriod u lockEngaged closed driveFault => Sys2Proof.Machine.execControlPeriod u lockEngaged closed driveFault s
  | .missedControlPeriod u => Sys2Proof.Machine.execMissedControlPeriod u s
  | .missedRunDriveFault u => Sys2Proof.Machine.execMissedRunDriveFault u s
  | .driveFaultTaken u => Sys2Proof.Machine.execDriveFaultTaken u s
  | .unlockComplete u => Sys2Proof.Machine.execUnlockComplete u s
  | .unlockTimeout u => Sys2Proof.Machine.execUnlockTimeout u s
  | .lockComplete u => Sys2Proof.Machine.execLockComplete u s
  | .lockingTimeout u => Sys2Proof.Machine.execLockingTimeout u s
  | .lockWatchTimeout u => Sys2Proof.Machine.execLockWatchTimeout u s
  | .openingComplete u => Sys2Proof.Machine.execOpeningComplete u s
  | .pendingCloseTaken u => Sys2Proof.Machine.execPendingCloseTaken u s
  | .closingTravelEnd u => Sys2Proof.Machine.execClosingTravelEnd u s
  | .reversingComplete u => Sys2Proof.Machine.execReversingComplete u s
  | .obstacleCurrent u => Sys2Proof.Machine.execObstacleCurrent u s
  | .reopenPauseEnd u => Sys2Proof.Machine.execReopenPauseEnd u s
  | .stallTimerExpiry u => Sys2Proof.Machine.execStallTimerExpiry u s
  | .stallPauseEnd u => Sys2Proof.Machine.execStallPauseEnd u s
  | .travelTimerExpiry u => Sys2Proof.Machine.execTravelTimerExpiry u s
  | .homingClosed u => Sys2Proof.Machine.execHomingClosed u s
  | .homingWaitEnd u => Sys2Proof.Machine.execHomingWaitEnd u s
  | .homingTimerExpiry u => Sys2Proof.Machine.execHomingTimerExpiry u s
  | .alignmentReading u reading => Sys2Proof.Machine.execAlignmentReading u reading s
  | .alignmentReadingTimeout u => Sys2Proof.Machine.execAlignmentReadingTimeout u s
  | .fusionWindowExpiry => Sys2Proof.Machine.execFusionWindowExpiry s
  | .heldRelease => Sys2Proof.Machine.execHeldRelease s
  | .gapSample u sample => Sys2Proof.Machine.execGapSample u sample s
  | .gapSampleTimeout u => Sys2Proof.Machine.execGapSampleTimeout u s
  | .gapFilterRelease u => Sys2Proof.Machine.execGapFilterRelease u s
  | .zoneSample u sample => Sys2Proof.Machine.execZoneSample u sample s
  | .zoneSampleTimeout u => Sys2Proof.Machine.execZoneSampleTimeout u s
  | .debouncedInputChange input level => Sys2Proof.Machine.execDebouncedInputChange input level s
  | .sensitiveEdgeChange u level => Sys2Proof.Machine.execSensitiveEdgeChange u level s
  | .emergencyWireAssert => Sys2Proof.Machine.execEmergencyWireAssert s
  | .emergencyWireClear => Sys2Proof.Machine.execEmergencyWireClear s
  | .handleOperation u => Sys2Proof.Machine.execHandleOperation u s
  | .handleReturn u => Sys2Proof.Machine.execHandleReturn u s
  | .panelOperation u => Sys2Proof.Machine.execPanelOperation u s
  | .panelReturn u => Sys2Proof.Machine.execPanelReturn u s
  | .silenceTimerExpiry node => Sys2Proof.Machine.execSilenceTimerExpiry node s
  | .beaconCadenceExpiry => Sys2Proof.Machine.execBeaconCadenceExpiry s
  | .beaconGapTimerExpiry => Sys2Proof.Machine.execBeaconGapTimerExpiry s
  | .neighbourAbsenceExpiry => Sys2Proof.Machine.execNeighbourAbsenceExpiry s
  | .closeCycleWarningEnd => Sys2Proof.Machine.execCloseCycleWarningEnd s
  | .memberRelease u => Sys2Proof.Machine.execMemberRelease u s
  | .memberDeadline u => Sys2Proof.Machine.execMemberDeadline u s
  | .ownHoldDeadline car => Sys2Proof.Machine.execOwnHoldDeadline car s
  | .departureCloseWarningEnd => Sys2Proof.Machine.execDepartureCloseWarningEnd s
  | .departureCloseRequest u => Sys2Proof.Machine.execDepartureCloseRequest u s
  | .departureCloseDeadline => Sys2Proof.Machine.execDepartureCloseDeadline s
  | .emergencyCloseWarningEnd => Sys2Proof.Machine.execEmergencyCloseWarningEnd s
  | .emergencyCloseRequest u => Sys2Proof.Machine.execEmergencyCloseRequest u s
  | .emergencyCloseDeadline u => Sys2Proof.Machine.execEmergencyCloseDeadline u s
  | .accessCloseWarningEnd => Sys2Proof.Machine.execAccessCloseWarningEnd s
  | .accessCloseRequest u => Sys2Proof.Machine.execAccessCloseRequest u s
  | .accessCloseDeadline u => Sys2Proof.Machine.execAccessCloseDeadline u s
  | .pulseTimerExpiry line => Sys2Proof.Machine.execPulseTimerExpiry line s

end Sys2Proof.Machine
end

