-- ==== Sys2Proof/Machine/Tick.lean ====
section
/-! DEFINITION. The passing of time where nothing is commanded: one millisecond, and the timers that come due with it
(00_scope, Time; DESIGN CHOICE, log entry 2). -/

namespace Sys2Proof.Machine

/-- The timers of unit `u` and the commands of their expiries, in the order they are taken at one tick. -/
def unitTimers (u : UnitNo) : List ((State → Option Time) × Instr) :=
  let dc := fun (st : UnitState → Bool) (t : DoorChannel → Option Time) (s : State) =>
    if st (s.unit u) then t (s.dc.get u) else none
  [ (dc (fun st => st == .unlocking) DoorChannel.lockTimer, .unlockTimeout u),
    (dc (fun st => st == .locking) DoorChannel.lockTimer, .lockingTimeout u),
    (dc (fun st => st == .closedLocked) DoorChannel.lockTimer, .lockWatchTimeout u),
    (dc UnitState.travels DoorChannel.travelTimer, .travelTimerExpiry u),
    (dc UnitState.drivenOpen DoorChannel.stallTimer, .stallTimerExpiry u),
    (dc UnitState.drivenOpen DoorChannel.pauseTimer, .stallPauseEnd u),
    (dc (fun st => st == .reopenWait) DoorChannel.pauseTimer, .reopenPauseEnd u),
    (dc (fun st => st == .homing) DoorChannel.homingTimer, .homingTimerExpiry u),
    (dc (fun st => st == .homing) DoorChannel.pauseTimer, .homingWaitEnd u),
    (fun s => (s.su.units.get u).edge.timer, .sensitiveEdgeChange u true),
    (fun s => (s.su.units.get u).alignTimer, .alignmentReadingTimeout u),
    (fun s => (s.su.units.get u).gapTimer, .gapSampleTimeout u),
    (fun s => (s.su.units.get u).zoneTimer, .zoneSampleTimeout u) ]

/-- The members' deadlines of unit `u`. -/
def memberTimers (u : UnitNo) : List ((State → Option Time) × Instr) :=
  [ (fun s => s.memberDeadline u, .memberDeadline u), (fun s => s.emergencyDeadline u, .emergencyCloseDeadline u),
    (fun s => s.accessDeadline u, .accessCloseDeadline u) ]

/-- The warnings of the close cycle. -/
def State.cycleWarnings (s : State) : List Warning :=
  match s.bu.cycle with
  | none => []
  | some c => c.warnings

/-- The end of the earliest running warning of the close cycle. -/
def State.cycleEnd (s : State) : Option Time := firstEnd s.cycleWarnings

/-- The end of the earliest running warning of the access close. -/
def State.accessEnd (s : State) : Option Time := firstEnd s.accessWarnings

/-- The timers of the closes, warnings before deadlines. -/
def closeTimers : List ((State → Option Time) × Instr) :=
  [ (State.cycleEnd, .closeCycleWarningEnd), (State.departureEnd, .departureCloseWarningEnd),
    (State.emergencyEnd, .emergencyCloseWarningEnd), (State.accessEnd, .accessCloseWarningEnd) ] ++
    ((List.range 10).map fun i => (fun s => (s.ownHold (i + 1)).map OwnHold.deadline, .ownHoldDeadline (i + 1))) ++
    [(State.departureDeadline, .departureCloseDeadline)] ++ (UnitNo.all.map memberTimers).flatten

/-- The silence timers, by node number. -/
def silenceTimers : List ((State → Option Time) × Instr) :=
  (List.range 48).map fun n =>
    (fun s => (s.slot (BitVec.ofNat 6 n)).silenceTimer, .silenceTimerExpiry (BitVec.ofNat 6 n))

/-- Every timer of the part with the command of its expiry, in the order they are taken at one tick (log entry 2). -/
def timers : List ((State → Option Time) × Instr) :=
  [(fun s => s.cl.listenTimer, .listenExpiry), (fun s => s.cl.quietTimer, .quietPeriodEnd),
    (fun s => s.lc.quietTimer, .lineQuietExpiry), (fun s => s.su.wire.timer, .emergencyWireAssert)] ++
    (UnitNo.all.map unitTimers).flatten ++ [(fun s => s.ae.window, .fusionWindowExpiry)] ++ closeTimers ++ silenceTimers ++
    [ (fun s => s.pm.absenceTimer, .neighbourAbsenceExpiry), (fun s => s.fr.severePulse, .pulseTimerExpiry .severe),
      (fun s => s.fr.minorPulse, .pulseTimerExpiry .minor), (fun s => s.pm.gap, .beaconGapTimerExpiry),
      (fun s => s.pm.cadence, .beaconCadenceExpiry) ]

/-- A DEBOUNCED cell's timer tells no level: the change is to the opposite of the conditioned level. -/
def debounceCommand (s : State) : Instr → Instr
  | .sensitiveEdgeChange u _ => .sensitiveEdgeChange u (!s.edgeAsserted u)
  | .emergencyWireAssert => if s.su.wire.level then .emergencyWireClear else .emergencyWireAssert
  | i => i

/-- The state after a command that answers one. -/
def nextState (i : Instr) (s : State) : State :=
  match exec i s with
  | .next s' => s'
  | .fault _ => s
  | .refused _ => s

/-- A timer that has come due is taken. -/
def fireIfDue (s : State) (t : (State → Option Time) × Instr) : State :=
  match t.1 s with
  | none => s
  | some e => if s.reached e then nextState (debounceCommand s t.2) s else s

/-- A timer is looked at `n` times in a row, and taken each time it has come due. -/
def fireTimes (t : (State → Option Time) × Instr) : Nat → State → State
  | 0, s => s
  | n + 1, s => fireTimes t n (fireIfDue s t)

/-- How often a command's timer may come due at one tick: the warnings of one record, started in one millisecond by repeated
CLOSEs or by several ACCESS_CLOSEs, all end together (R33, R165, R184); any other timer comes due once. -/
def State.endsTogether (s : State) : Instr → Nat
  | .closeCycleWarningEnd => s.cycleWarnings.length
  | .accessCloseWarningEnd => s.accessWarnings.length
  | _ => 1

/-- Every expiry of a timer that has come due is taken. -/
def fireDue (s : State) (t : (State → Option Time) × Instr) : State := fireTimes t (s.endsTogether t.2) s

/-- The reset that a reported RESET_NODE made due follows (R195), with the straps as they stand. -/
def resetIfDue (s : State) : State := if s.fr.resetReported then nextState (.commandedReset s.pins.straps) s else s

/-- A millisecond passes, and the timers that have come due are taken. -/
def passTime (s : State) : State := timers.foldl fireDue { s with now := s.now + 1 }

/-- One millisecond passes. A reset already reported comes before it, and one that a timer's frame reports comes with it (R195).
While the part is unpowered or held in reset nothing happens (R36). -/
def tick (s : State) : State := if s.acts then resetIfDue (passTime (resetIfDue s)) else s

end Sys2Proof.Machine
end

