-- ==== Sys2Proof/Safety.lean ====
section
/-! DEFINITION. What a safe state is, in the terms the claims use: what the outputs say, what the stores hold, what a frame leaves
alone. -/

namespace Sys2Proof.Machine

/-! ### What the outputs say -/

/-- The Secure Contact is closed only while the node is RUNNING, every configured unit is CLOSED_LOCKED or ISOLATED, and no gap
alarm, panel-open mark or emergency latch is present (R168; the lock switch, which the IU reads at its evaluations alone, is
left to `State.contactCondition`). -/
def ContactTrue (s : State) : Prop :=
  s.out.contact = true →
    s.cl.phase = .running ∧ s.iu.latch = false ∧
      ∀ u, (s.configured u = true → s.unit u = .closedLocked ∨ s.unit u = .isolated) ∧ s.unitQuiet u = true

/-- A Door Channel's outputs follow its state's row while the part acts, and are off while it does not; the setpoint is 0 while
the enable is off (section 7.1, R21, R36, R116). -/
def OutputsFollow (s : State) : Prop :=
  ∀ u, (s.dc.get u).enable = (s.acts && (s.unit u).driven) ∧ (s.dc.get u).solenoid = (s.acts && (s.unit u).energised) ∧
    ((s.dc.get u).enable = false → (s.dc.get u).setpoint = 0)

/-- The outputs are held safe (R36). -/
def HeldSafe (s : State) : Prop :=
  s.out.contact = false ∧ s.out.warning = false ∧
    ∀ u, (s.dc.get u).enable = false ∧ (s.dc.get u).solenoid = false ∧ (s.dc.get u).setpoint = 0

/-! ### What the stores hold -/

/-- The Transmit Queue: at most 16 entries, in class order, at most one beacon, at most one on the line (R47, R48). -/
def QueueOk (q : List TxEntry) : Prop :=
  q.length ≤ 16 ∧ q.Pairwise (fun a b => a.kind.cls ≤ b.kind.cls) ∧ (q.countP fun e => e.kind == .beacon) ≤ 1 ∧
    (q.countP fun e => e.onLine) ≤ 1

/-- The Sample Set: one sample per key, own ones for units 0 to 3, at most 60 peers' (R101). -/
def SamplesOk (own : Node) (l : List Sample) : Prop :=
  (l.Pairwise fun a b => ¬(a.source = b.source ∧ a.unit = b.unit)) ∧ (∀ x ∈ l, x.source = own → x.unit < 4) ∧
    (l.countP fun x => x.source != own) ≤ 60

/-- The Hold List: at most 16 entries, one per key (R161). -/
def HoldListOk (l : List HoldEntry) : Prop :=
  l.length ≤ 16 ∧ l.Pairwise fun a b => ¬(a.source = b.source ∧ a.car = b.car)

/-- The Release Set: numbers of 1 to 40 in strictly ascending order, so at most one entry per number (R173). -/
def ReleaseSetOk (l : List Node) : Prop := (l.Pairwise fun a b => a.toNat < b.toNat) ∧ ∀ n ∈ l, isBay n = true

/-- The Berth Record's isolated list: at most ten train doors, each once (R73, R74). -/
def IsolatedOk (l : List Nat) : Prop := l.length ≤ 10 ∧ l.Nodup

/-- The own holds: at most one for a car (R158). -/
def OwnHoldsOk (s : State) : Prop := ∀ c, s.bu.cycle = some c → c.holds.Pairwise fun a b => a.car ≠ b.car

/-- The windows and runs of a unit's sensing and search are no longer than the spec gives them (R93, R141, R143). -/
def WindowsOk (s : State) : Prop :=
  ∀ u, (s.su.units.get u).gapWindow.length ≤ 5 ∧ (s.su.units.get u).zoneWindow.length ≤ 10 ∧
    (s.ae.searches.get u).run.length ≤ 5

/-- Every store of the part within its bounds. -/
def StoresOk (s : State) : Prop :=
  SamplesOk s.cl.own s.ae.samples ∧ HoldListOk s.bu.holdList ∧ ReleaseSetOk s.iu.releaseSet ∧ WindowsOk s ∧
    s.pm.slots.length = 64 ∧ IsolatedOk s.bu.berth.isolated ∧ OwnHoldsOk s

/-- Only a beacon on the line holds a successor (R48). -/
def SuccessorsOk (q : List TxEntry) : Prop := ∀ e ∈ q, e.successor.isSome = true → e.kind = .beacon ∧ e.onLine = true

/-- A close cycle is held in CLOSING and in no other state, and the fusion window is open in FUSING alone (R78, R79, R85, R105,
R157). -/
def CycleOk (s : State) : Prop :=
  (s.bu.cycle.isSome = true ↔ s.berthState = .closing) ∧ (s.ae.window.isSome = true → s.berthState = .fusing)

/-- A member of the close cycle is not done (R166). -/
def CloseCycle.unfinished (c : CloseCycle) (s : State) : Prop :=
  ∃ u m, c.members.get u = some m ∧ memberDone (s.unit u) m.status = false

/-- A member of the emergency close cycle is not done (R181). -/
def EmergencyClose.unfinished (e : EmergencyClose) (s : State) : Prop :=
  ∃ u k, e.members.get u = some k ∧ memberDone (s.unit u) k = false

/-- No close is under way. -/
def State.noCloses (s : State) : Prop :=
  s.bu.cycle = none ∧ s.bu.departure = none ∧ s.iu.emergencyClose = none ∧ s.iu.accessClose = none

/-- A close cycle or an emergency close cycle that stands has a member that is not done; in LOADING no close of any kind stands, and no
beacon cadence runs (R20, R59, R166, R181). -/
def ClosesOk (s : State) : Prop :=
  (∀ c, s.bu.cycle = some c → c.unfinished s) ∧ (∀ e, s.iu.emergencyClose = some e → e.unfinished s) ∧
    (s.cl.phase = .loading → s.noCloses ∧ s.pm.cadence = none)

/-! ### What follows the state -/

/-- The fault lines follow the slots, the pulses and the mode, once a load has ended (R35, R190, R191). -/
def LinesFollow (s : State) : Prop :=
  s.acts = true → s.cl.phase ≠ .loading → s.out.severeOut = s.severeLine ∧ s.out.minorOut = s.minorLine

/-- The warning output is asserted exactly while a warning period of the node runs (R33). -/
def WarningFollows (s : State) : Prop := s.acts = true → s.out.warning = s.warningRunning

/-- While beacons are sent, the last one enqueued holds the summary as it stands, or a change is pending with the gap timer running
(R59). -/
def BeaconFollows (s : State) : Prop :=
  s.acts = true → s.pm.cadence.isSome = true →
    s.pm.lastBeacon = some s.summary ∨ (s.pm.changePending = true ∧ s.pm.gap.isSome = true)

/-- The own number stands in the Release Set exactly while the strap value is a bay controller's and some unit stands in MANUAL_RELEASED or
RELEASE_RESTORED (R173; for a strap value that is no bay controller's, log entry 14). -/
def OwnReleaseFollows (s : State) : Prop :=
  s.cl.own ∈ s.iu.releaseSet ↔ isBay s.cl.own = true ∧ ∃ u, s.unit u = .manualReleased ∨ s.unit u = .releaseRestored

/-- What stands true of a part at every step. -/
structure Follows (s : State) : Prop where
  successors : SuccessorsOk s.lc.queue
  cycle : CycleOk s
  closes : ClosesOk s
  lines : LinesFollow s
  warning : WarningFollows s
  beacon : BeaconFollows s
  ownRelease : OwnReleaseFollows s

/-! ### What fails in a configuration record (section 1.2) -/

/-- `k` is the first place at which `P` holds. -/
def FirstAt (P : Nat → Prop) (k : Nat) : Prop := P k ∧ ∀ j, j < k → ¬P j

/-- The record's check field agrees with the CRC over the bytes before it (R3). -/
def CheckOk (r : List Byte) (length : Nat) : Prop :=
  recordCheck (r.take (length - 2)) = BitVec.ofNat 16 (field2 r (length - 2))

/-- The car count at `p` stands before the check field and lies in 1 to 10 (R5). -/
def CarCountOk (r : List Byte) (length p : Nat) : Prop := p + 2 < length ∧ 1 ≤ field1 r p ∧ field1 r p ≤ 10

/-- The structure fails, and its outcome's offset is `k`: 25 for the consist count, a car count's own offset, and 0 for a car count
that is not read and for a length that differs (R5). -/
def StructureFails (r : List Byte) (length k : Nat) : Prop :=
  ((field1 r 25 < 1 ∨ 6 < field1 r 25) ∧ k = 25) ∨
    (1 ≤ field1 r 25 ∧ field1 r 25 ≤ 6 ∧
      ((∃ l p l', consistOffsets r (field1 r 25) 106 = l ++ p :: l' ∧ (∀ q ∈ l, CarCountOk r length q) ∧
          ((length ≤ p + 2 ∧ k = 0) ∨ (p + 2 < length ∧ (field1 r p < 1 ∨ 10 < field1 r p) ∧ k = p))) ∨
        ((∀ q ∈ consistOffsets r (field1 r 25) 106, CarCountOk r length q) ∧
          106 + ((consistOffsets r (field1 r 25) 106).map fun p => 1 + 23 * field1 r p).sum + 2 ≠ length ∧ k = 0)))

/-- The node field at offset `k` fails (R6). -/
def NodeFieldFails (r : List Byte) (own : Node) (k : Nat) : Prop :=
  (k = 3 ∧ 7 < field1 r 3) ∨ (k = 4 ∧ (40 < field1 r 4 ∨ field1 r 4 = own.toNat)) ∨
    (k = 5 ∧ (40 < field1 r 5 ∨ field1 r 5 = own.toNat ∨ (field1 r 5 ≠ 0 ∧ field1 r 5 = field1 r 4))) ∨
    (k = 6 ∧ (field1 r 6 < 1 ∨ 4 < field1 r 6)) ∨ (k = 7 ∧ 1 < field1 r 7) ∨ (k = 8 ∧ 1 < field1 r 8)

/-- The PED opening of the unit entry at `e` lies within chainage 0 to 400,000 (R7). -/
def OpeningFits (r : List Byte) (e : Nat) : Prop :=
  field2 r (e + 3) ≤ field3 r e ∧ field3 r e + field2 r (e + 3) ≤ 400000

/-- The geometry field or the template index at offset `k` of the unit entry at `e` fails by its own range (R7). -/
def UnitFieldFails (r : List Byte) (e k : Nat) : Prop :=
  (k = 0 ∧ 400000 < field3 r e) ∨ (k = 3 ∧ (field2 r (e + 3) < 400 ∨ 1500 < field2 r (e + 3))) ∨
    (k = 5 ∧ 200 < field1 r (e + 5)) ∨ (k = 6 ∧ (field2 r (e + 6) < 600 ∨ 1600 < field2 r (e + 6))) ∨
    (k = 8 ∧ (field1 r (e + 8) < 20 ∨ 200 < field1 r (e + 8))) ∨ (k = 9 ∧ 4 < field1 r (e + 9))

/-- The unit entry at `e` is right (R7). -/
def UnitEntryOk (r : List Byte) (e : Nat) : Prop := OpeningFits r e ∧ ∀ k, ¬UnitFieldFails r e k

/-- The openings of two unit entries share no stretch: one ends where the other begins, or before (R7). -/
def OpeningsApart (r : List Byte) (e f : Nat) : Prop :=
  field3 r e + field2 r (e + 3) + field2 r (f + 3) ≤ field3 r f ∨
    field3 r f + field2 r (f + 3) + field2 r (e + 3) ≤ field3 r e

/-- A field of the car entry at `c` fails, at offset `k` of the record (R8). -/
def CarFieldFails (r : List Byte) (c k : Nat) : Prop :=
  (k = c ∧ (field2 r c < 8000 ∨ 26000 < field2 r c)) ∨ (k = c + 2 ∧ 5 < field1 r (c + 2)) ∨
    ∃ i, i < field1 r (c + 2) ∧
      ((k = c + 3 + 4 * i ∧ (field2 r k < 1 ∨ field2 r c ≤ field2 r k ∨ (0 < i ∧ field2 r k ≤ field2 r (k - 4)))) ∨
        (k = c + 5 + 4 * i ∧ (field2 r k < 300 ∨ 900 < field2 r k)))

/-- A field of the consist entry at `p` fails, at offset `k` of the record; a consist without a door fails at its car count,
which is the model's reading of R8 (log entry 14). -/
def ConsistFieldFails (r : List Byte) (p k : Nat) : Prop :=
  (k = p ∧ ∀ j, j < field1 r p → field1 r (p + 1 + 23 * j + 2) = 0) ∨
    ∃ j, j < field1 r p ∧ CarFieldFails r (p + 1 + 23 * j) k

/-! ### What a record that passes loads (section 1.2) -/

/-- `v` is a clamped field's value `x` brought into `lo` to `hi`: itself within the range, the nearer bound outside it (R9). -/
def Brought (lo hi x v : Nat) : Prop :=
  lo ≤ v ∧ v ≤ hi ∧ (lo ≤ x → x ≤ hi → v = x) ∧ (x < lo → v = lo) ∧ (hi < x → v = hi)

/-- The built-in templates, A to D (R10, section 7.4). -/
def Profile.builtIn : List Profile :=
  [{ openCruise := 300, closeCruise := 250, accel := 600, creep := 40, creepDistance := 80 },
    { openCruise := 450, closeCruise := 400, accel := 800, creep := 50, creepDistance := 100 },
    { openCruise := 600, closeCruise := 500, accel := 1000, creep := 60, creepDistance := 100 },
    { openCruise := 700, closeCruise := 600, accel := 1200, creep := 60, creepDistance := 120 }]

/-- What the unit entry at `e` gives of a unit's clamped values: its threshold, and under template 4 its five custom values, the creep speed
no faster than either cruise speed; under another template the built-in profile (R9, R10). -/
def UnitClamped (r : List Byte) (e : Nat) (g : UnitGeometry) : Prop :=
  Brought 1000 8000 (field2 r (e + 18)) g.threshold ∧
    (field1 r (e + 9) = 4 →
      Brought 100 800 (field2 r (e + 10)) g.profile.openCruise ∧ Brought 100 800 (field2 r (e + 12)) g.profile.closeCruise ∧
        Brought 300 1500 (field2 r (e + 14)) g.profile.accel ∧ Brought 20 100 (field1 r (e + 16)) g.profile.creep ∧
        g.profile.creep ≤ g.profile.openCruise ∧ g.profile.creep ≤ g.profile.closeCruise ∧
        Brought 50 200 (field1 r (e + 17)) g.profile.creepDistance) ∧
    (field1 r (e + 9) ≠ 4 → Profile.builtIn[field1 r (e + 9)]? = some g.profile)

/-- What the unit entry at `e` gives of a unit's Geometry Table entry as it stands: p_u, H_u, the skew allowance, the leaf travel and the
moving mass (R12). -/
def UnitPlaced (r : List Byte) (e : Nat) (g : UnitGeometry) : Prop :=
  g.centre = field3 r e ∧ g.halfWidth = field2 r (e + 3) ∧ g.skew = field1 r (e + 5) ∧ g.travel = field2 r (e + 6) ∧
    g.mass = field1 r (e + 8)

/-- What the consist entry at `p` gives: L_cum from 0, each car's length added in turn, and the doors from the front, car by car and in
each car in offset order, with d_k, car and h_k (R13). -/
structure ConsistBuilt (r : List Byte) (p : Nat) (c : Consist) : Prop where
  cars : c.lengths.length = field1 r p + 1
  front : c.lengths[0]? = some 0
  sums : ∀ j, j < field1 r p → ∃ a, c.lengths[j]? = some a ∧ c.lengths[j + 1]? = some (a + field2 r (p + 1 + 23 * j))
  doors : c.doors =
    (List.range (field1 r p)).flatMap fun j =>
      (List.range (field1 r (p + 1 + 23 * j + 2))).map fun i =>
        { distance := c.lengths.getD j 0 + field2 r (p + 1 + 23 * j + 3 + 4 * i), car := j + 1
          halfWidth := field2 r (p + 1 + 23 * j + 5 + 4 * i) }

/-! ### A unit's sensing at rest and started (R32, R152, R154) -/

/-- A unit's sensing as its entry to ISOLATED puts it to rest: both filters empty, RELEASED and FREE, the edge cell CLEAR with its timer
stopped, no gap alarm, the gap and zone timers stopped; handle, panel and alignment stream go on (R152, R154). -/
def UnitSensing.rested (x : UnitSensing) : UnitSensing :=
  { x with
    gapWindow := [], clearRun := 0, gapAsserted := false, zoneWindow := [], zoneBusy := false, edge := ⟨false, none⟩
    alarm := .none, gapTimer := none, zoneTimer := none }

/-- A unit's sensing as started with the edge's raw level `raw`: both filters empty, the edge cell CLEAR, its timer running if the raw
level is ASSERTED, the gap and zone timers at their starts (R29, R32, R154). -/
def UnitSensing.begun (raw : Bool) (now : Time) (x : UnitSensing) : UnitSensing :=
  { x with
    gapWindow := [], clearRun := 0, gapAsserted := false, zoneWindow := [], zoneBusy := false
    edge := ⟨false, if raw then some (after now 10) else none⟩
    gapTimer := some (after now 40), zoneTimer := some (after now 200) }

/-! ### The fix and the map (chapter 6) -/

/-- `m` is the weighted median of `l`: the smallest implied stop at which twice the running weight reaches the total weight (R106). -/
def WeightedMedian (l : List Sample) (m : Nat) : Prop :=
  (∃ y ∈ l, y.stop = m) ∧ totalWeight l ≤ 2 * runningWeight l m ∧ ∀ y ∈ l, y.stop < m → 2 * runningWeight l y.stop < totalWeight l

/-- The best door of unit `u` with the fused stop `sHat`: the train door of the largest overlap, the smallest k among equals (R111). -/
def BestDoor (s : State) (sHat : Nat) (u : UnitNo) (d : TrainDoor) (k : Nat) : Prop :=
  (d, k) ∈ s.trainDoors ∧
    ∀ d' k', (d', k') ∈ s.trainDoors →
      overlap (s.cl.config.units.get u) sHat d' ≤ overlap (s.cl.config.units.get u) sHat d ∧
        (overlap (s.cl.config.units.get u) sHat d' = overlap (s.cl.config.units.get u) sHat d → k ≤ k')

/-- The span of car `j` of the consist `c`, stopped at `stop`, contains the chainage `x` (R14). -/
def InCar (c : Consist) (stop x j : Nat) : Prop :=
  1 ≤ j ∧ ∃ front rear, c.lengths[j - 1]? = some front ∧ c.lengths[j]? = some rear ∧ (stop : Int) - rear < x ∧
    (x : Int) ≤ (stop : Int) - front

/-! ### What a command leaves alone -/

/-- What the end of an event may do to a Door Channel: nothing; the close request of a close that was waiting, which marks a unit
in OPENING or sets a unit standing open moving toward closed, with its position, isolation mark and missed periods as before. -/
def KeepsUnit (d e : DoorChannel) : Prop :=
  e = d ∨ (d.st = .opening ∧ e = { d with pendingClose := true }) ∨
    ((d.st = .opened ∨ d.st = .heldOpen) ∧ (e.st = .closing ∨ e.st = .reversing ∨ e.st = .reopenWait) ∧
      e.position = d.position ∧ e.isolationMark = d.isolationMark ∧ e.missed = d.missed)

/-- What the end of an event may do to a unit's sensing: nothing, or INTRUSION become TRAP as a berth is SECURED (R151). -/
def KeepsSensing (x y : UnitSensing) : Prop := y = x ∨ (x.alarm = .intrusion ∧ y = { x with alarm := .trap })

/-- The frame of an event, but for its last clause (`Keeps`). Everything the part holds is as before in `t`, but for the units that
`acts` holds of (their Door Channels, sensing, access-open marks and reading runs), the closes under way, and what every event may end
in: closes judged and completed, faults and counts reported, frames queued, outputs and beacon brought up to date. -/
structure Leaves (acts : UnitNo → Bool) (s t : State) : Prop where
  supply : t.supply = s.supply
  resetLow : t.resetLow = s.resetLow
  cl : t.cl = s.cl
  freeCount : t.freeCount = s.freeCount
  pending : t.pending = s.pending
  errors : t.lc.errors = s.lc.errors
  line : t.lc.line = s.lc.line
  lineTimer : t.lc.quietTimer = s.lc.quietTimer
  slots : t.pm.slots = s.pm.slots
  notHeard : t.pm.notHeard = s.pm.notHeard
  identityConflict : t.pm.identityConflict = s.pm.identityConflict
  lastRefusal : t.pm.lastRefusal = s.pm.lastRefusal
  absenceTimer : t.pm.absenceTimer = s.pm.absenceTimer
  absenceOver : t.pm.absenceOver = s.pm.absenceOver
  /-- The Berth Record but for its state. -/
  record : { t.bu.berth with state := s.bu.berth.state } = s.bu.berth
  /-- SECURED by a completed close: out of CLOSING, or by the emergency close out of RELEASED (R85, R166, R167). -/
  berthState : t.bu.berth.state = s.bu.berth.state ∨
    (t.bu.berth.state = .secured ∧
      (s.bu.berth.state = .closing ∨ (s.bu.berth.state = .released ∧ s.iu.emergencyClose.isSome = true)))
  holdList : t.bu.holdList = s.bu.holdList
  noCycle : s.bu.cycle = none → t.bu.cycle = none
  /-- A close cycle that has ended has secured the berth (R166, R167). -/
  cycleEnded : s.bu.cycle.isSome = true → t.bu.cycle = none → t.bu.berth.state = .secured
  noDeparture : s.bu.departure = none → t.bu.departure = none
  /-- The AE but for the searches. -/
  align : { t.ae with searches := s.ae.searches } = s.ae
  outcomes : ∀ v, (t.ae.searches.get v).outcome = (s.ae.searches.get v).outcome
  runs : ∀ v, acts v = false → t.ae.searches.get v = s.ae.searches.get v
  wire : t.su.wire = s.su.wire
  sensing : ∀ v, acts v = false → KeepsSensing (s.su.units.get v) (t.su.units.get v)
  latch : t.iu.latch = s.iu.latch
  wireMark : t.iu.wireMark = s.iu.wireMark
  lineMark : t.iu.lineMark = s.iu.lineMark
  panelMarks : t.iu.panelMarks = s.iu.panelMarks
  accessLock : t.iu.accessLock = s.iu.accessLock
  accessMarks : ∀ v, acts v = false → t.iu.accessMarks.get v = s.iu.accessMarks.get v
  noEmergencyClose : s.iu.emergencyClose = none → t.iu.emergencyClose = none
  noAccessClose : s.iu.accessClose = none → t.iu.accessClose = none
  /-- The Release Set but for the own number. -/
  releases : ∀ n, n ≠ s.cl.own → (n ∈ t.iu.releaseSet ↔ n ∈ s.iu.releaseSet)
  severe : ∀ r, s.fr.severe = some r → t.fr.severe = some r
  minor : ∀ r, s.fr.minor = some r → t.fr.minor = some r
  resetDue : t.fr.resetDue = s.fr.resetDue
  /-- The node counters but for TX_DROPS. -/
  nodeCounters : { t.fr.nodeCounters with txDrops := s.fr.nodeCounters.txDrops } = s.fr.nodeCounters
  /-- A unit's counters but for REVERSALS and REQUEST_IGNORED. -/
  unitCounters : ∀ v, acts v = false →
    { t.fr.unitCounters.get v with
      reversals := (s.fr.unitCounters.get v).reversals
      requestIgnored := (s.fr.unitCounters.get v).requestIgnored } = s.fr.unitCounters.get v
  doors : ∀ v, acts v = false → KeepsUnit (s.dc.get v) (t.dc.get v)

/-- The frame of an event: what `Leaves` says, and where no close is under way the units that `acts` does not hold of keep their Door
Channels as they were. -/
structure Keeps (acts : UnitNo → Bool) (s t : State) : Prop extends Leaves acts s t where
  still : s.noCloses → ∀ v, acts v = false → t.dc.get v = s.dc.get v

/-- Unit `u` alone. -/
def only (u v : UnitNo) : Bool := u == v

/-- No unit. -/
def noUnit (_ : UnitNo) : Bool := false

/-- Any unit. -/
def anyUnit (_ : UnitNo) : Bool := true

/-- The frame of an event at whose end `t` stands when the event's own effect left `s`. -/
def Ends (s t : State) : Prop := Keeps noUnit s t ∧ t.now = s.now ∧ t.pins = s.pins

/-- The LC hears the frame, accepts it, and finds another number than its own in it (R41 to R44). -/
def Accepted (f : Frame) (s : State) : Prop := s.hears = true ∧ f.ok = true ∧ f.source ≠ s.cl.own

/-- The frame is accepted in RUNNING. -/
def AcceptedRunning (f : Frame) (s : State) : Prop := Accepted f s ∧ s.cl.phase = .running

/-- The channel of a unit that has taken an open request in CLOSED_LOCKED (R119, R121; its phase HOLD: log entry 29). -/
def unlocked (s : State) (u : UnitNo) : DoorChannel :=
  { (s.dc.get u).into .unlocking with lockTimer := some (after s.now 400) }

/-- The channel of a unit standing open that has taken a close request with nothing in the doorway (R120, R127). -/
def closingFirst (s : State) (u : UnitNo) : DoorChannel :=
  { (s.dc.get u).into .closing with
    phase := .accelerate, attempt := 1, overCount := 0
    travelTimer := some (after s.now s.cl.config.params.travelTimeout) }

/-- How many frames of a kind and a payload stand in the Transmit Queue. -/
def State.frames (s : State) (kind : FrameKind) (payload : List Byte) : Nat :=
  s.lc.queue.countP fun x => x.kind == kind && x.payload == payload

/-- A first beacon of the summary of `s` has been enqueued in `t`, and both beacon timers run: it is the last beacon enqueued, the summary
of `t` is the same or a change is pending, and where the queue had room it carries it (R17, R59). -/
structure FirstBeacon (s t : State) : Prop where
  last : t.pm.lastBeacon = some s.summary
  gap : t.pm.gap = some (after s.now 50)
  pending : t.summary = s.summary ∨ t.pm.changePending = true
  queued : s.lc.queue.length ≤ 8 → ∃ x ∈ t.lc.queue, x.kind = .beacon
  carried : s.lc.queue.length ≤ 8 → ∀ x ∈ t.lc.queue, x.kind = .beacon →
    if x.onLine then x.successor = some (beaconBytes s.summary) else x.payload = beaconBytes s.summary

/-- Unit `u`, with the channel `d` in CLOSING, has met an obstacle: one reversal is counted and nothing else of the unit's; it turns in
REVERSING toward REOPEN_WAIT, or at full travel already passes straight through to it (R128, R129). -/
structure Reversed (d : DoorChannel) (s t : State) (u : UnitNo) : Prop where
  counted : t.fr.unitCounters.get u =
    { s.fr.unitCounters.get u with reversals := (s.fr.unitCounters.get u).reversals.bump }
  turns : d.position < (s.cl.config.units.get u).travel →
    t.dc.get u =
      { d.into .reversing with
        phase := .accelerate, setpoint := d.setpoint, target := .reopenWait, stallCount := 0, stallRef := d.position
        travelTimer := some (after t.now s.cl.config.params.travelTimeout), stallTimer := some (after t.now 300) }
  passes : ((s.cl.config.units.get u).travel : Int) ≤ d.position →
    t.dc.get u =
      { d.into .reopenWait with
        target := .reopenWait, stallCount := 0, stallRef := d.position
        pauseTimer := some (after t.now s.cl.config.params.reopenPause) }

/-- An open request finds unit `u` CLOSED_LOCKED without its permit, or in a state that ignores the request (R119). -/
def OpenIgnored (permit : Bool) (s : State) (u : UnitNo) : Prop :=
  (s.unit u = .closedLocked ∧ permit = false) ∨
    s.unit u ∈ [.unlocking, .heldOpen, .locking, .homing, .manualReleased, .releaseRestored, .isolated, .fault, .unknown]

/-- Unit `u` has taken one open request by its state, under an open permit that holds or not (R119, R121, R129, R133). -/
structure OpenTaken (permit : Bool) (s t : State) (u : UnitNo) : Prop where
  ignored : OpenIgnored permit s u → t.dc.get u = s.dc.get u ∧
    t.fr.unitCounters.get u =
      { s.fr.unitCounters.get u with requestIgnored := (s.fr.unitCounters.get u).requestIgnored.bump }
  uncounted : ¬OpenIgnored permit s u → t.fr.unitCounters.get u = s.fr.unitCounters.get u
  unlocks : s.unit u = .closedLocked → permit = true → s.driveFault u = false → t.dc.get u = unlocked s u
  faults : s.unit u = .closedLocked → permit = true → s.driveFault u = true →
    t.dc.get u = { (s.dc.get u).into .fault with attempt := 0 }
  opening : s.unit u = .opening → t.dc.get u = { s.dc.get u with pendingClose := false }
  opened : s.unit u = .opened → t.dc.get u = s.dc.get u
  closing : s.unit u = .closing → 0 < s.remainingOpen u →
    t.dc.get u =
      { (s.dc.get u).into .reversing with
        phase := .accelerate, setpoint := (s.dc.get u).setpoint, target := .opened, attempt := 0, stallCount := 0
        stallRef := (s.dc.get u).position, travelTimer := some (after s.now s.cl.config.params.travelTimeout)
        stallTimer := some (after s.now 300) }
  atFullTravel : s.unit u = .closing → s.remainingOpen u ≤ 0 → t.unit u = .opened ∧ (t.dc.get u).attempt = 0
  reversing : s.unit u = .reversing → t.dc.get u = { s.dc.get u with target := .opened, attempt := 0 }
  reopenWait : s.unit u = .reopenWait → t.dc.get u = { (s.dc.get u).into .opened with attempt := 0 }

/-! ### When a close request is due -/

/-- Member `u` of the close cycle is to be sent its close request as `i` comes, at the node time of `s'` (R159, R163, R164). -/
def CycleDue (i : Instr) (u : UnitNo) (s s' : State) : Prop :=
  s.platformHold = false ∧
    ((i = .memberRelease u ∧ s' = s ∧
        ∃ c k, s.bu.cycle = some c ∧ c.members.get u = some ⟨k, .waiting⟩ ∧
          s.boardingHold c u (warningAt c.warnings k) = false ∧ s.gapFree u (warningAt c.warnings k) = true) ∨
      (i = .memberDeadline u ∧ ∃ e, s.memberDeadline u = some e ∧ s' = s.reach e))

/-- Covered unit `u` is to be sent its close request as `i` comes (R88). -/
def DepartureDue (i : Instr) (u : UnitNo) (s s' : State) : Prop :=
  ∃ d, s.bu.departure = some d ∧ d.warning.running = false ∧ d.covered.get u = true ∧
    ((i = .departureCloseRequest u ∧ s' = s ∧ s.gapFree u d.warning = true) ∨
      (i = .departureCloseDeadline ∧ s' = s.reach (s.deadline d.warning)))

/-- Member `u` of the emergency close cycle is to be sent its close request as `i` comes (R180). -/
def EmergencyDue (i : Instr) (u : UnitNo) (s s' : State) : Prop :=
  (i = .emergencyCloseRequest u ∧ s' = s ∧
      ∃ e, s.iu.emergencyClose = some e ∧ e.members.get u = some .waiting ∧ s.gapFree u e.warning = true) ∨
    (i = .emergencyCloseDeadline u ∧ ∃ e, s.emergencyDeadline u = some e ∧ s' = s.reach e)

/-- Member `u` of the access close is to be sent its close request as `i` comes (R184). -/
def AccessDue (i : Instr) (u : UnitNo) (s s' : State) : Prop :=
  (i = .accessCloseRequest u ∧ s' = s ∧
      ∃ a k, s.iu.accessClose = some a ∧ a.members.get u = some ⟨k, .waiting⟩ ∧
        s.gapFree u (warningAt a.warnings k) = true) ∨
    (i = .accessCloseDeadline u ∧ ∃ e, s.accessDeadline u = some e ∧ s' = s.reach e)

/-- How many parts of four bytes `data` is cut into, the last of one to four (R193). -/
def partCount (data : List Byte) : Nat := (data.length + 3) / 4

/-- The ANSWER entries that carry `data`: part `i + 1` of the count, with the bytes from place `4 * i` on (R193). -/
def answerEntries (src : Node) (topic : Topic) (arg : Byte) (data : List Byte) : List TxEntry :=
  (List.range (partCount data)).map fun i =>
    { kind := .answer
      payload := [nodeByte src, topic.code, arg, nibbles (BitVec.ofNat 4 (i + 1)) (BitVec.ofNat 4 (partCount data))] ++
        (data.drop (4 * i)).take 4
      successor := none, onLine := false }

/-- The observed centre of an in-view reading of unit `u` (R96). -/
def State.observedCentre (s : State) (u : UnitNo) (a b : Int) : Int := (s.cl.config.units.get u).centre + centreOffset a b

/-- The distance of the observed centre from the predicted centre of the train door `d`, S0 less its d_k (R97). -/
def State.doorDistance (s : State) (u : UnitNo) (a b : Int) (d : TrainDoor) : Nat :=
  (s.observedCentre u a b - (((s.ae.s0.getD 0 : Nat) : Int) - d.distance)).natAbs

/-- The matched train door: the nearest, and the smallest k among those equally near (R97). -/
def MatchedDoor (s : State) (u : UnitNo) (a b : Int) (d : TrainDoor) (k : Nat) : Prop :=
  (d, k) ∈ s.trainDoors ∧
    ∀ d' k', (d', k') ∈ s.trainDoors →
      s.doorDistance u a b d ≤ s.doorDistance u a b d' ∧ (s.doorDistance u a b d' = s.doorDistance u a b d → k ≤ k')

/-- The queue is `q`, or `q` with the change beacon placed in it in which any event may end (R59). -/
def QueueOrBeacon (s : State) (q q' : List TxEntry) : Prop :=
  q' = q ∨ ∃ b : Beacon, q' = (enqueue .beacon (beaconBytes b) (s.setQueue q)).lc.queue

/-- One report of a kind, a severity, a unit and a sequence has been made: it filled its empty slot, or it left the slot and added one
to its kind's counter (R187, R188). -/
def Reported (sev : Severity) (x : FaultRecord) (r r' : FaultRecorder) : Prop :=
  (r.slot sev = none → r'.slot sev = some x) ∧
    ∀ y, r.slot sev = some y → r'.slot sev = some y ∧
      (r.kinds.length = 17 →
        r'.kinds.getD x.kind.index (Counter.zero 16) = (r.kinds.getD x.kind.index (Counter.zero 16)).bump)

/-- What the end of a load does to units, sensing and captures, from the state `s` in LOADING to the state `t` after it (R15, R32, R118,
R154, R155, R171, R173, R175). The order of the captures is log entry 23, a channel's values in LOADING log entry 5, the phase of a start
state log entry 29. -/
structure LoadEnded (s t : State) : Prop where
  now : t.now = s.now
  pins : t.pins = s.pins
  /-- The start state, by the first test that holds: handle, isolation mark, switches (R118). -/
  starts : ∀ u, t.configured u = true →
    t.unit u =
      if (s.pins.units.get u).handle then .manualReleased
      else if (s.dc.get u).isolationMark then .isolated
      else if (s.pins.units.get u).closed && (s.pins.units.get u).lockEngaged then .closedLocked
      else .unknown
  channels : ∀ u, t.configured u = true →
    (t.dc.get u).isolationMark = (s.dc.get u).isolationMark ∧
      (s.dc.get u = DoorChannel.reset (s.dc.get u).isolationMark → t.dc.get u = { s.dc.get u with st := t.unit u })
  /-- A unit that is not configured loses its isolation mark, and its sensing is not started. -/
  others : ∀ u, t.configured u = false →
    (t.dc.get u).isolationMark = false ∧ t.su.units.get u = s.su.units.get u ∧
      t.fr.unitCounters.get u = s.fr.unitCounters.get u
  wire : t.su.wire = ⟨false, if s.pins.wire then some (after s.now 50) else none⟩
  /-- A configured unit's sensing starts, its handle and panel taken from their raw levels (R32, R155). -/
  runs : ∀ u, t.configured u = true → t.unit u ≠ .isolated →
    t.su.units.get u =
      { (s.su.units.get u).begun (s.pins.units.get u).edge s.now with
        handle := ⟨(s.pins.units.get u).handle, (s.pins.units.get u).handle⟩
        panel := ⟨(s.pins.units.get u).panel, (s.pins.units.get u).panel⟩, alignTimer := some (after s.now 40) }
  /-- That of one that starts in ISOLATED rests (R154, R155). -/
  rests : ∀ u, t.configured u = true → t.unit u = .isolated → s.unit u ≠ .isolated →
    t.su.units.get u =
      { (s.su.units.get u).rested with
        handle := ⟨(s.pins.units.get u).handle, (s.pins.units.get u).handle⟩
        panel := ⟨(s.pins.units.get u).panel, (s.pins.units.get u).panel⟩, alignTimer := some (after s.now 40) }
  /-- A handle found HELD is an operation, counted (R171); a panel found HELD marks its unit (R175). -/
  handles : ∀ u, t.configured u = true →
    t.fr.unitCounters.get u =
      if (s.pins.units.get u).handle then
        { s.fr.unitCounters.get u with handleReleases := (s.fr.unitCounters.get u).handleReleases.bump }
      else s.fr.unitCounters.get u
  panels : ∀ u, t.iu.panelMarks.get u = (s.iu.panelMarks.get u || (t.configured u && (s.pins.units.get u).panel))
  /-- Each draws one ALERT, with the berth sequence, 0 in LOADING. -/
  alerts : s.lc.queue.length ≤ 8 → ∀ u,
    (t.frames .alert [1, byte u.val, s.seq] =
        s.frames .alert [1, byte u.val, s.seq] + if t.configured u && (s.pins.units.get u).handle then 1 else 0) ∧
      t.frames .alert [2, byte u.val, s.seq] =
        s.frames .alert [2, byte u.val, s.seq] + if t.configured u && (s.pins.units.get u).panel then 1 else 0
  /-- Each is reported: where the minor slot is empty and no clamp tally fills it, one of them does. -/
  fills : s.fr.minor = none → (∀ o, t.cl.outcome = some o → o.reason = .ok → o.clamps = 0) →
    ((∀ u, t.configured u = true → (s.pins.units.get u).handle = false ∧ (s.pins.units.get u).panel = false) →
      t.fr.minor = none) ∧
    ((∃ u, t.configured u = true ∧ ((s.pins.units.get u).handle = true ∨ (s.pins.units.get u).panel = true)) →
      ∃ u, t.configured u = true ∧
        (((s.pins.units.get u).handle = true ∧ t.fr.minor = some ⟨.handle, some u, s.seq, s.now⟩) ∨
          ((s.pins.units.get u).panel = true ∧ t.fr.minor = some ⟨.panel, some u, s.seq, s.now⟩)))
  kept : ∀ r, s.fr.minor = some r → t.fr.minor = some r
  /-- Each that does not fill the slot is counted (R188). -/
  counted : s.fr.kinds.length = 17 → ∀ (k : FaultKind) (held : UnitNo → Bool) (n : Nat),
    (k = .handle ∧ held = fun u => (s.pins.units.get u).handle) ∨ (k = .panel ∧ held = fun u => (s.pins.units.get u).panel) →
    n = (UnitNo.all.filter fun u => t.configured u && held u).length →
    t.fr.kinds.getD k.index (Counter.zero 16) =
      Counter.bump^[if s.fr.minor = none ∧ t.fr.minor.map FaultRecord.kind = some k then n - 1 else n]
        (s.fr.kinds.getD k.index (Counter.zero 16))
  ownRelease : OwnReleaseFollows t

/-- The condition of NOT_HEARD: some configured neighbour's slot is LIVE, and each that is has a naming run of 3 (R65). -/
def Unheard (s : State) : Prop :=
  (∃ n ∈ s.neighbours, (s.slot n).state = .live) ∧
    ∀ n ∈ s.neighbours, (s.slot n).state = .live → 3 ≤ (s.slot n).naming

/-- NOT_HEARD in `t` is reported where `s` did not have it set, and otherwise the minor slot stands (R65). -/
def NotHeardReported (s t : State) : Prop :=
  (s.pm.notHeard = false → t.pm.notHeard = true → Reported .minor ⟨.notHeard, none, s.seq, t.now⟩ s.fr t.fr) ∧
    (s.pm.notHeard = true ∨ t.pm.notHeard = false → t.fr.minor = s.fr.minor)

/-- The three door slots of a BERTH taken into a record with an empty isolated list, for the consist `c`: the indices of 1 to K join
in their order, each once, and each index above K is counted in DISCARDED_FRAMES (R73). -/
def SlotsTaken (c : Consist) (l : List Byte) (s t : State) : Prop :=
  t.bu.berth.isolated.Nodup ∧ t.bu.berth.isolated.Sublist (l.map BitVec.toNat) ∧
    (∀ k, k ∈ t.bu.berth.isolated ↔ 1 ≤ k ∧ k ≤ c.doors.length ∧ k ∈ l.map BitVec.toNat) ∧
    t.fr.nodeCounters.discardedFrames =
      Counter.bump^[l.countP fun d => decide (c.doors.length < d.toNat)] s.fr.nodeCounters.discardedFrames

/-- Unit `u` carries the access-open mark and is no member of the access close yet, so that it joins it (R77, R184). -/
def State.preempted (s : State) (u : UnitNo) : Bool := s.iu.accessMarks.get u && (s.accessMembers.get u).isNone

/-- The units a COMMAND's argument names that are configured (R45). -/
def State.named (s : State) (arg : Byte) (u : UnitNo) : Bool := arg.getLsbD u.val && s.configured u

/-- The frame reaches the node as a COMMAND or QUERY to its own number. -/
def Addressed (f : Frame) (dest : Byte) (s : State) : Prop := Accepted f s ∧ dest = nodeByte s.cl.own

/-! ### The bytes of an answer (R193, section 11.5) -/

/-- The number in the `n` bytes of `d` from place `o` on, most significant byte first (R54). -/
def valueAt (d : List Byte) (o n : Nat) : Nat := ((d.drop o).take n).foldl (fun v b => v * 256 + b.toNat) 0

/-- The number in `w` bits of the byte of `d` at place `o`, the lowest of them bit `lo`. -/
def bitsAt (d : List Byte) (o lo w : Nat) : Nat := valueAt d o 1 / 2 ^ lo % 2 ^ w

/-- Bit `i` of the byte of `d` at place `o`. -/
def flagAt (d : List Byte) (o i : Nat) : Bool := (valueAt d o 1).testBit i

/-- The `n` bytes from place `o` on carry `x`, where they can hold it. -/
def NumberAt (d : List Byte) (o n x : Nat) : Prop := x < 256 ^ n → valueAt d o n = x

/-- The two bytes from place `o` on carry `x` as a signed number, where they can hold it. -/
def SignedAt (d : List Byte) (o : Nat) (x : Int) : Prop :=
  -32768 ≤ x → x ≤ 32767 → (valueAt d o 2 : Int) = if x < 0 then x + 65536 else x

/-- The count of a counter of `8 * n` bits stands from place `o` on, and its latch in bit `i` of the byte at place `p`. -/
def CounterAt (d : List Byte) (o p i : Nat) {n : Nat} (c : Counter (8 * n)) : Prop :=
  valueAt d o n = c.count.toNat ∧ flagAt d p i = c.latch

/-- The fault kinds of codes 1 to 17 (section 11.1). -/
def FaultKind.byCode : List FaultKind :=
  [.lockFault, .departUnsecured, .trap, .identityConflict, .configFault, .homeFail, .travelIncomplete, .driveFault, .unlockFail,
    .heldOpen, .intrusion, .notHeard, .configClamped, .accessPreempted, .lineQuiet, .handle, .panel]

/-- The eight bytes of a Fault Capture slot from place `o` on: flag, kind, unit (255 none), sequence, node time; an empty slot's are 0. -/
def SlotAt (d : List Byte) (o : Nat) (x : Option FaultRecord) : Prop :=
  (x = none → ∀ i, i < 8 → valueAt d (o + i) 1 = 0) ∧
    ∀ r, x = some r →
      valueAt d o 1 = 1 ∧ (∃ k, valueAt d (o + 1) 1 = k + 1 ∧ FaultKind.byCode[k]? = some r.kind) ∧
        valueAt d (o + 2) 1 = r.unit.elim 255 UnitNo.val ∧ valueAt d (o + 3) 1 = r.seq.toNat ∧
        valueAt d (o + 4) 4 = r.time.toNat

/-- FAULTS: the severe slot, the minor slot, the counters of codes 1 to 17, their latches from bit 7 of the first of three bytes on. -/
def FaultsLayout (s : State) (d : List Byte) : Prop :=
  d.length = 53 ∧ SlotAt d 0 s.fr.severe ∧ SlotAt d 8 s.fr.minor ∧
    ∀ k, k < 17 → CounterAt d (16 + 2 * k) (50 + k / 8) (7 - k % 8) (n := 2) (s.fr.kinds.getD k (Counter.zero 16))

/-- The unit states of codes 0 to 15 (section 7.1). -/
def UnitState.byCode : List UnitState :=
  [.closedLocked, .unlocking, .opening, .opened, .closing, .reversing, .reopenWait, .heldOpen, .locking, .homing, .manualReleased,
    .releaseRestored, .isolated, .fault, .unknown, .notConfigured]

/-- UNIT_COUNTERS of unit `u`: the state code, the unit flags, the five counters, their latches in bits 7 to 3 of the last byte. -/
def UnitLayout (s : State) (u : UnitNo) (d : List Byte) : Prop :=
  d.length = 15 ∧ (s.configured u = false → valueAt d 0 1 = 15) ∧
    (s.configured u = true → UnitState.byCode[valueAt d 0 1]? = some (s.unit u)) ∧
    flagAt d 1 7 = (s.dc.get u).isolationMark ∧ flagAt d 1 6 = (s.su.units.get u).handle.held ∧
    flagAt d 1 5 = (s.su.units.get u).panel.held ∧ flagAt d 1 4 = s.iu.panelMarks.get u ∧ flagAt d 1 3 = s.iu.accessMarks.get u ∧
    [GapAlarm.none, .intrusion, .trap][bitsAt d 1 0 2]? = some (s.su.units.get u).alarm ∧
    CounterAt d 2 14 7 (n := 4) (s.fr.unitCounters.get u).openCycles ∧
    CounterAt d 6 14 6 (n := 2) (s.fr.unitCounters.get u).reversals ∧
    CounterAt d 8 14 5 (n := 2) (s.fr.unitCounters.get u).unlockFails ∧
    CounterAt d 10 14 4 (n := 2) (s.fr.unitCounters.get u).handleReleases ∧
    CounterAt d 12 14 3 (n := 2) (s.fr.unitCounters.get u).requestIgnored

/-- The reasons of a load outcome, of codes 0 to 8. -/
def LoadReason.byCode : List LoadReason :=
  [.ok, .link, .length, .check, .strap, .structural, .nodeField, .unitField, .consistField]

/-- NODE_COUNTERS: the CL state, face id, ACCESS_LOCK, the node flags, the load outcome, the seven counters, their latches in bits 7 to 1
of the last byte. -/
def NodeLayout (s : State) (d : List Byte) : Prop :=
  d.length = 24 ∧ (s.cl.phase = .running → valueAt d 0 1 = 2) ∧ (s.cl.phase = .configFault → valueAt d 0 1 = 3) ∧
    valueAt d 1 1 = s.cl.config.faceId.toNat ∧ valueAt d 2 1 = (if s.iu.accessLock then 1 else 0) ∧
    flagAt d 3 7 = s.pm.identityConflict ∧ flagAt d 3 6 = s.pm.notHeard ∧ (flagAt d 3 5 = true ↔ s.lc.line = .lineQuiet) ∧
    (∀ o, s.cl.outcome = some o →
      LoadReason.byCode[valueAt d 4 1]? = some o.reason ∧ NumberAt d 5 2 o.offset ∧ (o.index = none → valueAt d 7 1 = 255) ∧
        (∀ i, o.index = some i → NumberAt d 7 1 i) ∧ NumberAt d 8 1 o.clamps) ∧
    CounterAt d 9 23 7 (n := 2) s.fr.nodeCounters.discardedFrames ∧ CounterAt d 11 23 6 (n := 2) s.fr.nodeCounters.txDrops ∧
    CounterAt d 13 23 5 (n := 2) s.fr.nodeCounters.lineQuietEvents ∧ CounterAt d 15 23 4 (n := 2) s.fr.nodeCounters.lateSamples ∧
    CounterAt d 17 23 3 (n := 2) s.fr.nodeCounters.sampleOverflow ∧ CounterAt d 19 23 2 (n := 2) s.fr.nodeCounters.berthConflict ∧
    CounterAt d 21 23 1 (n := 2) s.fr.nodeCounters.holdEvictions

/-- The berth states of codes 0 to 6. -/
def BerthState.byCode : List BerthState := [.idle, .announced, .fusing, .fixed, .released, .closing, .secured]

/-- The verdicts of codes 0 to 4. -/
def Verdict.byCode : List Verdict := [.none, .aligned, .degraded, .outOfTolerance, .unaligned]

/-- BERTH: the record, the isolated list, the members of the close cycle with unit 0's status in the upper two bits, the cars held, the Hold
List with its count, the Release Set. For the bytes of an absent S0 see log entry 9, for the Release Set at IDLE log entry 30, for the order
of the isolated list's indices in its ten slots log entry 32. -/
def BerthLayout (s : State) (d : List Byte) : Prop :=
  d.length = 28 + 2 * s.bu.holdList.length ∧ valueAt d 0 1 = s.seq.toNat ∧
    BerthState.byCode[bitsAt d 1 5 3]? = some s.berthState ∧ Verdict.byCode[bitsAt d 1 2 3]? = some s.bu.berth.verdict ∧
    flagAt d 1 0 = s.bu.berth.pendingRelease ∧ (s.bu.berth.consist = none → valueAt d 2 1 = 255) ∧
    (∀ i, s.bu.berth.consist = some i → NumberAt d 2 1 i) ∧ (∀ x, s.bu.berth.s0 = some x → NumberAt d 3 3 x) ∧
    (s.bu.berth.sHat = none → valueAt d 6 3 = 16777215) ∧ (∀ x, s.bu.berth.sHat = some x → NumberAt d 6 3 x) ∧
    (∀ i, i < 10 → NumberAt d (9 + i) 1 (s.bu.berth.isolated.getD i 0)) ∧
    (∀ u : UnitNo, [none, some MemberStatus.underWarning, some .waiting, some .started][bitsAt d 19 (6 - 2 * u.val) 2]? =
      some ((s.bu.cycle.bind fun c => c.members.get u).map Member.status)) ∧
    (∀ c, 1 ≤ c → c ≤ 10 →
      ((valueAt d 20 2).testBit c = true ↔ ∃ y, s.bu.cycle = some y ∧ ∃ h ∈ y.holds, h.car = c)) ∧
    NumberAt d 22 1 s.bu.holdList.length ∧
    (∀ i h, s.bu.holdList[i]? = some h → valueAt d (23 + 2 * i) 1 = h.source.toNat ∧ NumberAt d (24 + 2 * i) 1 h.car) ∧
    (ReleaseSetOk s.iu.releaseSet → ∀ p : Node, isBay p = true →
      ((valueAt d (23 + 2 * s.bu.holdList.length) 5).testBit (p.toNat - 1) = true ↔ p ∈ s.iu.releaseSet))

/-- The search outcomes of codes 0 to 5. -/
def SearchOutcome.byCode : List SearchOutcome := [.none, .seeking, .sampled, .noMatch, .lowQuality, .notFound]

/-- The map reasons of codes 1 to 7. -/
def MapReason.byCode : List MapReason :=
  [.served, .verdict, .noTrainDoor, .partialWidth, .trainDoorIsolated, .unitIsolated, .unitFault]

/-- The eight bytes of a unit in the SERVICE_MAP data from place `o` on: reason (0 map empty), search outcome, k, car (0 absent each),
overlap (0 absent), E_u (-32,768 absent, as 32,768 of its two bytes). -/
def MapAt (d : List Byte) (o : Nat) (outcome : SearchOutcome) (x : Option MapEntry) : Prop :=
  SearchOutcome.byCode[valueAt d (o + 1) 1]? = some outcome ∧ (x = none → valueAt d o 1 = 0) ∧
    (∀ e, x = some e → ∃ k, valueAt d o 1 = k + 1 ∧ MapReason.byCode[k]? = some e.reason) ∧
    (x.bind MapEntry.door = none → valueAt d (o + 2) 1 = 0) ∧ (∀ k, x.bind MapEntry.door = some k → NumberAt d (o + 2) 1 k) ∧
    (x.bind MapEntry.car = none → valueAt d (o + 3) 1 = 0) ∧ (∀ c, x.bind MapEntry.car = some c → NumberAt d (o + 3) 1 c) ∧
    (x.bind MapEntry.overlap = none → valueAt d (o + 4) 2 = 0) ∧
    (∀ y, x.bind MapEntry.overlap = some y → SignedAt d (o + 4) y) ∧
    (x.bind MapEntry.width = none → valueAt d (o + 6) 2 = 32768) ∧ ∀ y, x.bind MapEntry.width = some y → SignedAt d (o + 6) y

/-- SERVICE_MAP: the verdict, the margin (0 none), eight bytes for each configured unit in order. -/
def MapLayout (s : State) (d : List Byte) : Prop :=
  d.length = 2 + 8 * min 4 s.cl.config.unitCount ∧ Verdict.byCode[valueAt d 0 1]? = some s.ae.verdict ∧
    (s.ae.margin = none → valueAt d 1 1 = 0) ∧ (∀ m, s.ae.margin = some m → NumberAt d 1 1 m) ∧
    ∀ u : UnitNo, s.configured u = true → MapAt d (2 + 8 * u.val) (s.ae.searches.get u).outcome (s.ae.map.get u)

/-- The eight bytes of a beacon from place `o` on (section 3.6). -/
def BeaconAt (d : List Byte) (o : Nat) (b : Beacon) : Prop :=
  valueAt d o 1 = b.seq.toNat ∧ bitsAt d (o + 1) 4 4 = b.berthState.toNat ∧ bitsAt d (o + 1) 0 4 = b.verdict.toNat ∧
    bitsAt d (o + 2) 4 4 = b.units.q0.toNat ∧ bitsAt d (o + 2) 0 4 = b.units.q1.toNat ∧
    bitsAt d (o + 3) 4 4 = b.units.q2.toNat ∧ bitsAt d (o + 3) 0 4 = b.units.q3.toNat ∧
    valueAt d (o + 4) 1 = b.flags.toNat ∧ valueAt d (o + 5) 1 = b.up.toNat ∧ valueAt d (o + 6) 1 = b.down.toNat ∧
    valueAt d (o + 7) 1 = b.refusal.toNat

/-- PEER of the slot `x`: the slot byte, the last frame time (0 while ABSENT), the pairing time, the last beacon, SILENCE_COUNT. For the
bytes of an absent pairing time and an absent beacon see log entry 9. -/
def PeerLayout (x : Slot) (d : List Byte) : Prop :=
  d.length = 19 ∧ [Liveness.absent, .live, .silent][bitsAt d 0 6 2]? = some x.state ∧ flagAt d 0 5 = x.pairing.isSome ∧
    flagAt d 0 4 = x.lastBeacon.isSome ∧ (x.naming ≤ 3 → bitsAt d 0 0 2 = x.naming) ∧ (x.state = .absent → valueAt d 1 4 = 0) ∧
    (x.state ≠ .absent → ∀ e, x.lastFrame = some e → valueAt d 1 4 = e.toNat) ∧
    (∀ e, x.pairing = some e → valueAt d 5 4 = e.toNat) ∧ (∀ b, x.lastBeacon = some b → BeaconAt d 9 b) ∧
    CounterAt d 17 0 3 (n := 2) x.silence

/-- The data of an answer, by its topic; the slot of the own number is the empty one (R55). -/
def AnswerLayout (topic : Topic) (arg : Byte) (s : State) (d : List Byte) : Prop :=
  match topic with
  | .faults => FaultsLayout s d
  | .unitCounters => ∃ u : UnitNo, arg.toNat = u.val ∧ UnitLayout s u d
  | .nodeCounters => NodeLayout s d
  | .berth => BerthLayout s d
  | .serviceMap => MapLayout s d
  | .peer => ∃ n : Node, nodeByte n = arg ∧ PeerLayout (if n = s.cl.own then Slot.empty else s.slot n) d

/-! ### The timers that come due at a tick (log entry 2) -/

/-- A timer runs and its expiry has come. -/
def Due (p : (State → Option Time) × Instr) (s : State) : Prop := ∃ e, p.1 s = some e ∧ s.reached e = true

/-- One timer is looked at, from the first state to the second: while it is due the command of its expiry is run, at most `n` times. -/
inductive TimerRun (p : (State → Option Time) × Instr) : Nat → State → State → Prop where
  | rest {n : Nat} {s : State} : ¬Due p s → TimerRun p n s s
  | spent {s : State} : TimerRun p 0 s s
  | take {n : Nat} {s r t : State} :
      Due p s → Sys2Proof.Machine.exec (debounceCommand s p.2) s = .next r → TimerRun p n r t → TimerRun p (n + 1) s t

/-- The timers of a list are looked at in order, each once, but the close cycle's and the access close's as often as they have warnings
(`State.endsTogether`). -/
inductive ExpiriesRun : List ((State → Option Time) × Instr) → State → State → Prop where
  | done {s : State} : ExpiriesRun [] s s
  | look {p : (State → Option Time) × Instr} {l : List ((State → Option Time) × Instr)} {s r t : State} :
      TimerRun p (s.endsTogether p.2) s r → ExpiriesRun l r t → ExpiriesRun (p :: l) s t

/-- The tick of `s` ends as the timers leave `t`: there, or with the reset that a RESET_NODE reported in it has made due (R195). -/
def TickEnds (s t : State) : Prop :=
  (t.fr.resetReported = false → Sys2Proof.Machine.step s = .next t) ∧
    (t.fr.resetReported = true →
      Sys2Proof.Machine.step s = Sys2Proof.Machine.exec (.commandedReset t.pins.straps) t)

end Sys2Proof.Machine

namespace Sys2Proof

/-- A command is one of the five of supply and reset. -/
def Instr.isReset : Instr → Bool
  | .powerOnReset _ => true
  | .supplyFall => true
  | .resetPinLow => true
  | .resetPinRelease _ => true
  | .commandedReset _ => true
  | _ => false

end Sys2Proof
end

