-- ==== Sys2Proof/WellFormed.lean ====
section
/-! DEFINITION. The operands a command may have: frames that pass every check of R41 and R42, values within the ranges the spec
gives the event. `exec` is total all the same; what it does with other operands is the effect the rules give them (a frame
that fails a check is discarded and counted). -/

namespace Sys2Proof

open Sys2Proof.Machine

/-- The command's frame, if it is one, is accepted (R41, R42). -/
def Instr.frameOk (i : Instr) : Bool :=
  match frameOf i with
  | none => true
  | some f => f.ok

/-- The operands beyond a frame's own fields lie in the ranges the spec gives them. -/
def Instr.rangesOk : Instr → Bool
  | .configReadPassComplete bytes => decide (2 ≤ bytes.length)
  | .discardedFrame heard framing => (acceptBytes heard framing).isNone
  | .alert _ kind _ _ => kind != 1
  | .controlSample _ _ current => decide (current ≤ 16000)
  | .ownHoldDeadline car => decide (1 ≤ car) && decide (car ≤ 10)
  | .silenceTimerExpiry node => decide (1 ≤ node.toNat) && decide (node.toNat ≤ 47)
  | _ => true

/-- A well-formed command. -/
def Instr.wellFormed (i : Instr) : Bool := i.frameOk && i.rangesOk

end Sys2Proof
end

