-- ==== Sys2Proof/Certificates/Slice0/Obligations.lean ====
section
/-! DEFINITION. The statements for the provers. -/

open Sys2Proof Sys2Proof.Machine

/-! ### The machine (families: all) -/

/-- One step takes the command at the front of the queue; with none waiting, a part that is held does nothing, and one that acts counts one
millisecond. With no timer due nothing else happens. Where timers are due, each in the order of `timers` has the command of its expiry run
while it is due, once, or as often as its record has warnings; where one alone is due, and none after its command, that command's next state
is the step's. A reset that a RESET_NODE reported in the tick has made due comes at its end. The queue, the tick, the order of the timers at
one tick and the warnings that end together are the model's (log entry 2). -/
def Obligations.StepTakesFrontOrTicks : Prop :=
  (∀ (c : Instr) (rest : List Instr) (s : State),
      Sys2Proof.Machine.step { s with pending := c :: rest } = Sys2Proof.Machine.exec c { s with pending := rest }) ∧
    (∀ s : State, s.pending = [] → s.acts = false → Sys2Proof.Machine.step s = .next s) ∧
    (∀ s : State, s.pending = [] → s.acts = true → s.fr.resetReported = false →
      (∀ p ∈ timers, ∀ e, p.1 { s with now := s.now + 1 } = some e → State.reached { s with now := s.now + 1 } e = false) →
      Sys2Proof.Machine.step s = .next { s with now := s.now + 1 }) ∧
    ∀ s s' : State, s.pending = [] → s.acts = true → s.fr.resetReported = false → s' = { s with now := s.now + 1 } →
      (∃ t, ExpiriesRun timers s' t ∧ TickEnds s t) ∧
        ∀ (l l' : List ((State → Option Time) × Instr)) (p : (State → Option Time) × Instr), timers = l ++ p :: l' →
          (∀ q ∈ l, ¬Due q s') → Due p s' →
          ∃ t, Sys2Proof.Machine.exec (debounceCommand s' p.2) s' = .next t ∧
            ((∀ q ∈ p :: l', ¬Due q t) → TickEnds s t)

/-- Every command answers a next state, in every state, and leaves the waiting commands alone. That a command whose event cannot come about
answers one too is the model's choice (log entry 1), and so is the queue of waiting commands (log entry 2). -/
def Obligations.EveryCommandAnswers : Prop :=
  ∀ (i : Instr) (s : State), ∃ t, Sys2Proof.Machine.exec i s = .next t ∧ t.pending = s.pending

/-! ### Supply, resets and start-up (chapters 1 and 2) -/

/-- What reset leaves, register group by register group (R15, R55, R59, R70, R90, R155, R186, R196), and the invariants hold of it. The
position and the sensing cells in LOADING are the model's (log entry 5), the pins too (log entry 4). -/
def Obligations.ResetLeaves : Prop :=
  State.reset.cl.phase = .loading ∧ State.reset.cl.outcome = none ∧ State.reset.lc.queue = [] ∧ State.reset.lc.errors = 0 ∧
    State.reset.lc.line = .active ∧ (∀ n, State.reset.slot n = Slot.empty) ∧ State.reset.pm.identityConflict = false ∧
    State.reset.pm.notHeard = false ∧ State.reset.pm.lastRefusal = .none ∧ State.reset.bu.berth = Berth.none ∧
    State.reset.bu.cycle = none ∧ State.reset.bu.holdList = [] ∧ State.reset.bu.departure = none ∧
    State.reset.ae.samples = [] ∧ State.reset.ae.window = none ∧ State.reset.ae.verdict = .none ∧
    (∀ u, (State.reset.dc.get u).enable = false ∧ (State.reset.dc.get u).solenoid = false ∧
      (State.reset.dc.get u).isolationMark = false ∧ (State.reset.su.units.get u).alarm = .none ∧
      State.reset.iu.panelMarks.get u = false ∧ State.reset.iu.accessMarks.get u = false) ∧
    State.reset.iu.latch = false ∧ State.reset.iu.releaseSet = [] ∧ State.reset.iu.accessLock = false ∧
    State.reset.fr.severe = none ∧ State.reset.fr.minor = none ∧ State.reset.out = ⟨false, false, false, false⟩ ∧
    State.reset.acts = true ∧ QueueOk State.reset.lc.queue ∧ StoresOk State.reset ∧ OutputsFollow State.reset ∧
    ContactTrue State.reset

/-- SUPPLY_FALL and RESET_PIN_LOW hold the outputs in their safe states, abandon an attempt so that nothing is on the line, and leave all
else but the pulses; a part that is unpowered or held in reset acts on no input: any command but the five of supply and reset changes at
most the levels on the pins (R35, R36, R53). For the fault lines at SUPPLY_FALL, and what an abandoned entry holds until LOADING empties
the queue, see log entry 14. -/
def Obligations.HeldPartStaysSafe : Prop :=
  (∀ (i : Instr) (s : State), s.acts = false → i.isReset = false →
    ∃ t, Sys2Proof.Machine.exec i s = .next t ∧ t = { s with pins := t.pins }) ∧
  ∀ s : State,
    (∃ t, Sys2Proof.Machine.exec .supplyFall s = .next t ∧ HeldSafe t ∧ t.supply = false ∧ t.lineFrame = none ∧
      t =
        { s with
          supply := false, out := t.out
          lc :=
            { s.lc with
              queue := s.lc.queue.map fun e =>
                if e.onLine then { e with onLine := false, payload := e.successor.getD e.payload, successor := none } else e }
          dc := Quad.build fun u => { s.dc.get u with enable := false, solenoid := false, setpoint := 0 }
          fr := { s.fr with severePulse := none, minorPulse := none } }) ∧
    ∃ t, Sys2Proof.Machine.exec .resetPinLow s = .next t ∧ HeldSafe t ∧ t.resetLow = true ∧ t.lineFrame = none ∧
      t =
        { s with
          resetLow := true, out := t.out
          lc :=
            { s.lc with
              queue := s.lc.queue.map fun e =>
                if e.onLine then { e with onLine := false, payload := e.successor.getD e.payload, successor := none } else e }
          dc := Quad.build fun u => { s.dc.get u with enable := false, solenoid := false, setpoint := 0 }
          fr := { s.fr with severePulse := none, minorPulse := none } } ∧
      (s.cl.phase ≠ .loading →
        t.out.severeOut = (s.out.severeOut && !s.cl.config.pulseMode && s.fr.severe.isSome) ∧
        t.out.minorOut = (s.out.minorOut && !s.cl.config.pulseMode && s.fr.minor.isSome && s.cl.config.minorDrive))

/-- The resets with straps 1 to 40, at the start of LOADING with those straps. POWER_ON_RESET brings the power-on values. A node reset
(RESET_PIN_RELEASE, COMMANDED_RESET) restarts everything but the isolation marks, ACCESS_LOCK, the Fault Capture and the counters; a fault
line held asserted in LEVEL mode stays asserted through LOADING, and a pulse ends. A release of a pin that is not low, and a commanded reset
that is not due, do nothing; a part unpowered or with its reset pin held low stays held (R1, R20, R35, R36, R196). The model's choices in
it: that a command which cannot come about does nothing (log entry 1), the queue of commands and the count of free values that stand (log
entries 2 and 9), a channel's values in LOADING (log entry 5), the configuration fields' values there (log entry 25), the commanded reset as
a command of its own (log entry 6), and a power-on reset under a low pin (log entry 14). -/
def Obligations.ResetsRestart : Prop :=
  (∀ (straps : BitVec 6) (s : State), s.resetLow = true ∨ isBay straps = true →
    Sys2Proof.Machine.exec (.powerOnReset straps) s =
      .next
        { State.reset with
          resetLow := s.resetLow, pins := { s.pins with straps := straps }, cl := Loader.loading straps
          freeCount := s.freeCount, pending := s.pending }) ∧
  (∀ (i : Instr) (straps : BitVec 6) (s : State), isBay straps = true →
    (i = .resetPinRelease straps ∧ s.resetLow = true ∧ s.supply = true) ∨
      (i = .commandedReset straps ∧ s.acts = true ∧ s.fr.resetReported = true) →
    ∃ t, Sys2Proof.Machine.exec i s = .next t ∧
      t =
        { State.reset with
          pins := { s.pins with straps := straps }, cl := Loader.loading straps
          dc := Quad.build fun u => DoorChannel.reset (s.dc.get u).isolationMark
          iu := InterlockUnit.reset s.iu.accessLock
          fr := { s.fr with severePulse := none, minorPulse := none, resetDue := false, resetReported := false }
          out :=
            { warning := false, contact := false
              severeOut := s.out.severeOut && (s.cl.phase == .loading || (!s.cl.config.pulseMode && s.fr.severe.isSome))
              minorOut :=
                s.out.minorOut &&
                  (s.cl.phase == .loading ||
                    (!s.cl.config.pulseMode && s.fr.minor.isSome && s.cl.config.minorDrive)) }
          freeCount := s.freeCount, pending := s.pending }) ∧
  ∀ (straps : BitVec 6) (s : State),
    (s.resetLow = false → Sys2Proof.Machine.exec (.resetPinRelease straps) s = .next s) ∧
    (s.resetLow = true → s.supply = false →
      Sys2Proof.Machine.exec (.resetPinRelease straps) s = .next { s with resetLow := false }) ∧
    (s.acts = false ∨ s.fr.resetReported = false → Sys2Proof.Machine.exec (.commandedReset straps) s = .next s)

/-- A strap value of 0 or of 41 to 63 ends the load at once in CONFIG_FAULT with the reason STRAP, reported as CONFIG_FAULT with no unit and
sequence 0, and the node takes no part in the line (R1, R11, R18, R19). The fallback configuration's p_u, H_u, skew allowance and moving
mass of 0 (log entry 17), and the commanded reset as a command of its own (log entry 6), are the model's. -/
def Obligations.InvalidStrapsRefuse : Prop :=
  ∀ (i : Instr) (straps : BitVec 6) (s : State), isBay straps = false →
    (i = .powerOnReset straps ∧ s.resetLow = false) ∨ (i = .resetPinRelease straps ∧ s.resetLow = true ∧ s.supply = true) ∨
      (i = .commandedReset straps ∧ s.acts = true ∧ s.fr.resetReported = true) →
    ∃ t, Sys2Proof.Machine.exec i s = .next t ∧ t.cl.phase = .configFault ∧ t.cl.own = straps ∧
      t.cl.outcome = some ⟨.strap, 0, none, 0⟩ ∧ t.cl.config = NodeConfig.fallback 4 ∧ t.cl.quietTimer = none ∧
      t.fr.severe.isSome = true ∧
      ((∃ x, i = .powerOnReset x) → t.fr.severe = some ⟨.configFault, none, 0, 0⟩) ∧
      ((∀ x, i ≠ .powerOnReset x) → Reported .severe ⟨.configFault, none, 0, 0⟩ s.fr t.fr) ∧ t.hears = false ∧
      t.canSend = false

/-- CONFIG_READ_PASS_COMPLETE with a record that passes every check: LISTEN for 600 ms with the configuration the record gives. Every
clamped field of the record stands in it brought into its range: the eight parameters, the energy limit E, and for each configured unit the
threshold and, under template 4, the five custom values, the creep speed no faster than either cruise speed; under another template the unit
has the built-in profile. Every other field stands as the record gives it: face id, neighbours, unit count, fault line mode and minor drive
mark, each configured unit's p_u, H_u, skew allowance, leaf travel and moving mass, and one consist for each entry, with its cumulative
lengths and its doors from the front. A tally above 0 is reported as CONFIG_CLAMPED with no unit (R2, R6, R9 to R13, R15, R16). That the
report fills the empty minor slot before a capture found held at the same moment is the model's choice (log entry 12). -/
def Obligations.PassingRecordLoads : Prop :=
  ∀ (bytes r : List Byte) (s : State) (o : LoadOutcome), s.acts = true → s.cl.phase = .loading →
    132 ≤ field2 bytes 0 → field2 bytes 0 ≤ 1494 → field2 bytes 0 ≤ bytes.length → r = bytes.take (field2 bytes 0) →
    judgeRecord r (field2 bytes 0) s.cl.own = o → o.reason = .ok →
    ∃ t, Sys2Proof.Machine.exec (.configReadPassComplete bytes) s = .next t ∧
      t.cl =
        { s.cl with
          phase := .listen, outcome := some o, config := buildConfig r
          listenTimer := some (after s.now 600) } ∧
      Brought 600 1400 (field2 r 9) t.cl.config.params.minClear ∧ Brought 100 1000 (field2 r 11) t.cl.config.params.stopTol ∧
      Brought 300 2000 (field2 r 13) t.cl.config.params.fusionWindow ∧
      Brought 2000 5000 (field2 r 15) t.cl.config.params.warnTime ∧ Brought 0 8000 (field2 r 17) t.cl.config.params.holdMax ∧
      Brought 1000 5000 (field2 r 19) t.cl.config.params.reopenPause ∧
      Brought 1 5 (field1 r 21) t.cl.config.params.maxAttempts ∧
      Brought 2000 8000 (field2 r 22) t.cl.config.params.travelTimeout ∧
      (∃ e, t.cl.config.energy = some e ∧ Brought 1 10 (field1 r 24) e) ∧
      (∀ u, t.configured u = true → UnitClamped r (26 + 20 * u.val) (t.cl.config.units.get u)) ∧
      (∀ u, t.configured u = true → UnitPlaced r (26 + 20 * u.val) (t.cl.config.units.get u)) ∧
      t.cl.config.faceId.toNat = field1 r 3 ∧ t.cl.config.up.toNat = field1 r 4 ∧ t.cl.config.down.toNat = field1 r 5 ∧
      t.cl.config.unitCount = field1 r 6 ∧ (t.cl.config.pulseMode = true ↔ field1 r 7 = 1) ∧
      (t.cl.config.minorDrive = true ↔ field1 r 8 = 1) ∧ t.cl.config.consists.length = field1 r 25 ∧
      (∀ i p : Nat, (consistOffsets r (field1 r 25) 106)[i]? = some p →
        ∃ c : Consist, t.cl.config.consists[i]? = some c ∧ ConsistBuilt r p c) ∧
      (0 < o.clamps → t.fr.minor.isSome = true ∧ Reported .minor ⟨.configClamped, none, s.seq, s.now⟩ s.fr t.fr) ∧
      t.now = s.now ∧ t.pins = s.pins ∧ t.pending = s.pending ∧
      t.bu.holdList = s.bu.holdList ∧ t.ae.samples = s.ae.samples ∧ t.pm.slots = s.pm.slots ∧
      t.iu.latch = s.iu.latch ∧ t.iu.accessLock = s.iu.accessLock

/-- A load refused: by its length, by a check of the record, or by the third failed read, it ends in CONFIG_FAULT on the fallback
configuration, reported as the severe CONFIG_FAULT with the unit of a UNIT_FIELD and no unit otherwise; a first or second failed read
starts a new pass (R2, R11, R18, R19). That the fallback configuration's p_u, H_u, skew allowance and moving mass are 0 is the model's
choice (log entry 17). -/
def Obligations.RefusedLoads : Prop :=
  ∀ s : State, s.acts = true → s.cl.phase = .loading →
    (∀ (i : Instr) (o : LoadOutcome) (count : Nat),
      ((∃ bytes, i = .configReadPassComplete bytes ∧ 2 ≤ bytes.length ∧
          (field2 bytes 0 < 132 ∨ 1494 < field2 bytes 0) ∧ o = ⟨.length, 0, none, 0⟩ ∧ count = 4) ∨
        (∃ bytes, i = .configReadPassComplete bytes ∧ 132 ≤ field2 bytes 0 ∧ field2 bytes 0 ≤ 1494 ∧
          field2 bytes 0 ≤ bytes.length ∧
          o = judgeRecord (bytes.take (field2 bytes 0)) (field2 bytes 0) s.cl.own ∧ o.reason ≠ .ok ∧
          count = fallbackCount (bytes.take (field2 bytes 0)) (field2 bytes 0)) ∨
        (i = .configReadFail ∧ 2 ≤ s.cl.failures ∧ o = ⟨.link, 0, none, 0⟩ ∧ count = 4)) →
      ∃ t, Sys2Proof.Machine.exec i s = .next t ∧
        t.cl =
          { s.cl with
            phase := .configFault, outcome := some o, config := NodeConfig.fallback count
            quietTimer := if isBay s.cl.own then some (after s.now 600) else none } ∧
        t.fr.severe.isSome = true ∧
        Reported .severe
          ⟨.configFault, if o.reason = .unitField then o.index.bind UnitNo.ofNat? else none, s.seq, s.now⟩ s.fr t.fr ∧
        t.iu.accessLock = s.iu.accessLock ∧ t.pending = s.pending) ∧
    (s.cl.failures < 2 →
      Sys2Proof.Machine.exec .configReadFail s = .next { s with cl := { s.cl with failures := s.cl.failures + 1 } })

/-- A record is judged by its checks in order, and the first that fails gives the outcome: its check field, its node number, its structure,
its node fields, its unit entries in unit order, its pairs of openings charged to the higher unit, and its consist entries in order, each
by its first failing field; one that passes them all has the clamp tally (R3 to R8, R11). An opening off the platform is charged to p_u or
H_u (log entry 8), of several pairs that overlap the one with the lowest higher unit gives the outcome (log entry 13), and a consist without
a door is charged to its car count before its cars' fields are judged (log entry 14, the model's reading of R8): these are the model's. -/
def Obligations.RecordsJudged : Prop :=
  ∀ (r : List Byte) (length : Nat) (own : Node) (o : LoadOutcome) (e : UnitNo → Nat) (ps : List Nat),
    132 ≤ length → length ≤ r.length → o = judgeRecord r length own → (∀ u, e u = 26 + 20 * u.val) →
    ps = consistOffsets r (field1 r 25) 106 →
    (¬CheckOk r length → o = ⟨.check, 0, none, 0⟩) ∧
    (CheckOk r length →
      (field1 r 2 ≠ own.toNat → o = ⟨.strap, 0, none, 0⟩) ∧
      (field1 r 2 = own.toNat →
        (∀ k, StructureFails r length k → o = ⟨.structural, k, none, 0⟩) ∧
        ((∀ k, ¬StructureFails r length k) →
          (∀ k, FirstAt (NodeFieldFails r own) k → o = ⟨.nodeField, k, none, 0⟩) ∧
          ((∀ k, ¬NodeFieldFails r own k) →
            (∀ u : UnitNo, u.val < field1 r 6 → (∀ v : UnitNo, v.val < u.val → UnitEntryOk r (e v)) →
              (∀ k, OpeningFits r (e u) → FirstAt (UnitFieldFails r (e u)) k →
                o = ⟨.unitField, e u + k, some u.val, 0⟩) ∧
              (¬OpeningFits r (e u) →
                o = ⟨.unitField, e u, some u.val, 0⟩ ∨ o = ⟨.unitField, e u + 3, some u.val, 0⟩)) ∧
            ((∀ u : UnitNo, u.val < field1 r 6 → UnitEntryOk r (e u)) →
              (∀ u v : UnitNo, u.val < field1 r 6 → v.val < u.val → ¬OpeningsApart r (e u) (e v) →
                (∀ u' v' : UnitNo, u'.val < u.val → v'.val < u'.val → OpeningsApart r (e u') (e v')) →
                o = ⟨.unitField, e u, some u.val, 0⟩) ∧
              ((∀ u v : UnitNo, u.val < field1 r 6 → v.val < u.val → OpeningsApart r (e u) (e v)) →
                (∀ l p l' k, ps = l ++ p :: l' → (∀ q ∈ l, ∀ j, ¬ConsistFieldFails r q j) →
                  FirstAt (ConsistFieldFails r p) k → o = ⟨.consistField, k, some l.length, 0⟩) ∧
                ((∀ p ∈ ps, ∀ j, ¬ConsistFieldFails r p j) → o = ⟨.ok, 0, none, clampTally r⟩)))))))

/-- The end of a load, however it comes: by a record, by the third failed read, or at once by a reset with a strap value that is no bay
controller's. Each configured unit takes its start state by the first test that holds: handle, isolation mark, switches. Its sensing starts,
filters empty, edge cell CLEAR, stream timers at their starts, handle and panel cells from their raw levels; that of a unit that starts in
ISOLATED rests; the wire's cell starts CLEAR. A handle or panel found HELD is taken as an operation: reported, one ALERT with the berth
sequence, which is 0 in LOADING, the handle counted in HANDLE_RELEASES and the own number in the Release Set, the panel marked (R15, R32,
R118, R154, R155, R171, R173, R175, R186). A channel otherwise stands as its reset left it, position 0, phase HOLD and target OPEN among it:
that a channel in UNKNOWN, ISOLATED or MANUAL_RELEASED does so is the model's choice (log entry 5). The isolation mark of a unit that is not
configured is cleared, and its sensing is left. The phase HOLD of the start states is the model's too (log entry 29), and so is the order in
which a clamp report and the captures come to the minor slot (log entries 12 and 23) and the own number under a strap value that is no bay
controller's (log entry 14). -/
def Obligations.StartStates : Prop :=
  (∀ (i : Instr) (s t : State), (∃ bytes, i = .configReadPassComplete bytes) ∨ i = .configReadFail → s.acts = true →
    s.cl.phase = .loading → Sys2Proof.Machine.exec i s = .next t → t.cl.phase ≠ .loading → LoadEnded s t) ∧
  ∀ (i : Instr) (straps : BitVec 6) (s : State), isBay straps = false →
    (i = .powerOnReset straps ∧ s.resetLow = false →
      ∃ t, Sys2Proof.Machine.exec i s = .next t ∧
        LoadEnded
          { State.reset with
            pins := { s.pins with straps := straps }, cl := Loader.loading straps, freeCount := s.freeCount
            pending := s.pending } t) ∧
    ((i = .resetPinRelease straps ∧ s.resetLow = true ∧ s.supply = true) ∨
        (i = .commandedReset straps ∧ s.acts = true ∧ s.fr.resetReported = true) →
      ∃ t, Sys2Proof.Machine.exec i s = .next t ∧
        LoadEnded
          { State.reset with
            pins := { s.pins with straps := straps }, cl := Loader.loading straps
            dc := Quad.build fun u => DoorChannel.reset (s.dc.get u).isolationMark
            iu := InterlockUnit.reset s.iu.accessLock
            fr := { s.fr with severePulse := none, minorPulse := none, resetDue := false, resetReported := false }
            freeCount := s.freeCount, pending := s.pending } t)

/-- In a record that passes its checks, every consist has 1 to 50 doors, its d_k strictly increase with k, and each lies between 1 and the
consist's length less 1 (R8, R13). -/
def Obligations.TrainDoorsAscend : Prop :=
  ∀ (r : List Byte) (length : Nat) (own : Node), (judgeRecord r length own).reason = .ok →
    ∀ c ∈ (buildConfig r).consists,
      1 ≤ c.doors.length ∧ c.doors.length ≤ 50 ∧ c.doors.Pairwise (fun a b => a.distance < b.distance) ∧
        ∀ d ∈ c.doors, 1 ≤ d.distance ∧ ∀ l, c.lengths.getLast? = some l → d.distance + 1 ≤ l

/-- LISTEN_EXPIRY brings RUNNING, and QUIET_PERIOD_END the serving part of CONFIG_FAULT: the beacon cadence starts, and the latch is entered
where the wire stands asserted or a mark was set. The first beacon, of the summary as the wait ends, is enqueued, and the Secure Contact
is evaluated at the entry to RUNNING and held open in CONFIG_FAULT (R17, R19, R59, R63, R168, R169, R176). That the beacon is built before
the contact and the marks is log entry 12, and that an expiry brings node time to its end log entry 1: these are the model's. -/
def Obligations.WaitsEnd : Prop :=
  ∀ (s : State) (e : Time), s.acts = true →
    (s.cl.phase = .listen → s.cl.listenTimer = some e →
      ∃ t, Sys2Proof.Machine.exec .listenExpiry s = .next t ∧
        t.cl = { s.cl with phase := .running, listenTimer := none, runningTime := some (s.reach e).now } ∧
        t.now = (s.reach e).now ∧ t.pm.cadence = some (after t.now 200) ∧ t.pm.absenceTimer = some (after t.now 5000) ∧
        t.iu.wireMark = (s.iu.wireMark || s.su.wire.level) ∧ t.iu.lineMark = s.iu.lineMark ∧
        t.iu.latch = (s.iu.latch || s.iu.wireMark || s.su.wire.level || s.iu.lineMark) ∧
        t.pm.identityConflict = s.pm.identityConflict ∧ t.pm.slots = s.pm.slots ∧ t.iu.accessLock = s.iu.accessLock ∧
        t.pending = s.pending ∧ t.out.contact = t.contactCondition ∧
        FirstBeacon { s.reach e with cl := t.cl } t) ∧
    (s.cl.phase = .configFault → s.cl.quietTimer = some e →
      ∃ t, Sys2Proof.Machine.exec .quietPeriodEnd s = .next t ∧ t.cl = { s.cl with quietTimer := none } ∧
        t.now = (s.reach e).now ∧ t.pm.cadence = some (after t.now 200) ∧ t.pm.absenceTimer = s.pm.absenceTimer ∧
        t.iu.wireMark = (s.iu.wireMark || s.su.wire.level) ∧ t.iu.lineMark = s.iu.lineMark ∧
        t.iu.latch = (s.iu.latch || s.iu.wireMark || s.su.wire.level || s.iu.lineMark) ∧
        t.pm.identityConflict = s.pm.identityConflict ∧ t.pm.slots = s.pm.slots ∧ t.iu.accessLock = s.iu.accessLock ∧
        t.pending = s.pending ∧ (s.out.contact = false → t.out.contact = false) ∧
        FirstBeacon { s.reach e with cl := t.cl } t)

/-! ### The Line Controller (chapter 3) -/

/-- ATTEMPT_START puts the head on the line, where the LC may send and no attempt is under way; ARBITRATION_LOST leaves the entry in its
place, a beacon taking its successor as its payload (R40, R47, R48, R53). The line's bits are left out: the model takes attempts and
their ends as events (log entry 7). -/
def Obligations.AttemptsStartAndLose : Prop :=
  ∀ s : State,
    (∀ (e : TxEntry) (q : List TxEntry), s.canSend = true → s.onLine = none → s.lc.queue = e :: q →
      Sys2Proof.Machine.exec .attemptStart s = .next { s with lc := { s.lc with queue := { e with onLine := true } :: q } }) ∧
    (s.canSend = false ∨ s.onLine.isSome = true ∨ s.lc.queue = [] → Sys2Proof.Machine.exec .attemptStart s = .next s) ∧
    (s.acts = true → s.onLine.isSome = true →
      Sys2Proof.Machine.exec .arbitrationLost s =
        .next
          { s with
            lc :=
              { s.lc with
                queue := s.lc.queue.map fun e =>
                  if e.onLine then { e with onLine := false, payload := e.successor.getD e.payload, successor := none } else e } })

/-- Attempts and the Transmit Queue. The frame on the line carries the own number as its source. SENT_IN_FULL takes the entry off the
queue, or gives a beacon its successor in its place, and sets the error count to 0; the RESULT of a due RESET_NODE is reported.
TRANSMIT_ERROR keeps the entry in its place and counts; the 32nd in a row brings LINE_QUIET for 2,000 ms, counted and reported, and
LINE_QUIET_EXPIRY ends it. An enqueued frame takes its place by class; a beacon meets the queued one; with 16 entries the newest of the
highest class above the frame's leaves, or the frame is dropped, and each is counted in TX_DROPS (R1, R46 to R52, R195). Only a beacon
holds a successor: an invariant (Follows). Where a timer expires, node time stands at its end (log entry 1), and a part whose reset is
reported takes none of these events (log entry 6): these are the model's. -/
def Obligations.AttemptsAndQueue : Prop :=
  (∀ (s : State) (e : TxEntry) (q : List TxEntry), s.canSend = true → s.onLine = none → s.lc.queue = e :: q →
    ∃ t, Sys2Proof.Machine.exec .attemptStart s = .next t ∧ t.lineFrame = some ⟨s.cl.own, e.kind, e.payload⟩ ∧
      t.lineBytes = some (Frame.bytes ⟨s.cl.own, e.kind, e.payload⟩)) ∧
  (∀ (s : State) (e : TxEntry) (q : List TxEntry), s.takes = true → s.onLine = some e → QueueOk s.lc.queue →
    SuccessorsOk s.lc.queue →
    q = (s.lc.queue.filterMap fun x =>
      if x.onLine then x.successor.map fun p => { x with onLine := false, payload := p, successor := none } else some x) →
    ∃ t, Sys2Proof.Machine.exec .sentInFull s = .next t ∧
      (e.kind ≠ .beacon ∨ e.successor = none → q = s.lc.queue.filter fun x => !x.onLine) ∧
      QueueOrBeacon s q t.lc.queue ∧
      (s.pm.cadence = none ∨ s.pm.lastBeacon = some s.summary → t.lc.queue = q) ∧
      t.fr.resetReported = (e.kind == .result && e.payload.getD 1 0 == 9 && s.fr.resetDue) ∧
      Ends { s with lc := { s.lc with errors := 0 } } t) ∧
  (∀ (s : State) (q : List TxEntry), s.takes = true → s.onLine.isSome = true →
    q = (s.lc.queue.map fun x =>
      if x.onLine then { x with onLine := false, payload := x.successor.getD x.payload, successor := none } else x) →
    ∃ t, Sys2Proof.Machine.exec .transmitError s = .next t ∧ QueueOrBeacon s q t.lc.queue ∧
      (s.pm.cadence = none ∨ (s.pm.lastBeacon = some s.summary ∧ (s.lc.errors < 31 ∨ s.fr.minor.isSome = true)) →
        t.lc.queue = q) ∧
      (s.lc.errors < 31 → t.fr.minor = s.fr.minor ∧ Ends { s with lc := { s.lc with errors := s.lc.errors + 1 } } t) ∧
      (31 ≤ s.lc.errors → Reported .minor ⟨.lineQuiet, none, s.seq, s.now⟩ s.fr t.fr ∧
        Ends
          { s with
            lc := { s.lc with errors := 32, line := .lineQuiet, quietTimer := some (after s.now 2000) }
            fr :=
              { s.fr with
                nodeCounters := { s.fr.nodeCounters with lineQuietEvents := s.fr.nodeCounters.lineQuietEvents.bump } } } t)) ∧
  (∀ (s : State) (e : Time), s.takes = true → s.lc.quietTimer = some e →
    Sys2Proof.Machine.exec .lineQuietExpiry s =
      .next { s.reach e with lc := { s.lc with line := .active, errors := 0, quietTimer := none } }) ∧
  ∀ (s : State) (kind : FrameKind) (payload : List Byte) (new : TxEntry), new = ⟨kind, payload, none, false⟩ →
    QueueOk s.lc.queue →
    (kind = .beacon → (∃ x ∈ s.lc.queue, x.kind = .beacon) →
      enqueue kind payload s =
        { s with
          lc :=
            { s.lc with
              queue := s.lc.queue.map fun x =>
                if x.kind = .beacon then
                  if x.onLine then { x with successor := some payload } else { x with payload := payload }
                else x } }) ∧
    (kind ≠ .beacon ∨ (∀ x ∈ s.lc.queue, x.kind ≠ .beacon) →
      (s.lc.queue.length < 16 →
        ∃ l r, s.lc.queue = l ++ r ∧ (∀ x ∈ l, x.kind.cls ≤ kind.cls) ∧ (∀ x ∈ r, kind.cls < x.kind.cls) ∧
          enqueue kind payload s = { s with lc := { s.lc with queue := l ++ new :: r } }) ∧
      (s.lc.queue.length = 16 → kind = .edge ∨ (∀ x ∈ s.lc.queue, x.onLine = false → x.kind.cls ≤ kind.cls) →
        enqueue kind payload s =
          { s with
            fr :=
              { s.fr with
                nodeCounters := { s.fr.nodeCounters with txDrops := s.fr.nodeCounters.txDrops.bump }
                resetReported :=
                  s.fr.resetReported || (kind == .result && payload.getD 1 0 == 9 && s.fr.resetDue) } }) ∧
      (s.lc.queue.length = 16 → kind ≠ .edge → (∃ x ∈ s.lc.queue, x.onLine = false ∧ kind.cls < x.kind.cls) →
        ∃ l gone r m n, s.lc.queue = l ++ gone :: r ∧ gone.onLine = false ∧
          (∀ x ∈ s.lc.queue, x.onLine = false → x.kind.cls ≤ gone.kind.cls) ∧
          (∀ x ∈ r, x.onLine = true ∨ x.kind.cls ≠ gone.kind.cls) ∧
          l ++ r = m ++ n ∧ (∀ x ∈ m, x.kind.cls ≤ kind.cls) ∧ (∀ x ∈ n, kind.cls < x.kind.cls) ∧
          enqueue kind payload s =
            { s with
              lc := { s.lc with queue := m ++ new :: n }
              fr :=
                { s.fr with
                  nodeCounters := { s.fr.nodeCounters with txDrops := s.fr.nodeCounters.txDrops.bump }
                  resetReported :=
                    s.fr.resetReported ||
                      (gone.kind == .result && gone.payload.getD 1 0 == 9 && s.fr.resetDue) } }))

/-- Every step keeps the Transmit Queue well: at most 16 entries, in class order, at most one beacon, at most one entry on the line (R47,
R48). -/
def Obligations.QueueStaysOk : Prop :=
  ∀ s t : State, QueueOk s.lc.queue → Sys2Proof.Machine.step s = .next t → QueueOk t.lc.queue

/-- A frame that fails a check is counted once in DISCARDED_FRAMES and changes nothing else; so is one heard as bytes that pass for no frame
(R41, R42). -/
def Obligations.BadFramesCount : Prop :=
  (∀ (i : Instr) (f : Frame) (s : State), frameOf i = some f → f.ok = false → s.hears = true →
    ∃ t, Sys2Proof.Machine.exec i s = .next t ∧
      Ends
        { s with
          fr :=
            { s.fr with
              nodeCounters := { s.fr.nodeCounters with discardedFrames := s.fr.nodeCounters.discardedFrames.bump } } } t) ∧
  ∀ (heard : List Byte) (framing : Bool) (s : State), s.hears = true → acceptBytes heard framing = none →
    Sys2Proof.Machine.exec (.discardedFrame heard framing) s =
      .next
        { s with
          fr :=
            { s.fr with
              nodeCounters := { s.fr.nodeCounters with discardedFrames := s.fr.nodeCounters.discardedFrames.bump } } }

/-- A frame that passes its checks is heard from its own bytes as itself: header, payload and check lose no bit (R39, R41, R42, section
3.6). -/
def Obligations.FramesRoundTrip : Prop :=
  ∀ f : Frame, f.ok = true → acceptBytes f.bytes false = some f

/-- An accepted frame under the own number sets IDENTITY_CONFLICT, is reported the first time, and is delivered no further (R43, R66). -/
def Obligations.OwnNumberConflicts : Prop :=
  ∀ (i : Instr) (f : Frame) (s : State), frameOf i = some f → f.ok = true → s.hears = true → f.source = s.cl.own →
    ∃ t, Sys2Proof.Machine.exec i s = .next t ∧ (s.pm.identityConflict = false → t.fr.severe.isSome = true) ∧
      (s.pm.identityConflict = false → Reported .severe ⟨.identityConflict, none, s.seq, s.now⟩ s.fr t.fr) ∧
      (s.pm.identityConflict = true → s.noCloses → t.fr.severe = s.fr.severe) ∧
      Ends { s with pm := { s.pm with identityConflict := true } } t

/-! ### The Peer Monitor (chapter 4) -/

/-- RESULT, ANSWER and ALERT of another kind than HANDLE are noted in their sender's slot and do nothing else. A slot that is ABSENT or
LIVE, and any slot of a station number, becomes LIVE with its silence timer at 1,000 ms; in a SILENT bay controller's slot only the time
of the last frame changes (R44, R56, R57). -/
def Obligations.NotesOnly : Prop :=
  ∀ (i : Instr) (f : Frame) (s : State),
    ((∃ src requester sub arg outcome code, i = .result src requester sub arg outcome code) ∨
      (∃ src requester topic arg part count data, i = .answer src requester topic arg part count data) ∨
      ∃ src kind unit seq, i = .alert src kind unit seq ∧ kind ≠ 1) →
    frameOf i = some f → f.ok = true → s.hears = true → f.source ≠ s.cl.own → s.pm.slots.length = 64 →
    ∃ t, Sys2Proof.Machine.exec i s = .next t ∧ Ends { s with pm := { s.pm with slots := t.pm.slots } } t ∧
      (∀ n, n ≠ f.source → t.slot n = s.slot n) ∧
      ((s.slot f.source).state ≠ .silent ∨ isBay f.source = false →
        t.slot f.source =
          { s.slot f.source with
            state := .live, lastFrame := some s.now, silenceTimer := some (after s.now 1000) }) ∧
      ((s.slot f.source).state = .silent → isBay f.source = true →
        t.slot f.source = { s.slot f.source with lastFrame := some s.now })

/-- BEACON: its content is kept in its sender's slot, a second beacon within 600 ms brings a SILENT slot back to LIVE, a configured
neighbour's beacon moves the naming run, and the release-active flag moves its sender, and no other, in or out of the Release Set. NOT_HEARD
where it is clear is set, and reported, at each beacon from a configured neighbour and at a neighbour's silence, if some configured
neighbour is LIVE and each that is has named this node three times; where it is set, a configured neighbour's beacon that does not name the
node clears it. ALERT_HANDLE in RUNNING moves its sender into the Release Set (R56 to R58, R64, R65, R173). That the beacon which clears
NOT_HEARD is not followed by a test, and that the test comes after the slot's state and run have moved, is log entry 31, and that an expiry
brings node time to its end log entry 1: these are the model's. -/
def Obligations.BeaconsTaken : Prop :=
  ∀ s : State, s.pm.slots.length = 64 →
    (∀ (src : Node) (b : Beacon), Accepted ⟨src, .beacon, beaconBytes b⟩ s →
      ∃ t, Sys2Proof.Machine.exec (.beacon src b) s = .next t ∧
        (∀ n, n ≠ src → t.slot n = s.slot n) ∧
        t.slot src =
          { (noteActivity src true s).slot src with
            lastBeacon := some b
            naming :=
              if src ∉ s.neighbours then (s.slot src).naming
              else if b.up = nodeByte s.cl.own ∨ b.down = nodeByte s.cl.own then min 3 ((s.slot src).naming + 1) else 0 } ∧
        (t.slot src).lastFrame = some s.now ∧
        ((s.slot src).state ≠ .silent → (t.slot src).state = .live ∧ (t.slot src).silenceTimer = some (after s.now 1000)) ∧
        ((s.slot src).state = .silent → ∀ p, (s.slot src).pairing = some p → (s.now - p).toNat ≤ 600 →
          (t.slot src).state = .live ∧ (t.slot src).pairing = none ∧
            (t.slot src).silenceTimer = some (after s.now 1000)) ∧
        ((s.slot src).state = .silent → (∀ p, (s.slot src).pairing = some p → 600 < (s.now - p).toNat) →
          (t.slot src).state = .silent ∧ (t.slot src).pairing = some s.now) ∧
        (src ∉ s.neighbours → t.pm.notHeard = s.pm.notHeard) ∧
        (src ∈ s.neighbours → b.up ≠ nodeByte s.cl.own → b.down ≠ nodeByte s.cl.own →
          (t.pm.notHeard = true ↔ s.pm.notHeard = false ∧ Unheard t)) ∧
        (src ∈ s.neighbours → b.up = nodeByte s.cl.own ∨ b.down = nodeByte s.cl.own →
          (t.pm.notHeard = true ↔ s.pm.notHeard = true ∨ Unheard t)) ∧
        NotHeardReported s t ∧ (s.noCloses → t.fr.severe = s.fr.severe) ∧
        (src ∈ t.iu.releaseSet ↔ b.flags.getLsbD 6 = true) ∧
        (∀ n, n ≠ src → n ≠ s.cl.own ∨ s.noCloses → (n ∈ t.iu.releaseSet ↔ n ∈ s.iu.releaseSet)) ∧
        Ends
          { s with
            pm := { s.pm with slots := t.pm.slots, notHeard := t.pm.notHeard }
            iu := { s.iu with releaseSet := t.iu.releaseSet } } t) ∧
    (∀ (src : Node) (unit seq : Byte), AcceptedRunning ⟨src, .alert, [1, unit, seq]⟩ s →
      ∃ t, Sys2Proof.Machine.exec (.alertHandle src unit seq) s = .next t ∧
        (∀ n, n ≠ s.cl.own ∨ s.noCloses → (n ∈ t.iu.releaseSet ↔ n = src ∨ n ∈ s.iu.releaseSet)) ∧
        t.fr.minor = s.fr.minor ∧ (s.noCloses → t.fr.severe = s.fr.severe) ∧
        Ends { noteActivity src false s with iu := { s.iu with releaseSet := t.iu.releaseSet } } t) ∧
    ∀ (n : Node) (e : Time), s.loaded = true → (s.slot n).silenceTimer = some e →
      ∃ t, Sys2Proof.Machine.exec (.silenceTimerExpiry n) s = .next t ∧ t.now = (s.reach e).now ∧
        (n ∉ s.neighbours → t.pm.notHeard = s.pm.notHeard) ∧
        (n ∈ s.neighbours → (t.pm.notHeard = true ↔ s.pm.notHeard = true ∨ Unheard t)) ∧
        NotHeardReported s t

/-- SILENCE_TIMER_EXPIRY: the slot becomes SILENT and its silence is counted; a bay controller's holds leave the Hold List (R57, R162).
Where a timer expires, node time stands at its end: this is the model's (log entry 1). -/
def Obligations.SilenceFalls : Prop :=
  ∀ (s : State) (n : Node) (e : Time), s.loaded = true → s.pm.slots.length = 64 → (s.slot n).silenceTimer = some e →
    ∃ t, Sys2Proof.Machine.exec (.silenceTimerExpiry n) s = .next t ∧ (∀ m, m ≠ n → t.slot m = s.slot m) ∧
      t.slot n =
        { s.slot n with
          state := .silent, silence := (s.slot n).silence.bump, naming := 0, pairing := none, silenceTimer := none } ∧
      t.bu.holdList = (if isBay n then s.bu.holdList.filter fun h => h.source != n else s.bu.holdList) ∧
      Ends
        { s.reach e with
          pm := { s.pm with slots := t.pm.slots, notHeard := t.pm.notHeard }, bu := { s.bu with holdList := t.bu.holdList } } t

/-- The beacon timers: the cadence's expiry builds a beacon of the summary as it stands, enqueues it and restarts both timers; the gap's
expiry does the same for a pending change if the summary still differs, and clears the mark if it does not; 5,000 ms after the RUNNING
time a neighbour never heard counts as absent (R59, R63). Where a timer expires, node time stands at its end: this is the model's (log
entry 1). -/
def Obligations.BeaconTimers : Prop :=
  ∀ (s s' : State) (e : Time) (p : List Byte), s.loaded = true → s' = s.reach e → p = beaconBytes s'.summary →
    (∀ (i : Instr),
      (i = .beaconCadenceExpiry ∧ s.pm.cadence = some e) ∨
        (i = .beaconGapTimerExpiry ∧ s.pm.gap = some e ∧ s.pm.changePending = true ∧
          s.pm.lastBeacon ≠ some s'.summary) →
      ∃ t, Sys2Proof.Machine.exec i s = .next t ∧
        t =
          { enqueue .beacon p s' with
            pm :=
              { s.pm with
                lastBeacon := some s'.summary, changePending := false, cadence := some (after s'.now 200)
                gap := some (after s'.now 50) } } ∧
        (s.lc.queue.length < 16 ∨ (∃ x ∈ s.lc.queue, x.kind = .beacon) →
          (∃ x ∈ t.lc.queue, x.kind = .beacon) ∧
            ∀ x ∈ t.lc.queue, x.kind = .beacon → if x.onLine then x.successor = some p else x.payload = p) ∧
        Ends s' t) ∧
    (s.pm.gap = some e →
      (s.pm.changePending = false →
        Sys2Proof.Machine.exec .beaconGapTimerExpiry s = .next { s' with pm := { s.pm with gap := none } }) ∧
      (s.pm.changePending = true → s.pm.lastBeacon = some s'.summary →
        Sys2Proof.Machine.exec .beaconGapTimerExpiry s =
          .next { s' with pm := { s.pm with gap := none, changePending := false } })) ∧
    (s.pm.absenceTimer = some e →
      ∃ t, Sys2Proof.Machine.exec .neighbourAbsenceExpiry s = .next t ∧
        Ends { s' with pm := { s.pm with absenceTimer := none, absenceOver := true } } t)

/-! ### Emergency frames (chapter 10) -/

/-- STATION_EMERGENCY OPEN: in LISTEN it sets LINE; in RUNNING it sets LINE and enters the latch. Entering, the emergency close cycle and
the access close are abandoned, the access-open marks cleared, the Secure Contact opens, ISOLATED, FAULT and MANUAL_RELEASED units are left,
and every other configured unit takes an open request by its state: a CLOSED_LOCKED one unlocks, a moving one ends its run toward OPEN, a
pending close is cleared, and a request ignored is counted (R16, R119, R176, R177). The phase HOLD at the entry to a state for which no rule
names a phase is the model's (log entry 29). -/
def Obligations.EmergencyOpens : Prop :=
  ∀ (src : Node) (s : State), Accepted ⟨src, .stationEmergency, [1]⟩ s →
    (s.cl.phase = .listen →
      ∃ t, Sys2Proof.Machine.exec (.stationEmergencyOpen src) s = .next t ∧
        Ends { noteActivity src false s with iu := { s.iu with lineMark := true } } t) ∧
    (s.cl.phase = .running → s.iu.latch = true →
      ∃ t, Sys2Proof.Machine.exec (.stationEmergencyOpen src) s = .next t ∧
        Ends { noteActivity src false s with iu := { s.iu with lineMark := true } } t) ∧
    (s.cl.phase = .running → s.iu.latch = false →
      ∃ t, Sys2Proof.Machine.exec (.stationEmergencyOpen src) s = .next t ∧ t.out.contact = false ∧
        t.iu.emergencyClose = none ∧ t.iu.accessClose = none ∧ (∀ u, t.iu.accessMarks.get u = false) ∧ t.now = s.now ∧
        t.pins = s.pins ∧
        (∀ u, s.configured u = true → s.unit u = .closedLocked → s.driveFault u = false → t.dc.get u = unlocked s u) ∧
        (∀ u, s.configured u = true → s.unit u ≠ .isolated → s.unit u ≠ .fault → s.unit u ≠ .manualReleased →
          OpenTaken true s t u) ∧
        (∀ u, s.configured u = false ∨ s.unit u = .isolated ∨ s.unit u = .fault ∨ s.unit u = .manualReleased →
          t.dc.get u = s.dc.get u) ∧
        Keeps anyUnit
          { noteActivity src false s with
            iu := { s.iu with latch := true, lineMark := true, emergencyClose := none, accessClose := none } } t)

/-- STATION_EMERGENCY RESET: in LISTEN it clears LINE. In RUNNING with the latch set it clears the latch and both marks and starts the
emergency close cycle under a warning, unless the wire stands asserted: then it is counted and the latch stays (R16, R179, R180). -/
def Obligations.EmergencyResets : Prop :=
  ∀ (src : Node) (s : State), Accepted ⟨src, .stationEmergency, [2]⟩ s →
    (s.cl.phase = .listen →
      ∃ t, Sys2Proof.Machine.exec (.stationEmergencyReset src) s = .next t ∧
        Ends { noteActivity src false s with iu := { s.iu with lineMark := false } } t) ∧
    (s.cl.phase = .running → s.iu.latch = false →
      ∃ t, Sys2Proof.Machine.exec (.stationEmergencyReset src) s = .next t ∧ Ends (noteActivity src false s) t) ∧
    (s.cl.phase = .running → s.iu.latch = true → s.su.wire.level = true →
      ∃ t, Sys2Proof.Machine.exec (.stationEmergencyReset src) s = .next t ∧
        Ends (countDiscard (noteActivity src false s)) t) ∧
    (s.cl.phase = .running → s.iu.latch = true → s.su.wire.level = false →
      ∃ t, Sys2Proof.Machine.exec (.stationEmergencyReset src) s = .next t ∧
        ((∃ u, s.configured u = true ∧ (s.unit u).emergencyMember = true) →
          t.out.warning = true ∧
          t.iu.emergencyClose =
            some
              { warning := ⟨s.now, after s.now s.cl.config.params.warnTime, true⟩
                members := Quad.build fun u =>
                  if s.configured u && (s.unit u).emergencyMember then some .underWarning else none }) ∧
        ((∀ u, s.configured u = false ∨ (s.unit u).emergencyMember = false) → t.iu.emergencyClose = none) ∧
        Ends
          { noteActivity src false s with
            iu :=
              { s.iu with
                latch := false, wireMark := false, lineMark := false
                emergencyClose :=
                  some
                    { warning := ⟨s.now, after s.now s.cl.config.params.warnTime, true⟩
                      members := Quad.build fun u =>
                        if s.configured u && (s.unit u).emergencyMember then some .underWarning else none } } } t)

/-! ### Berths (chapter 5) -/

/-- BERTH. In IDLE, naming a consist that is present, it is taken: the record holds its particulars, the train doors of its three slots that
the consist has are isolated and the others counted, the AE has its particulars, the berth is ANNOUNCED; the units open for access join
the access close under one warning, reported once. Outside IDLE, one of the record's sequence is ignored; one of another sequence replaces
the held berth when the state allows it, every configured unit is CLOSED_LOCKED or ISOLATED and its consist is present; any other, and one
in IDLE naming an absent consist, is refused with CONFLICT and counted (R72, R73, R75 to R77, R91). -/
def Obligations.BerthsAnnounced : Prop :=
  ∀ (src : Node) (seq consist : Byte) (s0 : BitVec 24) (d1 d2 d3 : Byte) (s : State),
    AcceptedRunning ⟨src, .berth, [seq, consist] ++ bytes3 s0 ++ [d1, d2, d3]⟩ s →
    (∀ c, s.cl.config.consists[consist.toNat]? = some c →
      (s.berthState = .idle →
        ∃ t, Sys2Proof.Machine.exec (.berth src seq consist s0 d1 d2 d3) s = .next t ∧ t.berthState = .announced ∧
          SlotsTaken c [d1, d2, d3] s t ∧
          (∀ u, UnitNo.all.find? s.iu.accessMarks.get = some u →
            Reported .minor ⟨.accessPreempted, some u, seq, s.now⟩ s.fr t.fr) ∧
          ((∀ u, s.iu.accessMarks.get u = false) → t.fr.minor = s.fr.minor) ∧
          (∀ u, s.preempted u = true → t.out.warning = true ∧
            ∃ a k, t.iu.accessClose = some a ∧ a.members.get u = some ⟨k, .underWarning⟩ ∧
              a.warnings[k]? = some ⟨s.now, after s.now s.cl.config.params.warnTime, true⟩) ∧
          Ends
            { noteActivity src false s with
              bu :=
                { s.bu with
                  berth :=
                    { seq := seq, consist := some consist.toNat, s0 := some s0.toNat, isolated := t.bu.berth.isolated
                      state := .announced, pendingRelease := false, verdict := .none, sHat := none } }
              ae :=
                { s.ae with
                  seq := seq, consist := some consist.toNat, s0 := some s0.toNat, searches := Quad.same ⟨.none, []⟩ }
              iu :=
                { s.iu with
                  accessClose :=
                    if UnitNo.all.any s.preempted then
                      some
                        { warnings :=
                            s.accessWarnings ++ [⟨s.now, after s.now s.cl.config.params.warnTime, true⟩]
                          members := Quad.build fun u =>
                            if s.preempted u then some ⟨s.accessWarnings.length, .underWarning⟩
                            else s.accessMembers.get u }
                    else s.iu.accessClose }
              fr :=
                { s.fr with
                  nodeCounters := { s.fr.nodeCounters with discardedFrames := t.fr.nodeCounters.discardedFrames } } } t) ∧
      (s.berthState = .announced ∨ s.berthState = .fusing ∨ s.berthState = .fixed ∨ s.berthState = .secured → seq ≠ s.seq →
        (∀ u, s.configured u = true → s.unit u = .closedLocked ∨ s.unit u = .isolated) →
        ∃ t, Sys2Proof.Machine.exec (.berth src seq consist s0 d1 d2 d3) s = .next t ∧ t.berthState = .announced ∧
          SlotsTaken c [d1, d2, d3] s t ∧ t.fr.minor = s.fr.minor ∧
          Ends
            { noteActivity src false s with
              bu :=
                { berth :=
                    { seq := seq, consist := some consist.toNat, s0 := some s0.toNat, isolated := t.bu.berth.isolated
                      state := .announced, pendingRelease := false, verdict := .none, sHat := none }
                  cycle := none, holdList := [], departure := s.bu.departure }
              ae := { AlignEngine.reset with seq := seq, consist := some consist.toNat, s0 := some s0.toNat }
              fr :=
                { s.fr with
                  nodeCounters := { s.fr.nodeCounters with discardedFrames := t.fr.nodeCounters.discardedFrames } } } t)) ∧
    (s.berthState ≠ .idle → seq = s.seq →
      ∃ t, Sys2Proof.Machine.exec (.berth src seq consist s0 d1 d2 d3) s = .next t ∧ Ends (noteActivity src false s) t) ∧
    ((s.berthState = .idle ∧ s.cl.config.consists.length ≤ consist.toNat) ∨
        (s.berthState ≠ .idle ∧ seq ≠ s.seq ∧
          (s.cl.config.consists.length ≤ consist.toNat ∨ s.berthState = .released ∨ s.berthState = .closing ∨
            ∃ u, s.configured u = true ∧ s.unit u ≠ .closedLocked ∧ s.unit u ≠ .isolated)) →
      ∃ t, Sys2Proof.Machine.exec (.berth src seq consist s0 d1 d2 d3) s = .next t ∧
        Ends
          { noteActivity src false s with
            pm := { (noteActivity src false s).pm with lastRefusal := .conflict }
            fr :=
              { s.fr with
                nodeCounters := { s.fr.nodeCounters with berthConflict := s.fr.nodeCounters.berthConflict.bump } } } t)

/-- A berth frame other than BERTH whose sequence differs from the record's is counted once, and nothing else moves but what any event may
end in (R71). -/
def Obligations.OtherSequencesDiscarded : Prop :=
  ∀ (i : Instr) (f : Frame) (seq : Byte) (s : State),
    ((∃ src d1 d2 d3 d4 d5 d6 d7, i = .berthExt src seq d1 d2 d3 d4 d5 d6 d7) ∨ (∃ src, i = .standstill src seq) ∨
      (∃ src, i = .release src seq) ∨ (∃ src, i = .close src seq) ∨ (∃ src, i = .reopen src seq) ∨
      ∃ src, i = .depart src seq) →
    frameOf i = some f → AcceptedRunning f s → seq ≠ s.seq →
    ∃ t, Sys2Proof.Machine.exec i s = .next t ∧
      Ends
        { noteActivity f.source false s with
          fr :=
            { s.fr with
              nodeCounters := { s.fr.nodeCounters with discardedFrames := s.fr.nodeCounters.discardedFrames.bump } } } t

/-- BERTH_EXT in ANNOUNCED or FUSING isolates the train doors of its seven slots that the consist has, up to ten in all; in any later state
it is ignored. Each index that neither is 0 nor stands in the list in the end was ignored, and is counted once in DISCARDED_FRAMES (R73,
R74). -/
def Obligations.BerthExtAdds : Prop :=
  ∀ (src : Node) (seq d1 d2 d3 d4 d5 d6 d7 : Byte) (s : State),
    AcceptedRunning ⟨src, .berthExt, [seq, d1, d2, d3, d4, d5, d6, d7]⟩ s → seq = s.seq →
    (s.berthState = .announced ∨ s.berthState = .fusing →
      ∃ t, Sys2Proof.Machine.exec (.berthExt src seq d1 d2 d3 d4 d5 d6 d7) s = .next t ∧
        s.bu.berth.isolated <+: t.bu.berth.isolated ∧
        (s.bu.berth.isolated.Nodup → t.bu.berth.isolated.Nodup) ∧
        (s.bu.berth.isolated.length ≤ 10 → t.bu.berth.isolated.length ≤ 10) ∧
        (∀ k, k ∈ t.bu.berth.isolated → k ∈ s.bu.berth.isolated ∨
          (1 ≤ k ∧ k ≤ s.doorCount ∧ ∃ d ∈ [d1, d2, d3, d4, d5, d6, d7], k = d.toNat)) ∧
        (t.bu.berth.isolated.length < 10 →
          ∀ d ∈ [d1, d2, d3, d4, d5, d6, d7], 1 ≤ d.toNat → d.toNat ≤ s.doorCount → d.toNat ∈ t.bu.berth.isolated) ∧
        t.fr.nodeCounters.discardedFrames =
          Counter.bump^[[d1, d2, d3, d4, d5, d6, d7].countP fun d => d != 0 && !t.bu.berth.isolated.contains d.toNat]
            s.fr.nodeCounters.discardedFrames ∧
        Ends
          { noteActivity src false s with
            bu := { s.bu with berth := { s.bu.berth with isolated := t.bu.berth.isolated } }
            fr :=
              { s.fr with
                nodeCounters := { s.fr.nodeCounters with discardedFrames := t.fr.nodeCounters.discardedFrames } } } t) ∧
    (s.berthState = .fixed ∨ s.berthState = .released ∨ s.berthState = .closing ∨ s.berthState = .secured →
      ∃ t, Sys2Proof.Machine.exec (.berthExt src seq d1 d2 d3 d4 d5 d6 d7) s = .next t ∧ Ends (noteActivity src false s) t)

/-- STANDSTILL in ANNOUNCED moves the berth to FUSING and opens the fusion window for FUSION_WINDOW, with every configured unit's search; in
any other state it is ignored; with another sequence it is counted alone (R71, R78). -/
def Obligations.StandstillOpensWindow : Prop :=
  ∀ (src : Node) (seq : Byte) (s : State), AcceptedRunning ⟨src, .standstill, [seq]⟩ s →
    (seq = s.seq → s.berthState = .announced →
      ∃ t, Sys2Proof.Machine.exec (.standstill src seq) s = .next t ∧ t.berthState = .fusing ∧
        Ends
          { noteActivity src false s with
            bu := { s.bu with berth := { s.bu.berth with state := .fusing } }
            ae :=
              { s.ae with
                window := some (after s.now s.cl.config.params.fusionWindow)
                searches := Quad.build fun u =>
                  if s.configured u then ⟨.seeking, []⟩ else s.ae.searches.get u } } t) ∧
    (seq = s.seq → s.berthState ≠ .announced →
      ∃ t, Sys2Proof.Machine.exec (.standstill src seq) s = .next t ∧ Ends (noteActivity src false s) t) ∧
    (seq ≠ s.seq →
      ∃ t, Sys2Proof.Machine.exec (.standstill src seq) s = .next t ∧ Ends (countDiscard (noteActivity src false s)) t)

/-- RELEASE by its tests in order (R80). A release acted on sets RELEASED, takes the units the map marks served from the departure close's
covered set, and sends each an open request, which it takes by its state: a CLOSED_LOCKED one unlocks (R82, R88, R119). FUSION_WINDOW_EXPIRY
fixes the verdict, the fused stop and the map, the berth is FIXED, and a held release is then judged by tests 2, 3 and 6 on the new fix, its
mark cleared: refused it leaves the berth FIXED, acted on it opens the units that the new map marks served (R79, R81, R95, R105, R109).
RELEASED stands where no emergency close runs, which alone may bring SECURED from it (R85). HELD_RELEASE in FUSING is the window close
itself, in FIXED the judging alone, and without a held release nothing; an expiry brings node time to its end: these are the model's (log
entry 1). The phase HOLD at the entry to a state for which no rule names a phase is the model's (log entry 29). -/
def Obligations.ReleasesJudged : Prop :=
  (∀ (src : Node) (s : State), AcceptedRunning ⟨src, .release, [s.seq]⟩ s →
    (s.berthState = .released ∨ s.berthState = .closing ∨ s.berthState = .secured →
      ∃ t, Sys2Proof.Machine.exec (.release src s.seq) s = .next t ∧ Ends (noteActivity src false s) t) ∧
    (s.berthState = .announced ∨ s.berthState = .fusing ∨ s.berthState = .fixed →
      (∀ code : RefusalCode,
        (if s.pm.identityConflict then code = .nodeState
        else if s.iu.latch then code = .emergency
        else if s.berthState = .announced then code = .noStandstill
        else s.berthState = .fixed ∧ s.bu.berth.verdict ≠ .aligned ∧ s.bu.berth.verdict ≠ .degraded ∧ code = .verdict) →
        ∃ t, Sys2Proof.Machine.exec (.release src s.seq) s = .next t ∧ t.berthState = s.berthState ∧
          Ends
            { noteActivity src false s with pm := { (noteActivity src false s).pm with lastRefusal := code } } t) ∧
      (s.pm.identityConflict = false → s.iu.latch = false → s.berthState = .fusing →
        ∃ t, Sys2Proof.Machine.exec (.release src s.seq) s = .next t ∧ t.berthState = .fusing ∧
          Ends
            { noteActivity src false s with
              bu := { s.bu with berth := { s.bu.berth with pendingRelease := true } } } t) ∧
      (s.pm.identityConflict = false → s.iu.latch = false → s.berthState = .fixed →
        s.bu.berth.verdict = .aligned ∨ s.bu.berth.verdict = .degraded →
        ∃ t, Sys2Proof.Machine.exec (.release src s.seq) s = .next t ∧ t.now = s.now ∧ t.pins = s.pins ∧
          (s.iu.emergencyClose = none → t.berthState = .released) ∧
          (∀ u, s.configured u = true → s.served u = true →
            (∀ d, t.bu.departure = some d → d.covered.get u = false) ∧
            (s.unit u = .closedLocked → s.driveFault u = false → t.dc.get u = unlocked s u) ∧
            (s.bu.cycle = none → s.iu.emergencyClose = none → s.iu.accessClose = none → OpenTaken true s t u)) ∧
          Keeps (fun u => s.configured u && s.served u)
            { noteActivity src false s with bu := { s.bu with berth := { s.bu.berth with state := .released } } } t))) ∧
  (∀ (s b : State) (e : Time), s.loaded = true → s.ae.window = some e →
    b =
      { s.reach e with
        bu :=
          { s.bu with
            berth :=
              { s.bu.berth with
                state := .fixed, pendingRelease := false, verdict := s.fix.verdict
                sHat := s.fix.sHat.map (min 400000) } }
        ae :=
          { s.ae with
            window := none, verdict := s.fix.verdict, sHat := s.fix.sHat, margin := s.fix.margin
            searches := Quad.build fun u =>
              ⟨if (s.ae.searches.get u).outcome = .seeking then .notFound else (s.ae.searches.get u).outcome, []⟩
            map := Quad.build fun u => if s.configured u then some (mapEntry s s.fix u) else none } } →
    (s.bu.berth.pendingRelease = false →
      ∃ t, Sys2Proof.Machine.exec .fusionWindowExpiry s = .next t ∧ t.berthState = .fixed ∧ Ends b t) ∧
    (s.bu.berth.pendingRelease = true → s.berthState = .fusing →
      Sys2Proof.Machine.exec .heldRelease s = Sys2Proof.Machine.exec .fusionWindowExpiry s) ∧
    (s.bu.berth.pendingRelease = true →
      (∀ code : RefusalCode,
        (if s.pm.identityConflict then code = .nodeState
        else if s.iu.latch then code = .emergency
        else s.fix.verdict ≠ .aligned ∧ s.fix.verdict ≠ .degraded ∧ code = .verdict) →
        ∃ t, Sys2Proof.Machine.exec .fusionWindowExpiry s = .next t ∧ t.berthState = .fixed ∧
          Ends { b with pm := { s.pm with lastRefusal := code } } t) ∧
      (s.pm.identityConflict = false → s.iu.latch = false →
        s.fix.verdict = .aligned ∨ s.fix.verdict = .degraded →
        ∃ t, Sys2Proof.Machine.exec .fusionWindowExpiry s = .next t ∧ t.now = b.now ∧ t.pins = s.pins ∧
          (s.iu.emergencyClose = none → t.berthState = .released) ∧
          (∀ u, s.configured u = true → (mapEntry s s.fix u).reason = .served →
            (∀ d, t.bu.departure = some d → d.covered.get u = false) ∧
            (s.cl.phase ≠ .configFault → s.unit u = .closedLocked → s.driveFault u = false →
              t.dc.get u = unlocked b u) ∧
            (s.bu.cycle = none → s.iu.emergencyClose = none → s.iu.accessClose = none →
              OpenTaken (s.cl.phase != .configFault) b t u)) ∧
          Keeps (fun u => s.configured u && (mapEntry s s.fix u).reason == .served)
            { b with bu := { b.bu with berth := { b.bu.berth with state := .released } } } t))) ∧
  ∀ (s b : State), s.loaded = true →
    b = { s with bu := { s.bu with berth := { s.bu.berth with pendingRelease := false } } } →
    (s.bu.berth.pendingRelease = false → Sys2Proof.Machine.exec .heldRelease s = .next s) ∧
    (s.bu.berth.pendingRelease = true → s.berthState = .fixed →
      (∀ code : RefusalCode,
        (if s.pm.identityConflict then code = .nodeState
        else if s.iu.latch then code = .emergency
        else s.bu.berth.verdict ≠ .aligned ∧ s.bu.berth.verdict ≠ .degraded ∧ code = .verdict) →
        ∃ t, Sys2Proof.Machine.exec .heldRelease s = .next t ∧ t.berthState = .fixed ∧
          Ends { b with pm := { s.pm with lastRefusal := code } } t) ∧
      (s.pm.identityConflict = false → s.iu.latch = false →
        s.bu.berth.verdict = .aligned ∨ s.bu.berth.verdict = .degraded →
        ∃ t, Sys2Proof.Machine.exec .heldRelease s = .next t ∧ t.now = s.now ∧ t.pins = s.pins ∧
          (s.iu.emergencyClose = none → t.berthState = .released) ∧
          (∀ u, s.configured u = true → s.served u = true →
            (∀ d, t.bu.departure = some d → d.covered.get u = false) ∧
            (s.cl.phase ≠ .configFault → s.unit u = .closedLocked → s.driveFault u = false →
              t.dc.get u = unlocked s u) ∧
            (s.bu.cycle = none → s.iu.emergencyClose = none → s.iu.accessClose = none →
              OpenTaken (s.cl.phase != .configFault) b t u)) ∧
          Keeps (fun u => s.configured u && s.served u)
            { b with bu := { b.bu with berth := { b.bu.berth with state := .released } } } t))

/-- CLOSE by the berth's state: RELEASED starts a close cycle over the units in OPEN or HELD_OPEN under one warning, and where no configured
unit stands so the berth passes to SECURED in the same event, with no cycle and no warning of it left, CLOSING starts a new warning for the
HELD_OPEN ones and ignores it where there is none, FIXED goes to SECURED, FUSING clears the pending-release mark, ANNOUNCED and SECURED
ignore it (R83, R157, R165, R166). -/
def Obligations.CloseByState : Prop :=
  ∀ (src : Node) (s : State), AcceptedRunning ⟨src, .close, [s.seq]⟩ s →
    (s.berthState = .released →
      ∃ t, Sys2Proof.Machine.exec (.close src s.seq) s = .next t ∧
        (s.iu.emergencyClose = none → (∃ u, s.configured u = true ∧ (s.unit u = .opened ∨ s.unit u = .heldOpen)) →
          t.out.warning = true ∧
          t.bu.cycle =
            some
              { warnings := [⟨s.now, after s.now s.cl.config.params.warnTime, true⟩]
                members := Quad.build fun u =>
                  if s.configured u && (s.unit u == .opened || s.unit u == .heldOpen) then some ⟨0, .underWarning⟩ else none
                holds := [] }) ∧
        ((∀ u, s.configured u = true → s.unit u ≠ .opened ∧ s.unit u ≠ .heldOpen) →
          t.bu.cycle = none ∧ t.berthState = .secured ∧
            (s.bu.departure = none → s.iu.emergencyClose = none → s.iu.accessClose = none → t.out.warning = false)) ∧
        Ends
          { noteActivity src false s with
            bu := { s.bu with berth := { s.bu.berth with state := .closing }, cycle := t.bu.cycle } } t) ∧
    (s.berthState = .closing → ∀ c, s.bu.cycle = some c → (∃ u, s.configured u = true ∧ s.unit u = .heldOpen) →
      ∃ t, Sys2Proof.Machine.exec (.close src s.seq) s = .next t ∧ Ends (noteActivity src false s) t ∧
        (s.iu.emergencyClose = none →
          t.out.warning = true ∧ ∃ c', t.bu.cycle = some c' ∧
            c'.warnings = c.warnings ++ [⟨s.now, after s.now s.cl.config.params.warnTime, true⟩] ∧
            ∀ u, s.configured u = true → s.unit u = .heldOpen →
              c'.members.get u = some ⟨c.warnings.length, .underWarning⟩)) ∧
    (s.berthState = .closing → (∀ u, s.configured u = true → s.unit u ≠ .heldOpen) →
      ∃ t, Sys2Proof.Machine.exec (.close src s.seq) s = .next t ∧ Ends (noteActivity src false s) t ∧
        ∀ c', t.bu.cycle = some c' → ∃ c, s.bu.cycle = some c ∧ c'.warnings = c.warnings ∧
          ∀ u, (c'.members.get u).map Member.warning = (c.members.get u).map Member.warning) ∧
    (s.berthState = .fixed →
      ∃ t, Sys2Proof.Machine.exec (.close src s.seq) s = .next t ∧
        Ends
          { noteActivity src false s with bu := { s.bu with berth := { s.bu.berth with state := .secured } } } t) ∧
    (s.berthState = .fusing →
      ∃ t, Sys2Proof.Machine.exec (.close src s.seq) s = .next t ∧
        Ends
          { noteActivity src false s with
            bu := { s.bu with berth := { s.bu.berth with pendingRelease := false } } } t) ∧
    (s.berthState = .announced ∨ s.berthState = .secured →
      ∃ t, Sys2Proof.Machine.exec (.close src s.seq) s = .next t ∧ Ends (noteActivity src false s) t)

/-- REOPEN in CLOSING or SECURED with the verdict ALIGNED or DEGRADED: RELEASED again, the close cycle ended with a HOLD END for each own
hold, the served units out of the departure close's covered set and, with the latch clear, asked to open, which each takes by its state: one
in CLOSING reverses, and a request ignored is counted; under the latch the requests are withheld; with another verdict it is refused; in any
other state ignored (R84, R88, R89, R119, R167). RELEASED stands where no emergency close runs (R85). DEPART ends the berth: the record, the
Sample Set, the map, the cycle, the Hold List and the Release Set empty, but for the own number while a unit stands manually released; units
not secured are reported, and those it covers start the departure close, one running going on where there are none (R86 to R88). That a
departure close started here replaces one still running is the model's (log entry 14). The phase HOLD at the entry to a state for which no
rule names a phase is the model's (log entry 29). -/
def Obligations.ReopensAndDeparts : Prop :=
  (∀ (src : Node) (s : State), AcceptedRunning ⟨src, .reopen, [s.seq]⟩ s →
    (s.berthState = .closing ∨ s.berthState = .secured →
      (s.bu.berth.verdict ≠ .aligned → s.bu.berth.verdict ≠ .degraded →
        ∃ t, Sys2Proof.Machine.exec (.reopen src s.seq) s = .next t ∧
          Ends
            { noteActivity src false s with pm := { (noteActivity src false s).pm with lastRefusal := .verdict } } t) ∧
      (s.bu.berth.verdict = .aligned ∨ s.bu.berth.verdict = .degraded →
        ∀ b : State,
          b =
            { noteActivity src false s with
              bu := { s.bu with berth := { s.bu.berth with state := .released }, cycle := none } } →
        ∃ t, Sys2Proof.Machine.exec (.reopen src s.seq) s = .next t ∧ t.bu.cycle = none ∧ t.now = s.now ∧ t.pins = s.pins ∧
          (s.iu.emergencyClose = none → t.berthState = .released) ∧
          (∀ u, s.configured u = true → s.served u = true →
            (∀ d, t.bu.departure = some d → d.covered.get u = false) ∧
            (s.iu.latch = false → s.unit u = .closing → 0 < s.remainingOpen u →
              t.unit u = .reversing ∧ (t.dc.get u).target = .opened) ∧
            (s.iu.latch = false → s.pm.identityConflict = false → s.unit u = .closedLocked → s.driveFault u = false →
              t.dc.get u = unlocked s u) ∧
            (s.iu.latch = false → s.iu.emergencyClose = none → s.iu.accessClose = none →
              OpenTaken (!s.pm.identityConflict) s t u)) ∧
          (∀ c, s.bu.cycle = some c → s.lc.queue.length + c.holds.length ≤ 8 → ∀ h ∈ c.holds,
            t.frames .hold [s.seq, 2, byte h.car] =
              s.frames .hold [s.seq, 2, byte h.car] + c.holds.countP fun x => byte x.car == byte h.car) ∧
          (s.iu.latch = true → Ends { b with bu := { b.bu with departure := t.bu.departure } } t) ∧
          Keeps (fun u => s.configured u && s.served u) b t)) ∧
    (s.berthState = .announced ∨ s.berthState = .fusing ∨ s.berthState = .fixed ∨ s.berthState = .released →
      ∃ t, Sys2Proof.Machine.exec (.reopen src s.seq) s = .next t ∧ Ends (noteActivity src false s) t)) ∧
  ∀ (src : Node) (s : State), AcceptedRunning ⟨src, .depart, [s.seq]⟩ s →
    ∃ t, Sys2Proof.Machine.exec (.depart src s.seq) s = .next t ∧ t.berthState = .idle ∧
      (∀ n, n ∈ t.iu.releaseSet ↔ n = s.cl.own ∧ s.strapOk = true ∧ ∃ u, (s.unit u).released = true) ∧
      (∀ u, UnitNo.all.find? (fun v => s.configured v && s.unit v != .closedLocked && s.unit v != .isolated &&
          s.unit v != .fault) = some u →
        Reported .severe ⟨.departUnsecured, some u, s.seq, s.now⟩ s.fr t.fr ∧
          (s.lc.queue.length < 16 →
            t.frames .alert [6, byte u.val, s.seq] = s.frames .alert [6, byte u.val, s.seq] + 1)) ∧
      ((∀ v, s.configured v = false ∨ s.unit v = .closedLocked ∨ s.unit v = .isolated ∨ s.unit v = .fault) →
        t.fr.severe = s.fr.severe) ∧
      ((∃ u, s.configured u = true ∧ (s.unit u).coverable = true) →
        t.out.warning = true ∧
        t.bu.departure =
          some
            { covered := Quad.build fun u => s.configured u && (s.unit u).coverable
              warning := ⟨s.now, after s.now s.cl.config.params.warnTime, true⟩ }) ∧
      Ends
        { noteActivity src false s with
          bu :=
            { berth := Berth.none, cycle := none, holdList := []
              departure :=
                if UnitNo.all.any fun u => s.configured u && (s.unit u).coverable then
                  some
                    { covered := Quad.build fun u => s.configured u && (s.unit u).coverable
                      warning := ⟨s.now, after s.now s.cl.config.params.warnTime, true⟩ }
                else s.bu.departure }
          ae := AlignEngine.reset, iu := { s.iu with releaseSet := t.iu.releaseSet } } t

/-- HOLD of the record's sequence from a number that is not SILENT: START refreshes or joins at the newest end, the oldest of 16 leaving,
counted; END removes. Any other is counted in DISCARDED_FRAMES (R161). At the end of a close cycle's warning the node enqueues one HOLD
START for each car that a member found served, standing open and BUSY calls for and that it does not hold yet, and none where HOLD_MAX is
0 (R158). An expiry brings node time to its end: this is the model's (log entry 1). -/
def Obligations.HoldsListed : Prop :=
  (∀ (src : Node) (seq car : Byte) (s : State), s.pm.slots.length = 64 →
    (AcceptedRunning ⟨src, .hold, [seq, 1, car]⟩ s →
      (seq = s.seq → (s.slot src).state ≠ .silent →
        ∃ t, Sys2Proof.Machine.exec (.holdStart src seq car) s = .next t ∧
          Ends
            { noteActivity src false s with
              bu :=
                { s.bu with
                  holdList :=
                    (if s.bu.holdList.any fun h => h.source == src && h.car == car.toNat then
                      s.bu.holdList.filter fun h => !(h.source == src && h.car == car.toNat)
                    else if s.bu.holdList.length < 16 then s.bu.holdList
                    else s.bu.holdList.drop 1) ++ [⟨src, car.toNat, s.now⟩] }
              fr :=
                { s.fr with
                  nodeCounters :=
                    { s.fr.nodeCounters with
                      holdEvictions :=
                        if (s.bu.holdList.any fun h => h.source == src && h.car == car.toNat) ||
                            decide (s.bu.holdList.length < 16) then s.fr.nodeCounters.holdEvictions
                        else s.fr.nodeCounters.holdEvictions.bump } } } t) ∧
      (seq ≠ s.seq ∨ ((s.slot src).state = .silent ∧ isBay src = true) →
        ∃ t, Sys2Proof.Machine.exec (.holdStart src seq car) s = .next t ∧
          Ends (countDiscard (noteActivity src false s)) t)) ∧
    (AcceptedRunning ⟨src, .hold, [seq, 2, car]⟩ s →
      (seq = s.seq → (s.slot src).state ≠ .silent →
        ∃ t, Sys2Proof.Machine.exec (.holdEnd src seq car) s = .next t ∧
          Ends
            { noteActivity src false s with
              bu :=
                { s.bu with
                  holdList := s.bu.holdList.filter fun h => !(h.source == src && h.car == car.toNat) } } t) ∧
      (seq ≠ s.seq ∨ ((s.slot src).state = .silent ∧ isBay src = true) →
        ∃ t, Sys2Proof.Machine.exec (.holdEnd src seq car) s = .next t ∧
          Ends (countDiscard (noteActivity src false s)) t))) ∧
  ∀ (s s' : State) (c : CloseCycle) (i : Nat), s.loaded = true → s.bu.cycle = some c → firstRunning c.warnings = some i →
    s' = s.reach (warningAt c.warnings i).stop → s.lc.queue.length ≤ 12 → (∀ u k, s.car u = some k → k ≤ 10) →
    ∃ t, Sys2Proof.Machine.exec .closeCycleWarningEnd s = .next t ∧ t = settle s' (endCycleWarning c i s') ∧
      (s.cl.config.params.holdMax = 0 → (endCycleWarning c i s').lc.queue = s.lc.queue) ∧
      (0 < s.cl.config.params.holdMax → ∀ car, car ≤ 10 →
        (endCycleWarning c i s').frames .hold [s.seq, 1, byte car] = s.frames .hold [s.seq, 1, byte car] +
            if (c.holdFor car).isNone && UnitNo.all.any fun u =>
                c.members.get u == some ⟨i, .underWarning⟩ && s.findsBusy u && s.car u == some car then 1
            else 0)

/-! ### The Alignment Engine (chapter 6) -/

/-- EDGE in RUNNING by its tests in order: set aside under IDENTITY_CONFLICT, counted for another sequence, counted as late once the window
has closed, otherwise a peer sample of its quality's weight, keyed into the set: an older one of its key leaves, and a new key beyond 60
peers is counted and dropped (R102, R103). -/
def Obligations.EdgesExamined : Prop :=
  ∀ (src : Node) (seq : Byte) (unit quality : BitVec 4) (door : Byte) (stop : BitVec 24) (s : State),
    AcceptedRunning ⟨src, .edge, [seq, nibbles unit quality, door] ++ bytes3 stop⟩ s →
    ∃ t, Sys2Proof.Machine.exec (.edge src seq unit quality door stop) s = .next t ∧
      (s.pm.identityConflict = true → Ends (noteActivity src false s) t) ∧
      (s.pm.identityConflict = false → seq ≠ s.seq → Ends (countDiscard (noteActivity src false s)) t) ∧
      (s.pm.identityConflict = false → seq = s.seq →
        s.berthState = .fixed ∨ s.berthState = .released ∨ s.berthState = .closing ∨ s.berthState = .secured →
        Ends
          { noteActivity src false s with
            fr :=
              { s.fr with
                nodeCounters := { s.fr.nodeCounters with lateSamples := s.fr.nodeCounters.lateSamples.bump } } } t) ∧
      (s.pm.identityConflict = false → seq = s.seq → s.berthState = .announced ∨ s.berthState = .fusing →
        ((∃ y ∈ s.ae.samples, y.source = src ∧ y.unit = unit.toNat) ∨
            (s.ae.samples.countP fun y => y.source != s.cl.own) < 60 →
          Ends
            { noteActivity src false s with
              ae :=
                { s.ae with
                  samples := (s.ae.samples.filter fun y => !(y.source == src && y.unit == unit.toNat)) ++
                    [{ source := src, unit := unit.toNat, door := door.toNat, stop := stop.toNat
                       weight := if quality = 3 then 4 else if quality = 2 then 2 else 1 }] } } t) ∧
        ((∀ y ∈ s.ae.samples, y.source = src → y.unit ≠ unit.toNat) →
          60 ≤ (s.ae.samples.countP fun y => y.source != s.cl.own) →
          Ends
            { noteActivity src false s with
              fr :=
                { s.fr with
                  nodeCounters :=
                    { s.fr.nodeCounters with sampleOverflow := s.fr.nodeCounters.sampleOverflow.bump } } } t))

/-- ALIGNMENT_READING and ALIGNMENT_READING_TIMEOUT: the reading timer restarts, and a reading of a unit that is not SEEKING is set aside.
For a SEEKING one, a reading of no door, or one in ISOLATED or FAULT, empties the run; an offset joins the run of at most five; five
within 20 mm end the search, with a sample of the unit or without. The sample is the nearest train door's, of the smallest k among equals:
a door beyond STOP_TOL + 300, a quality lowered to 0 or a stop off the chainage gives none; otherwise it is stored and published in one
EDGE, which joins a queue in class order behind the EDGE frames it holds and which IDENTITY_CONFLICT holds back (R26, R47, R92 to R94, R96
to R101). At a timeout node time stands at the timer's end: this is the
model's (log entry 1). -/
def Obligations.ReadingsTaken : Prop :=
  ∀ (u : UnitNo) (s : State), s.active u = true →
    ∀ (i : Instr) (r : Option (Int × Int × Nat)) (s' : State),
      (∃ reading, i = .alignmentReading u reading ∧ r = checkReading reading ∧
          s' = s.setSu u { s.su.units.get u with alignTimer := some (after s.now 40) }) ∨
        (∃ e, i = .alignmentReadingTimeout u ∧ (s.su.units.get u).alignTimer = some e ∧ r = none ∧
          s' = (s.reach e).setSu u { s.su.units.get u with alignTimer := some (after (s.reach e).now 20) }) →
      ∃ t, Sys2Proof.Machine.exec i s = .next t ∧
        ((s.ae.searches.get u).outcome ≠ .seeking → Ends s' t) ∧
        ((s.ae.searches.get u).outcome = .seeking → r = none ∨ s.unit u = .isolated ∨ s.unit u = .fault →
          Ends { s' with ae := { s.ae with searches := s.ae.searches.set u ⟨.seeking, []⟩ } } t) ∧
        ∀ a b q, r = some (a, b, q) → (s.ae.searches.get u).outcome = .seeking → s.unit u ≠ .isolated →
          s.unit u ≠ .fault →
          (stableRun (joinRun (s.ae.searches.get u).run (centreOffset a b)) = false →
            Ends
              { s' with
                ae :=
                  { s.ae with
                    searches :=
                      s.ae.searches.set u ⟨.seeking, joinRun (s.ae.searches.get u).run (centreOffset a b)⟩ } } t) ∧
          (stableRun (joinRun (s.ae.searches.get u).run (centreOffset a b)) = true →
            ((t.ae.searches.get u).outcome = .sampled ∨ (t.ae.searches.get u).outcome = .noMatch ∨
              (t.ae.searches.get u).outcome = .lowQuality) ∧
            ((t.ae.searches.get u).outcome ≠ .sampled → t.ae.samples = s.ae.samples) ∧
            ((t.ae.searches.get u).outcome = .sampled →
              ∃ x : Sample, x.source = s.cl.own ∧ x.unit = u.val ∧ x.stop ≤ 400000 ∧
                t.ae.samples =
                  (s.ae.samples.filter fun y => !(y.source == s.cl.own && y.unit == u.val)) ++ [x]) ∧
            (∀ o : SearchOutcome,
              (s.trainDoors = [] ∧ o = .noMatch) ∨
                (∃ d k, MatchedDoor s u a b d k ∧
                  ((s.cl.config.params.stopTol + 300 < s.doorDistance u a b d ∧ o = .noMatch) ∨
                    (s.doorDistance u a b d ≤ s.cl.config.params.stopTol + 300 ∧
                      ((q = 1 ∧ 200 < (b - a - 2 * (d.halfWidth : Int)).natAbs ∧ o = .lowQuality) ∨
                        ((q ≠ 1 ∨ (b - a - 2 * (d.halfWidth : Int)).natAbs ≤ 200) ∧
                          (s.observedCentre u a b + d.distance < 0 ∨ 400000 < s.observedCentre u a b + d.distance) ∧
                          o = .noMatch))))) →
              (t.ae.searches.get u).outcome = o ∧
                (s.lc.queue.length < 15 → (t.lc.queue.filter fun y => y.kind == .edge) = s.lc.queue.filter fun y => y.kind == .edge)) ∧
            (∀ d k quality, MatchedDoor s u a b d k → s.doorDistance u a b d ≤ s.cl.config.params.stopTol + 300 →
              quality = (if (b - a - 2 * (d.halfWidth : Int)).natAbs ≤ 200 then q else q - 1) → 1 ≤ quality →
              0 ≤ s.observedCentre u a b + d.distance → s.observedCentre u a b + d.distance ≤ 400000 →
              (t.ae.searches.get u).outcome = .sampled ∧
                t.ae.samples =
                  (s.ae.samples.filter fun y => !(y.source == s.cl.own && y.unit == u.val)) ++
                    [⟨s.cl.own, u.val, k, (s.observedCentre u a b + d.distance).toNat,
                      if quality = 3 then 4 else if quality = 2 then 2 else 1⟩] ∧
                (QueueOk s.lc.queue → s.lc.queue.length < 15 →
                  (t.lc.queue.filter fun y => y.kind == .edge) =
                    (s.lc.queue.filter fun y => y.kind == .edge) ++
                      if s.pm.identityConflict then []
                      else
                        [{ kind := .edge
                           payload :=
                            [s.seq, nibbles (BitVec.ofNat 4 u.val) (BitVec.ofNat 4 quality), byte k] ++
                              bytes3 (BitVec.ofNat 24 (s.observedCentre u a b + d.distance).toNat)
                           successor := none, onLine := false }])) ∧
            Ends
              { s' with
                ae :=
                  { s.ae with
                    samples := t.ae.samples
                    searches := s.ae.searches.set u ⟨(t.ae.searches.get u).outcome, []⟩ } } t)

/-- The fix of a Sample Set. An empty set is UNALIGNED. Of any other, the retained set is every sample within 150 mm of the weighted median,
the fused stop is its weighted mean rounded half toward +∞, and the verdict is the first of R108's tests that applies: a retained weight
below 3, UNALIGNED, with no S_hat and no margin; a fused stop farther than STOP_TOL from S0, OUT_OF_TOLERANCE, with no margin; a retained
weight of 8 or more with an own sample and a peer's, ALIGNED, margin 40; otherwise DEGRADED, margin 120. The fused stop lies within 150 mm
of the weighted median of the set, and between two implied stops of the set. The verdict opens units only where it lies within STOP_TOL of
S0, ALIGNED only on a retained weight of 8 with an own sample and a peer's (R106 to R108). -/
def Obligations.FusedStopBounds : Prop :=
  ∀ (l : List Sample) (own : Node) (s0 tol : Nat),
    (∀ x, (computeFix l own s0 tol).sHat = some x →
      ∃ m, WeightedMedian l m ∧ x ≤ m + 150 ∧ m ≤ x + 150 ∧ (∃ y ∈ l, y.stop ≤ x) ∧ ∃ y ∈ l, x ≤ y.stop) ∧
    ((computeFix l own s0 tol).verdict.opens = true →
      ∃ x, (computeFix l own s0 tol).sHat = some x ∧ x ≤ s0 + tol ∧ s0 ≤ x + tol ∧ 3 ≤ totalWeight (retained l) ∧
        (((computeFix l own s0 tol).verdict = .aligned ∧ (computeFix l own s0 tol).margin = some 40 ∧
            8 ≤ totalWeight (retained l) ∧ (∃ y ∈ retained l, y.source = own) ∧ ∃ y ∈ retained l, y.source ≠ own) ∨
          ((computeFix l own s0 tol).verdict = .degraded ∧ (computeFix l own s0 tol).margin = some 120))) ∧
    ((computeFix l own s0 tol).verdict = .unaligned ↔ totalWeight (retained l) < 3) ∧
    (l = [] → computeFix l own s0 tol = ⟨.unaligned, none, none⟩) ∧
    ∀ (m x : Nat) (r : List Sample), WeightedMedian l m →
      r = (l.filter fun y => decide (((y.stop : Int) - m).natAbs ≤ 150)) →
      x = (2 * (r.map fun y => y.weight * y.stop).sum + totalWeight r) / (2 * totalWeight r) →
      computeFix l own s0 tol =
        if totalWeight r < 3 then ⟨.unaligned, none, none⟩
        else if tol < ((x : Int) - s0).natAbs then ⟨.outOfTolerance, some x, none⟩
        else if 8 ≤ totalWeight r ∧ (∃ y ∈ r, y.source = own) ∧ ∃ y ∈ r, y.source ≠ own then ⟨.aligned, some x, some 40⟩
        else ⟨.degraded, some x, some 120⟩

/-- What SERVED means: the unit stands neither ISOLATED nor in FAULT, its matched train door has the largest overlap, above 0, with the
smallest k among equals, is not isolated, and leaves an effective clear width of at least MIN_CLEAR (R111, R112). The entry of an ALIGNED or
DEGRADED fix, both ways. With a best door whose overlap is above 0 it holds that k, its car, the overlap of the two openings and the
effective clear width, overlap less margin less skew allowance, and its reason is the first that applies: UNIT_ISOLATED, UNIT_FAULT,
TRAIN_DOOR_ISOLATED, PARTIAL below MIN_CLEAR, SERVED. With no overlap above 0 it holds no k, overlap and width, its reason is UNIT_ISOLATED,
UNIT_FAULT or NO_TRAIN_DOOR, and its car is the first whose span contains p_u, the only one where the lengths ascend, or none. Under any
other verdict the reason is VERDICT and every other field absent (R14, R110 to R113). -/
def Obligations.ServedMeans : Prop :=
  ∀ (s : State) (sHat margin : Nat) (u : UnitNo) (g : UnitGeometry) (e : MapEntry) (minClear : Int),
    g = s.cl.config.units.get u → e = placedEntry s sHat margin u → minClear = s.cl.config.params.minClear →
    (e.reason = .served →
      s.unit u ≠ .isolated ∧ s.unit u ≠ .fault ∧
        ∃ d k, BestDoor s sHat u d k ∧ e.door = some k ∧ e.car = some d.car ∧ 0 < overlap g sHat d ∧
          k ∉ s.bu.berth.isolated ∧ minClear ≤ overlap g sHat d - margin - g.skew) ∧
    (∀ (d : TrainDoor) (k : Nat) (c o w : Int), BestDoor s sHat u d k → c = (sHat : Int) - d.distance →
      o = min ((g.centre : Int) + g.halfWidth) (c + d.halfWidth) - max ((g.centre : Int) - g.halfWidth) (c - d.halfWidth) →
      0 < o → w = o - margin - g.skew →
      e =
        { reason :=
            if s.unit u = .isolated then .unitIsolated
            else if s.unit u = .fault then .unitFault
            else if k ∈ s.bu.berth.isolated then .trainDoorIsolated
            else if w < minClear then .partialWidth
            else .served
          door := some k, car := some d.car, overlap := some o, width := some w }) ∧
    ((∀ d k, (d, k) ∈ s.trainDoors → overlap g sHat d ≤ 0) →
      e =
        { reason :=
            if s.unit u = .isolated then .unitIsolated
            else if s.unit u = .fault then .unitFault
            else .noTrainDoor
          door := none, car := e.car, overlap := none, width := none } ∧
        ∀ j, e.car = some j ↔ ∃ c, s.trainConsist = some c ∧ FirstAt (InCar c sHat g.centre) j) ∧
    ∀ f : Fix,
      (f.verdict.opens = false → mapEntry s f u = ⟨.verdict, none, none, none, none⟩) ∧
      (f.verdict.opens = true → f.sHat = some sHat → f.margin = some margin → mapEntry s f u = e)

/-! ### Commands and queries (chapters 3, 10 and 11) -/

/-- A COMMAND or QUERY to another number is an activity note alone; in CONFIG_FAULT after its quiet period a COMMAND other than RESET_NODE
is refused with NODE_STATE and changes nothing else (R19, R45, R46). -/
def Obligations.CommandsElsewhere : Prop :=
  ∀ (i : Instr) (f : Frame) (dest : Byte) (s : State), frameOf i = some f → f.kind = .command ∨ f.kind = .query →
    f.payload.head? = some dest → Accepted f s →
    (dest ≠ nodeByte s.cl.own →
      ∃ t, Sys2Proof.Machine.exec i s = .next t ∧ Ends (noteActivity f.source false s) t) ∧
    (dest = nodeByte s.cl.own → s.faultServing = true → f.kind = .command → (∀ arg, i ≠ .resetNode f.source dest arg) →
      ∃ t, Sys2Proof.Machine.exec i s = .next t ∧
        Ends
          { noteActivity f.source false s with
            pm := { (noteActivity f.source false s).pm with lastRefusal := .nodeState } } t)

/-- ISOLATE, RESTORE, REHOME and ACK_RELEASE unit by unit: what a named unit in a state that takes the command becomes; a named unit in any
other state, and every unit not named, is left, and the refusal code is UNIT_STATE. A unit brought back closed and engaged under the latch
unlocks again, and a drive fault held as the enable turns on sends it at once to FAULT, reported where it alone is named. ISOLATE puts the
unit's sensing to rest, ends its gap alarm, empties its reading run, clears its access-open mark and hands a BUSY zone on as FREE; RESTORE
starts its sensing anew. ACK_RELEASE consumes the capture, and a unit that comes back to CLOSED_LOCKED with its gap filter asserted and no
alarm raises one; a unit put back to ISOLATED rests. The own number stands in the Release Set after ISOLATE or ACK_RELEASE exactly while a
unit stands manually released. A unit refused, and one that REHOME takes, keeps its sensing. After an ISOLATE, RESTORE or ACK_RELEASE that
takes a unit the Secure Contact stands as its condition (R45, R46, R133 to R135, R137, R138, R140, R142, R148, R152, R154, R168, R169, R172,
R173, R178, R183); for several, which report fills a slot is the model's (log entry 21). That HOMING starts with the over-threshold count at
0 is the model's (log entry 18). The phase HOLD at the entry to a state for which no rule names a phase is the model's (log entry 29). -/
def Obligations.UnitCommands : Prop :=
  ∀ (src : Node) (dest arg : Byte) (s : State), s.cl.phase = .running →
    (Addressed ⟨src, .command, commandPayload .isolate dest arg⟩ dest s →
      ∃ t, Sys2Proof.Machine.exec (.isolate src dest arg) s = .next t ∧ t.now = s.now ∧ t.pins = s.pins ∧
        (∀ u, s.named arg u = true →
          (s.unit u = .closedLocked ∨ s.unit u = .fault ∨ s.unit u = .unknown ∨ s.unit u = .releaseRestored →
            t.unit u = .isolated ∧ (t.dc.get u).isolationMark = true ∧ (t.dc.get u).enable = false ∧
              (t.dc.get u).solenoid = false ∧
              t.su.units.get u =
                { (s.su.units.get u).rested with
                  handle :=
                    ⟨(s.su.units.get u).handle.live, (s.su.units.get u).handle.held && s.unit u != .releaseRestored⟩ } ∧
              (t.ae.searches.get u).run = [] ∧ t.iu.accessMarks.get u = false ∧
              ((s.su.units.get u).zoneBusy = true →
                ∀ c, t.bu.cycle = some c → ∀ h ∈ c.holds, h.holders.get u = false) ∧
              OwnReleaseFollows t ∧ t.out.contact = t.contactCondition) ∧
          (s.unit u ≠ .closedLocked → s.unit u ≠ .fault → s.unit u ≠ .unknown → s.unit u ≠ .releaseRestored →
            KeepsUnit (s.dc.get u) (t.dc.get u) ∧ KeepsSensing (s.su.units.get u) (t.su.units.get u) ∧
              t.pm.lastRefusal = .unitState)) ∧
        Keeps (s.named arg)
          { noteActivity src false s with
            pm := { (noteActivity src false s).pm with lastRefusal := t.pm.lastRefusal } } t) ∧
    (Addressed ⟨src, .command, commandPayload .restore dest arg⟩ dest s →
      ∃ t, Sys2Proof.Machine.exec (.restore src dest arg) s = .next t ∧ t.now = s.now ∧ t.pins = s.pins ∧
        (∀ u, s.named arg u = true →
          (s.unit u = .isolated → (t.dc.get u).isolationMark = false ∧
            KeepsSensing ((s.su.units.get u).begun (s.pins.units.get u).edge s.now) (t.su.units.get u) ∧
            t.out.contact = t.contactCondition ∧
            (s.closedAndEngaged u = true → s.iu.latch = false → t.unit u = .closedLocked) ∧
            (s.closedAndEngaged u = true → s.iu.latch = true → s.driveFault u = false →
              t.dc.get u = { unlocked s u with isolationMark := false, position := 0, attempt := 0 }) ∧
            (s.closedAndEngaged u = false → s.driveFault u = false → t.unit u = .homing) ∧
            (s.driveFault u = true → s.closedAndEngaged u = false ∨ s.iu.latch = true →
              t.unit u = .fault ∧
                ((∀ v, s.named arg v = true → v = u) →
                  Reported (if s.closedAndEngaged u = true then .minor else .severe)
                    ⟨.driveFault, some u, s.seq, s.now⟩ s.fr t.fr))) ∧
          (s.unit u ≠ .isolated →
            KeepsUnit (s.dc.get u) (t.dc.get u) ∧ KeepsSensing (s.su.units.get u) (t.su.units.get u) ∧
              t.pm.lastRefusal = .unitState)) ∧
        Keeps (s.named arg)
          { noteActivity src false s with
            pm := { (noteActivity src false s).pm with lastRefusal := t.pm.lastRefusal } } t) ∧
    (Addressed ⟨src, .command, commandPayload .rehome dest arg⟩ dest s →
      ∃ t, Sys2Proof.Machine.exec (.rehome src dest arg) s = .next t ∧ t.now = s.now ∧ t.pins = s.pins ∧
        (∀ u, s.named arg u = true →
          KeepsSensing (s.su.units.get u) (t.su.units.get u) ∧
          (s.unit u = .fault ∨ s.unit u = .unknown → s.driveFault u = false →
            t.unit u = .homing ∧ (t.dc.get u).retries = 0 ∧ (t.dc.get u).enable = true ∧ (t.dc.get u).solenoid = false ∧
              (t.dc.get u).homingTimer = some (after s.now (2 * s.cl.config.params.travelTimeout))) ∧
          (s.unit u = .fault ∨ s.unit u = .unknown → s.driveFault u = true →
            t.dc.get u =
                { (s.dc.get u).into .fault with
                  retries := 0, overCount := 0, attempt := 0 } ∧
              ((∀ v, s.named arg v = true → v = u) →
                Reported (if s.closedAndEngaged u = true then .minor else .severe)
                  ⟨.driveFault, some u, s.seq, s.now⟩ s.fr t.fr)) ∧
          (s.unit u ≠ .fault → s.unit u ≠ .unknown →
            KeepsUnit (s.dc.get u) (t.dc.get u) ∧ t.pm.lastRefusal = .unitState)) ∧
        Keeps (s.named arg)
          { noteActivity src false s with
            pm := { (noteActivity src false s).pm with lastRefusal := t.pm.lastRefusal } } t) ∧
    (Addressed ⟨src, .command, commandPayload .ackRelease dest arg⟩ dest s →
      ∃ t, Sys2Proof.Machine.exec (.ackRelease src dest arg) s = .next t ∧ t.now = s.now ∧ t.pins = s.pins ∧
        (∀ u, s.named arg u = true →
          (s.unit u = .releaseRestored → (t.su.units.get u).handle.held = false ∧ OwnReleaseFollows t ∧
            t.out.contact = t.contactCondition ∧
            (∀ x : UnitSensing,
              x = { s.su.units.get u with handle := ⟨(s.su.units.get u).handle.live, false⟩ } →
              ((s.dc.get u).isolationMark = true → t.su.units.get u = x.rested) ∧
              ((s.dc.get u).isolationMark = false →
                (s.closedAndEngaged u = true → x.alarm = .none → x.gapAsserted = true →
                  t.su.units.get u =
                    { x with
                      alarm := if s.berthState = .idle ∨ s.berthState = .announced then .intrusion else .trap }) ∧
                (s.closedAndEngaged u = false ∨ x.alarm ≠ .none ∨ x.gapAsserted = false →
                  KeepsSensing x (t.su.units.get u)))) ∧
            ((s.dc.get u).isolationMark = true → t.unit u = .isolated) ∧
            ((s.dc.get u).isolationMark = false → s.closedAndEngaged u = true → s.iu.latch = false →
              t.unit u = .closedLocked) ∧
            ((s.dc.get u).isolationMark = false → s.closedAndEngaged u = true → s.iu.latch = true → s.driveFault u = false →
              t.dc.get u = { unlocked s u with position := 0, attempt := 0 }) ∧
            ((s.dc.get u).isolationMark = false → s.closedAndEngaged u = false → s.driveFault u = false →
              t.unit u = .homing) ∧
            ((s.dc.get u).isolationMark = false → s.driveFault u = true →
              s.closedAndEngaged u = false ∨ s.iu.latch = true →
              t.unit u = .fault ∧
                ((∀ v, s.named arg v = true → v = u) → s.gapAsserted u = false →
                  Reported (if s.closedAndEngaged u = true then .minor else .severe)
                    ⟨.driveFault, some u, s.seq, s.now⟩ s.fr t.fr))) ∧
          (s.unit u ≠ .releaseRestored →
            KeepsUnit (s.dc.get u) (t.dc.get u) ∧ KeepsSensing (s.su.units.get u) (t.su.units.get u) ∧
              t.pm.lastRefusal = .unitState)) ∧
        Keeps (s.named arg)
          { noteActivity src false s with
            pm := { (noteActivity src false s).pm with lastRefusal := t.pm.lastRefusal } } t)

/-- ACCESS_OPEN marks and unlocks the named CLOSED_LOCKED units, or is refused by its tests in order; ACCESS_CLOSE takes the named marked
units into the access close under a warning; ACCESS_LOCK sets the lock (R182, R184, R185). The phase HOLD at the entry to a state for which
no rule names a phase is the model's (log entry 29). -/
def Obligations.AccessCommands : Prop :=
  ∀ (src : Node) (dest arg : Byte) (s : State), s.cl.phase = .running →
    (Addressed ⟨src, .command, commandPayload .accessOpen dest arg⟩ dest s →
      (s.pm.identityConflict = false → s.iu.latch = false → s.iu.accessLock = false → s.berthState = .idle →
        ∃ t, Sys2Proof.Machine.exec (.accessOpen src dest arg) s = .next t ∧ t.now = s.now ∧ t.pins = s.pins ∧
          (∀ u, s.named arg u = true →
            (s.unit u = .closedLocked → s.driveFault u = false →
              t.iu.accessMarks.get u = true ∧ t.dc.get u = unlocked s u) ∧
            (s.unit u ≠ .closedLocked → KeepsUnit (s.dc.get u) (t.dc.get u) ∧ t.pm.lastRefusal = .unitState)) ∧
          Keeps (s.named arg)
            { noteActivity src false s with
              pm := { (noteActivity src false s).pm with lastRefusal := t.pm.lastRefusal } } t) ∧
      (∀ code : RefusalCode, (∀ u, arg.getLsbD u.val = true → s.configured u = true) →
        (if s.pm.identityConflict then code = .nodeState
        else if s.iu.latch then code = .emergency
        else if s.iu.accessLock then code = .locked
        else s.berthState ≠ .idle ∧ code = .notIdle) →
        ∃ t, Sys2Proof.Machine.exec (.accessOpen src dest arg) s = .next t ∧
          Ends
            { noteActivity src false s with pm := { (noteActivity src false s).pm with lastRefusal := code } } t)) ∧
    (Addressed ⟨src, .command, commandPayload .accessClose dest arg⟩ dest s →
      ∃ t, Sys2Proof.Machine.exec (.accessClose src dest arg) s = .next t ∧
        (s.iu.latch = false → ∀ u, s.named arg u = true → s.iu.accessMarks.get u = true → s.accessMembers.get u = none →
          t.out.warning = true ∧
          ∃ a k, t.iu.accessClose = some a ∧ a.members.get u = some ⟨k, .underWarning⟩ ∧
            a.warnings[k]? = some ⟨s.now, after s.now s.cl.config.params.warnTime, true⟩) ∧
        Ends
          { noteActivity src false s with
            pm := { (noteActivity src false s).pm with lastRefusal := t.pm.lastRefusal }
            iu :=
              { s.iu with
                accessClose :=
                  if !s.iu.latch && UnitNo.all.any fun u => s.named arg u && s.preempted u then
                    some
                      { warnings := s.accessWarnings ++ [⟨s.now, after s.now s.cl.config.params.warnTime, true⟩]
                        members := Quad.build fun u =>
                          if s.named arg u && s.preempted u then some ⟨s.accessWarnings.length, .underWarning⟩
                          else s.accessMembers.get u }
                  else s.iu.accessClose } } t) ∧
    (Addressed ⟨src, .command, commandPayload .accessLock dest arg⟩ dest s →
      ∃ t, Sys2Proof.Machine.exec (.accessLock src dest arg) s = .next t ∧
        (s.lc.queue.length < 15 →
          t.frames .result [nodeByte src, 8, 0, 1, 0] = s.frames .result [nodeByte src, 8, 0, 1, 0] + 1) ∧
        Ends { noteActivity src false s with iu := { s.iu with accessLock := true } } t)

/-- Each COMMAND to the node in RUNNING that names units is decided unit by unit and draws one RESULT: its argument is the set of units
taken, DONE where some unit is and REFUSED where none, with the code of the lowest refused unit, a unit at or above the unit count being
refused with UNIT_STATE. In CONFIG_FAULT after the quiet period every COMMAND to the node but RESET_NODE draws REFUSED with NODE_STATE. A
code other than NONE becomes the last refusal code (R19, R45, R46, R62). Once the RESULT of a due RESET_NODE is reported, a part that
serves the line takes no command but the resets and the loss of an attempt, and the tick that follows resets it first (R195): that the
reset is a command of its own is the model's (log entry 6). -/
def Obligations.ResultsSent : Prop :=
  (∀ (i : Instr) (src : Node) (sub : SubCommand) (dest arg : Byte) (s : State) (refusal : UnitNo → RefusalCode)
      (code : RefusalCode) (taken : Byte), s.cl.phase = .running →
    Addressed ⟨src, .command, commandPayload sub dest arg⟩ dest s →
    (sub = .isolate ∧ i = .isolate src dest arg ∧
        refusal = fun u =>
          if s.unit u = .closedLocked ∨ s.unit u = .fault ∨ s.unit u = .unknown ∨ s.unit u = .releaseRestored then .none
          else .unitState) ∨
      (sub = .restore ∧ i = .restore src dest arg ∧
        refusal = fun u => if s.unit u = .isolated then .none else .unitState) ∨
      (sub = .rehome ∧ i = .rehome src dest arg ∧
        refusal = fun u => if s.unit u = .fault ∨ s.unit u = .unknown then .none else .unitState) ∨
      (sub = .ackRelease ∧ i = .ackRelease src dest arg ∧
        refusal = fun u => if s.unit u = .releaseRestored then .none else .unitState) ∨
      (sub = .accessOpen ∧ i = .accessOpen src dest arg ∧
        refusal = fun u =>
          if s.pm.identityConflict then .nodeState
          else if s.iu.latch then .emergency
          else if s.iu.accessLock then .locked
          else if s.berthState ≠ .idle then .notIdle
          else if s.unit u = .closedLocked then .none
          else .unitState) ∨
      (sub = .accessClose ∧ i = .accessClose src dest arg ∧
        refusal = fun u =>
          if s.iu.latch then .emergency else if s.iu.accessMarks.get u then .none else .unitState) →
    taken = BitVec.ofNat 8 ((UnitNo.all.map fun u => if s.named arg u ∧ refusal u = .none then 2 ^ u.val else 0).sum) →
    code =
      (((UnitNo.all.filter fun u => arg.getLsbD u.val).map fun u =>
        if s.configured u then refusal u else .unitState).find? fun c => c ≠ .none).getD .none →
    ∃ t, Sys2Proof.Machine.exec i s = .next t ∧
      t.pm.lastRefusal = (if code = .none then s.pm.lastRefusal else code) ∧
      (s.noCloses → s.lc.queue.length ≤ 8 →
        t.frames .result [nodeByte src, sub.code, taken, if taken = 0 then 2 else 1, code.code] =
          s.frames .result [nodeByte src, sub.code, taken, if taken = 0 then 2 else 1, code.code] + 1)) ∧
  (∀ (i : Instr) (src : Node) (sub : SubCommand) (dest arg : Byte) (s : State), s.faultServing = true →
    Addressed ⟨src, .command, commandPayload sub dest arg⟩ dest s →
    (sub = .isolate ∧ i = .isolate src dest arg) ∨ (sub = .restore ∧ i = .restore src dest arg) ∨
      (sub = .rehome ∧ i = .rehome src dest arg) ∨ (sub = .ackRelease ∧ i = .ackRelease src dest arg) ∨
      (sub = .accessOpen ∧ i = .accessOpen src dest arg) ∨ (sub = .accessClose ∧ i = .accessClose src dest arg) ∨
      (sub = .accessLock ∧ i = .accessLock src dest arg) ∨ (sub = .ackFault ∧ i = .ackFault src dest arg) →
    ∃ t, Sys2Proof.Machine.exec i s = .next t ∧ t.pm.lastRefusal = .nodeState ∧
      (s.noCloses → s.lc.queue.length ≤ 8 → ∀ p, p =
          [nodeByte src, sub.code, if sub = .ackFault then arg else 0, 2, RefusalCode.nodeState.code] →
        t.frames .result p = s.frames .result p + 1)) ∧
  ∀ s : State, s.acts = true → s.fr.resetReported = true →
    (∀ i : Instr, i.isReset = false → s.running = true ∨ s.faultServing = true → i ≠ .arbitrationLost ∨ s.onLine = none →
      ∃ t, Sys2Proof.Machine.exec i s = .next t ∧ t = { s with pins := t.pins }) ∧
    (s.pending = [] →
      ∃ r, Sys2Proof.Machine.exec (.commandedReset s.pins.straps) s = .next r ∧
        Sys2Proof.Machine.step s = Sys2Proof.Machine.step r)

/-- ACK_FAULT empties a filled slot and pulses the line of an empty one; RESET_NODE marks a reset due, in RUNNING and in CONFIG_FAULT; a
pulse ends with its timer. Each draws its RESULT, and the fault lines follow their mode (R46, R189 to R191, R195). Where a timer
expires, node time stands at its end: this is the model's (log entry 1). -/
def Obligations.FaultCommands : Prop :=
  ∀ s : State,
    (∀ (src : Node) (dest arg : Byte), s.cl.phase = .running →
      Addressed ⟨src, .command, commandPayload .ackFault dest arg⟩ dest s →
      ∃ t, Sys2Proof.Machine.exec (.ackFault src dest arg) s = .next t ∧
        (s.lc.queue.length < 15 →
          t.frames .result [nodeByte src, 4, arg, 1, 0] = s.frames .result [nodeByte src, 4, arg, 1, 0] + 1) ∧
        (arg = 1 → s.fr.severe.isSome = true →
          t.fr.severe = none ∧ t.fr.severePulse = s.fr.severePulse ∧
            Ends { noteActivity src false s with fr := { s.fr with severe := none } } t) ∧
        (arg = 1 → s.fr.severe = none →
          t.fr.severe = none ∧ t.fr.severePulse = some (after s.now 500) ∧ t.out.severeOut = true ∧
            Ends (noteActivity src false s) t) ∧
        (arg = 2 → s.fr.minor.isSome = true →
          t.fr.minor = none ∧ t.fr.minorPulse = s.fr.minorPulse ∧
            Ends { noteActivity src false s with fr := { s.fr with minor := none } } t) ∧
        (arg = 2 → s.fr.minor = none →
          t.fr.minor = none ∧ t.fr.minorPulse = some (after s.now 500) ∧ t.out.minorOut = true ∧
            Ends (noteActivity src false s) t)) ∧
    (∀ (src : Node) (dest arg : Byte), s.cl.phase = .running ∨ s.faultServing = true →
      Addressed ⟨src, .command, commandPayload .resetNode dest arg⟩ dest s →
      ∃ t, Sys2Proof.Machine.exec (.resetNode src dest arg) s = .next t ∧
        (s.lc.queue.length < 15 →
          t.frames .result [nodeByte src, 9, 0, 1, 0] = s.frames .result [nodeByte src, 9, 0, 1, 0] + 1) ∧
        Ends { noteActivity src false s with fr := { s.fr with resetDue := true } } t) ∧
    ∀ e, s.loaded = true →
      (s.fr.severePulse = some e →
        ∃ t, Sys2Proof.Machine.exec (.pulseTimerExpiry .severe) s = .next t ∧ t.fr.severePulse = none ∧
          t.out.severeOut = (!s.cl.config.pulseMode && s.fr.severe.isSome) ∧ Ends (s.reach e) t) ∧
      (s.fr.minorPulse = some e →
        ∃ t, Sys2Proof.Machine.exec (.pulseTimerExpiry .minor) s = .next t ∧ t.fr.minorPulse = none ∧
          t.out.minorOut = (!s.cl.config.pulseMode && s.fr.minor.isSome && s.cl.config.minorDrive) ∧ Ends (s.reach e) t)

/-- A report fills its severity's empty slot, or leaves it and adds one to its kind's counter and to no other; in PULSE mode it starts its
line's pulse, a minor one with the minor drive mark alone; nothing else moves. A counter bumped n times counts n modulo its range, and its
latch is set as it passes its top (R187, R188, R191, R192). -/
def Obligations.ReportsCount : Prop :=
  (∀ (kind k : FaultKind) (sev : Severity) (u : Option UnitNo) (s t : State), s.fr.kinds.length = 17 →
    t = report kind sev u s →
    t.fr.slot sev = (if s.fr.slot sev = none then some ⟨kind, u, s.seq, s.now⟩ else s.fr.slot sev) ∧
    (∀ sev', sev' ≠ sev → t.fr.slot sev' = s.fr.slot sev') ∧
    t.fr.kinds.getD k.index (Counter.zero 16) =
      (if s.fr.slot sev ≠ none ∧ k = kind then (s.fr.kinds.getD k.index (Counter.zero 16)).bump
      else s.fr.kinds.getD k.index (Counter.zero 16)) ∧
    t.fr.severePulse =
      (if sev = .severe ∧ s.cl.config.pulseMode = true then some (after s.now 500) else s.fr.severePulse) ∧
    t.fr.minorPulse =
      (if sev = .minor ∧ s.cl.config.pulseMode = true ∧ s.cl.config.minorDrive = true then some (after s.now 500)
      else s.fr.minorPulse) ∧
    t =
      { s with
        fr :=
          { s.fr with
            severe := t.fr.severe, minor := t.fr.minor, kinds := t.fr.kinds, severePulse := t.fr.severePulse
            minorPulse := t.fr.minorPulse } }) ∧
  ∀ (w : Nat) (c : Counter w) (n : Nat),
    (Counter.bump^[n] c).count.toNat = (c.count.toNat + n) % 2 ^ w ∧
      ((Counter.bump^[n] c).latch = true ↔ c.latch = true ∨ 2 ^ w ≤ c.count.toNat + n)

/-- Each QUERY to the node, in RUNNING and in CONFIG_FAULT after its quiet period, is answered with its data in parts of four bytes, in
order at the end of the queue. The data carries, byte by byte and bit by bit, the fields that the table of R193 gives its topic
(`AnswerLayout`). With the clear mark the counters its topic carries return to 0 and no others do: the fault kinds', the unit's, the node's,
or a peer's SILENCE_COUNT; the Fault Capture and all else stand (R55, R193, R194). How many free values an answer draws, for the bits
without a field and the bytes of an absent S0, pairing time and beacon (log entry 9), and that the SERVICE_MAP data carries the margin (log
entry 26), are the model's. That the BERTH data carries the Release Set as it stands at IDLE too is the model's reading (log entry 30). That
the ten slots of its isolated list carry the indices in the order they joined, the empty slots last, is the model's choice (log entry 32).
-/
def Obligations.QueriesAnswered : Prop :=
  ∀ (i : Instr) (src : Node) (topic : Topic) (dest arg clear : Byte) (data : List Byte) (s s' : State),
    s.cl.phase = .running ∨ s.faultServing = true → s.pm.slots.length = 64 →
    Addressed ⟨src, .query, queryPayload topic dest arg clear⟩ dest s → s' = noteActivity src false s →
    (i = .queryFaults src dest arg clear ∧ topic = .faults ∧ data = faultsData s') ∨
      (∃ u : UnitNo, i = .queryUnitCounters src dest arg clear ∧ topic = .unitCounters ∧ arg.toNat = u.val ∧
        data = unitData s' u) ∨
      (i = .queryNodeCounters src dest arg clear ∧ topic = .nodeCounters ∧ data = nodeData s') ∨
      (i = .queryBerth src dest arg clear ∧ topic = .berth ∧ data = berthData s') ∨
      (i = .queryServiceMap src dest arg clear ∧ topic = .serviceMap ∧ data = serviceMapData s') ∨
      (i = .queryPeer src dest arg clear ∧ topic = .peer ∧ data = peerData (s'.peerSlot arg) s.freeCount) →
    ∃ t, Sys2Proof.Machine.exec i s = .next t ∧
      AnswerLayout topic arg s' data ∧
      (s.lc.queue.length + partCount data < 16 →
        (t.lc.queue.filter fun x => x.kind == .answer) =
          (s.lc.queue.filter fun x => x.kind == .answer) ++ answerEntries src topic arg data) ∧
      t.fr =
        { s.fr with
          kinds := if clear = 1 ∧ topic = .faults then List.replicate 17 (Counter.zero 16) else s.fr.kinds
          unitCounters := Quad.build fun u =>
            if clear = 1 ∧ topic = .unitCounters ∧ arg.toNat = u.val then UnitCounters.zero
            else s.fr.unitCounters.get u
          nodeCounters := t.fr.nodeCounters, resetReported := t.fr.resetReported } ∧
      { t.fr.nodeCounters with txDrops := Counter.zero 16 } =
        { (if clear = 1 ∧ topic = .nodeCounters then NodeCounters.zero else s.fr.nodeCounters) with
          txDrops := Counter.zero 16 } ∧
      (clear = 1 → topic = .nodeCounters → s.pm.lastBeacon = some s'.summary → t.fr.nodeCounters = NodeCounters.zero) ∧
      (∀ n, t.slot n =
        if clear = 1 ∧ topic = .peer ∧ nodeByte n = arg ∧ n ≠ s.cl.own then
          { s'.slot n with silence := Counter.zero 16 }
        else s'.slot n) ∧
      Ends
        { s' with
          freeCount := s.freeCount + 4, fr := t.fr, pm := { s'.pm with slots := t.pm.slots } } t ∧
      t.bu = s.bu ∧ t.ae = s.ae ∧ t.dc = s.dc ∧ t.su = s.su ∧ t.iu = s.iu ∧ t.cl = s.cl ∧ t.pending = s.pending

/-! ### The Door Channels (chapter 7) -/

/-- The ends of a unit's movements: the lock switch read in UNLOCKING and LOCKING, full travel, the closed switch; and an unlock that fails.
What the channel becomes, and nothing else but what an event's end may do. A unit come to CLOSED_LOCKED under the latch unlocks again, and a
pending close met by an obstacle counts a reversal (R120 to R122, R125, R127 to R129, R136, R178). Each event brings the level or the
position it names, and an expiry its time: this is the model's (log entry 1). The last member's coming to CLOSED_LOCKED completes its close:
when every member is done the close cycle ends with a HOLD END for each own hold and the berth is SECURED, and until then it stands; an
emergency close cycle completes so too, ends a berth's running cycle with it and secures a berth in RELEASED or CLOSING (R85, R166, R167,
R181). The phase HOLD at the entry to a state for which no rule names a phase is the model's (log entry 29). -/
def Obligations.MovementsEnd : Prop :=
  ∀ (u : UnitNo) (s : State), s.active u = true →
    (s.unit u = .unlocking →
      ∃ t, Sys2Proof.Machine.exec (.unlockComplete u) s = .next t ∧
        Ends
          ((s.modPins u fun p => { p with lockEngaged := false }).setDc u
            { (s.dc.get u).into .opening with
              phase := .accelerate, stallCount := 0, stallRef := (s.dc.get u).position
              travelTimer := some (after s.now s.cl.config.params.travelTimeout)
              stallTimer := some (after s.now 300) }) t) ∧
    (∀ e, s.unit u = .unlocking → (s.dc.get u).lockTimer = some e →
      ∃ t, Sys2Proof.Machine.exec (.unlockTimeout u) s = .next t ∧
        t.dc.get u = { (s.dc.get u).into .closedLocked with position := 0, attempt := 0 } ∧
        t.iu.accessMarks.get u = false ∧ t.fr.minor.isSome = true ∧
        Reported .minor ⟨.unlockFail, some u, s.seq, (s.reach e).now⟩ s.fr t.fr ∧
        (t.fr.unitCounters.get u).unlockFails = (s.fr.unitCounters.get u).unlockFails.bump ∧
        t.now = (s.reach e).now ∧ t.pins = s.pins ∧ Keeps (only u) (s.reach e) t) ∧
    (s.unit u = .locking →
      ∃ t, Sys2Proof.Machine.exec (.lockComplete u) s = .next t ∧
        (s.iu.latch = false → t.dc.get u = { (s.dc.get u).into .closedLocked with position := 0, attempt := 0 }) ∧
        (s.iu.latch = true → s.driveFault u = false →
          t.dc.get u =
            { (s.dc.get u).into .unlocking with position := 0, attempt := 0, lockTimer := some (after s.now 400) }) ∧
        t.iu.accessMarks.get u = false ∧ t.now = s.now ∧
        t.pins = (s.modPins u fun p => { p with lockEngaged := true }).pins ∧ Keeps (only u) s t ∧
        (∀ c, s.bu.cycle = some c → s.berthState = .closing → s.iu.latch = false → s.bu.departure = none →
          s.iu.emergencyClose = none → s.iu.accessClose = none →
          ((∀ v m, v ≠ u → c.members.get v = some m → memberDone (s.unit v) m.status = true) →
            t.bu.cycle = none ∧ t.berthState = .secured ∧
              (s.lc.queue.length + c.holds.length ≤ 8 → ∀ h ∈ c.holds,
                t.frames .hold [s.seq, 2, byte h.car] =
                  s.frames .hold [s.seq, 2, byte h.car] + c.holds.countP fun x => byte x.car == byte h.car)) ∧
          ((∃ v m, v ≠ u ∧ c.members.get v = some m ∧ memberDone (s.unit v) m.status = false) →
            t.bu.cycle.isSome = true ∧ t.berthState = .closing)) ∧
        (∀ e, s.iu.emergencyClose = some e → s.iu.latch = false →
          ((∀ v k, v ≠ u → e.members.get v = some k →
              s.unit v = .closedLocked ∨ s.unit v = .fault ∨ s.unit v = .isolated) →
            t.iu.emergencyClose = none ∧
              (s.berthState = .released ∨ s.berthState = .closing →
                t.berthState = .secured ∧ t.bu.cycle = none ∧
                  (s.lc.queue.length + (s.bu.cycle.elim [] CloseCycle.holds).length ≤ 8 →
                    ∀ c, s.bu.cycle = some c → ∀ h ∈ c.holds,
                      t.frames .hold [s.seq, 2, byte h.car] =
                        s.frames .hold [s.seq, 2, byte h.car] + c.holds.countP fun x => byte x.car == byte h.car)) ∧
              (s.berthState ≠ .released → s.berthState ≠ .closing → t.berthState = s.berthState)) ∧
          ((∃ v k, v ≠ u ∧ e.members.get v = some k ∧ memberDone (s.unit v) k = false) →
            t.iu.emergencyClose.isSome = true))) ∧
    (s.unit u = .opening → (s.dc.get u).pendingClose = false →
      ∃ t, Sys2Proof.Machine.exec (.openingComplete u) s = .next t ∧
        (t.fr.unitCounters.get u).openCycles = (s.fr.unitCounters.get u).openCycles.bump ∧
        Ends
          ((s.modUnitCounters u fun c => { c with openCycles := c.openCycles.bump }).setDc u
            { (s.dc.get u).into .opened with
              attempt := 0, position := max (s.dc.get u).position (s.cl.config.units.get u).travel }) t) ∧
    (s.unit u = .opening → (s.dc.get u).pendingClose = true →
      Sys2Proof.Machine.exec (.openingComplete u) s = Sys2Proof.Machine.exec (.pendingCloseTaken u) s ∧
      ∃ t, Sys2Proof.Machine.exec (.pendingCloseTaken u) s = .next t ∧
        (t.fr.unitCounters.get u).openCycles = (s.fr.unitCounters.get u).openCycles.bump ∧
        t.now = s.now ∧ t.pins = s.pins ∧ Keeps (only u) s t ∧
        (s.obstructed u = false →
          t.dc.get u =
            { (s.dc.get u).into .closing with
              position := max (s.dc.get u).position (s.cl.config.units.get u).travel, phase := .accelerate, attempt := 1
              overCount := 0, travelTimer := some (after s.now s.cl.config.params.travelTimeout) }) ∧
        (s.obstructed u = true →
          Reversed
            { (s.dc.get u).into .closing with
              position := max (s.dc.get u).position (s.cl.config.units.get u).travel, phase := .accelerate, attempt := 1
              overCount := 0, travelTimer := some (after s.now s.cl.config.params.travelTimeout) }
            (s.modUnitCounters u fun c => { c with openCycles := c.openCycles.bump }) t u)) ∧
    (s.unit u = .closing →
      ∃ t, Sys2Proof.Machine.exec (.closingTravelEnd u) s = .next t ∧
        Ends
          ((s.modPins u fun p => { p with closed := true }).setDc u
            { (s.dc.get u).into .locking with position := 0, lockTimer := some (after s.now 400) }) t) ∧
    (s.unit u = .reversing →
      ∃ t, Sys2Proof.Machine.exec (.reversingComplete u) s = .next t ∧
        ((s.dc.get u).target = .reopenWait →
          Ends
            (s.setDc u
              { (s.dc.get u).into .reopenWait with
                position := max (s.dc.get u).position (s.cl.config.units.get u).travel
                pauseTimer := some (after s.now s.cl.config.params.reopenPause) }) t) ∧
        ((s.dc.get u).target = .opened →
          Ends
            (s.setDc u
              { (s.dc.get u).into .opened with
                attempt := 0, position := max (s.dc.get u).position (s.cl.config.units.get u).travel }) t)) ∧
    (s.unit u = .homing →
      ∃ t, Sys2Proof.Machine.exec (.homingClosed u) s = .next t ∧
        Ends
          ((s.modPins u fun p => { p with closed := true }).setDc u
            { (s.dc.get u).into .locking with position := 0, lockTimer := some (after s.now 400) }) t)

/-- A lock, travel or homing timer that expires, and a drive fault taken while the enable is on, send the unit to FAULT with outputs off and
timers stopped: reported with the severity its switches give, its access-open mark cleared, its reading run empty; every other unit is left
(R116, R122, R123, R132 to R134, R136, R187, R188). Where a timer expires, node time stands at its end: this is the model's (log entry 1).
The phase HOLD at the entry to a state for which no rule names a phase is the model's (log entry 29). -/
def Obligations.UnitsFault : Prop :=
  ∀ (u : UnitNo) (i : Instr) (kind : FaultKind) (s s' : State), s.active u = true →
    ((∃ e, s' = s.reach e ∧
        ((i = .lockingTimeout u ∧ s.unit u = .locking ∧ (s.dc.get u).lockTimer = some e ∧ kind = .lockFault) ∨
          (i = .lockWatchTimeout u ∧ s.unit u = .closedLocked ∧ (s.dc.get u).lockTimer = some e ∧ kind = .lockFault) ∨
          (i = .travelTimerExpiry u ∧ (s.unit u = .opening ∨ s.unit u = .closing ∨ s.unit u = .reversing) ∧
            (s.dc.get u).travelTimer = some e ∧ kind = .travelIncomplete) ∨
          (i = .homingTimerExpiry u ∧ s.unit u = .homing ∧ (s.dc.get u).homingTimer = some e ∧ kind = .homeFail))) ∨
      (i = .driveFaultTaken u ∧ (s.dc.get u).enable = true ∧ s.driveFault u = true ∧ s' = s ∧
        kind = .driveFault)) →
    ∃ t, Sys2Proof.Machine.exec i s = .next t ∧ t.dc.get u = { (s.dc.get u).into .fault with attempt := 0 } ∧
      t.iu.accessMarks.get u = false ∧ (t.ae.searches.get u).run = [] ∧
      (∀ sev : Severity,
        sev = (if (kind = .travelIncomplete ∨ kind = .driveFault) ∧ s.closedAndEngaged u = true then .minor else .severe) →
        Reported sev ⟨kind, some u, s.seq, s'.now⟩ s.fr t.fr) ∧
      t.now = s'.now ∧ t.pins = s.pins ∧ Keeps (only u) s' t

/-- Pauses, stalls and obstacles: the pause of REOPEN_WAIT ends in a further attempt or in HELD_OPEN; a stall pauses the drive twice and the
third gives TRAVEL_INCOMPLETE; an obstacle current reverses a unit in CLOSING, counted once in REVERSALS, and stops one in HOMING, whose
wait ends in a retry or in HOME_FAIL (R128 to R131, R136). An obstacle that still stands as the wait ends stops the retry at once: this is
the model's (log entry 16), and so is HOME_FAIL at the end of a wait with three or more retries made, a case that no run reaches (log entry
24). HELD_OPEN takes the attempt number 0 (log entry 15), a homing wait that ends sets the over-threshold count to 0 (log entry 18), and
where a timer expires, node time stands at its end (log entry 1): these are the model's too. The phase HOLD at the entry to a state for
which no rule names a phase is the model's (log entry 29). -/
def Obligations.PausesAndObstacles : Prop :=
  ∀ (u : UnitNo) (s : State), s.active u = true →
    (∀ e, s.unit u = .reopenWait → (s.dc.get u).pauseTimer = some e →
      ∃ t, Sys2Proof.Machine.exec (.reopenPauseEnd u) s = .next t ∧
        ((s.dc.get u).attempt < s.cl.config.params.maxAttempts → s.obstructed u = false →
          Ends
            ((s.reach e).setDc u
              { (s.dc.get u).into .closing with
                phase := .accelerate, attempt := (s.dc.get u).attempt + 1, overCount := 0
                travelTimer := some (after (s.reach e).now s.cl.config.params.travelTimeout) }) t) ∧
        ((s.dc.get u).attempt < s.cl.config.params.maxAttempts → s.obstructed u = true →
          Reversed
              { (s.dc.get u).into .closing with
                phase := .accelerate, attempt := (s.dc.get u).attempt + 1, overCount := 0
                travelTimer := some (after (s.reach e).now s.cl.config.params.travelTimeout) } s t u ∧
            t.now = (s.reach e).now ∧ t.pins = s.pins ∧ Keeps (only u) (s.reach e) t) ∧
        (s.cl.config.params.maxAttempts ≤ (s.dc.get u).attempt →
          t.fr.minor.isSome = true ∧ Reported .minor ⟨.heldOpen, some u, s.seq, (s.reach e).now⟩ s.fr t.fr ∧
            Ends ((s.reach e).setDc u { (s.dc.get u).into .heldOpen with attempt := 0 }) t)) ∧
    (∀ e, s.unit u = .opening ∨ s.unit u = .reversing → (s.dc.get u).stallTimer = some e →
      ∃ t, Sys2Proof.Machine.exec (.stallTimerExpiry u) s = .next t ∧
        ((s.dc.get u).stallCount < 2 →
          Ends
            ((s.reach e).setDc u
              { s.dc.get u with
                stallCount := (s.dc.get u).stallCount + 1, phase := .pause, setpoint := 0, stallTimer := none
                pauseTimer := some (after (s.reach e).now 500) }) t) ∧
        (2 ≤ (s.dc.get u).stallCount →
          t.dc.get u =
            { (s.dc.get u).into .fault with attempt := 0, stallCount := (s.dc.get u).stallCount + 1 } ∧
          Reported (if s.closedAndEngaged u = true then .minor else .severe)
            ⟨.travelIncomplete, some u, s.seq, (s.reach e).now⟩ s.fr t.fr ∧
          Keeps (only u) (s.reach e) t)) ∧
    (∀ e, s.unit u = .opening ∨ s.unit u = .reversing → (s.dc.get u).pauseTimer = some e →
      ∃ t, Sys2Proof.Machine.exec (.stallPauseEnd u) s = .next t ∧
        Ends
          ((s.reach e).setDc u
            { s.dc.get u with
              phase := .accelerate, setpoint := 0, stallRef := (s.dc.get u).position, pauseTimer := none
              stallTimer := some (after (s.reach e).now 300) }) t) ∧
    (s.unit u = .closing → 0 < s.remainingOpen u →
      ∃ t, Sys2Proof.Machine.exec (.obstacleCurrent u) s = .next t ∧
        Ends
          ((s.modUnitCounters u fun c => { c with reversals := c.reversals.bump }).setDc u
            { (s.dc.get u).into .reversing with
              phase := .accelerate, setpoint := (s.dc.get u).setpoint, target := .reopenWait, stallCount := 0
              stallRef := (s.dc.get u).position, overCount := 3
              travelTimer := some (after s.now s.cl.config.params.travelTimeout)
              stallTimer := some (after s.now 300) }) t) ∧
    (s.unit u = .closing →
      ∃ t, Sys2Proof.Machine.exec (.obstacleCurrent u) s = .next t ∧ Reversed { s.dc.get u with overCount := 3 } s t u ∧
        t.now = s.now ∧ t.pins = s.pins ∧ Keeps (only u) s t) ∧
    (s.unit u = .homing → (s.dc.get u).phase ≠ .hold →
      ∃ t, Sys2Proof.Machine.exec (.obstacleCurrent u) s = .next t ∧
        ((s.dc.get u).retries < 3 →
          Ends
            (s.setDc u
              { s.dc.get u with
                phase := .hold, setpoint := 0, overCount := 3, pauseTimer := some (after s.now 2000) }) t) ∧
        (3 ≤ (s.dc.get u).retries →
          t.dc.get u = { (s.dc.get u).into .fault with attempt := 0, overCount := 3 } ∧ t.fr.severe.isSome = true ∧
            Reported .severe ⟨.homeFail, some u, s.seq, s.now⟩ s.fr t.fr ∧
            Keeps (only u) s t)) ∧
    (∀ e, s.unit u = .homing → (s.dc.get u).pauseTimer = some e →
      ∃ t, Sys2Proof.Machine.exec (.homingWaitEnd u) s = .next t ∧
        ((s.dc.get u).retries < 3 → s.obstructed u = false →
          Ends
            ((s.reach e).setDc u
              { s.dc.get u with
                retries := (s.dc.get u).retries + 1, phase := .creep, pauseTimer := none, overCount := 0 }) t) ∧
        ((s.dc.get u).retries < 2 → s.obstructed u = true →
          Ends
            ((s.reach e).setDc u
              { s.dc.get u with
                retries := (s.dc.get u).retries + 1, phase := .hold, setpoint := 0, overCount := 0
                pauseTimer := some (after (s.reach e).now 2000) }) t) ∧
        ((s.dc.get u).retries = 2 → s.obstructed u = true →
          t.unit u = .fault ∧ t.fr.severe.isSome = true ∧
            Reported .severe ⟨.homeFail, some u, s.seq, (s.reach e).now⟩ s.fr t.fr ∧ Keeps (only u) (s.reach e) t) ∧
        (3 ≤ (s.dc.get u).retries →
          t.dc.get u = { (s.dc.get u).into .fault with attempt := 0 } ∧ t.fr.severe.isSome = true ∧
            Reported .severe ⟨.homeFail, some u, s.seq, (s.reach e).now⟩ s.fr t.fr ∧ Keeps (only u) (s.reach e) t))

/-- CONTROL_SAMPLE joins its motion to the position and its current to the over-threshold count while the leaves are driven closed; the
third sample in a row above the threshold is an obstacle, which in CLOSING reverses the unit and counts; one in HOMING at its third retry is
left to `PausesAndObstacles`. A period without a valid sample is counted, to three, which stands as a drive fault (R22, R117, R128, R129,
R133). Which states judge the current, the count standing in the others, is read by inference (log entry 14), and that
MISSED_RUN_DRIVE_FAULT brings the count to three is the model's choice (log entry 1). -/
def Obligations.ControlSamples : Prop :=
  ∀ (u : UnitNo) (s : State), s.active u = true →
    (∀ (motion : Int) (current count : Nat), -50 ≤ motion → motion ≤ 50 →
      count =
        (if (s.dc.get u).closes then
          if (s.cl.config.units.get u).threshold < current then min 3 ((s.dc.get u).overCount + 1) else 0
        else (s.dc.get u).overCount) →
      ∃ t, Sys2Proof.Machine.exec (.controlSample u motion current) s = .next t ∧
        ((s.dc.get u).closes = false ∨ count ≠ 3 →
          Ends
            (s.setDc u
              { s.dc.get u with position := (s.dc.get u).position + motion, missed := 0, overCount := count }) t) ∧
        (count = 3 → s.unit u = .closing →
          Reversed { s.dc.get u with position := (s.dc.get u).position + motion, missed := 0, overCount := 3 } s t u ∧
            t.now = s.now ∧ t.pins = s.pins ∧ Keeps (only u) s t) ∧
        (count = 3 → s.unit u = .homing → (s.dc.get u).phase ≠ .hold → (s.dc.get u).retries < 3 →
          Ends
            (s.setDc u
              { s.dc.get u with
                position := (s.dc.get u).position + motion, missed := 0, overCount := 3, phase := .hold, setpoint := 0
                pauseTimer := some (after s.now 2000) }) t)) ∧
    (∀ i : Instr,
      i = .missedControlPeriod u ∨ (∃ motion current, i = .controlSample u motion current ∧ (motion < -50 ∨ 50 < motion)) →
      ∃ t, Sys2Proof.Machine.exec i s = .next t ∧
        (2 ≤ (s.dc.get u).missed → t.driveFault u = true) ∧
        Ends (s.setDc u { s.dc.get u with missed := min 3 ((s.dc.get u).missed + 1) }) t) ∧
    ∃ t, Sys2Proof.Machine.exec (.missedRunDriveFault u) s = .next t ∧ t.driveFault u = true ∧
      Ends (s.setDc u { s.dc.get u with missed := 3 }) t

/-- CONTROL_PERIOD, state by state, with the levels the period reads: a drive fault first; the lock watch, the locks' and the switches'
readings, and the next phase and setpoint of a movement. With no close under way the Secure Contact then stands as its condition (R121 to
R127, R129, R131, R133, R136, R168, R169). That the drive fault is read before the state's own part (log entry 11), and the end of closing
travel by the phase of the period before (log entry 27), are the model's. The phase HOLD at the entry to a state for which no rule names a
phase is the model's (log entry 29). -/
def Obligations.ControlPeriods : Prop :=
  ∀ (u : UnitNo) (lock closed drive : Bool) (s s' : State), s.active u = true →
    s' = (s.modPins u fun p => { p with lockEngaged := lock, closed := closed, driveFault := drive }) →
    ∃ t, Sys2Proof.Machine.exec (.controlPeriod u lock closed drive) s = .next t ∧ t.now = s.now ∧ t.pins = s'.pins ∧
      Keeps (only u) s t ∧
      (s.noCloses →
        t.out.contact = t.contactCondition) ∧
      ((s.dc.get u).enable = true → drive = true ∨ 3 ≤ (s.dc.get u).missed →
        t.dc.get u = { (s.dc.get u).into .fault with attempt := 0 }) ∧
      ((s.dc.get u).enable = false ∨ (drive = false ∧ (s.dc.get u).missed < 3) →
        (s.unit u = .closedLocked →
          Ends
            (s'.setDc u
              { s.dc.get u with
                lockTimer :=
                  if closed && lock then none
                  else if (s.dc.get u).lockTimer.isSome then (s.dc.get u).lockTimer
                  else some (after s.now 400) }) t) ∧
        (s.unit u = .unlocking → lock = true → Ends s' t) ∧
        (s.unit u = .unlocking → lock = false →
          Ends
            (s'.setDc u
              { (s.dc.get u).into .opening with
                phase := .accelerate, stallCount := 0, stallRef := (s.dc.get u).position
                travelTimer := some (after s.now s.cl.config.params.travelTimeout)
                stallTimer := some (after s.now 300) }) t) ∧
        (s.unit u = .opening ∨ s.unit u = .reversing → 0 < s.remainingOpen u →
          Ends
            (s'.setDc u
              (driveOpen (s.cl.config.units.get u) (s.remainingOpen u)
                (if (s.dc.get u).phase ≠ .pause ∧ 2 < ((s.dc.get u).position - (s.dc.get u).stallRef).natAbs then
                  { s.dc.get u with
                    stallRef := (s.dc.get u).position, stallTimer := some (after s.now 300) }
                else s.dc.get u))) t) ∧
        (s.unit u = .opening → s.remainingOpen u ≤ 0 → (s.dc.get u).pendingClose = false →
          Ends
            ((s'.modUnitCounters u fun c => { c with openCycles := c.openCycles.bump }).setDc u
              { (s.dc.get u).into .opened with attempt := 0 }) t) ∧
        (s.unit u = .reversing → s.remainingOpen u ≤ 0 → (s.dc.get u).target = .opened →
          Ends (s'.setDc u { (s.dc.get u).into .opened with attempt := 0 }) t) ∧
        (s.unit u = .reversing → s.remainingOpen u ≤ 0 → (s.dc.get u).target = .reopenWait →
          Ends
            (s'.setDc u
              { (s.dc.get u).into .reopenWait with
                pauseTimer := some (after s.now s.cl.config.params.reopenPause) }) t) ∧
        (s.unit u = .closing →
          (closed = true ∧ ((s.dc.get u).position ≤ 3 ∨
            ((s.dc.get u).phase = .creep ∧
              (s.dc.get u).position ≤ (s.cl.config.units.get u).profile.creepDistance)) →
            Ends (s'.setDc u { (s.dc.get u).into .locking with position := 0, lockTimer := some (after s.now 400) }) t) ∧
          (closed = false ∨ (3 < (s.dc.get u).position ∧
            ((s.dc.get u).phase ≠ .creep ∨
              ((s.cl.config.units.get u).profile.creepDistance : Int) < (s.dc.get u).position)) →
            Ends (s'.setDc u (driveClosed s.cl.config.energy (s.cl.config.units.get u) (s.dc.get u))) t)) ∧
        (s.unit u = .locking → lock = false → Ends s' t) ∧
        (s.unit u = .locking → lock = true → s.iu.latch = false →
          t.dc.get u = { (s.dc.get u).into .closedLocked with position := 0, attempt := 0 }) ∧
        (s.unit u = .homing → closed = true →
          Ends (s'.setDc u { (s.dc.get u).into .locking with position := 0, lockTimer := some (after s.now 400) }) t) ∧
        (s.unit u = .homing → closed = false →
          Ends
            (s'.setDc u
              { s.dc.get u with
                setpoint :=
                  if (s.dc.get u).phase = .hold then 0
                  else -((s.cl.config.units.get u).profile.creep : Int) }) t) ∧
        (s.unit u ∈ [.opened, .reopenWait, .heldOpen, .manualReleased, .releaseRestored, .isolated, .fault, .unknown,
          .notConfigured] → Ends s' t))

/-- The closing speeds: the energy cap is the largest whole speed v with m·v²/2 at most E (in J, mm/s and kg); the cruise of the first
attempt is four quarters, of the second three and of every later one two of the smallest of close cruise, energy cap and 800, rounded
down and never below the creep speed, and under the fallback configuration no energy cap applies; a cruise above creep holds the leaves'
energy at most E; and from ACCELERATE at a speed of 0 or more no next speed exceeds a cruise that is at least creep. The phases of a
driven period: CREEP at the creep speed once the remaining distance is within the creep distance; BRAKE, a speed step down to creep, once
it is within the braking point; else ACCELERATE, a speed step up to the cruise, or CRUISE; BRAKE and CREEP go on to the end of travel, and
PAUSE and HOLD stand at 0. A movement started within the braking point begins at the creep speed (R18, R124, R126). That a speed below 0
only steps up is read by inference (log entry 14). -/
def Obligations.ClosingSpeeds : Prop :=
  (∀ energy mass : Nat, 0 < mass → 2000000 * energy / mass < 2 ^ 32 →
    mass * (energyCap energy mass * energyCap energy mass) ≤ 2000000 * energy ∧
      2000000 * energy < mass * ((energyCap energy mass + 1) * (energyCap energy mass + 1))) ∧
  (∀ (energy : Option Nat) (g : UnitGeometry) (c : Nat),
    c =
      (match energy with
        | none => min g.profile.closeCruise 800
        | some e => min (min g.profile.closeCruise (energyCap e g.mass)) 800) →
    closingCruise energy g 1 = max g.profile.creep c ∧ closingCruise energy g 2 = max g.profile.creep (c * 3 / 4) ∧
      ∀ n, 3 ≤ n → closingCruise energy g n = max g.profile.creep (c * 2 / 4)) ∧
  (∀ (energy n : Nat) (g : UnitGeometry), 0 < g.mass → 2000000 * energy / g.mass < 2 ^ 32 →
    g.profile.creep < closingCruise (some energy) g n →
    g.mass * (closingCruise (some energy) g n * closingCruise (some energy) g n) ≤ 2000000 * energy ∧
      closingCruise (some energy) g n ≤ 800 ∧ closingCruise (some energy) g n ≤ g.profile.closeCruise) ∧
  (∀ (energy : Option Nat) (n : Nat) (g : UnitGeometry), g.profile.creep ≤ closingCruise energy g n ∧
    closingCruise energy g (n + 1) ≤ closingCruise energy g n) ∧
  (∀ (p : Profile) (cruise remaining v : Int) (phase : MotionPhase), (p.creep : Int) ≤ cruise → 0 ≤ v → v ≤ cruise →
    0 ≤ (nextMotion p cruise remaining phase v).2 ∧ (nextMotion p cruise remaining phase v).2 ≤ cruise) ∧
  ∀ (p : Profile) (cruise remaining v step braking slower : Int), step = p.accel / 100 →
    braking = p.creepDistance + (v * v - p.creep * p.creep) / (2 * p.accel) → slower = max (v - step) p.creep →
    (∀ phase : MotionPhase, (phase = .accelerate ∧ 0 ≤ v) ∨ phase = .cruise →
      (remaining ≤ p.creepDistance → nextMotion p cruise remaining phase v = (.creep, (p.creep : Int))) ∧
      (p.creepDistance < remaining → remaining ≤ braking →
        nextMotion p cruise remaining phase v = (if slower = p.creep then .creep else .brake, slower)) ∧
      (p.creepDistance < remaining → braking < remaining →
        nextMotion p cruise remaining phase v =
          if phase = .accelerate ∧ v + step < cruise then (.accelerate, v + step) else (.cruise, cruise))) ∧
    (v < 0 → nextMotion p cruise remaining .accelerate v = (.accelerate, min (v + step) cruise)) ∧
    nextMotion p cruise remaining .brake v = (if slower = p.creep then .creep else .brake, slower) ∧
    nextMotion p cruise remaining .creep v = (.creep, (p.creep : Int)) ∧
    nextMotion p cruise remaining .pause v = (.pause, 0) ∧ nextMotion p cruise remaining .hold v = (.hold, 0) ∧
    (v = 0 → remaining ≤ p.creepDistance ∨ remaining ≤ braking →
      nextMotion p cruise remaining .accelerate v = (.creep, (p.creep : Int)))

/-! ### The Sensing Unit (chapter 8, sections 2.3 and 2.4) -/

/-- A gap sample, or the OCCUPIED one stood in for a missing one, joins a unit's window of five: three OCCUPIED assert the filter, ten CLEAR
in a row release it. A release ends the alarm; an assertion raises one at a CLOSED_LOCKED unit, reverses one in CLOSING, counted, and stops
one in HOMING, whose fourth stop gives HOME_FAIL; anywhere else, and during the wait of HOMING (log entry 16), it changes the filter alone.
GAP_FILTER_RELEASE is the tenth CLEAR sample. A unit in ISOLATED, one that is not configured and any in LOADING takes none: its samples are
set aside and none is stood in. Each alarm is reported with its unit and draws one ALERT. When STANDSTILL brings the train to stand, every
INTRUSION becomes TRAP, reported, with one ALERT for each unit (R27, R32, R128, R136, R141, R142, R148 to R151, R154). An expiry brings node
time to its end (log entry 1), GAP_FILTER_RELEASE leaves the scanner's timer (log entry 22), and the lowest such unit's TRAP comes first
(log entry 19): these are the model's. -/
def Obligations.GapSamples : Prop :=
  (∀ (u : UnitNo) (s : State), s.senses u = true →
    (∀ (i : Instr) (occ asserted : Bool) (s' : State) (y : UnitSensing),
      ((∃ sample, i = .gapSample u sample ∧ (occ = true ↔ sample ≠ .clear) ∧ s' = s ∧
          y.gapTimer = some (after s.now 40)) ∨
        (∃ e, i = .gapSampleTimeout u ∧ occ = true ∧ (s.su.units.get u).gapTimer = some e ∧ s' = s.reach e ∧
          y.gapTimer = some (after (s.reach e).now 20))) →
      y =
        { s.su.units.get u with
          gapTimer := y.gapTimer, gapWindow := joinWindow 5 (s.su.units.get u).gapWindow occ
          clearRun := if occ then 0 else (s.su.units.get u).clearRun + 1, gapAsserted := asserted } →
      (asserted = true ↔
        if s.gapAsserted u then y.clearRun < 10 else 3 ≤ y.gapWindow.count true) →
      ∃ t, Sys2Proof.Machine.exec i s = .next t ∧
        (asserted = s.gapAsserted u → Ends (s'.setSu u y) t) ∧
        (asserted = false → s.gapAsserted u = true → Ends (s'.setSu u { y with alarm := .none }) t) ∧
        (asserted = true → s.gapAsserted u = false →
          (s.unit u = .closing →
            Reversed (s.dc.get u) s t u ∧ (t.su.units.get u).gapAsserted = true ∧
              t.now = s'.now ∧ t.pins = s.pins ∧ Keeps (only u) s' t) ∧
          (s.unit u = .homing → (s.dc.get u).phase ≠ .hold → (s.dc.get u).retries < 3 →
            Ends
              ((s'.setSu u y).setDc u
                { s.dc.get u with phase := .hold, setpoint := 0, pauseTimer := some (after s'.now 2000) }) t) ∧
          (s.unit u = .homing → (s.dc.get u).phase ≠ .hold → 3 ≤ (s.dc.get u).retries →
            t.unit u = .fault ∧ t.fr.severe.isSome = true ∧
              Reported .severe ⟨.homeFail, some u, s.seq, s'.now⟩ s.fr t.fr ∧ Keeps (only u) s' t) ∧
          (s.unit u = .homing → (s.dc.get u).phase = .hold → Ends (s'.setSu u y) t) ∧
          (s.unit u = .closedLocked → (s.su.units.get u).alarm = .none →
            (s.berthState = .idle ∨ s.berthState = .announced →
              t.fr.minor.isSome = true ∧ Reported .minor ⟨.intrusion, some u, s.seq, s'.now⟩ s.fr t.fr ∧
                (s.lc.queue.length < 16 →
                  t.frames .alert [4, byte u.val, s.seq] = s.frames .alert [4, byte u.val, s.seq] + 1) ∧
                Ends (s'.setSu u { y with alarm := .intrusion }) t) ∧
            (s.berthState ≠ .idle → s.berthState ≠ .announced →
              t.fr.severe.isSome = true ∧
                (s.fr.severe = none → t.fr.severe = some ⟨.trap, some u, s.seq, s'.now⟩) ∧
                (s.noCloses → Reported .severe ⟨.trap, some u, s.seq, s'.now⟩ s.fr t.fr) ∧
                (s.lc.queue.length < 16 →
                  t.frames .alert [3, byte u.val, s.seq] = s.frames .alert [3, byte u.val, s.seq] + 1) ∧
                Ends (s'.setSu u { y with alarm := .trap }) t)) ∧
          (s.unit u ≠ .closing → s.unit u ≠ .homing →
            s.unit u ≠ .closedLocked ∨ (s.su.units.get u).alarm ≠ .none → Ends (s'.setSu u y) t))) ∧
    (s.gapAsserted u = true →
      ∃ t, Sys2Proof.Machine.exec (.gapFilterRelease u) s = .next t ∧
        Ends
          (s.setSu u
            { s.su.units.get u with
              gapWindow := List.replicate 5 false, clearRun := 10, gapAsserted := false, alarm := .none }) t) ∧
    (s.gapAsserted u = false → Sys2Proof.Machine.exec (.gapFilterRelease u) s = .next s)) ∧
  (∀ (u : UnitNo) (s : State), s.senses u = false →
    (∀ sample, Sys2Proof.Machine.exec (.gapSample u sample) s = .next s) ∧
      Sys2Proof.Machine.exec (.gapSampleTimeout u) s = .next s ∧
      Sys2Proof.Machine.exec (.gapFilterRelease u) s = .next s) ∧
  ∀ (src : Node) (s : State) (l : List UnitNo), AcceptedRunning ⟨src, .standstill, [s.seq]⟩ s → s.berthState = .announced →
    l = (UnitNo.all.filter fun u => (s.su.units.get u).alarm == .intrusion) →
    ∃ t, Sys2Proof.Machine.exec (.standstill src s.seq) s = .next t ∧
      (∀ u ∈ l, (t.su.units.get u).alarm = .trap ∧
        (s.lc.queue.length ≤ 12 →
          t.frames .alert [3, byte u.val, s.seq] = s.frames .alert [3, byte u.val, s.seq] + 1)) ∧
      (∀ u, u ∉ l → t.su.units.get u = s.su.units.get u) ∧
      (l = [] → t.fr.severe = s.fr.severe) ∧
      (∀ u, l.head? = some u → s.fr.severe = none → t.fr.severe = some ⟨.trap, some u, s.seq, s.now⟩) ∧
      (s.fr.kinds.length = 17 →
        t.fr.kinds.getD FaultKind.trap.index (Counter.zero 16) =
          Counter.bump^[if s.fr.severe = none then l.length - 1 else l.length]
            (s.fr.kinds.getD FaultKind.trap.index (Counter.zero 16)))

/-- A zone sample, or the CLEAR one stood in for a missing one, joins a unit's window of ten: seven OCCUPIED make the zone BUSY, two or
fewer make it FREE, and a unit whose zone becomes FREE holds no car any more: each own hold whose last holding unit it was ends with one
HOLD END. A unit in ISOLATED, one that is not configured and any in LOADING takes no sample and none is stood in. OWN_HOLD_DEADLINE: the
hold leaves the cycle and one HOLD END for its car is enqueued (R28, R32, R143, R147, R154, R160). Where a timer expires, node time stands
at its end: this is the model's (log entry 1). -/
def Obligations.ZonesAndOwnHolds : Prop :=
  (∀ (u : UnitNo) (s : State), s.senses u = true →
    ∀ (i : Instr) (occ busy : Bool) (s' : State) (y : UnitSensing),
      ((∃ sample, i = .zoneSample u sample ∧ (occ = true ↔ sample = .occupied) ∧ s' = s ∧
          y.zoneTimer = some (after s.now 200)) ∨
        (∃ e, i = .zoneSampleTimeout u ∧ occ = false ∧ (s.su.units.get u).zoneTimer = some e ∧ s' = s.reach e ∧
          y.zoneTimer = some (after (s.reach e).now 100))) →
      y =
        { s.su.units.get u with
          zoneTimer := y.zoneTimer, zoneWindow := joinWindow 10 (s.su.units.get u).zoneWindow occ, zoneBusy := busy } →
      (busy = true ↔
        if (s.su.units.get u).zoneBusy then 2 < y.zoneWindow.count true else 7 ≤ y.zoneWindow.count true) →
      ∃ t, Sys2Proof.Machine.exec i s = .next t ∧ Ends (s'.setSu u y) t ∧
        (busy = false → (s.su.units.get u).zoneBusy = true →
          (∀ c, t.bu.cycle = some c → ∀ h ∈ c.holds, h.holders.get u = false) ∧
            ∀ c, s.bu.cycle = some c → s.iu.latch = false → s.iu.emergencyClose = none → c.unfinished s →
              (∃ c', t.bu.cycle = some c' ∧
                c'.holds =
                  (c.holds.map fun h => { h with holders := h.holders.set u false }).filter fun h =>
                    UnitNo.all.any h.holders.get) ∧
              (s.lc.queue.length + c.holds.length ≤ 8 → ∀ car,
                t.frames .hold [s.seq, 2, byte car] =
                  s.frames .hold [s.seq, 2, byte car] +
                    c.holds.countP fun h => byte h.car == byte car && !UnitNo.all.any (h.holders.set u false).get))) ∧
  (∀ (u : UnitNo) (s : State), s.senses u = false →
    (∀ sample, Sys2Proof.Machine.exec (.zoneSample u sample) s = .next s) ∧
      Sys2Proof.Machine.exec (.zoneSampleTimeout u) s = .next s) ∧
  ∀ (car : Nat) (h : OwnHold) (s : State), s.loaded = true → s.ownHold car = some h →
    ∃ t, Sys2Proof.Machine.exec (.ownHoldDeadline car) s = .next t ∧
      t = settle (s.reach h.deadline) (endHold car (s.reach h.deadline)) ∧
      (s.lc.queue.length < 16 →
        (endHold car (s.reach h.deadline)).lc.queue =
          insertByClass ⟨.hold, [s.seq, 2, byte car], none, false⟩ s.lc.queue) ∧
      (∀ c, t.bu.cycle = some c → ∀ x ∈ c.holds, x.car ≠ car) ∧ Ends (s.reach h.deadline) t

/-- The DEBOUNCED cells: a change of the raw level starts the debounce time, which a return to the conditioned level stops. The sensitive
edge conditioned ASSERTED reverses a unit in CLOSING, counted, and stops one in HOMING, whose fourth stop gives HOME_FAIL; during the wait
of HOMING it changes the cell alone (log entry 16). In RUNNING, and in CONFIG_FAULT after its quiet period, the emergency wire conditioned
ASSERTED sets WIRE, with one ALERT of WIRE_EMERGENCY and no unit, and the latch, whose entry sends an open request to the configured units
but those in ISOLATED, FAULT and MANUAL_RELEASED; in LISTEN, and in CONFIG_FAULT otherwise, it is followed alone; conditioned CLEAR it
clears WIRE and no more (R19, R29, R119, R128, R129, R136, R145, R146, R176, R177). A conditioned change brings its level and node time to
the debounce timer's end: this is the model's (log entry 1). The phase HOLD at the entry to a state for which no rule names a phase is the
model's (log entry 29). -/
def Obligations.EdgeAndWire : Prop :=
  ∀ (u : UnitNo) (s : State), s.loaded = true →
    (∀ level : Bool,
      (s.senses u = true →
        Sys2Proof.Machine.exec (.debouncedInputChange (.edge u) level) s =
          .next
            ((s.modPins u fun p => { p with edge := level }).setSu u
              { s.su.units.get u with
                edge :=
                  ⟨s.edgeAsserted u,
                    if level = s.edgeAsserted u then none
                    else if (s.su.units.get u).edge.timer.isSome then (s.su.units.get u).edge.timer
                    else some (after s.now 10)⟩ })) ∧
      (s.senses u = false →
        Sys2Proof.Machine.exec (.debouncedInputChange (.edge u) level) s =
          .next (s.modPins u fun p => { p with edge := level })) ∧
      Sys2Proof.Machine.exec (.debouncedInputChange .wire level) s =
        .next
          { s with
            pins := { s.pins with wire := level }
            su :=
              { s.su with
                wire :=
                  ⟨s.su.wire.level,
                    if level = s.su.wire.level then none
                    else if s.su.wire.timer.isSome then s.su.wire.timer else some (after s.now 50)⟩ } }) ∧
    (∀ (e : Time) (level : Bool), s.senses u = true → s.edgeAsserted u = !level → (s.su.units.get u).edge.timer = some e →
      ∃ t, Sys2Proof.Machine.exec (.sensitiveEdgeChange u level) s = .next t ∧ t.edgeAsserted u = level ∧
        t.now = (s.reach e).now ∧
        (level = true → s.unit u = .closing → Reversed (s.dc.get u) s t u ∧ Keeps (only u) (s.reach e) t) ∧
        (level = true → s.unit u = .homing → (s.dc.get u).phase ≠ .hold → (s.dc.get u).retries < 3 →
          (t.dc.get u).phase = .hold ∧ (t.dc.get u).setpoint = 0 ∧
            (t.dc.get u).pauseTimer = some (after t.now 2000) ∧ Keeps (only u) (s.reach e) t) ∧
        (level = true → s.unit u = .homing → (s.dc.get u).phase ≠ .hold → 3 ≤ (s.dc.get u).retries →
          t.dc.get u = { (s.dc.get u).into .fault with attempt := 0 } ∧
            Reported .severe ⟨.homeFail, some u, s.seq, t.now⟩ s.fr t.fr ∧ Keeps (only u) (s.reach e) t) ∧
        (level = false ∨ (s.unit u ≠ .closing ∧ s.unit u ≠ .homing) ∨ (s.unit u = .homing ∧ (s.dc.get u).phase = .hold) →
          Ends
            (((s.reach e).modPins u fun p => { p with edge := level }).setSu u
              { s.su.units.get u with edge := ⟨level, none⟩ }) t)) ∧
    (∀ e, s.su.wire = ⟨false, some e⟩ →
      ∃ t, Sys2Proof.Machine.exec .emergencyWireAssert s = .next t ∧ t.now = (s.reach e).now ∧
        t.pins = { s.pins with wire := true } ∧
        (s.cl.phase = .running ∨ s.faultServing = true → s.lc.queue.length < 16 →
          t.frames .alert [5, 255, s.seq] = s.frames .alert [5, 255, s.seq] + 1) ∧
        (s.cl.phase = .listen ∨ (s.cl.phase = .configFault ∧ s.faultServing = false) → s.lc.queue.length < 16 →
          t.frames .alert [5, 255, s.seq] = s.frames .alert [5, 255, s.seq]) ∧
        (s.cl.phase = .listen ∨ (s.cl.phase = .configFault ∧ s.faultServing = false) →
          Ends { s.reach e with pins := { s.pins with wire := true }, su := { s.su with wire := ⟨true, none⟩ } } t) ∧
        (s.cl.phase = .running ∨ s.faultServing = true → s.iu.latch = true →
          Ends
            { s.reach e with
              pins := { s.pins with wire := true }, su := { s.su with wire := ⟨true, none⟩ }
              iu := { s.iu with wireMark := true } } t) ∧
        (s.cl.phase = .running ∨ s.faultServing = true → s.iu.latch = false →
          t.out.contact = false ∧ t.iu.emergencyClose = none ∧ t.iu.accessClose = none ∧
            (∀ v, t.iu.accessMarks.get v = false) ∧
            (∀ v, s.configured v = true → s.unit v = .closedLocked → s.driveFault v = false →
              t.dc.get v = { (s.dc.get v).into .unlocking with lockTimer := some (after t.now 400) }) ∧
            (∀ v, s.configured v = true → s.unit v ≠ .isolated → s.unit v ≠ .fault → s.unit v ≠ .manualReleased →
              OpenTaken true (s.reach e) t v) ∧
            (∀ v, s.configured v = false ∨ s.unit v = .isolated ∨ s.unit v = .fault ∨ s.unit v = .manualReleased →
              t.dc.get v = s.dc.get v) ∧
            Keeps anyUnit
              { s.reach e with
                su := { s.su with wire := ⟨true, none⟩ }
                iu := { s.iu with latch := true, wireMark := true, emergencyClose := none, accessClose := none } } t)) ∧
    ∀ e, s.su.wire = ⟨true, some e⟩ →
      ∃ t, Sys2Proof.Machine.exec .emergencyWireClear s = .next t ∧
        Ends
          { s.reach e with
            pins := { s.pins with wire := false }, su := { s.su with wire := ⟨false, none⟩ }
            iu := { s.iu with wireMark := false } } t

/-- The LATCHED cells. A handle operation captures, counts, reports and sends one ALERT of HANDLE, and puts the unit in MANUAL_RELEASED with
its outputs off and its number in the Release Set, so that in CLOSING the platform hold is on and no other member is sent its request; a
unit that leaves ISOLATED so has its sensing started anew, and any other keeps it; its return brings RELEASE_RESTORED, the capture and the
number standing. A panel operation marks the unit, reports and sends one ALERT of PANEL, and its return clears mark and capture (R30, R31,
R116, R139, R140, R154, R164, R171, R173, R175). That each command sets its pin, and that a level which does not change moves the pin alone,
is the model's (log entry 1). The phase HOLD at the entry to a state for which no rule names a phase is the model's (log entry 29). -/
def Obligations.HandlesAndPanels : Prop :=
  ∀ (u : UnitNo) (s : State), s.active u = true →
    ((s.su.units.get u).handle.live = false →
      ∃ t, Sys2Proof.Machine.exec (.handleOperation u) s = .next t ∧
        t.dc.get u = { (s.dc.get u).into .manualReleased with attempt := 0 } ∧
        (t.su.units.get u).handle = ⟨true, true⟩ ∧ t.iu.accessMarks.get u = false ∧
        (s.unit u = .isolated →
          KeepsSensing { (s.su.units.get u).begun (s.pins.units.get u).edge s.now with handle := ⟨true, true⟩ }
            (t.su.units.get u)) ∧
        (s.unit u ≠ .isolated → KeepsSensing { s.su.units.get u with handle := ⟨true, true⟩ } (t.su.units.get u)) ∧
        Reported .minor ⟨.handle, some u, s.seq, s.now⟩ s.fr t.fr ∧
        (s.lc.queue.length < 16 →
          t.frames .alert [1, byte u.val, s.seq] = s.frames .alert [1, byte u.val, s.seq] + 1) ∧
        (t.fr.unitCounters.get u).handleReleases = (s.fr.unitCounters.get u).handleReleases.bump ∧
        (s.strapOk = true → s.cl.own ∈ t.iu.releaseSet) ∧
        (s.strapOk = true → s.berthState = .closing → (t.berthState = .closing → t.platformHold = true) ∧
          (s.bu.departure = none → s.iu.emergencyClose = none → s.iu.accessClose = none →
            ∀ v, v ≠ u → t.dc.get v = s.dc.get v)) ∧
        t.now = s.now ∧
        t.pins = (s.modPins u fun p => { p with handle := true }).pins ∧ Keeps (only u) s t) ∧
    ((s.su.units.get u).handle.live = true →
      ∃ t, Sys2Proof.Machine.exec (.handleReturn u) s = .next t ∧
        (s.unit u = .manualReleased → s.strapOk = true → s.cl.own ∈ t.iu.releaseSet) ∧
        (s.unit u = .manualReleased →
          Ends
            (((s.modPins u fun p => { p with handle := false }).setSu u
              { s.su.units.get u with handle := ⟨false, (s.su.units.get u).handle.held⟩ }).setDc u
              ((s.dc.get u).into .releaseRestored)) t) ∧
        (s.unit u ≠ .manualReleased →
          Ends
            ((s.modPins u fun p => { p with handle := false }).setSu u
              { s.su.units.get u with handle := ⟨false, (s.su.units.get u).handle.held⟩ }) t)) ∧
    ((s.su.units.get u).panel.live = false →
      ∃ t, Sys2Proof.Machine.exec (.panelOperation u) s = .next t ∧ t.iu.panelMarks.get u = true ∧
        Reported .minor ⟨.panel, some u, s.seq, s.now⟩ s.fr t.fr ∧
        (s.lc.queue.length < 16 →
          t.frames .alert [2, byte u.val, s.seq] = s.frames .alert [2, byte u.val, s.seq] + 1) ∧
        Ends
          { (s.modPins u fun p => { p with panel := true }).setSu u
              { s.su.units.get u with panel := ⟨true, true⟩ } with
            iu := { s.iu with panelMarks := s.iu.panelMarks.set u true } } t) ∧
    ((s.su.units.get u).panel.live = true →
      ∃ t, Sys2Proof.Machine.exec (.panelReturn u) s = .next t ∧
        Ends
          { (s.modPins u fun p => { p with panel := false }).setSu u
              { s.su.units.get u with panel := ⟨false, false⟩ } with
            iu := { s.iu with panelMarks := s.iu.panelMarks.set u false } } t) ∧
    ((s.su.units.get u).handle.live = true →
      Sys2Proof.Machine.exec (.handleOperation u) s = .next (s.modPins u fun p => { p with handle := true })) ∧
    ((s.su.units.get u).handle.live = false →
      Sys2Proof.Machine.exec (.handleReturn u) s = .next (s.modPins u fun p => { p with handle := false })) ∧
    ((s.su.units.get u).panel.live = true →
      Sys2Proof.Machine.exec (.panelOperation u) s = .next (s.modPins u fun p => { p with panel := true })) ∧
    ((s.su.units.get u).panel.live = false →
      Sys2Proof.Machine.exec (.panelReturn u) s = .next (s.modPins u fun p => { p with panel := false }))

/-! ### The closes (chapter 9, R88, R180, R184) -/

/-- The four warnings' ends: the members under the warning that ends become WAITING and no others; a member of the close cycle found served,
standing open and BUSY holds its car; units covered or named that stand open with nothing in the doorway are closed at once, in OPENING
marked (R88, R158, R180, R184). With the latch clear and no emergency close the close cycle stands while a member of it is not done
(R166); one that ends has secured the berth. Where a timer expires, node time stands at its end: this is the model's (log entry 1). -/
def Obligations.WarningsEnd : Prop :=
  ∀ s : State, s.loaded = true →
    (∀ c i, s.bu.cycle = some c → firstRunning c.warnings = some i →
      ∃ t, Sys2Proof.Machine.exec .closeCycleWarningEnd s = .next t ∧ Ends (s.reach (warningAt c.warnings i).stop) t ∧
        (t.bu.cycle = none → t.berthState = .secured) ∧
        (s.iu.latch = false → s.iu.emergencyClose = none → c.unfinished s →
          t.bu.cycle.isSome = true ∧ t.berthState = s.berthState) ∧
        ∀ c', t.bu.cycle = some c' → c'.warnings = endWarning c.warnings i ∧
          ∀ u m, c.members.get u = some m →
            (∃ m', c'.members.get u = some m' ∧ m'.warning = m.warning ∧ (m.warning = i → m'.status ≠ .underWarning) ∧
              (m.warning ≠ i → m.status = .underWarning → m' = m)) ∧
            (m.warning = i → m.status = .underWarning → s.findsBusy u = true → 0 < s.cl.config.params.holdMax →
              ∀ car, s.car u = some car → ∃ h ∈ c'.holds, h.car = car ∧ h.holders.get u = true)) ∧
    (∀ d, s.bu.departure = some d → d.warning.running = true →
      ∃ t, Sys2Proof.Machine.exec .departureCloseWarningEnd s = .next t ∧ Ends (s.reach d.warning.stop) t ∧
        (∀ d', t.bu.departure = some d' → d'.warning.running = false) ∧
        ∀ u, d.covered.get u = true → s.iu.latch = false → s.obstructed u = false →
          (s.unit u = .opened ∨ s.unit u = .heldOpen → t.unit u = .closing ∧ (t.dc.get u).attempt = 1) ∧
          (s.unit u = .opening → t.dc.get u = { s.dc.get u with pendingClose := true })) ∧
    (∀ e, s.iu.emergencyClose = some e → e.warning.running = true →
      ∃ t, Sys2Proof.Machine.exec .emergencyCloseWarningEnd s = .next t ∧ Ends (s.reach e.warning.stop) t ∧
        (∀ e', t.iu.emergencyClose = some e' → e'.warning.running = false ∧
          ∀ u, e'.members.get u ≠ some .underWarning) ∧
        ∀ u, e.members.get u = some .underWarning → s.obstructed u = false →
          (s.unit u = .opened ∨ s.unit u = .heldOpen → t.unit u = .closing ∧ (t.dc.get u).attempt = 1) ∧
          (s.unit u = .opening → t.dc.get u = { s.dc.get u with pendingClose := true })) ∧
    ∀ a i, s.iu.accessClose = some a → firstRunning a.warnings = some i →
      ∃ t, Sys2Proof.Machine.exec .accessCloseWarningEnd s = .next t ∧ Ends (s.reach (warningAt a.warnings i).stop) t ∧
        (∀ a', t.iu.accessClose = some a' → a'.warnings = endWarning a.warnings i) ∧
        ∀ u, a.members.get u = some ⟨i, .underWarning⟩ → s.obstructed u = false →
          (s.unit u = .opened ∨ s.unit u = .heldOpen → t.unit u = .closing ∧ (t.dc.get u).attempt = 1) ∧
          (s.unit u = .opening → t.dc.get u = { s.dc.get u with pendingClose := true })

/-- The close requests. A member standing open whose conditions hold, or whose deadline has come, is closed in its first attempt, which an
obstacle in the doorway reverses at once and counts; one in OPENING is marked; while its gap filter stands asserted before the deadline, a
boarding hold binds it or the platform hold is on, its channel is left. A member sent its request is STARTED, a covered unit or a member of
the access close leaves its record, and the close goes on. A member of the emergency close cycle in a state that ignores the request counts
it in REQUEST_IGNORED and is STARTED all the same. Under the latch the BU's request is withheld and spent: the channel is left, nothing is
counted, and the member is STARTED or the unit no longer covered all the same (R88, R89, R120, R128, R129, R159, R163, R164, R166, R180,
R184). Where a timer expires, node time stands at its end: this is the model's (log entry 1). -/
def Obligations.MembersClose : Prop :=
  ∀ (u : UnitNo) (i : Instr) (s s' : State), s.active u = true →
    (s.unit u = .opened ∨ s.unit u = .heldOpen →
      (s.iu.latch = false ∧ (CycleDue i u s s' ∨ DepartureDue i u s s')) ∨ EmergencyDue i u s s' ∨ AccessDue i u s s' →
      ∃ t, Sys2Proof.Machine.exec i s = .next t ∧ Ends s' t ∧
        (s.obstructed u = false →
          t.dc.get u = closingFirst s' u ∧
            (t.fr.unitCounters.get u).reversals = (s.fr.unitCounters.get u).reversals) ∧
        (s.obstructed u = true → Reversed (closingFirst s' u) s t u) ∧
        (i = .memberRelease u ∨ i = .memberDeadline u → s.iu.emergencyClose = none → ∀ c m, s.bu.cycle = some c →
          c.members.get u = some m →
          ∃ c', t.bu.cycle = some c' ∧ c'.members.get u = some { m with status := .started } ∧ c'.warnings = c.warnings) ∧
        (i = .departureCloseRequest u ∨ i = .departureCloseDeadline →
          ∀ d, t.bu.departure = some d → d.covered.get u = false) ∧
        (i = .emergencyCloseRequest u ∨ i = .emergencyCloseDeadline u →
          ∃ e, t.iu.emergencyClose = some e ∧ e.members.get u = some .started) ∧
        (i = .accessCloseRequest u ∨ i = .accessCloseDeadline u →
          ∀ a, t.iu.accessClose = some a → a.members.get u = none)) ∧
    (s.unit u = .opening →
      (s.iu.latch = false ∧ DepartureDue i u s s') ∨ EmergencyDue i u s s' ∨ AccessDue i u s s' →
      ∃ t, Sys2Proof.Machine.exec i s = .next t ∧ Ends s' t ∧ t.dc.get u = { s.dc.get u with pendingClose := true } ∧
        t.fr.unitCounters.get u = s.fr.unitCounters.get u) ∧
    (s.unit u ∈ [.closedLocked, .closing, .locking, .homing, .manualReleased, .releaseRestored, .isolated, .fault, .unknown] →
      EmergencyDue i u s s' →
      ∃ t, Sys2Proof.Machine.exec i s = .next t ∧ Ends s' t ∧ t.dc.get u = s.dc.get u ∧
        t.fr.unitCounters.get u =
          { s.fr.unitCounters.get u with requestIgnored := (s.fr.unitCounters.get u).requestIgnored.bump } ∧
        ∀ e, t.iu.emergencyClose = some e → e.members.get u = some .started) ∧
    (s.unit u = .opened ∨ s.unit u = .heldOpen → s.iu.latch = true → s.iu.emergencyClose = none → s.iu.accessClose = none →
      CycleDue i u s s' ∨ DepartureDue i u s s' →
      ∃ t, Sys2Proof.Machine.exec i s = .next t ∧ Ends s' t ∧ t.dc.get u = s.dc.get u ∧
        t.fr.unitCounters.get u = s.fr.unitCounters.get u ∧
        (i = .memberRelease u ∨ i = .memberDeadline u → ∀ c m, s.bu.cycle = some c → c.members.get u = some m →
          (s.unit u = .heldOpen ∧ t.bu.cycle = none ∧ t.berthState = .secured) ∨
            ∃ c', t.bu.cycle = some c' ∧ c'.members.get u = some { m with status := .started }) ∧
        (i = .departureCloseRequest u ∨ i = .departureCloseDeadline →
          ∀ d, t.bu.departure = some d → d.covered.get u = false)) ∧
    ((i = .memberRelease u ∧ s.bu.departure = none ∧ s.iu.emergencyClose = none ∧ s.iu.accessClose = none ∧
        ∀ c m, s.bu.cycle = some c → c.members.get u = some m →
          (s.berthState = .closing ∧
              ∃ n ∈ s.iu.releaseSet, n = s.cl.own → s.strapOk = true ∧ s.ownReleased = true) ∨
            s.boardingHold c u (warningAt c.warnings m.warning) = true ∨
            s.gapFree u (warningAt c.warnings m.warning) = false) ∨
      (i = .departureCloseRequest u ∧ s.bu.cycle = none ∧ s.iu.emergencyClose = none ∧ s.iu.accessClose = none ∧
        ∀ d, s.bu.departure = some d → d.warning.running = true ∨ s.gapFree u d.warning = false) ∨
      (i = .emergencyCloseRequest u ∧ s.bu.cycle = none ∧ s.bu.departure = none ∧ s.iu.accessClose = none ∧
        ∀ e, s.iu.emergencyClose = some e → s.gapFree u e.warning = false) ∨
      (i = .accessCloseRequest u ∧ s.bu.cycle = none ∧ s.bu.departure = none ∧ s.iu.emergencyClose = none ∧
        ∀ a m, s.iu.accessClose = some a → a.members.get u = some m →
          s.gapFree u (warningAt a.warnings m.warning) = false) →
      ∃ t, Sys2Proof.Machine.exec i s = .next t ∧ Ends s t ∧ t.dc.get u = s.dc.get u ∧
        (i = .memberRelease u → ∀ c m, s.bu.cycle = some c → c.members.get u = some m →
          memberDone (s.unit u) m.status = false → ∃ c', t.bu.cycle = some c' ∧ c'.members.get u = some m))

/-! ### Invariants that every step keeps -/

/-- Every step keeps every store within its bounds: the Sample Set, the Hold List, the Release Set with its numbers of 1 to 40, the sensing
windows and reading runs, the isolated list of at most ten, the own holds of one for a car, and the 64 slots that hold the Peer Table
(R55, R74, R93, R101, R141, R143, R158, R161, R173; log entry 3). -/
def Obligations.StoresStayOk : Prop :=
  ∀ s t : State, StoresOk s → Sys2Proof.Machine.step s = .next t → StoresOk t

/-- Every step keeps the Secure Contact true: it stands closed only in RUNNING, with the latch clear, every configured unit CLOSED_LOCKED or
ISOLATED, and no gap alarm and no panel-open mark (R168, R169). -/
def Obligations.ContactStaysTrue : Prop :=
  ∀ s t : State, ContactTrue s → Sys2Proof.Machine.step s = .next t → ContactTrue t

/-- Every step keeps each drive enable and solenoid as its unit's state and the supply and reset give them, and the setpoint at 0 while the
enable is off (R21, R36, R116, section 7.1). -/
def Obligations.OutputsStayRight : Prop :=
  ∀ s t : State, OutputsFollow s → Sys2Proof.Machine.step s = .next t → OutputsFollow t

/-- What only a named command undoes: a filled Fault Capture slot (ACK_FAULT, power-on reset), ACCESS_LOCK (power-on reset),
IDENTITY_CONFLICT (a reset), and the latch (a STATION_EMERGENCY RESET, a reset) stay through every other command and through every tick
in which no commanded reset is due (R66, R176, R179, R185, R188, R189). -/
def Obligations.LatchesStay : Prop :=
  ∀ s t : State, Sys2Proof.Machine.step s = .next t →
    (∀ (c : Instr) (rest : List Instr), s.pending = c :: rest →
      ((∀ straps, c ≠ .powerOnReset straps) →
        (s.iu.accessLock = true → t.iu.accessLock = true) ∧
        ((∀ src dest arg, c ≠ .ackFault src dest arg) →
          (∀ r, s.fr.severe = some r → t.fr.severe = some r) ∧ ∀ r, s.fr.minor = some r → t.fr.minor = some r)) ∧
      (c.isReset = false →
        (s.pm.identityConflict = true → t.pm.identityConflict = true) ∧
        ((∀ src, c ≠ .stationEmergencyReset src) → s.iu.latch = true → t.iu.latch = true))) ∧
    (s.pending = [] →
      (s.iu.accessLock = true → t.iu.accessLock = true) ∧ (∀ r, s.fr.severe = some r → t.fr.severe = some r) ∧
        (∀ r, s.fr.minor = some r → t.fr.minor = some r) ∧
        (s.fr.resetDue = false → s.fr.resetReported = false →
          (s.pm.identityConflict = true → t.pm.identityConflict = true) ∧ (s.iu.latch = true → t.iu.latch = true)))

/-- What stands true at reset and through every step: only a beacon on the line holds a successor (R48); a close cycle is held in CLOSING
alone, and the fusion window open in FUSING alone (R79, R85, R105, R157); a close cycle and an emergency close cycle that stand have a
member not done, so that each completes as its last member is (R166, R181); in LOADING no close of any kind stands and no beacon cadence
runs (R20, R59); the fault lines follow the slots, pulses and mode (R190, R191); the warning output follows the running warnings (R33); and
while beacons are sent, the last one sent holds the summary as it stands or a change is pending under a running gap timer (R59). The own
number stands in the Release Set exactly while some unit stands in MANUAL_RELEASED or RELEASE_RESTORED (R173), under a strap value of 1 to
40; that it never joins under another is the model's (log entry 14). -/
def Obligations.FollowsStays : Prop :=
  Follows State.reset ∧ ∀ s t : State, Follows s → Sys2Proof.Machine.step s = .next t → Follows t
end

