-- ==== Sys2Proof/Laws/State.lean ====
section
/-! SUPPORT. The small lemmas of the state: one per field per update, each true by rfl, and the reads of a Quad. -/

namespace Sys2Proof

@[simp] theorem Quad.get_set_self {α : Type} (q : Quad α) (u : UnitNo) (a : α) : (q.set u a).get u = a := by cases u <;> rfl

theorem Quad.get_set_ne {α : Type} (q : Quad α) {u v : UnitNo} (a : α) (h : u ≠ v) : (q.set u a).get v = q.get v := by
  cases u <;> cases v <;> first | rfl | exact absurd rfl h

theorem Quad.get_set {α : Type} (q : Quad α) (u v : UnitNo) (a : α) : (q.set u a).get v = if u = v then a else q.get v := by
  cases u <;> cases v <;> rfl

@[simp] theorem Quad.get_build {α : Type} (f : UnitNo → α) (u : UnitNo) : (Quad.build f).get u = f u := by cases u <;> rfl

@[simp] theorem Quad.get_same {α : Type} (a : α) (u : UnitNo) : (Quad.same a).get u = a := by cases u <;> rfl

@[simp] theorem Quad.set_get {α : Type} (q : Quad α) (u : UnitNo) : q.set u (q.get u) = q := by cases u <;> rfl

theorem Quad.ext_get {α : Type} {p q : Quad α} (h : ∀ u, p.get u = q.get u) : p = q := by
  cases p; cases q
  simp only [Quad.mk.injEq]
  exact ⟨h .u0, h .u1, h .u2, h .u3⟩

theorem UnitNo.all_all (p : UnitNo → Bool) : UnitNo.all.all p = true ↔ ∀ u, p u = true := by
  constructor
  · intro h u; simp [UnitNo.all] at h; cases u <;> simp [h]
  · intro h; simp [UnitNo.all, h]

theorem UnitNo.all_any (p : UnitNo → Bool) : UnitNo.all.any p = true ↔ ∃ u, p u = true := by
  constructor
  · intro h
    simp only [UnitNo.all, List.any_cons, List.any_nil, Bool.or_false, Bool.or_eq_true] at h
    rcases h with h | h | h | h <;> exact ⟨_, h⟩
  · rintro ⟨u, h⟩; cases u <;> simp [UnitNo.all, h]

end Sys2Proof

namespace Sys2Proof.Machine

variable (s : State)

/-! ### setDc -/

@[simp] theorem State.setDc_supply (u : UnitNo) (d : DoorChannel) : (s.setDc u d).supply = s.supply := rfl
@[simp] theorem State.setDc_resetLow (u : UnitNo) (d : DoorChannel) : (s.setDc u d).resetLow = s.resetLow := rfl
@[simp] theorem State.setDc_now (u : UnitNo) (d : DoorChannel) : (s.setDc u d).now = s.now := rfl
@[simp] theorem State.setDc_pins (u : UnitNo) (d : DoorChannel) : (s.setDc u d).pins = s.pins := rfl
@[simp] theorem State.setDc_cl (u : UnitNo) (d : DoorChannel) : (s.setDc u d).cl = s.cl := rfl
@[simp] theorem State.setDc_lc (u : UnitNo) (d : DoorChannel) : (s.setDc u d).lc = s.lc := rfl
@[simp] theorem State.setDc_pm (u : UnitNo) (d : DoorChannel) : (s.setDc u d).pm = s.pm := rfl
@[simp] theorem State.setDc_bu (u : UnitNo) (d : DoorChannel) : (s.setDc u d).bu = s.bu := rfl
@[simp] theorem State.setDc_ae (u : UnitNo) (d : DoorChannel) : (s.setDc u d).ae = s.ae := rfl
@[simp] theorem State.setDc_dc (u : UnitNo) (d : DoorChannel) : (s.setDc u d).dc = s.dc.set u d := rfl
@[simp] theorem State.setDc_su (u : UnitNo) (d : DoorChannel) : (s.setDc u d).su = s.su := rfl
@[simp] theorem State.setDc_iu (u : UnitNo) (d : DoorChannel) : (s.setDc u d).iu = s.iu := rfl
@[simp] theorem State.setDc_fr (u : UnitNo) (d : DoorChannel) : (s.setDc u d).fr = s.fr := rfl
@[simp] theorem State.setDc_out (u : UnitNo) (d : DoorChannel) : (s.setDc u d).out = s.out := rfl
@[simp] theorem State.setDc_freeCount (u : UnitNo) (d : DoorChannel) : (s.setDc u d).freeCount = s.freeCount := rfl
@[simp] theorem State.setDc_pending (u : UnitNo) (d : DoorChannel) : (s.setDc u d).pending = s.pending := rfl

/-! ### modDc -/

@[simp] theorem State.modDc_supply (u : UnitNo) (f : DoorChannel → DoorChannel) : (s.modDc u f).supply = s.supply := rfl
@[simp] theorem State.modDc_resetLow (u : UnitNo) (f : DoorChannel → DoorChannel) : (s.modDc u f).resetLow = s.resetLow := rfl
@[simp] theorem State.modDc_now (u : UnitNo) (f : DoorChannel → DoorChannel) : (s.modDc u f).now = s.now := rfl
@[simp] theorem State.modDc_pins (u : UnitNo) (f : DoorChannel → DoorChannel) : (s.modDc u f).pins = s.pins := rfl
@[simp] theorem State.modDc_cl (u : UnitNo) (f : DoorChannel → DoorChannel) : (s.modDc u f).cl = s.cl := rfl
@[simp] theorem State.modDc_lc (u : UnitNo) (f : DoorChannel → DoorChannel) : (s.modDc u f).lc = s.lc := rfl
@[simp] theorem State.modDc_pm (u : UnitNo) (f : DoorChannel → DoorChannel) : (s.modDc u f).pm = s.pm := rfl
@[simp] theorem State.modDc_bu (u : UnitNo) (f : DoorChannel → DoorChannel) : (s.modDc u f).bu = s.bu := rfl
@[simp] theorem State.modDc_ae (u : UnitNo) (f : DoorChannel → DoorChannel) : (s.modDc u f).ae = s.ae := rfl
@[simp] theorem State.modDc_dc (u : UnitNo) (f : DoorChannel → DoorChannel) : (s.modDc u f).dc = s.dc.set u (f (s.dc.get u)) := rfl
@[simp] theorem State.modDc_su (u : UnitNo) (f : DoorChannel → DoorChannel) : (s.modDc u f).su = s.su := rfl
@[simp] theorem State.modDc_iu (u : UnitNo) (f : DoorChannel → DoorChannel) : (s.modDc u f).iu = s.iu := rfl
@[simp] theorem State.modDc_fr (u : UnitNo) (f : DoorChannel → DoorChannel) : (s.modDc u f).fr = s.fr := rfl
@[simp] theorem State.modDc_out (u : UnitNo) (f : DoorChannel → DoorChannel) : (s.modDc u f).out = s.out := rfl
@[simp] theorem State.modDc_freeCount (u : UnitNo) (f : DoorChannel → DoorChannel) : (s.modDc u f).freeCount = s.freeCount := rfl
@[simp] theorem State.modDc_pending (u : UnitNo) (f : DoorChannel → DoorChannel) : (s.modDc u f).pending = s.pending := rfl

/-! ### setSu -/

@[simp] theorem State.setSu_supply (u : UnitNo) (x : UnitSensing) : (s.setSu u x).supply = s.supply := rfl
@[simp] theorem State.setSu_resetLow (u : UnitNo) (x : UnitSensing) : (s.setSu u x).resetLow = s.resetLow := rfl
@[simp] theorem State.setSu_now (u : UnitNo) (x : UnitSensing) : (s.setSu u x).now = s.now := rfl
@[simp] theorem State.setSu_pins (u : UnitNo) (x : UnitSensing) : (s.setSu u x).pins = s.pins := rfl
@[simp] theorem State.setSu_cl (u : UnitNo) (x : UnitSensing) : (s.setSu u x).cl = s.cl := rfl
@[simp] theorem State.setSu_lc (u : UnitNo) (x : UnitSensing) : (s.setSu u x).lc = s.lc := rfl
@[simp] theorem State.setSu_pm (u : UnitNo) (x : UnitSensing) : (s.setSu u x).pm = s.pm := rfl
@[simp] theorem State.setSu_bu (u : UnitNo) (x : UnitSensing) : (s.setSu u x).bu = s.bu := rfl
@[simp] theorem State.setSu_ae (u : UnitNo) (x : UnitSensing) : (s.setSu u x).ae = s.ae := rfl
@[simp] theorem State.setSu_dc (u : UnitNo) (x : UnitSensing) : (s.setSu u x).dc = s.dc := rfl
@[simp] theorem State.setSu_su (u : UnitNo) (x : UnitSensing) : (s.setSu u x).su = { s.su with units := s.su.units.set u x } := rfl
@[simp] theorem State.setSu_iu (u : UnitNo) (x : UnitSensing) : (s.setSu u x).iu = s.iu := rfl
@[simp] theorem State.setSu_fr (u : UnitNo) (x : UnitSensing) : (s.setSu u x).fr = s.fr := rfl
@[simp] theorem State.setSu_out (u : UnitNo) (x : UnitSensing) : (s.setSu u x).out = s.out := rfl
@[simp] theorem State.setSu_freeCount (u : UnitNo) (x : UnitSensing) : (s.setSu u x).freeCount = s.freeCount := rfl
@[simp] theorem State.setSu_pending (u : UnitNo) (x : UnitSensing) : (s.setSu u x).pending = s.pending := rfl

/-! ### modSu -/

@[simp] theorem State.modSu_supply (u : UnitNo) (f : UnitSensing → UnitSensing) : (s.modSu u f).supply = s.supply := rfl
@[simp] theorem State.modSu_resetLow (u : UnitNo) (f : UnitSensing → UnitSensing) : (s.modSu u f).resetLow = s.resetLow := rfl
@[simp] theorem State.modSu_now (u : UnitNo) (f : UnitSensing → UnitSensing) : (s.modSu u f).now = s.now := rfl
@[simp] theorem State.modSu_pins (u : UnitNo) (f : UnitSensing → UnitSensing) : (s.modSu u f).pins = s.pins := rfl
@[simp] theorem State.modSu_cl (u : UnitNo) (f : UnitSensing → UnitSensing) : (s.modSu u f).cl = s.cl := rfl
@[simp] theorem State.modSu_lc (u : UnitNo) (f : UnitSensing → UnitSensing) : (s.modSu u f).lc = s.lc := rfl
@[simp] theorem State.modSu_pm (u : UnitNo) (f : UnitSensing → UnitSensing) : (s.modSu u f).pm = s.pm := rfl
@[simp] theorem State.modSu_bu (u : UnitNo) (f : UnitSensing → UnitSensing) : (s.modSu u f).bu = s.bu := rfl
@[simp] theorem State.modSu_ae (u : UnitNo) (f : UnitSensing → UnitSensing) : (s.modSu u f).ae = s.ae := rfl
@[simp] theorem State.modSu_dc (u : UnitNo) (f : UnitSensing → UnitSensing) : (s.modSu u f).dc = s.dc := rfl
@[simp] theorem State.modSu_su (u : UnitNo) (f : UnitSensing → UnitSensing) : (s.modSu u f).su = { s.su with units := s.su.units.set u (f (s.su.units.get u)) } := rfl
@[simp] theorem State.modSu_iu (u : UnitNo) (f : UnitSensing → UnitSensing) : (s.modSu u f).iu = s.iu := rfl
@[simp] theorem State.modSu_fr (u : UnitNo) (f : UnitSensing → UnitSensing) : (s.modSu u f).fr = s.fr := rfl
@[simp] theorem State.modSu_out (u : UnitNo) (f : UnitSensing → UnitSensing) : (s.modSu u f).out = s.out := rfl
@[simp] theorem State.modSu_freeCount (u : UnitNo) (f : UnitSensing → UnitSensing) : (s.modSu u f).freeCount = s.freeCount := rfl
@[simp] theorem State.modSu_pending (u : UnitNo) (f : UnitSensing → UnitSensing) : (s.modSu u f).pending = s.pending := rfl

/-! ### modPins -/

@[simp] theorem State.modPins_supply (u : UnitNo) (f : UnitPins → UnitPins) : (s.modPins u f).supply = s.supply := rfl
@[simp] theorem State.modPins_resetLow (u : UnitNo) (f : UnitPins → UnitPins) : (s.modPins u f).resetLow = s.resetLow := rfl
@[simp] theorem State.modPins_now (u : UnitNo) (f : UnitPins → UnitPins) : (s.modPins u f).now = s.now := rfl
@[simp] theorem State.modPins_pins (u : UnitNo) (f : UnitPins → UnitPins) : (s.modPins u f).pins = { s.pins with units := s.pins.units.set u (f (s.pins.units.get u)) } := rfl
@[simp] theorem State.modPins_cl (u : UnitNo) (f : UnitPins → UnitPins) : (s.modPins u f).cl = s.cl := rfl
@[simp] theorem State.modPins_lc (u : UnitNo) (f : UnitPins → UnitPins) : (s.modPins u f).lc = s.lc := rfl
@[simp] theorem State.modPins_pm (u : UnitNo) (f : UnitPins → UnitPins) : (s.modPins u f).pm = s.pm := rfl
@[simp] theorem State.modPins_bu (u : UnitNo) (f : UnitPins → UnitPins) : (s.modPins u f).bu = s.bu := rfl
@[simp] theorem State.modPins_ae (u : UnitNo) (f : UnitPins → UnitPins) : (s.modPins u f).ae = s.ae := rfl
@[simp] theorem State.modPins_dc (u : UnitNo) (f : UnitPins → UnitPins) : (s.modPins u f).dc = s.dc := rfl
@[simp] theorem State.modPins_su (u : UnitNo) (f : UnitPins → UnitPins) : (s.modPins u f).su = s.su := rfl
@[simp] theorem State.modPins_iu (u : UnitNo) (f : UnitPins → UnitPins) : (s.modPins u f).iu = s.iu := rfl
@[simp] theorem State.modPins_fr (u : UnitNo) (f : UnitPins → UnitPins) : (s.modPins u f).fr = s.fr := rfl
@[simp] theorem State.modPins_out (u : UnitNo) (f : UnitPins → UnitPins) : (s.modPins u f).out = s.out := rfl
@[simp] theorem State.modPins_freeCount (u : UnitNo) (f : UnitPins → UnitPins) : (s.modPins u f).freeCount = s.freeCount := rfl
@[simp] theorem State.modPins_pending (u : UnitNo) (f : UnitPins → UnitPins) : (s.modPins u f).pending = s.pending := rfl

/-! ### modBerth -/

@[simp] theorem State.modBerth_supply (f : Berth → Berth) : (s.modBerth f).supply = s.supply := rfl
@[simp] theorem State.modBerth_resetLow (f : Berth → Berth) : (s.modBerth f).resetLow = s.resetLow := rfl
@[simp] theorem State.modBerth_now (f : Berth → Berth) : (s.modBerth f).now = s.now := rfl
@[simp] theorem State.modBerth_pins (f : Berth → Berth) : (s.modBerth f).pins = s.pins := rfl
@[simp] theorem State.modBerth_cl (f : Berth → Berth) : (s.modBerth f).cl = s.cl := rfl
@[simp] theorem State.modBerth_lc (f : Berth → Berth) : (s.modBerth f).lc = s.lc := rfl
@[simp] theorem State.modBerth_pm (f : Berth → Berth) : (s.modBerth f).pm = s.pm := rfl
@[simp] theorem State.modBerth_bu (f : Berth → Berth) : (s.modBerth f).bu = { s.bu with berth := f s.bu.berth } := rfl
@[simp] theorem State.modBerth_ae (f : Berth → Berth) : (s.modBerth f).ae = s.ae := rfl
@[simp] theorem State.modBerth_dc (f : Berth → Berth) : (s.modBerth f).dc = s.dc := rfl
@[simp] theorem State.modBerth_su (f : Berth → Berth) : (s.modBerth f).su = s.su := rfl
@[simp] theorem State.modBerth_iu (f : Berth → Berth) : (s.modBerth f).iu = s.iu := rfl
@[simp] theorem State.modBerth_fr (f : Berth → Berth) : (s.modBerth f).fr = s.fr := rfl
@[simp] theorem State.modBerth_out (f : Berth → Berth) : (s.modBerth f).out = s.out := rfl
@[simp] theorem State.modBerth_freeCount (f : Berth → Berth) : (s.modBerth f).freeCount = s.freeCount := rfl
@[simp] theorem State.modBerth_pending (f : Berth → Berth) : (s.modBerth f).pending = s.pending := rfl

/-! ### setCycle -/

@[simp] theorem State.setCycle_supply (c : Option CloseCycle) : (s.setCycle c).supply = s.supply := rfl
@[simp] theorem State.setCycle_resetLow (c : Option CloseCycle) : (s.setCycle c).resetLow = s.resetLow := rfl
@[simp] theorem State.setCycle_now (c : Option CloseCycle) : (s.setCycle c).now = s.now := rfl
@[simp] theorem State.setCycle_pins (c : Option CloseCycle) : (s.setCycle c).pins = s.pins := rfl
@[simp] theorem State.setCycle_cl (c : Option CloseCycle) : (s.setCycle c).cl = s.cl := rfl
@[simp] theorem State.setCycle_lc (c : Option CloseCycle) : (s.setCycle c).lc = s.lc := rfl
@[simp] theorem State.setCycle_pm (c : Option CloseCycle) : (s.setCycle c).pm = s.pm := rfl
@[simp] theorem State.setCycle_bu (c : Option CloseCycle) : (s.setCycle c).bu = { s.bu with cycle := c } := rfl
@[simp] theorem State.setCycle_ae (c : Option CloseCycle) : (s.setCycle c).ae = s.ae := rfl
@[simp] theorem State.setCycle_dc (c : Option CloseCycle) : (s.setCycle c).dc = s.dc := rfl
@[simp] theorem State.setCycle_su (c : Option CloseCycle) : (s.setCycle c).su = s.su := rfl
@[simp] theorem State.setCycle_iu (c : Option CloseCycle) : (s.setCycle c).iu = s.iu := rfl
@[simp] theorem State.setCycle_fr (c : Option CloseCycle) : (s.setCycle c).fr = s.fr := rfl
@[simp] theorem State.setCycle_out (c : Option CloseCycle) : (s.setCycle c).out = s.out := rfl
@[simp] theorem State.setCycle_freeCount (c : Option CloseCycle) : (s.setCycle c).freeCount = s.freeCount := rfl
@[simp] theorem State.setCycle_pending (c : Option CloseCycle) : (s.setCycle c).pending = s.pending := rfl

/-! ### setHoldList -/

@[simp] theorem State.setHoldList_supply (l : List HoldEntry) : (s.setHoldList l).supply = s.supply := rfl
@[simp] theorem State.setHoldList_resetLow (l : List HoldEntry) : (s.setHoldList l).resetLow = s.resetLow := rfl
@[simp] theorem State.setHoldList_now (l : List HoldEntry) : (s.setHoldList l).now = s.now := rfl
@[simp] theorem State.setHoldList_pins (l : List HoldEntry) : (s.setHoldList l).pins = s.pins := rfl
@[simp] theorem State.setHoldList_cl (l : List HoldEntry) : (s.setHoldList l).cl = s.cl := rfl
@[simp] theorem State.setHoldList_lc (l : List HoldEntry) : (s.setHoldList l).lc = s.lc := rfl
@[simp] theorem State.setHoldList_pm (l : List HoldEntry) : (s.setHoldList l).pm = s.pm := rfl
@[simp] theorem State.setHoldList_bu (l : List HoldEntry) : (s.setHoldList l).bu = { s.bu with holdList := l } := rfl
@[simp] theorem State.setHoldList_ae (l : List HoldEntry) : (s.setHoldList l).ae = s.ae := rfl
@[simp] theorem State.setHoldList_dc (l : List HoldEntry) : (s.setHoldList l).dc = s.dc := rfl
@[simp] theorem State.setHoldList_su (l : List HoldEntry) : (s.setHoldList l).su = s.su := rfl
@[simp] theorem State.setHoldList_iu (l : List HoldEntry) : (s.setHoldList l).iu = s.iu := rfl
@[simp] theorem State.setHoldList_fr (l : List HoldEntry) : (s.setHoldList l).fr = s.fr := rfl
@[simp] theorem State.setHoldList_out (l : List HoldEntry) : (s.setHoldList l).out = s.out := rfl
@[simp] theorem State.setHoldList_freeCount (l : List HoldEntry) : (s.setHoldList l).freeCount = s.freeCount := rfl
@[simp] theorem State.setHoldList_pending (l : List HoldEntry) : (s.setHoldList l).pending = s.pending := rfl

/-! ### setDeparture -/

@[simp] theorem State.setDeparture_supply (d : Option DepartureClose) : (s.setDeparture d).supply = s.supply := rfl
@[simp] theorem State.setDeparture_resetLow (d : Option DepartureClose) : (s.setDeparture d).resetLow = s.resetLow := rfl
@[simp] theorem State.setDeparture_now (d : Option DepartureClose) : (s.setDeparture d).now = s.now := rfl
@[simp] theorem State.setDeparture_pins (d : Option DepartureClose) : (s.setDeparture d).pins = s.pins := rfl
@[simp] theorem State.setDeparture_cl (d : Option DepartureClose) : (s.setDeparture d).cl = s.cl := rfl
@[simp] theorem State.setDeparture_lc (d : Option DepartureClose) : (s.setDeparture d).lc = s.lc := rfl
@[simp] theorem State.setDeparture_pm (d : Option DepartureClose) : (s.setDeparture d).pm = s.pm := rfl
@[simp] theorem State.setDeparture_bu (d : Option DepartureClose) : (s.setDeparture d).bu = { s.bu with departure := d } := rfl
@[simp] theorem State.setDeparture_ae (d : Option DepartureClose) : (s.setDeparture d).ae = s.ae := rfl
@[simp] theorem State.setDeparture_dc (d : Option DepartureClose) : (s.setDeparture d).dc = s.dc := rfl
@[simp] theorem State.setDeparture_su (d : Option DepartureClose) : (s.setDeparture d).su = s.su := rfl
@[simp] theorem State.setDeparture_iu (d : Option DepartureClose) : (s.setDeparture d).iu = s.iu := rfl
@[simp] theorem State.setDeparture_fr (d : Option DepartureClose) : (s.setDeparture d).fr = s.fr := rfl
@[simp] theorem State.setDeparture_out (d : Option DepartureClose) : (s.setDeparture d).out = s.out := rfl
@[simp] theorem State.setDeparture_freeCount (d : Option DepartureClose) : (s.setDeparture d).freeCount = s.freeCount := rfl
@[simp] theorem State.setDeparture_pending (d : Option DepartureClose) : (s.setDeparture d).pending = s.pending := rfl

/-! ### modIu -/

@[simp] theorem State.modIu_supply (f : InterlockUnit → InterlockUnit) : (s.modIu f).supply = s.supply := rfl
@[simp] theorem State.modIu_resetLow (f : InterlockUnit → InterlockUnit) : (s.modIu f).resetLow = s.resetLow := rfl
@[simp] theorem State.modIu_now (f : InterlockUnit → InterlockUnit) : (s.modIu f).now = s.now := rfl
@[simp] theorem State.modIu_pins (f : InterlockUnit → InterlockUnit) : (s.modIu f).pins = s.pins := rfl
@[simp] theorem State.modIu_cl (f : InterlockUnit → InterlockUnit) : (s.modIu f).cl = s.cl := rfl
@[simp] theorem State.modIu_lc (f : InterlockUnit → InterlockUnit) : (s.modIu f).lc = s.lc := rfl
@[simp] theorem State.modIu_pm (f : InterlockUnit → InterlockUnit) : (s.modIu f).pm = s.pm := rfl
@[simp] theorem State.modIu_bu (f : InterlockUnit → InterlockUnit) : (s.modIu f).bu = s.bu := rfl
@[simp] theorem State.modIu_ae (f : InterlockUnit → InterlockUnit) : (s.modIu f).ae = s.ae := rfl
@[simp] theorem State.modIu_dc (f : InterlockUnit → InterlockUnit) : (s.modIu f).dc = s.dc := rfl
@[simp] theorem State.modIu_su (f : InterlockUnit → InterlockUnit) : (s.modIu f).su = s.su := rfl
@[simp] theorem State.modIu_iu (f : InterlockUnit → InterlockUnit) : (s.modIu f).iu = f s.iu := rfl
@[simp] theorem State.modIu_fr (f : InterlockUnit → InterlockUnit) : (s.modIu f).fr = s.fr := rfl
@[simp] theorem State.modIu_out (f : InterlockUnit → InterlockUnit) : (s.modIu f).out = s.out := rfl
@[simp] theorem State.modIu_freeCount (f : InterlockUnit → InterlockUnit) : (s.modIu f).freeCount = s.freeCount := rfl
@[simp] theorem State.modIu_pending (f : InterlockUnit → InterlockUnit) : (s.modIu f).pending = s.pending := rfl

/-! ### modAe -/

@[simp] theorem State.modAe_supply (f : AlignEngine → AlignEngine) : (s.modAe f).supply = s.supply := rfl
@[simp] theorem State.modAe_resetLow (f : AlignEngine → AlignEngine) : (s.modAe f).resetLow = s.resetLow := rfl
@[simp] theorem State.modAe_now (f : AlignEngine → AlignEngine) : (s.modAe f).now = s.now := rfl
@[simp] theorem State.modAe_pins (f : AlignEngine → AlignEngine) : (s.modAe f).pins = s.pins := rfl
@[simp] theorem State.modAe_cl (f : AlignEngine → AlignEngine) : (s.modAe f).cl = s.cl := rfl
@[simp] theorem State.modAe_lc (f : AlignEngine → AlignEngine) : (s.modAe f).lc = s.lc := rfl
@[simp] theorem State.modAe_pm (f : AlignEngine → AlignEngine) : (s.modAe f).pm = s.pm := rfl
@[simp] theorem State.modAe_bu (f : AlignEngine → AlignEngine) : (s.modAe f).bu = s.bu := rfl
@[simp] theorem State.modAe_ae (f : AlignEngine → AlignEngine) : (s.modAe f).ae = f s.ae := rfl
@[simp] theorem State.modAe_dc (f : AlignEngine → AlignEngine) : (s.modAe f).dc = s.dc := rfl
@[simp] theorem State.modAe_su (f : AlignEngine → AlignEngine) : (s.modAe f).su = s.su := rfl
@[simp] theorem State.modAe_iu (f : AlignEngine → AlignEngine) : (s.modAe f).iu = s.iu := rfl
@[simp] theorem State.modAe_fr (f : AlignEngine → AlignEngine) : (s.modAe f).fr = s.fr := rfl
@[simp] theorem State.modAe_out (f : AlignEngine → AlignEngine) : (s.modAe f).out = s.out := rfl
@[simp] theorem State.modAe_freeCount (f : AlignEngine → AlignEngine) : (s.modAe f).freeCount = s.freeCount := rfl
@[simp] theorem State.modAe_pending (f : AlignEngine → AlignEngine) : (s.modAe f).pending = s.pending := rfl

/-! ### modPm -/

@[simp] theorem State.modPm_supply (f : PeerMonitor → PeerMonitor) : (s.modPm f).supply = s.supply := rfl
@[simp] theorem State.modPm_resetLow (f : PeerMonitor → PeerMonitor) : (s.modPm f).resetLow = s.resetLow := rfl
@[simp] theorem State.modPm_now (f : PeerMonitor → PeerMonitor) : (s.modPm f).now = s.now := rfl
@[simp] theorem State.modPm_pins (f : PeerMonitor → PeerMonitor) : (s.modPm f).pins = s.pins := rfl
@[simp] theorem State.modPm_cl (f : PeerMonitor → PeerMonitor) : (s.modPm f).cl = s.cl := rfl
@[simp] theorem State.modPm_lc (f : PeerMonitor → PeerMonitor) : (s.modPm f).lc = s.lc := rfl
@[simp] theorem State.modPm_pm (f : PeerMonitor → PeerMonitor) : (s.modPm f).pm = f s.pm := rfl
@[simp] theorem State.modPm_bu (f : PeerMonitor → PeerMonitor) : (s.modPm f).bu = s.bu := rfl
@[simp] theorem State.modPm_ae (f : PeerMonitor → PeerMonitor) : (s.modPm f).ae = s.ae := rfl
@[simp] theorem State.modPm_dc (f : PeerMonitor → PeerMonitor) : (s.modPm f).dc = s.dc := rfl
@[simp] theorem State.modPm_su (f : PeerMonitor → PeerMonitor) : (s.modPm f).su = s.su := rfl
@[simp] theorem State.modPm_iu (f : PeerMonitor → PeerMonitor) : (s.modPm f).iu = s.iu := rfl
@[simp] theorem State.modPm_fr (f : PeerMonitor → PeerMonitor) : (s.modPm f).fr = s.fr := rfl
@[simp] theorem State.modPm_out (f : PeerMonitor → PeerMonitor) : (s.modPm f).out = s.out := rfl
@[simp] theorem State.modPm_freeCount (f : PeerMonitor → PeerMonitor) : (s.modPm f).freeCount = s.freeCount := rfl
@[simp] theorem State.modPm_pending (f : PeerMonitor → PeerMonitor) : (s.modPm f).pending = s.pending := rfl

/-! ### modLc -/

@[simp] theorem State.modLc_supply (f : LineController → LineController) : (s.modLc f).supply = s.supply := rfl
@[simp] theorem State.modLc_resetLow (f : LineController → LineController) : (s.modLc f).resetLow = s.resetLow := rfl
@[simp] theorem State.modLc_now (f : LineController → LineController) : (s.modLc f).now = s.now := rfl
@[simp] theorem State.modLc_pins (f : LineController → LineController) : (s.modLc f).pins = s.pins := rfl
@[simp] theorem State.modLc_cl (f : LineController → LineController) : (s.modLc f).cl = s.cl := rfl
@[simp] theorem State.modLc_lc (f : LineController → LineController) : (s.modLc f).lc = f s.lc := rfl
@[simp] theorem State.modLc_pm (f : LineController → LineController) : (s.modLc f).pm = s.pm := rfl
@[simp] theorem State.modLc_bu (f : LineController → LineController) : (s.modLc f).bu = s.bu := rfl
@[simp] theorem State.modLc_ae (f : LineController → LineController) : (s.modLc f).ae = s.ae := rfl
@[simp] theorem State.modLc_dc (f : LineController → LineController) : (s.modLc f).dc = s.dc := rfl
@[simp] theorem State.modLc_su (f : LineController → LineController) : (s.modLc f).su = s.su := rfl
@[simp] theorem State.modLc_iu (f : LineController → LineController) : (s.modLc f).iu = s.iu := rfl
@[simp] theorem State.modLc_fr (f : LineController → LineController) : (s.modLc f).fr = s.fr := rfl
@[simp] theorem State.modLc_out (f : LineController → LineController) : (s.modLc f).out = s.out := rfl
@[simp] theorem State.modLc_freeCount (f : LineController → LineController) : (s.modLc f).freeCount = s.freeCount := rfl
@[simp] theorem State.modLc_pending (f : LineController → LineController) : (s.modLc f).pending = s.pending := rfl

/-! ### modCl -/

@[simp] theorem State.modCl_supply (f : Loader → Loader) : (s.modCl f).supply = s.supply := rfl
@[simp] theorem State.modCl_resetLow (f : Loader → Loader) : (s.modCl f).resetLow = s.resetLow := rfl
@[simp] theorem State.modCl_now (f : Loader → Loader) : (s.modCl f).now = s.now := rfl
@[simp] theorem State.modCl_pins (f : Loader → Loader) : (s.modCl f).pins = s.pins := rfl
@[simp] theorem State.modCl_cl (f : Loader → Loader) : (s.modCl f).cl = f s.cl := rfl
@[simp] theorem State.modCl_lc (f : Loader → Loader) : (s.modCl f).lc = s.lc := rfl
@[simp] theorem State.modCl_pm (f : Loader → Loader) : (s.modCl f).pm = s.pm := rfl
@[simp] theorem State.modCl_bu (f : Loader → Loader) : (s.modCl f).bu = s.bu := rfl
@[simp] theorem State.modCl_ae (f : Loader → Loader) : (s.modCl f).ae = s.ae := rfl
@[simp] theorem State.modCl_dc (f : Loader → Loader) : (s.modCl f).dc = s.dc := rfl
@[simp] theorem State.modCl_su (f : Loader → Loader) : (s.modCl f).su = s.su := rfl
@[simp] theorem State.modCl_iu (f : Loader → Loader) : (s.modCl f).iu = s.iu := rfl
@[simp] theorem State.modCl_fr (f : Loader → Loader) : (s.modCl f).fr = s.fr := rfl
@[simp] theorem State.modCl_out (f : Loader → Loader) : (s.modCl f).out = s.out := rfl
@[simp] theorem State.modCl_freeCount (f : Loader → Loader) : (s.modCl f).freeCount = s.freeCount := rfl
@[simp] theorem State.modCl_pending (f : Loader → Loader) : (s.modCl f).pending = s.pending := rfl

/-! ### modFr -/

@[simp] theorem State.modFr_supply (f : FaultRecorder → FaultRecorder) : (s.modFr f).supply = s.supply := rfl
@[simp] theorem State.modFr_resetLow (f : FaultRecorder → FaultRecorder) : (s.modFr f).resetLow = s.resetLow := rfl
@[simp] theorem State.modFr_now (f : FaultRecorder → FaultRecorder) : (s.modFr f).now = s.now := rfl
@[simp] theorem State.modFr_pins (f : FaultRecorder → FaultRecorder) : (s.modFr f).pins = s.pins := rfl
@[simp] theorem State.modFr_cl (f : FaultRecorder → FaultRecorder) : (s.modFr f).cl = s.cl := rfl
@[simp] theorem State.modFr_lc (f : FaultRecorder → FaultRecorder) : (s.modFr f).lc = s.lc := rfl
@[simp] theorem State.modFr_pm (f : FaultRecorder → FaultRecorder) : (s.modFr f).pm = s.pm := rfl
@[simp] theorem State.modFr_bu (f : FaultRecorder → FaultRecorder) : (s.modFr f).bu = s.bu := rfl
@[simp] theorem State.modFr_ae (f : FaultRecorder → FaultRecorder) : (s.modFr f).ae = s.ae := rfl
@[simp] theorem State.modFr_dc (f : FaultRecorder → FaultRecorder) : (s.modFr f).dc = s.dc := rfl
@[simp] theorem State.modFr_su (f : FaultRecorder → FaultRecorder) : (s.modFr f).su = s.su := rfl
@[simp] theorem State.modFr_iu (f : FaultRecorder → FaultRecorder) : (s.modFr f).iu = s.iu := rfl
@[simp] theorem State.modFr_fr (f : FaultRecorder → FaultRecorder) : (s.modFr f).fr = f s.fr := rfl
@[simp] theorem State.modFr_out (f : FaultRecorder → FaultRecorder) : (s.modFr f).out = s.out := rfl
@[simp] theorem State.modFr_freeCount (f : FaultRecorder → FaultRecorder) : (s.modFr f).freeCount = s.freeCount := rfl
@[simp] theorem State.modFr_pending (f : FaultRecorder → FaultRecorder) : (s.modFr f).pending = s.pending := rfl

/-! ### modUnitCounters -/

@[simp] theorem State.modUnitCounters_supply (u : UnitNo) (f : UnitCounters → UnitCounters) : (s.modUnitCounters u f).supply = s.supply := rfl
@[simp] theorem State.modUnitCounters_resetLow (u : UnitNo) (f : UnitCounters → UnitCounters) : (s.modUnitCounters u f).resetLow = s.resetLow := rfl
@[simp] theorem State.modUnitCounters_now (u : UnitNo) (f : UnitCounters → UnitCounters) : (s.modUnitCounters u f).now = s.now := rfl
@[simp] theorem State.modUnitCounters_pins (u : UnitNo) (f : UnitCounters → UnitCounters) : (s.modUnitCounters u f).pins = s.pins := rfl
@[simp] theorem State.modUnitCounters_cl (u : UnitNo) (f : UnitCounters → UnitCounters) : (s.modUnitCounters u f).cl = s.cl := rfl
@[simp] theorem State.modUnitCounters_lc (u : UnitNo) (f : UnitCounters → UnitCounters) : (s.modUnitCounters u f).lc = s.lc := rfl
@[simp] theorem State.modUnitCounters_pm (u : UnitNo) (f : UnitCounters → UnitCounters) : (s.modUnitCounters u f).pm = s.pm := rfl
@[simp] theorem State.modUnitCounters_bu (u : UnitNo) (f : UnitCounters → UnitCounters) : (s.modUnitCounters u f).bu = s.bu := rfl
@[simp] theorem State.modUnitCounters_ae (u : UnitNo) (f : UnitCounters → UnitCounters) : (s.modUnitCounters u f).ae = s.ae := rfl
@[simp] theorem State.modUnitCounters_dc (u : UnitNo) (f : UnitCounters → UnitCounters) : (s.modUnitCounters u f).dc = s.dc := rfl
@[simp] theorem State.modUnitCounters_su (u : UnitNo) (f : UnitCounters → UnitCounters) : (s.modUnitCounters u f).su = s.su := rfl
@[simp] theorem State.modUnitCounters_iu (u : UnitNo) (f : UnitCounters → UnitCounters) : (s.modUnitCounters u f).iu = s.iu := rfl
@[simp] theorem State.modUnitCounters_fr (u : UnitNo) (f : UnitCounters → UnitCounters) : (s.modUnitCounters u f).fr = { s.fr with unitCounters := s.fr.unitCounters.set u (f (s.fr.unitCounters.get u)) } := rfl
@[simp] theorem State.modUnitCounters_out (u : UnitNo) (f : UnitCounters → UnitCounters) : (s.modUnitCounters u f).out = s.out := rfl
@[simp] theorem State.modUnitCounters_freeCount (u : UnitNo) (f : UnitCounters → UnitCounters) : (s.modUnitCounters u f).freeCount = s.freeCount := rfl
@[simp] theorem State.modUnitCounters_pending (u : UnitNo) (f : UnitCounters → UnitCounters) : (s.modUnitCounters u f).pending = s.pending := rfl

/-! ### modNodeCounters -/

@[simp] theorem State.modNodeCounters_supply (f : NodeCounters → NodeCounters) : (s.modNodeCounters f).supply = s.supply := rfl
@[simp] theorem State.modNodeCounters_resetLow (f : NodeCounters → NodeCounters) : (s.modNodeCounters f).resetLow = s.resetLow := rfl
@[simp] theorem State.modNodeCounters_now (f : NodeCounters → NodeCounters) : (s.modNodeCounters f).now = s.now := rfl
@[simp] theorem State.modNodeCounters_pins (f : NodeCounters → NodeCounters) : (s.modNodeCounters f).pins = s.pins := rfl
@[simp] theorem State.modNodeCounters_cl (f : NodeCounters → NodeCounters) : (s.modNodeCounters f).cl = s.cl := rfl
@[simp] theorem State.modNodeCounters_lc (f : NodeCounters → NodeCounters) : (s.modNodeCounters f).lc = s.lc := rfl
@[simp] theorem State.modNodeCounters_pm (f : NodeCounters → NodeCounters) : (s.modNodeCounters f).pm = s.pm := rfl
@[simp] theorem State.modNodeCounters_bu (f : NodeCounters → NodeCounters) : (s.modNodeCounters f).bu = s.bu := rfl
@[simp] theorem State.modNodeCounters_ae (f : NodeCounters → NodeCounters) : (s.modNodeCounters f).ae = s.ae := rfl
@[simp] theorem State.modNodeCounters_dc (f : NodeCounters → NodeCounters) : (s.modNodeCounters f).dc = s.dc := rfl
@[simp] theorem State.modNodeCounters_su (f : NodeCounters → NodeCounters) : (s.modNodeCounters f).su = s.su := rfl
@[simp] theorem State.modNodeCounters_iu (f : NodeCounters → NodeCounters) : (s.modNodeCounters f).iu = s.iu := rfl
@[simp] theorem State.modNodeCounters_fr (f : NodeCounters → NodeCounters) : (s.modNodeCounters f).fr = { s.fr with nodeCounters := f s.fr.nodeCounters } := rfl
@[simp] theorem State.modNodeCounters_out (f : NodeCounters → NodeCounters) : (s.modNodeCounters f).out = s.out := rfl
@[simp] theorem State.modNodeCounters_freeCount (f : NodeCounters → NodeCounters) : (s.modNodeCounters f).freeCount = s.freeCount := rfl
@[simp] theorem State.modNodeCounters_pending (f : NodeCounters → NodeCounters) : (s.modNodeCounters f).pending = s.pending := rfl

/-! ### setSlot -/

@[simp] theorem State.setSlot_supply (n : Node) (x : Slot) : (s.setSlot n x).supply = s.supply := rfl
@[simp] theorem State.setSlot_resetLow (n : Node) (x : Slot) : (s.setSlot n x).resetLow = s.resetLow := rfl
@[simp] theorem State.setSlot_now (n : Node) (x : Slot) : (s.setSlot n x).now = s.now := rfl
@[simp] theorem State.setSlot_pins (n : Node) (x : Slot) : (s.setSlot n x).pins = s.pins := rfl
@[simp] theorem State.setSlot_cl (n : Node) (x : Slot) : (s.setSlot n x).cl = s.cl := rfl
@[simp] theorem State.setSlot_lc (n : Node) (x : Slot) : (s.setSlot n x).lc = s.lc := rfl
@[simp] theorem State.setSlot_pm (n : Node) (x : Slot) : (s.setSlot n x).pm = { s.pm with slots := s.pm.slots.set n.toNat x } := rfl
@[simp] theorem State.setSlot_bu (n : Node) (x : Slot) : (s.setSlot n x).bu = s.bu := rfl
@[simp] theorem State.setSlot_ae (n : Node) (x : Slot) : (s.setSlot n x).ae = s.ae := rfl
@[simp] theorem State.setSlot_dc (n : Node) (x : Slot) : (s.setSlot n x).dc = s.dc := rfl
@[simp] theorem State.setSlot_su (n : Node) (x : Slot) : (s.setSlot n x).su = s.su := rfl
@[simp] theorem State.setSlot_iu (n : Node) (x : Slot) : (s.setSlot n x).iu = s.iu := rfl
@[simp] theorem State.setSlot_fr (n : Node) (x : Slot) : (s.setSlot n x).fr = s.fr := rfl
@[simp] theorem State.setSlot_out (n : Node) (x : Slot) : (s.setSlot n x).out = s.out := rfl
@[simp] theorem State.setSlot_freeCount (n : Node) (x : Slot) : (s.setSlot n x).freeCount = s.freeCount := rfl
@[simp] theorem State.setSlot_pending (n : Node) (x : Slot) : (s.setSlot n x).pending = s.pending := rfl

/-! ### setQueue -/

@[simp] theorem State.setQueue_supply (q : List TxEntry) : (s.setQueue q).supply = s.supply := rfl
@[simp] theorem State.setQueue_resetLow (q : List TxEntry) : (s.setQueue q).resetLow = s.resetLow := rfl
@[simp] theorem State.setQueue_now (q : List TxEntry) : (s.setQueue q).now = s.now := rfl
@[simp] theorem State.setQueue_pins (q : List TxEntry) : (s.setQueue q).pins = s.pins := rfl
@[simp] theorem State.setQueue_cl (q : List TxEntry) : (s.setQueue q).cl = s.cl := rfl
@[simp] theorem State.setQueue_lc (q : List TxEntry) : (s.setQueue q).lc = { s.lc with queue := q } := rfl
@[simp] theorem State.setQueue_pm (q : List TxEntry) : (s.setQueue q).pm = s.pm := rfl
@[simp] theorem State.setQueue_bu (q : List TxEntry) : (s.setQueue q).bu = s.bu := rfl
@[simp] theorem State.setQueue_ae (q : List TxEntry) : (s.setQueue q).ae = s.ae := rfl
@[simp] theorem State.setQueue_dc (q : List TxEntry) : (s.setQueue q).dc = s.dc := rfl
@[simp] theorem State.setQueue_su (q : List TxEntry) : (s.setQueue q).su = s.su := rfl
@[simp] theorem State.setQueue_iu (q : List TxEntry) : (s.setQueue q).iu = s.iu := rfl
@[simp] theorem State.setQueue_fr (q : List TxEntry) : (s.setQueue q).fr = s.fr := rfl
@[simp] theorem State.setQueue_out (q : List TxEntry) : (s.setQueue q).out = s.out := rfl
@[simp] theorem State.setQueue_freeCount (q : List TxEntry) : (s.setQueue q).freeCount = s.freeCount := rfl
@[simp] theorem State.setQueue_pending (q : List TxEntry) : (s.setQueue q).pending = s.pending := rfl

end Sys2Proof.Machine
end

