-- ==== Sys2Proof/Laws/Sends.lean ====
section
/-! SUPPORT. What the operations that queue, report and drive outputs can do: they touch the Transmit Queue, the Fault Recorder, the
outputs and the beacon timers, and nothing else. -/

namespace Sys2Proof.Machine

/-- A filled Fault Capture slot stays, the reset mark with it, and the counters but for TX_DROPS, REVERSALS, REQUEST_IGNORED and those
of the fault kinds. -/
structure FaultsKept (r r' : FaultRecorder) : Prop where
  severe : ∀ x, r.severe = some x → r'.severe = some x
  minor : ∀ x, r.minor = some x → r'.minor = some x
  resetDue : r'.resetDue = r.resetDue
  nodeCounters : { r'.nodeCounters with txDrops := r.nodeCounters.txDrops } = r.nodeCounters
  unitCounters : ∀ v,
    { r'.unitCounters.get v with
      reversals := (r.unitCounters.get v).reversals
      requestIgnored := (r.unitCounters.get v).requestIgnored } = r.unitCounters.get v

theorem FaultsKept.refl (r : FaultRecorder) : FaultsKept r r := ⟨fun _ h => h, fun _ h => h, rfl, rfl, fun _ => rfl⟩

theorem FaultsKept.trans {a b c : FaultRecorder} (h : FaultsKept a b) (k : FaultsKept b c) : FaultsKept a c where
  severe := fun x hx => k.severe x (h.severe x hx)
  minor := fun x hx => k.minor x (h.minor x hx)
  resetDue := k.resetDue.trans h.resetDue
  nodeCounters := by
    have h1 := h.nodeCounters
    have k1 := k.nodeCounters
    rw [← h1, ← k1]
  unitCounters := fun v => by
    have h1 := h.unitCounters v
    have k1 := k.unitCounters v
    rw [← h1, ← k1]

/-- `t` is `s` but for the Transmit Queue, the Fault Recorder, the outputs and the beacon timers. -/
structure Sends (s t : State) : Prop where
  supply : t.supply = s.supply
  resetLow : t.resetLow = s.resetLow
  now : t.now = s.now
  pins : t.pins = s.pins
  cl : t.cl = s.cl
  bu : t.bu = s.bu
  ae : t.ae = s.ae
  dc : t.dc = s.dc
  su : t.su = s.su
  iu : t.iu = s.iu
  freeCount : t.freeCount = s.freeCount
  pending : t.pending = s.pending
  errors : t.lc.errors = s.lc.errors
  line : t.lc.line = s.lc.line
  lineTimer : t.lc.quietTimer = s.lc.quietTimer
  slots : t.pm.slots = s.pm.slots
  notHeard : t.pm.notHeard = s.pm.notHeard
  identityConflict : t.pm.identityConflict = s.pm.identityConflict
  lastRefusal : t.pm.lastRefusal = s.pm.lastRefusal
  absenceTimer : t.pm.absenceTimer = s.pm.absenceTimer
  absenceOver : t.pm.absenceOver = s.pm.absenceOver
  fr : FaultsKept s.fr t.fr

theorem Sends.refl (s : State) : Sends s s :=
  ⟨rfl, rfl, rfl, rfl, rfl, rfl, rfl, rfl, rfl, rfl, rfl, rfl, rfl, rfl, rfl, rfl, rfl, rfl, rfl, rfl, rfl,
    FaultsKept.refl _⟩

theorem Sends.trans {a b c : State} (h : Sends a b) (k : Sends b c) : Sends a c where
  supply := k.supply.trans h.supply
  resetLow := k.resetLow.trans h.resetLow
  now := k.now.trans h.now
  pins := k.pins.trans h.pins
  cl := k.cl.trans h.cl
  bu := k.bu.trans h.bu
  ae := k.ae.trans h.ae
  dc := k.dc.trans h.dc
  su := k.su.trans h.su
  iu := k.iu.trans h.iu
  freeCount := k.freeCount.trans h.freeCount
  pending := k.pending.trans h.pending
  errors := k.errors.trans h.errors
  line := k.line.trans h.line
  lineTimer := k.lineTimer.trans h.lineTimer
  slots := k.slots.trans h.slots
  notHeard := k.notHeard.trans h.notHeard
  identityConflict := k.identityConflict.trans h.identityConflict
  lastRefusal := k.lastRefusal.trans h.lastRefusal
  absenceTimer := k.absenceTimer.trans h.absenceTimer
  absenceOver := k.absenceOver.trans h.absenceOver
  fr := h.fr.trans k.fr

/-- The general form of such an update. -/
theorem Sends.upd (s : State) (q : List TxEntry) (r : FaultRecorder) (o : Outputs) (a b : Option Time) (c : Option Beacon)
    (d : Bool) (h : FaultsKept s.fr r) :
    Sends s { s with
      lc := { s.lc with queue := q }, fr := r, out := o
      pm := { s.pm with cadence := a, gap := b, lastBeacon := c, changePending := d } } := by
  constructor <;> first | rfl | exact h

/-! ### The operations -/

theorem setQueue_sends (q : List TxEntry) (s : State) : Sends s (s.setQueue q) := Sends.upd s _ _ _ _ _ _ _ (FaultsKept.refl _)

theorem modUnitCounters_sends {u : UnitNo} {f : UnitCounters → UnitCounters} (s : State)
    (h : ∀ c, { f c with reversals := c.reversals, requestIgnored := c.requestIgnored } = c) : Sends s (s.modUnitCounters u f) := by
  refine Sends.upd s _ _ _ _ _ _ _ ⟨fun _ h => h, fun _ h => h, rfl, rfl, ?_⟩
  intro v
  simp only [Quad.get_set]
  split
  · next e => subst e; exact h _
  · rfl

theorem countIgnored_sends (u : UnitNo) (s : State) : Sends s (countIgnored u s) := modUnitCounters_sends s fun _ => rfl

theorem countReversal_sends (u : UnitNo) (s : State) :
    Sends s (s.modUnitCounters u fun c => { c with reversals := c.reversals.bump }) := modUnitCounters_sends s fun _ => rfl

theorem countDrop_sends (s : State) : Sends s (countDrop s) :=
  Sends.upd s _ _ _ _ _ _ _ ⟨fun _ h => h, fun _ h => h, rfl, rfl, fun _ => rfl⟩

theorem reportGone_sends (e : TxEntry) (s : State) : Sends s (reportGone e s) := by
  unfold reportGone
  split
  · exact Sends.upd s _ _ _ _ _ _ _ ⟨fun _ h => h, fun _ h => h, rfl, rfl, fun _ => rfl⟩
  · exact Sends.refl s

theorem enqueue_sends (k : FrameKind) (p : List Byte) (s : State) : Sends s (enqueue k p s) := by
  unfold enqueue
  dsimp only
  split
  · exact setQueue_sends _ s
  · split
    · exact setQueue_sends _ s
    · split
      · exact countDrop_sends s
      · split
        · split
          · exact ((setQueue_sends _ s).trans (countDrop_sends _)).trans (reportGone_sends _ _)
          · exact (countDrop_sends s).trans (reportGone_sends _ _)
        · exact (countDrop_sends s).trans (reportGone_sends _ _)

/-- In a queue in class order an entry joins behind every entry of its kind (R47). -/
theorem insertByClass_filter (e : TxEntry) {q : List TxEntry} (h : q.Pairwise fun a b => a.kind.cls ≤ b.kind.cls) :
    ((insertByClass e q).filter fun x => x.kind == e.kind) = (q.filter fun x => x.kind == e.kind) ++ [e] := by
  induction q with
  | nil => simp [insertByClass]
  | cons x l ih =>
    rw [insertByClass]
    split
    · rw [List.filter_cons, List.filter_cons, ih (List.pairwise_cons.1 h).2]
      split <;> rfl
    · have none : ((x :: l).filter fun y => y.kind == e.kind) = [] := by
        refine List.filter_eq_nil_iff.2 fun y hy => ?_
        have : x.kind.cls ≤ y.kind.cls := by
          rcases List.mem_cons.1 hy with rfl | hy
          · exact le_rfl
          · exact (List.pairwise_cons.1 h).1 y hy
        have ne : y.kind ≠ e.kind := fun k => by rw [k] at this; omega
        simpa using ne
      rw [List.filter_cons, none]
      simp

theorem alert_sends (k : AlertKind) (u : Option UnitNo) (s : State) : Sends s (alert k u s) := enqueue_sends _ _ s

theorem sendHold_sends (a : Byte) (c : Nat) (s : State) : Sends s (sendHold a c s) := enqueue_sends _ _ s

theorem startPulse_sends (sev : Severity) (s : State) : Sends s (startPulse sev s) := by
  refine Sends.upd s _ _ _ _ _ _ _ ?_
  cases sev <;> exact ⟨fun _ h => h, fun _ h => h, rfl, rfl, fun _ => rfl⟩

theorem report_sends (k : FaultKind) (sev : Severity) (u : Option UnitNo) (s : State) : Sends s (report k sev u s) := by
  have key : Sends s (s.modFr fun r =>
      match r.slot sev with
      | none => r.setSlot sev (some ⟨k, u, s.seq, s.now⟩)
      | some _ => countKind k r) := by
    refine Sends.upd s _ _ _ _ _ _ _ ?_
    cases sev
    · cases h : s.fr.severe <;>
        simp only [FaultRecorder.slot, FaultRecorder.setSlot, h] <;>
        exact ⟨fun x hx => (by simp_all [countKind]), fun _ h => h, rfl, rfl, fun _ => rfl⟩
    · cases h : s.fr.minor <;>
        simp only [FaultRecorder.slot, FaultRecorder.setSlot, h] <;>
        exact ⟨fun x hx => hx, fun _ h => (by simp_all [countKind]), rfl, rfl, fun _ => rfl⟩
  unfold report
  dsimp only
  split
  · exact key.trans (startPulse_sends sev _)
  · exact key

theorem evalContact_sends (s : State) : Sends s (evalContact s) := Sends.upd s _ _ _ _ _ _ _ (FaultsKept.refl _)

theorem driveLines_sends (s : State) : Sends s (driveLines s) := Sends.upd s _ _ _ _ _ _ _ (FaultsKept.refl _)

theorem driveWarning_sends (s : State) : Sends s (driveWarning s) := Sends.upd s _ _ _ _ _ _ _ (FaultsKept.refl _)

theorem sendBeacon_sends (s : State) : Sends s (sendBeacon s) := by
  have h := enqueue_sends .beacon (beaconBytes s.summary) s
  exact h.trans (Sends.upd _ _ _ _ _ _ _ _ (FaultsKept.refl _))

theorem changeBeacon_sends (s : State) : Sends s (changeBeacon s) := by
  unfold changeBeacon
  split
  · split
    · exact sendBeacon_sends s
    · exact Sends.upd s _ _ _ _ _ _ _ (FaultsKept.refl _)
  · exact Sends.refl s

theorem finish_sends (s : State) : Sends s (finish s) := (driveLines_sends s).trans (changeBeacon_sends _)

/-! ### What follows for each field -/

section
variable {s t : State} (h : Sends s t)
include h

theorem Sends.acts : t.acts = s.acts := by simp [State.acts, h.supply, h.resetLow]
theorem Sends.unit (u : UnitNo) : t.unit u = s.unit u := by simp [State.unit, h.dc]
theorem Sends.configured (u : UnitNo) : t.configured u = s.configured u := by simp [State.configured, h.cl]

end

end Sys2Proof.Machine
end

