-- ==== Sys2Proof/Laws/Keeps.lean ====
section
/-! SUPPORT. The frame `Keeps`: reflexive, transitive, and one lemma for each shared operation that says what it leaves alone. -/

namespace Sys2Proof.Machine

/-! ### KeepsUnit and KeepsSensing -/

theorem KeepsUnit.refl (d : DoorChannel) : KeepsUnit d d := Or.inl rfl

theorem KeepsUnit.trans {a b c : DoorChannel} (h : KeepsUnit a b) (k : KeepsUnit b c) : KeepsUnit a c := by
  rcases h with rfl | ⟨h1, rfl⟩ | ⟨h1, h2, h3, h4, h5⟩
  · exact k
  · rcases k with rfl | ⟨_, rfl⟩ | ⟨k1, _⟩
    · exact Or.inr (Or.inl ⟨h1, rfl⟩)
    · exact Or.inr (Or.inl ⟨h1, rfl⟩)
    · simp [h1] at k1
  · rcases k with rfl | ⟨k1, rfl⟩ | ⟨k1, _⟩
    · exact Or.inr (Or.inr ⟨h1, h2, h3, h4, h5⟩)
    · simp [k1] at h2
    · rcases h2 with h2 | h2 | h2 <;> simp [h2] at k1

theorem KeepsSensing.refl (x : UnitSensing) : KeepsSensing x x := Or.inl rfl

theorem KeepsSensing.trans {a b c : UnitSensing} (h : KeepsSensing a b) (k : KeepsSensing b c) : KeepsSensing a c := by
  rcases h with rfl | ⟨h1, rfl⟩
  · exact k
  · rcases k with rfl | ⟨k1, rfl⟩
    · exact Or.inr ⟨h1, rfl⟩
    · simp at k1

/-! ### Keeps -/

theorem Leaves.refl (x : UnitNo → Bool) (s : State) : Leaves x s s := by
  constructor <;> first
    | rfl
    | exact Or.inl rfl
    | exact fun h => h
    | exact fun _ h => h
    | exact fun _ => rfl
    | exact fun _ _ => rfl
    | exact fun _ _ => KeepsSensing.refl _
    | exact fun _ _ => KeepsUnit.refl _
    | exact fun _ _ => Iff.rfl
    | exact fun h k => by simp [k] at h

theorem Keeps.refl (x : UnitNo → Bool) (s : State) : Keeps x s s := ⟨Leaves.refl x s, fun _ _ _ => rfl⟩

theorem Leaves.trans {x : UnitNo → Bool} {a b c : State} (h : Leaves x a b) (k : Leaves x b c) : Leaves x a c where
  supply := k.supply.trans h.supply
  resetLow := k.resetLow.trans h.resetLow
  cl := k.cl.trans h.cl
  freeCount := k.freeCount.trans h.freeCount
  pending := k.pending.trans h.pending
  errors := k.errors.trans h.errors
  line := k.line.trans h.line
  lineTimer := k.lineTimer.trans h.lineTimer
  slots := k.slots.trans h.slots
  notHeard := k.notHeard.trans h.notHeard
  identityConflict := k.identityConflict.trans h.identityConflict
  lastRefusal := k.lastRefusal.trans h.lastRefusal
  absenceTimer := k.absenceTimer.trans h.absenceTimer
  absenceOver := k.absenceOver.trans h.absenceOver
  record := by
    have h1 := h.record
    have k1 := k.record
    rw [← h1, ← k1]
  berthState := by
    rcases k.berthState with e | ⟨e, e'⟩
    · rw [e]; exact h.berthState
    · rcases h.berthState with f | ⟨f, f'⟩
      · refine Or.inr ⟨e, ?_⟩
        rw [f] at e'
        refine e'.imp_right fun ⟨g, g'⟩ => ⟨g, ?_⟩
        cases hs : a.iu.emergencyClose with
        | none => simp [h.noEmergencyClose hs] at g'
        | some _ => rfl
      · exact Or.inr ⟨e, f'⟩
  holdList := k.holdList.trans h.holdList
  noCycle := fun e => k.noCycle (h.noCycle e)
  cycleEnded := fun e n => by
    cases hb : b.bu.cycle with
    | some _ => exact k.cycleEnded (by simp [hb]) n
    | none => rcases k.berthState with f | f
              · exact f.trans (h.cycleEnded e hb)
              · exact f.1
  noDeparture := fun e => k.noDeparture (h.noDeparture e)
  align := by
    have h1 := h.align
    have k1 := k.align
    rw [← h1, ← k1]
  outcomes := fun v => (k.outcomes v).trans (h.outcomes v)
  runs := fun v e => (k.runs v e).trans (h.runs v e)
  wire := k.wire.trans h.wire
  sensing := fun v e => (h.sensing v e).trans (k.sensing v e)
  latch := k.latch.trans h.latch
  wireMark := k.wireMark.trans h.wireMark
  lineMark := k.lineMark.trans h.lineMark
  panelMarks := k.panelMarks.trans h.panelMarks
  accessLock := k.accessLock.trans h.accessLock
  accessMarks := fun v e => (k.accessMarks v e).trans (h.accessMarks v e)
  noEmergencyClose := fun e => k.noEmergencyClose (h.noEmergencyClose e)
  noAccessClose := fun e => k.noAccessClose (h.noAccessClose e)
  releases := fun n e => (k.releases n (by rw [h.cl]; exact e)).trans (h.releases n e)
  severe := fun r e => k.severe r (h.severe r e)
  minor := fun r e => k.minor r (h.minor r e)
  resetDue := k.resetDue.trans h.resetDue
  nodeCounters := by
    have h1 := h.nodeCounters
    have k1 := k.nodeCounters
    rw [← h1, ← k1]
  unitCounters := fun v e => by
    have h1 := h.unitCounters v e
    have k1 := k.unitCounters v e
    rw [← h1, ← k1]
  doors := fun v e => (h.doors v e).trans (k.doors v e)

/-- Where no close is under way, none is after. -/
theorem Leaves.noCloses {x : UnitNo → Bool} {s t : State} (h : Leaves x s t) (n : s.noCloses) : t.noCloses :=
  ⟨h.noCycle n.1, h.noDeparture n.2.1, h.noEmergencyClose n.2.2.1, h.noAccessClose n.2.2.2⟩

theorem Keeps.trans {x : UnitNo → Bool} {a b c : State} (h : Keeps x a b) (k : Keeps x b c) : Keeps x a c :=
  ⟨h.toLeaves.trans k.toLeaves, fun n v e => (k.still (h.noCloses n) v e).trans (h.still n v e)⟩

theorem Leaves.mono {x y : UnitNo → Bool} {s t : State} (h : Leaves x s t) (m : ∀ v, y v = false → x v = false) :
    Leaves y s t :=
  { h with
    runs := fun v e => h.runs v (m v e)
    sensing := fun v e => h.sensing v (m v e)
    accessMarks := fun v e => h.accessMarks v (m v e)
    unitCounters := fun v e => h.unitCounters v (m v e)
    doors := fun v e => h.doors v (m v e) }

theorem Keeps.mono {x y : UnitNo → Bool} {s t : State} (h : Keeps x s t) (m : ∀ v, y v = false → x v = false) : Keeps y s t :=
  ⟨h.toLeaves.mono m, fun n v e => h.still n v (m v e)⟩

theorem Keeps.weaken {x : UnitNo → Bool} {s t : State} (h : Keeps noUnit s t) : Keeps x s t := h.mono fun _ _ => rfl

/-- A frame that lets one unit act and finds that unit kept lets none act. -/
theorem Leaves.shrink {u : UnitNo} {s t : State} (h : Leaves (only u) s t) (r : t.ae.searches.get u = s.ae.searches.get u)
    (x : KeepsSensing (s.su.units.get u) (t.su.units.get u)) (m : t.iu.accessMarks.get u = s.iu.accessMarks.get u)
    (d : KeepsUnit (s.dc.get u) (t.dc.get u))
    (c : { t.fr.unitCounters.get u with
      reversals := (s.fr.unitCounters.get u).reversals
      requestIgnored := (s.fr.unitCounters.get u).requestIgnored } = s.fr.unitCounters.get u) : Leaves noUnit s t :=
  { h with
    runs := fun v _ => if e : u = v then e ▸ r else h.runs v (by simp [only, e])
    sensing := fun v _ => if e : u = v then e ▸ x else h.sensing v (by simp [only, e])
    accessMarks := fun v _ => if e : u = v then e ▸ m else h.accessMarks v (by simp [only, e])
    unitCounters := fun v _ => if e : u = v then e ▸ c else h.unitCounters v (by simp [only, e])
    doors := fun v _ => if e : u = v then e ▸ d else h.doors v (by simp [only, e]) }

/-- Such a frame that leaves the unit's channel as it was. -/
theorem Keeps.shrink {u : UnitNo} {s t : State} (h : Keeps (only u) s t) (r : t.ae.searches.get u = s.ae.searches.get u)
    (x : KeepsSensing (s.su.units.get u) (t.su.units.get u)) (m : t.iu.accessMarks.get u = s.iu.accessMarks.get u)
    (d : t.dc.get u = s.dc.get u)
    (c : { t.fr.unitCounters.get u with
      reversals := (s.fr.unitCounters.get u).reversals
      requestIgnored := (s.fr.unitCounters.get u).requestIgnored } = s.fr.unitCounters.get u) : Keeps noUnit s t :=
  ⟨h.toLeaves.shrink r x m (Or.inl d) c,
    fun n v _ => if e : u = v then e ▸ d else h.still n v (by simp [only, e])⟩

theorem Sends.keeps {s t : State} (h : Sends s t) (x : UnitNo → Bool) : Keeps x s t := by
  have hdc := h.dc; have hsu := h.su; have hbu := h.bu; have hae := h.ae; have hiu := h.iu
  exact
    { supply := h.supply, resetLow := h.resetLow, cl := h.cl, freeCount := h.freeCount, pending := h.pending
      errors := h.errors, line := h.line, lineTimer := h.lineTimer, slots := h.slots, notHeard := h.notHeard
      identityConflict := h.identityConflict, lastRefusal := h.lastRefusal, absenceTimer := h.absenceTimer
      absenceOver := h.absenceOver
      record := by rw [hbu], berthState := by rw [hbu]; exact Or.inl rfl, holdList := by rw [hbu]
      noCycle := by rw [hbu]; exact id, cycleEnded := by rw [hbu]; exact fun e n => by simp [n] at e
      noDeparture := by rw [hbu]; exact id
      align := by rw [hae], outcomes := by rw [hae]; exact fun _ => rfl, runs := by rw [hae]; exact fun _ _ => rfl
      wire := by rw [hsu], sensing := by rw [hsu]; exact fun _ _ => KeepsSensing.refl _
      latch := by rw [hiu], wireMark := by rw [hiu], lineMark := by rw [hiu], panelMarks := by rw [hiu]
      accessLock := by rw [hiu], accessMarks := by rw [hiu]; exact fun _ _ => rfl
      noEmergencyClose := by rw [hiu]; exact id, noAccessClose := by rw [hiu]; exact id
      releases := by rw [hiu]; exact fun _ _ => Iff.rfl
      severe := h.fr.severe, minor := h.fr.minor, resetDue := h.fr.resetDue
      nodeCounters := h.fr.nodeCounters, unitCounters := fun v _ => h.fr.unitCounters v
      doors := by rw [hdc]; exact fun _ _ => KeepsUnit.refl _, still := by rw [hdc]; exact fun _ _ _ => rfl }

/-! ### Ends -/

theorem Ends.refl (s : State) : Ends s s := ⟨Keeps.refl _ s, rfl, rfl⟩

theorem Ends.trans {a b c : State} (h : Ends a b) (k : Ends b c) : Ends a c :=
  ⟨h.1.trans k.1, k.2.1.trans h.2.1, k.2.2.trans h.2.2⟩

theorem Sends.ends {s t : State} (h : Sends s t) : Ends s t := ⟨h.keeps _, h.now, h.pins⟩

/-- The frame of an event's end but for its last clause: what a close request that is sent may do. -/
def EndsLoose (s t : State) : Prop := Leaves noUnit s t ∧ t.now = s.now ∧ t.pins = s.pins

theorem EndsLoose.trans {a b c : State} (h : EndsLoose a b) (k : EndsLoose b c) : EndsLoose a c :=
  ⟨h.1.trans k.1, k.2.1.trans h.2.1, k.2.2.trans h.2.2⟩

theorem Ends.loose {s t : State} (h : Ends s t) : EndsLoose s t := ⟨h.1.toLeaves, h.2⟩

/-- Where a close is under way that is all there is to say. -/
theorem EndsLoose.ends {s t : State} (h : EndsLoose s t) (n : ¬s.noCloses) : Ends s t := ⟨⟨h.1, fun m => absurd m n⟩, h.2⟩

/-- `Keeps` and, with it, node time and pins. -/
def Holds (x : UnitNo → Bool) (s t : State) : Prop := Keeps x s t ∧ t.now = s.now ∧ t.pins = s.pins

theorem Holds.refl (x : UnitNo → Bool) (s : State) : Holds x s s := ⟨Keeps.refl x s, rfl, rfl⟩

theorem Holds.trans {x : UnitNo → Bool} {a b c : State} (h : Holds x a b) (k : Holds x b c) : Holds x a c :=
  ⟨h.1.trans k.1, k.2.1.trans h.2.1, k.2.2.trans h.2.2⟩

theorem Ends.holds {x : UnitNo → Bool} {s t : State} (h : Ends s t) : Holds x s t := ⟨h.1.weaken, h.2⟩

theorem Sends.holds {s t : State} (h : Sends s t) (x : UnitNo → Bool) : Holds x s t := ⟨h.keeps x, h.now, h.pins⟩

end Sys2Proof.Machine
end

