-- ==== Sys2Proof/Laws/Units.lean ====
section
/-! SUPPORT. What the operations on one unit leave alone: its change of state with all that hangs on it, the entries to the states of
a Door Channel, and the requests. -/

namespace Sys2Proof.Machine

/-! ### Single updates -/

theorem only_false {u v : UnitNo} (h : only u v = false) : u ≠ v := by
  rintro rfl; simp [only] at h

theorem setDc_holds (u : UnitNo) (d : DoorChannel) (s : State) : Holds (only u) s (s.setDc u d) := by
  have k : ∀ v, only u v = false → (s.setDc u d).dc.get v = s.dc.get v := fun v h => by
    simp only [State.setDc_dc, Quad.get_set_ne _ _ (only_false h)]
  exact ⟨{ Keeps.refl (only u) s with doors := fun v h => Or.inl (k v h), still := fun _ => k }, rfl, rfl⟩

theorem setSu_holds (u : UnitNo) (x : UnitSensing) (s : State) : Holds (only u) s (s.setSu u x) := by
  refine ⟨{ Keeps.refl (only u) s with sensing := ?_ }, rfl, rfl⟩
  intro v h
  simp only [State.setSu_su, Quad.get_set_ne _ _ (only_false h)]
  exact KeepsSensing.refl _

theorem modSu_holds (u : UnitNo) (f : UnitSensing → UnitSensing) (s : State) : Holds (only u) s (s.modSu u f) :=
  setSu_holds u _ s

theorem modDc_holds (u : UnitNo) (f : DoorChannel → DoorChannel) (s : State) : Holds (only u) s (s.modDc u f) :=
  setDc_holds u _ s

theorem setCycle_holds {x : UnitNo → Bool} {c0 : CloseCycle} (c : CloseCycle) (s : State) (h : s.bu.cycle = some c0) :
    Holds x s (s.setCycle (some c)) :=
  ⟨{ Keeps.refl x s with noCycle := fun e => by simp [h] at e, cycleEnded := fun _ e => by simp at e }, rfl, rfl⟩

theorem setDeparture_holds {x : UnitNo → Bool} {d0 : DepartureClose} (d : Option DepartureClose) (s : State)
    (h : s.bu.departure = some d0) : Holds x s (s.setDeparture d) :=
  ⟨{ Keeps.refl x s with noDeparture := fun e => by simp [h] at e }, rfl, rfl⟩

theorem foldl_sendHold_sends (l : List OwnHold) (a : Byte) (s : State) :
    Sends s (l.foldl (fun s h => sendHold a h.car s) s) := by
  induction l generalizing s with
  | nil => exact Sends.refl s
  | cons h l ih => exact (sendHold_sends a h.car s).trans (ih _)

theorem zoneFreed_holds {x : UnitNo → Bool} (u : UnitNo) (s : State) : Holds x s (zoneFreed u s) := by
  unfold zoneFreed
  split
  · exact Holds.refl x s
  · next c h => exact (setCycle_holds _ s h).trans ((foldl_sendHold_sends _ _ _).holds x)

/-- A cycle ended: none is left, and frames are sent. -/
theorem endCycle_sends (b : Bool) (s : State) : Sends (s.setCycle none) (endCycle b s) := by
  unfold endCycle
  split
  · next h => exact (show s.setCycle none = s by rw [← h]; rfl) ▸ Sends.refl s
  · exact foldl_sendHold_sends _ _ _

theorem dropCovered_holds {x : UnitNo → Bool} (u : UnitNo) (s : State) : Holds x s (dropCovered u s) := by
  unfold dropCovered
  split
  · exact Holds.refl x s
  · next d h => exact setDeparture_holds _ s h

theorem dropAccessMember_holds {x : UnitNo → Bool} (u : UnitNo) (s : State) : Holds x s (dropAccessMember u s) := by
  unfold dropAccessMember
  split
  · exact Holds.refl x s
  · next a h => exact ⟨{ Keeps.refl x s with noAccessClose := fun e => by simp [h] at e }, rfl, rfl⟩

theorem clearAccess_holds (u : UnitNo) (s : State) : Holds (only u) s (clearAccess u s) := by
  unfold clearAccess
  split
  · refine Holds.trans ?_ (dropAccessMember_holds u _)
    refine ⟨{ Keeps.refl (only u) s with accessMarks := ?_ }, rfl, rfl⟩
    intro v h
    simp [Quad.get_set_ne _ _ (only_false h)]
  · exact Holds.refl _ s

theorem mem_insertNode (n m : Node) (l : List Node) : m ∈ insertNode n l ↔ m = n ∨ m ∈ l := by
  induction l with
  | nil => simp [insertNode]
  | cons a l ih =>
    unfold insertNode
    split
    · simp
    · split
      · next h => subst h; simp
      · simp only [List.mem_cons, ih]; tauto

theorem mem_eraseNode (n m : Node) (l : List Node) : m ∈ eraseNode n l ↔ m ≠ n ∧ m ∈ l := by
  simp [eraseNode, and_comm]

theorem syncOwnRelease_holds {x : UnitNo → Bool} (s : State) : Holds x s (syncOwnRelease s) := by
  refine ⟨{ Keeps.refl x s with releases := ?_ }, rfl, rfl⟩
  intro n h
  simp only [syncOwnRelease, State.modIu_iu]
  split
  · simp [mem_insertNode, h]
  · simp [mem_eraseNode, h]

/-- The own number's place in the Release Set, by the two conditions the model reads. -/
theorem ownReleaseFollows_iff (s : State) :
    OwnReleaseFollows s ↔ (s.cl.own ∈ s.iu.releaseSet ↔ s.strapOk = true ∧ s.ownReleased = true) := by
  have h : s.ownReleased = true ↔ ∃ u, s.unit u = .manualReleased ∨ s.unit u = .releaseRestored := by
    rw [State.ownReleased, UnitNo.all_any]
    exact exists_congr fun u => by cases s.unit u <;> simp [UnitState.released]
  rw [OwnReleaseFollows, h, State.strapOk]

/-- After it has followed the units, the own number stands where R173 has it. -/
theorem syncOwnRelease_follows (s : State) : OwnReleaseFollows (syncOwnRelease s) := by
  rw [ownReleaseFollows_iff]
  show s.cl.own ∈ (if (s.ownReleased && s.strapOk) = true then insertNode s.cl.own s.iu.releaseSet
    else eraseNode s.cl.own s.iu.releaseSet) ↔ s.strapOk = true ∧ s.ownReleased = true
  cases s.ownReleased <;> cases s.strapOk <;> simp [mem_insertNode, mem_eraseNode]

theorem emptyRun_holds (u : UnitNo) (s : State) : Holds (only u) s (emptyRun u s) := by
  refine ⟨{ Keeps.refl (only u) s with runs := ?_, outcomes := ?_ }, rfl, rfl⟩
  · intro v
    simp only [emptyRun, State.modAe_ae, Quad.get_set]
    split <;> simp_all
  · intro v h
    simp [emptyRun, Quad.get_set_ne _ _ (only_false h)]

theorem modUnitCounters_holds (u : UnitNo) (f : UnitCounters → UnitCounters) (s : State) :
    Holds (only u) s (s.modUnitCounters u f) := by
  refine ⟨{ Keeps.refl (only u) s with unitCounters := ?_ }, rfl, rfl⟩
  intro v h
  simp only [State.modUnitCounters_fr, Quad.get_set_ne _ _ (only_false h)]

/-! ### Gap alarms -/

theorem setAlarm_holds (u : UnitNo) (a : GapAlarm) (s : State) : Holds (only u) s (setAlarm u a s) := modSu_holds u _ s

theorem raiseTrap_holds (u : UnitNo) (s : State) : Holds (only u) s (raiseTrap u s) :=
  ((setAlarm_holds u .trap s).trans ((report_sends _ _ _ _).holds _)).trans ((alert_sends _ _ _).holds _)

theorem raiseIntrusion_holds (u : UnitNo) (s : State) : Holds (only u) s (raiseIntrusion u s) :=
  ((setAlarm_holds u .intrusion s).trans ((report_sends _ _ _ _).holds _)).trans ((alert_sends _ _ _).holds _)

theorem checkAlarm_holds (u : UnitNo) (s : State) : Holds (only u) s (checkAlarm u s) := by
  unfold checkAlarm
  split
  · split
    · exact raiseIntrusion_holds u s
    · exact raiseTrap_holds u s
  · exact Holds.refl _ s

/-- A unit's sensing after TRAP is raised. -/
theorem raiseTrap_sensing (u v : UnitNo) (s : State) :
    (raiseTrap u s).su.units.get v =
      if u = v then { s.su.units.get v with alarm := .trap } else s.su.units.get v := by
  have h : (raiseTrap u s).su = (setAlarm u .trap s).su :=
    ((alert_sends _ _ _).su.trans (report_sends _ _ _ _).su)
  rw [h]
  simp only [setAlarm, State.modSu_su, Quad.get_set]
  split
  · next e => subst e; rfl
  · rfl

theorem intrusionToTrap_ends (u : UnitNo) (s : State) : Ends s (intrusionToTrap u s) := by
  unfold intrusionToTrap
  split
  · next e =>
    have h := raiseTrap_holds u s
    have hd : (raiseTrap u s).dc = s.dc := (alert_sends _ _ _).dc.trans (report_sends _ _ _ _).dc
    have hi : (raiseTrap u s).iu = s.iu := (alert_sends _ _ _).iu.trans (report_sends _ _ _ _).iu
    have ha : (raiseTrap u s).ae = s.ae := (alert_sends _ _ _).ae.trans (report_sends _ _ _ _).ae
    have hc : FaultsKept s.fr (raiseTrap u s).fr :=
      (report_sends .trap .severe (some u) (setAlarm u .trap s)).fr.trans (alert_sends _ _ _).fr
    refine ⟨h.1.shrink (by rw [ha]) ?_ (by rw [hi]) (by rw [hd]) (hc.unitCounters u), h.2⟩
    rw [raiseTrap_sensing]
    simp only [if_pos]
    exact Or.inr ⟨by simpa using e, rfl⟩
  · exact Ends.refl s

/-- Four units' frames in a row. -/
theorem forUnits_ends {f : UnitNo → State → State} (h : ∀ u s, Ends s (f u s)) (s : State) : Ends s (forUnits f s) :=
  (((h .u0 s).trans (h .u1 _)).trans (h .u2 _)).trans (h .u3 _)

/-- A berth state set: the record's state, and what the change hands to the SU (R151). -/
theorem setBerthState_ends (b : BerthState) (s : State) :
    Ends (s.modBerth fun r => { r with state := b }) (setBerthState b s) := by
  unfold setBerthState
  dsimp only
  split
  · exact Ends.refl _
  · exact forUnits_ends intrusionToTrap_ends _

/-- A berth found in CLOSING, or in RELEASED with an emergency close, may end SECURED with its cycle. -/
theorem Ends.secure {s t : State} (b : Bool) (h : Ends s t)
    (c : s.berthState = .closing ∨ (s.berthState = .released ∧ s.iu.emergencyClose.isSome = true)) :
    Ends s (setBerthState .secured (endCycle b t)) := by
  have k : Ends s ((t.setCycle none).modBerth fun r => { r with state := .secured }) :=
    ⟨{ h.1 with
        record := h.1.record, berthState := Or.inr ⟨rfl, c⟩, noCycle := fun _ => rfl, cycleEnded := fun _ _ => rfl }, h.2⟩
  have f : Sends ((t.setCycle none).modBerth fun r => { r with state := .secured })
      ((endCycle b t).modBerth fun r => { r with state := .secured }) :=
    { endCycle_sends b t with bu := by simp [(endCycle_sends b t).bu] }
  exact (k.trans f.ends).trans (setBerthState_ends .secured _)

/-! ### A unit's change of state -/

theorem startSensing_holds (u : UnitNo) (s : State) : Holds (only u) s (startSensing u s) := modSu_holds u _ s

/-- What a start of sensing makes of each unit's sensing (R32, R154). -/
theorem startSensing_unit (u v : UnitNo) (s : State) :
    (startSensing u s).su.units.get v =
      if u = v then (s.su.units.get u).begun (s.pins.units.get u).edge s.now else s.su.units.get v := by
  simp only [startSensing, State.modSu_su, Quad.get_set]
  rfl

theorem zoneFreed_su (u : UnitNo) (s : State) : (zoneFreed u s).su = s.su := by
  unfold zoneFreed
  split
  · rfl
  · exact (foldl_sendHold_sends _ _ _).su

/-- What the entry to ISOLATED makes of each unit's sensing (R152, R154). -/
theorem restSensing_unit (u v : UnitNo) (s : State) :
    (restSensing u s).su.units.get v = if u = v then (s.su.units.get u).rested else s.su.units.get v := by
  have h : (restSensing u s).su.units = s.su.units.set u (s.su.units.get u).rested := by
    unfold restSensing
    dsimp only
    split
    · rw [zoneFreed_su]; rfl
    · rfl
  rw [h, Quad.get_set]

theorem restSensing_holds (u : UnitNo) (s : State) : Holds (only u) s (restSensing u s) := by
  unfold restSensing
  dsimp only
  split
  · exact (modSu_holds u _ s).trans (zoneFreed_holds u _)
  · exact modSu_holds u _ s

/-- A guarded operation. -/
theorem Holds.guard {x : UnitNo → Bool} {a b : State} {c : Prop} [Decidable c] {f : State → State} (h : Holds x a b)
    (k : ∀ s, Holds x s (f s)) : Holds x a (if c then f b else b) := by
  split
  · exact h.trans (k b)
  · exact h

theorem moveUnit_holds (u : UnitNo) (d : DoorChannel) (s : State) : Holds (only u) s (moveUnit u d s) :=
  ((((((setDc_holds u d s).guard (startSensing_holds u)).guard (restSensing_holds u)).guard (emptyRun_holds u)).guard
    (f := fun s => dropCovered u (clearAccess u s)) fun s =>
      (clearAccess_holds u s).trans (dropCovered_holds u _)).trans (syncOwnRelease_holds _)).trans (checkAlarm_holds u _)

end Sys2Proof.Machine
end

