-- ==== Sys2Proof/Laws/Requests.lean ====
section
/-! SUPPORT. The Door Channels after a unit's change of state, the entries to its states, the requests to it, and the settling that ends
an event. -/

namespace Sys2Proof.Machine

/-! ### Entering a state -/

@[simp] theorem DoorChannel.into_st (st : UnitState) (d : DoorChannel) : (d.into st).st = st := rfl
@[simp] theorem DoorChannel.into_position (st : UnitState) (d : DoorChannel) : (d.into st).position = d.position := rfl
@[simp] theorem DoorChannel.into_attempt (st : UnitState) (d : DoorChannel) : (d.into st).attempt = d.attempt := rfl
@[simp] theorem DoorChannel.into_target (st : UnitState) (d : DoorChannel) : (d.into st).target = d.target := rfl
@[simp] theorem DoorChannel.into_stallCount (st : UnitState) (d : DoorChannel) : (d.into st).stallCount = d.stallCount := rfl
@[simp] theorem DoorChannel.into_stallRef (st : UnitState) (d : DoorChannel) : (d.into st).stallRef = d.stallRef := rfl
@[simp] theorem DoorChannel.into_retries (st : UnitState) (d : DoorChannel) : (d.into st).retries = d.retries := rfl
@[simp] theorem DoorChannel.into_isolationMark (st : UnitState) (d : DoorChannel) : (d.into st).isolationMark = d.isolationMark := rfl
@[simp] theorem DoorChannel.into_overCount (st : UnitState) (d : DoorChannel) : (d.into st).overCount = d.overCount := rfl
@[simp] theorem DoorChannel.into_missed (st : UnitState) (d : DoorChannel) : (d.into st).missed = d.missed := rfl
@[simp] theorem DoorChannel.into_phase (st : UnitState) (d : DoorChannel) : (d.into st).phase = .hold := rfl
@[simp] theorem DoorChannel.into_pendingClose (st : UnitState) (d : DoorChannel) : (d.into st).pendingClose = false := rfl
@[simp] theorem DoorChannel.into_lockTimer (st : UnitState) (d : DoorChannel) : (d.into st).lockTimer = none := rfl
@[simp] theorem DoorChannel.into_travelTimer (st : UnitState) (d : DoorChannel) : (d.into st).travelTimer = none := rfl
@[simp] theorem DoorChannel.into_stallTimer (st : UnitState) (d : DoorChannel) : (d.into st).stallTimer = none := rfl
@[simp] theorem DoorChannel.into_pauseTimer (st : UnitState) (d : DoorChannel) : (d.into st).pauseTimer = none := rfl
@[simp] theorem DoorChannel.into_homingTimer (st : UnitState) (d : DoorChannel) : (d.into st).homingTimer = none := rfl
@[simp] theorem DoorChannel.into_enable (st : UnitState) (d : DoorChannel) : (d.into st).enable = st.driven := rfl
@[simp] theorem DoorChannel.into_solenoid (st : UnitState) (d : DoorChannel) : (d.into st).solenoid = st.energised := rfl
@[simp] theorem DoorChannel.into_setpoint (st : UnitState) (d : DoorChannel) : (d.into st).setpoint = 0 := rfl

/-! ### Door Channels -/

theorem foldl_sendHold_dc (l : List OwnHold) (a : Byte) (s : State) :
    (l.foldl (fun s h => sendHold a h.car s) s).dc = s.dc := by
  induction l generalizing s with
  | nil => rfl
  | cons h l ih => exact (ih _).trans (sendHold_sends a h.car s).dc

@[simp] theorem zoneFreed_dc (u : UnitNo) (s : State) : (zoneFreed u s).dc = s.dc := by
  unfold zoneFreed
  split
  · rfl
  · exact foldl_sendHold_dc _ _ _

@[simp] theorem endCycle_dc (b : Bool) (s : State) : (endCycle b s).dc = s.dc := by
  unfold endCycle
  split
  · rfl
  · exact foldl_sendHold_dc _ _ _

@[simp] theorem dropCovered_dc (u : UnitNo) (s : State) : (dropCovered u s).dc = s.dc := by
  unfold dropCovered; split <;> rfl

@[simp] theorem dropAccessMember_dc (u : UnitNo) (s : State) : (dropAccessMember u s).dc = s.dc := by
  unfold dropAccessMember; split <;> rfl

@[simp] theorem clearAccess_dc (u : UnitNo) (s : State) : (clearAccess u s).dc = s.dc := by
  unfold clearAccess; split <;> simp

@[simp] theorem syncOwnRelease_dc (s : State) : (syncOwnRelease s).dc = s.dc := rfl

@[simp] theorem emptyRun_dc (u : UnitNo) (s : State) : (emptyRun u s).dc = s.dc := rfl

@[simp] theorem startSensing_dc (u : UnitNo) (s : State) : (startSensing u s).dc = s.dc := rfl

@[simp] theorem restSensing_dc (u : UnitNo) (s : State) : (restSensing u s).dc = s.dc := by
  unfold restSensing; dsimp only; split <;> simp

@[simp] theorem raiseTrap_dc (u : UnitNo) (s : State) : (raiseTrap u s).dc = s.dc :=
  (alert_sends _ _ _).dc.trans (report_sends _ _ _ _).dc

@[simp] theorem raiseIntrusion_dc (u : UnitNo) (s : State) : (raiseIntrusion u s).dc = s.dc :=
  (alert_sends _ _ _).dc.trans (report_sends _ _ _ _).dc

@[simp] theorem checkAlarm_dc (u : UnitNo) (s : State) : (checkAlarm u s).dc = s.dc := by
  unfold checkAlarm; split
  · split <;> simp
  · rfl

@[simp] theorem intrusionToTrap_dc (u : UnitNo) (s : State) : (intrusionToTrap u s).dc = s.dc := by
  unfold intrusionToTrap; split <;> simp

@[simp] theorem setBerthState_dc (b : BerthState) (s : State) : (setBerthState b s).dc = s.dc := by
  unfold setBerthState; dsimp only; split <;> simp [forUnits]

/-- A unit's change of state gives it the channel it takes, and no other unit another. -/
@[simp] theorem moveUnit_dc (u : UnitNo) (d : DoorChannel) (s : State) : (moveUnit u d s).dc = s.dc.set u d := by
  unfold moveUnit
  dsimp only
  split <;> split <;> split <;> split <;> simp

@[simp] theorem moveUnit_unit (u : UnitNo) (d : DoorChannel) (s : State) : (moveUnit u d s).unit u = d.st := by
  simp [State.unit]

@[simp] theorem report_dc (k : FaultKind) (sev : Severity) (u : Option UnitNo) (s : State) : (report k sev u s).dc = s.dc :=
  (report_sends k sev u s).dc

/-- A unit that does not leave ISOLATED, for a state in which nothing hangs on it: the channel and the own Release Set entry. -/
theorem moveUnit_plain {u : UnitNo} {d : DoorChannel} {s : State} (h : s.unit u ≠ .isolated) (h1 : d.st.outOfHands = false) :
    moveUnit u d s = syncOwnRelease (s.setDc u d) := by
  have e1 : d.st ≠ .isolated := by rintro e; simp [e, UnitState.outOfHands] at h1
  have e2 : d.st ≠ .fault := by rintro e; simp [e, UnitState.outOfHands] at h1
  have e3 : d.st ≠ .closedLocked := by rintro e; simp [e, UnitState.outOfHands] at h1
  have e4 : (syncOwnRelease (s.setDc u d)).unit u = d.st := by simp [State.unit]
  unfold moveUnit
  simp only [beq_eq_false_iff_ne.mpr h, beq_eq_false_iff_ne.mpr e1, beq_eq_false_iff_ne.mpr e2, h1, Bool.false_and, Bool.and_false,
    Bool.or_false, Bool.false_eq_true, if_false]
  unfold checkAlarm
  simp only [e4, beq_eq_false_iff_ne.mpr e3, Bool.and_false, Bool.false_eq_true, if_false]

/-- Such a change of state leaves all but the channel it gives. -/
theorem moveUnit_ends {u : UnitNo} {d : DoorChannel} {s : State} (h : s.unit u ≠ .isolated) (h1 : d.st.outOfHands = false) :
    Ends (s.setDc u d) (moveUnit u d s) := by
  rw [moveUnit_plain h h1]
  exact syncOwnRelease_holds _

/-! ### Entries -/

theorem enterFault_holds (k : FaultKind) (u : UnitNo) (s : State) : Holds (only u) s (enterFault k u s) :=
  (moveUnit_holds u _ s).trans ((report_sends _ _ _ _).holds _)

theorem takeHeldDriveFault_holds (u : UnitNo) (s : State) : Holds (only u) s (takeHeldDriveFault u s) := by
  unfold takeHeldDriveFault
  split
  · exact enterFault_holds _ u s
  · exact Holds.refl _ s

theorem enterClosedLocked_holds (u : UnitNo) (s : State) : Holds (only u) s (enterClosedLocked u s) := moveUnit_holds u _ s

theorem enterUnlocking_holds (u : UnitNo) (s : State) : Holds (only u) s (enterUnlocking u s) :=
  (moveUnit_holds u _ s).trans (takeHeldDriveFault_holds u _)

theorem enterOpening_holds (u : UnitNo) (s : State) : Holds (only u) s (enterOpening u s) := moveUnit_holds u _ s

theorem standOpen_holds (u : UnitNo) (s : State) : Holds (only u) s (standOpen u s) := moveUnit_holds u _ s

theorem enterReopenWait_holds (u : UnitNo) (s : State) : Holds (only u) s (enterReopenWait u s) := moveUnit_holds u _ s

theorem enterHeldOpen_holds (u : UnitNo) (s : State) : Holds (only u) s (enterHeldOpen u s) :=
  (moveUnit_holds u _ s).trans ((report_sends _ _ _ _).holds _)

theorem reverseDone_holds (u : UnitNo) (s : State) : Holds (only u) s (reverseDone u s) := by
  unfold reverseDone
  split
  · exact enterReopenWait_holds u s
  · exact standOpen_holds u s

theorem enterReversing_holds (g : ReverseTarget) (u : UnitNo) (s : State) : Holds (only u) s (enterReversing g u s) := by
  unfold enterReversing
  exact (moveUnit_holds u _ s).guard (reverseDone_holds u)

theorem reverseOnObstacle_holds (u : UnitNo) (s : State) : Holds (only u) s (reverseOnObstacle u s) :=
  (modUnitCounters_holds u _ s).trans (enterReversing_holds _ u _)

theorem stopOnObstacle_holds (u : UnitNo) (s : State) : Holds (only u) s (stopOnObstacle u s) := by
  unfold stopOnObstacle
  dsimp only
  split
  · exact Holds.refl _ s
  · split
    · exact enterFault_holds _ u s
    · exact setDc_holds u _ s

theorem obstacle_holds (u : UnitNo) (s : State) : Holds (only u) s (obstacle u s) := by
  unfold obstacle
  split
  · exact reverseOnObstacle_holds u s
  · exact stopOnObstacle_holds u s
  · exact Holds.refl _ s

theorem enterClosing_holds (n : Nat) (u : UnitNo) (s : State) : Holds (only u) s (enterClosing n u s) := by
  unfold enterClosing
  exact (moveUnit_holds u _ s).guard (reverseOnObstacle_holds u)

theorem openingDone_holds (u : UnitNo) (s : State) : Holds (only u) s (openingDone u s) := by
  unfold openingDone
  exact ((standOpen_holds u s).trans (modUnitCounters_holds u _ _)).guard (enterClosing_holds 1 u)

theorem enterLocking_holds (u : UnitNo) (s : State) : Holds (only u) s (enterLocking u s) := moveUnit_holds u _ s

theorem enterHoming_holds (u : UnitNo) (s : State) : Holds (only u) s (enterHoming u s) :=
  (moveUnit_holds u _ s).trans (takeHeldDriveFault_holds u _)

theorem enterManualReleased_holds (u : UnitNo) (s : State) : Holds (only u) s (enterManualReleased u s) := moveUnit_holds u _ s

theorem enterReleaseRestored_holds (u : UnitNo) (s : State) : Holds (only u) s (enterReleaseRestored u s) :=
  moveUnit_holds u _ s

theorem enterIsolated_holds (m : Bool) (u : UnitNo) (s : State) : Holds (only u) s (enterIsolated m u s) := moveUnit_holds u _ s

/-! ### Requests -/

theorem openRequest_holds (u : UnitNo) (s : State) : Holds (only u) s (openRequest u s) := by
  unfold openRequest
  split
  · split
    · exact enterUnlocking_holds u s
    · exact (countIgnored_sends u s).holds _
  all_goals first
    | exact (countIgnored_sends u s).holds _
    | exact modDc_holds u _ s
    | exact Holds.refl _ s
    | exact enterReversing_holds _ u s
    | exact standOpen_holds u s

/-- A unit moving from standing open toward closed, its channel as given. -/
theorem setDc_closes {u : UnitNo} {d : DoorChannel} {s : State}
    (h : s.unit u = .opened ∨ s.unit u = .heldOpen ∨ s.unit u = .closing ∨ s.unit u = .reversing)
    (h1 : d.st = .closing ∨ d.st = .reversing ∨ d.st = .reopenWait) : moveUnit u d s = syncOwnRelease (s.setDc u d) := by
  apply moveUnit_plain
  · rcases h with h | h | h | h <;> simp [h]
  · rcases h1 with h1 | h1 | h1 <;> simp [h1, UnitState.outOfHands]

/-- What a move toward closed leaves of unit `u`. -/
structure Closes (u : UnitNo) (s t : State) : Prop where
  holds : Holds (only u) s t
  runs : t.ae.searches.get u = s.ae.searches.get u
  sensing : t.su.units.get u = s.su.units.get u
  mark : t.iu.accessMarks.get u = s.iu.accessMarks.get u
  st : t.unit u = .closing ∨ t.unit u = .reversing ∨ t.unit u = .reopenWait
  position : (t.dc.get u).position = (s.dc.get u).position
  isolation : (t.dc.get u).isolationMark = (s.dc.get u).isolationMark
  missed : (t.dc.get u).missed = (s.dc.get u).missed
  counters : { t.fr.unitCounters.get u with
    reversals := (s.fr.unitCounters.get u).reversals
    requestIgnored := (s.fr.unitCounters.get u).requestIgnored } = s.fr.unitCounters.get u

theorem Closes.ends {u : UnitNo} {s t : State} (h : Closes u s t) (o : s.unit u = .opened ∨ s.unit u = .heldOpen) :
    EndsLoose s t :=
  ⟨h.holds.1.toLeaves.shrink h.runs (h.sensing ▸ KeepsSensing.refl _) h.mark
      (Or.inr (Or.inr ⟨o, h.st, h.position, h.isolation, h.missed⟩)) h.counters, h.holds.2⟩

theorem Closes.trans {u : UnitNo} {a b c : State} (h : Closes u a b) (k : Closes u b c) : Closes u a c :=
  ⟨h.holds.trans k.holds, k.runs.trans h.runs, k.sensing.trans h.sensing, k.mark.trans h.mark, k.st,
    k.position.trans h.position, k.isolation.trans h.isolation, k.missed.trans h.missed,
    by have h1 := h.counters; have k1 := k.counters; rw [← h1, ← k1]⟩

theorem move_closes {u : UnitNo} {d : DoorChannel} {s : State}
    (h : s.unit u = .opened ∨ s.unit u = .heldOpen ∨ s.unit u = .closing ∨ s.unit u = .reversing)
    (h1 : d.st = .closing ∨ d.st = .reversing ∨ d.st = .reopenWait) (p : d.position = (s.dc.get u).position)
    (i : d.isolationMark = (s.dc.get u).isolationMark) (m : d.missed = (s.dc.get u).missed) : Closes u s (moveUnit u d s) where
  holds := moveUnit_holds u d s
  runs := by rw [setDc_closes h h1]; rfl
  sensing := by rw [setDc_closes h h1]; rfl
  mark := by rw [setDc_closes h h1]; rfl
  st := by simpa using h1
  position := by simpa using p
  isolation := by simpa using i
  missed := by simpa using m
  counters := by rw [setDc_closes h h1]; rfl

theorem Closes.guard {u : UnitNo} {a b : State} {c : Prop} [Decidable c] {f : State → State} (h : Closes u a b)
    (k : Closes u b (f b)) : Closes u a (if c then f b else b) := by
  split
  · exact h.trans k
  · exact h

theorem reverseDone_closes {u : UnitNo} {s : State} (h : s.unit u = .reversing) (g : (s.dc.get u).target = .reopenWait) :
    Closes u s (reverseDone u s) := by
  unfold reverseDone
  simp only [g]
  exact move_closes (by simp [h]) (by simp) rfl rfl rfl

theorem enterReversing_closes {u : UnitNo} {s : State} (h : s.unit u = .closing) :
    Closes u s (enterReversing .reopenWait u s) :=
  Closes.guard (move_closes (by simp [h]) (by simp) rfl rfl rfl) (reverseDone_closes (by simp) (by simp))

theorem Sends.closes {u : UnitNo} {s t : State} (h : Sends s t)
    (st : s.unit u = .closing ∨ s.unit u = .reversing ∨ s.unit u = .reopenWait) : Closes u s t :=
  ⟨h.holds _, by rw [h.ae], by rw [h.su], by rw [h.iu], by rw [h.unit]; exact st, by rw [h.dc], by rw [h.dc], by rw [h.dc],
    h.fr.unitCounters u⟩

theorem reverseOnObstacle_closes {u : UnitNo} {s : State} (h : s.unit u = .closing) :
    Closes u s (reverseOnObstacle u s) :=
  ((countReversal_sends u s).closes (by simp [h])).trans
    (enterReversing_closes (by rw [(countReversal_sends u s).unit]; exact h))

theorem enterClosing_closes {n : Nat} {u : UnitNo} {s : State} (h : s.unit u = .opened ∨ s.unit u = .heldOpen) :
    Closes u s (enterClosing n u s) :=
  Closes.guard (move_closes (by rcases h with h | h <;> simp [h]) (by simp) rfl rfl rfl)
    (reverseOnObstacle_closes (by simp))

/-- A close request moves a unit standing open, marks one in OPENING, and otherwise counts at most (R120). -/
theorem closeRequest_loose (u : UnitNo) (s : State) : EndsLoose s (closeRequest u s) := by
  unfold closeRequest
  split
  all_goals first
    | exact (countIgnored_sends u s).ends.loose
    | exact (Ends.refl s).loose
    | skip
  · next h =>
    refine ⟨(modDc_holds u _ s).1.toLeaves.shrink rfl (KeepsSensing.refl _) rfl ?_ rfl, rfl, rfl⟩
    simp only [State.modDc_dc, Quad.get_set_self]
    exact Or.inr (Or.inl ⟨h, rfl⟩)
  · next h => exact (enterClosing_closes (Or.inl h)).ends (Or.inl h)
  · next h => exact (enterClosing_closes (Or.inr h)).ends (Or.inr h)

theorem berthCloseRequest_loose (u : UnitNo) (s : State) : EndsLoose s (berthCloseRequest u s) := by
  unfold berthCloseRequest
  split
  · exact (Ends.refl s).loose
  · exact closeRequest_loose u s

/-! ### The closes -/

theorem judgeMember_ends (u : UnitNo) (s : State) : Ends s (judgeMember u s) := by
  unfold judgeMember
  split
  · exact Ends.refl s
  · next c hc =>
    split
    · exact Ends.refl s
    · split
      · exact ((Ends.loose (setCycle_holds (x := noUnit) _ s hc)).trans (berthCloseRequest_loose u _)).ends
          fun n => by simp [n.1] at hc
      · exact Ends.refl s

theorem judgeCovered_ends (u : UnitNo) (s : State) : Ends s (judgeCovered u s) := by
  unfold judgeCovered
  split
  · exact Ends.refl s
  · next d hd =>
    split
    · exact ((Ends.loose (dropCovered_holds (x := noUnit) u s)).trans (berthCloseRequest_loose u _)).ends
        fun n => by simp [n.2.1] at hd
    · exact Ends.refl s

theorem judgeEmergencyMember_ends (u : UnitNo) (s : State) : Ends s (judgeEmergencyMember u s) := by
  unfold judgeEmergencyMember
  split
  · exact Ends.refl s
  · next e he =>
    split
    · split
      · refine EndsLoose.ends (EndsLoose.trans ?_ (closeRequest_loose u _)) fun n => by simp [n.2.2.1] at he
        exact ⟨{ Leaves.refl noUnit s with noEmergencyClose := fun h => by simp [he] at h }, rfl, rfl⟩
      · exact Ends.refl s
    · exact Ends.refl s

theorem judgeAccessMember_ends (u : UnitNo) (s : State) : Ends s (judgeAccessMember u s) := by
  unfold judgeAccessMember
  split
  · exact Ends.refl s
  · next a ha =>
    split
    · exact Ends.refl s
    · split
      · exact ((Ends.loose (dropAccessMember_holds (x := noUnit) u s)).trans (closeRequest_loose u _)).ends
          fun n => by simp [n.2.2.2] at ha
      · exact Ends.refl s

theorem completeCycle_ends (s : State) : Ends s (completeCycle s) := by
  unfold completeCycle
  split
  · exact Ends.refl s
  · split
    · next h =>
      exact Ends.secure true (Ends.refl s) (Or.inl (beq_iff_eq.mp (Bool.and_eq_true_iff.mp h).1))
    · exact Ends.refl s

theorem completeEmergency_ends (s : State) : Ends s (completeEmergency s) := by
  unfold completeEmergency
  split
  · exact Ends.refl s
  · next e he =>
    split
    · have k : Ends s (s.modIu fun i => { i with emergencyClose := none }) :=
        ⟨{ Keeps.refl noUnit s with noEmergencyClose := fun _ => rfl }, rfl, rfl⟩
      unfold emergencyNotice
      split
      · next h => exact Ends.secure true k (Or.inr ⟨h, by simp [he]⟩)
      · next h => exact Ends.secure true k (Or.inl h)
      · exact k
    · exact Ends.refl s

theorem settleCloses_ends (s : State) : Ends s (settleCloses s) :=
  (((((forUnits_ends judgeMember_ends s).trans (forUnits_ends judgeCovered_ends _)).trans
    (forUnits_ends judgeEmergencyMember_ends _)).trans (forUnits_ends judgeAccessMember_ends _)).trans
      (completeCycle_ends _)).trans (completeEmergency_ends _)

/-- What the end of an event can do. -/
theorem settle_ends (s0 s : State) : Ends s (settle s0 s) := by
  unfold settle
  dsimp only
  refine Ends.trans ?_ (finish_sends _).ends
  refine Ends.trans ?_ (driveWarning_sends _).ends
  split
  · exact settleCloses_ends s
  · exact (settleCloses_ends s).trans (evalContact_sends _).ends

theorem comeClosed_holds (u : UnitNo) (s : State) : Holds (only u) s (comeClosed u s) := by
  unfold comeClosed
  exact (enterClosedLocked_holds u s).guard (f := fun s => openRequest u (settleCloses s)) fun s =>
    (settleCloses_ends s).holds.trans (openRequest_holds u _)

end Sys2Proof.Machine
end

