-- ==== Sys2Proof/Laws/Loads.lean ====
section
/-! SUPPORT. What the end of a load can do. -/

namespace Sys2Proof.Machine

theorem Holds.any {x : UnitNo → Bool} {s t : State} (h : Holds x s t) : Holds anyUnit s t :=
  ⟨h.1.mono fun _ e => by simp [anyUnit] at e, h.2⟩

theorem forUnits_any {f : UnitNo → State → State} (h : ∀ u s, Holds anyUnit s (f u s)) (s : State) :
    Holds anyUnit s (forUnits f s) :=
  (((h .u0 s).trans (h .u1 _)).trans (h .u2 _)).trans (h .u3 _)

theorem startUnitSensing_any (u : UnitNo) (s : State) : Holds anyUnit s (startUnitSensing u s) := by
  unfold startUnitSensing
  split
  · exact ((startSensing_holds u s).trans (modSu_holds u _ _)).any
  · exact Holds.refl _ s

theorem startUnit_any (u : UnitNo) (s : State) : Holds anyUnit s (startUnit u s) := by
  unfold startUnit
  split
  · exact (moveUnit_holds u _ s).any
  · exact (modDc_holds u _ s).any

theorem reportLoad_sends (o : LoadOutcome) (s : State) : Sends s (reportLoad o s) := by
  unfold reportLoad
  split
  · split
    · exact report_sends _ _ _ _
    · exact Sends.refl s
  · exact report_sends _ _ _ _
  · exact report_sends _ _ _ _

/-- A handle capture taken as an operation touches the unit's count, the Fault Recorder and the queue. -/
theorem noteHandle_any (u : UnitNo) (s : State) : Holds anyUnit s (noteHandle u s) :=
  (((modUnitCounters_holds u _ s).trans ((report_sends _ _ _ _).holds _)).trans ((alert_sends _ _ _).holds _)).any

/-- A panel operation: the mark is set, and all else is a report and an ALERT. -/
theorem notePanel_sends (u : UnitNo) (s : State) :
    Sends (s.modIu fun i => { i with panelMarks := i.panelMarks.set u true }) (notePanel u s) :=
  (report_sends _ _ _ _).trans (alert_sends _ _ _)

/-- What the taking of captures keeps of the node. -/
theorem takeCaptures_keeps (u : UnitNo) (s : State) :
    Holds anyUnit { s with iu := { s.iu with panelMarks := (takeCaptures u s).iu.panelMarks } } (takeCaptures u s) ∧
      (takeCaptures u s).dc = s.dc := by
  unfold takeCaptures
  split
  · dsimp only
    have h1 : Holds anyUnit s (if (s.su.units.get u).handle.held then noteHandle u s else s) ∧
        (if (s.su.units.get u).handle.held then noteHandle u s else s).dc = s.dc := by
      split
      · exact ⟨noteHandle_any u s, (alert_sends _ _ _).dc.trans (report_sends _ _ _ _).dc⟩
      · exact ⟨Holds.refl _ s, rfl⟩
    revert h1
    generalize (if (s.su.units.get u).handle.held = true then noteHandle u s else s) = s1
    rintro ⟨h1, hd⟩
    split
    · have h2 := notePanel_sends u s1
      have hp : (notePanel u s1).iu.panelMarks = s1.iu.panelMarks.set u true := by rw [h2.iu]; rfl
      refine ⟨?_, h2.dc.trans hd⟩
      refine Holds.trans ?_ (h2.holds anyUnit)
      rw [hp]
      exact ⟨{ h1.1 with panelMarks := rfl }, h1.2⟩
    · exact ⟨⟨{ h1.1 with panelMarks := rfl }, h1.2⟩, hd⟩
  · exact ⟨Holds.refl _ s, rfl⟩

/-- The state with its panel-open marks as given. -/
def withPanels (p : Quad Bool) (s : State) : State := s.modIu fun i => { i with panelMarks := p }

theorem Holds.withPanels {x : UnitNo → Bool} {a b : State} (h : Holds x a b) (p : Quad Bool) :
    Holds x (Machine.withPanels p a) (Machine.withPanels p b) :=
  ⟨{ h.1 with panelMarks := rfl }, h.2⟩

theorem takeCaptures_panels (u : UnitNo) (s : State) :
    Holds anyUnit (withPanels (takeCaptures u s).iu.panelMarks s) (takeCaptures u s) := (takeCaptures_keeps u s).1

theorem withPanels_self (s : State) : withPanels s.iu.panelMarks s = s := rfl

theorem withPanels_withPanels (p q : Quad Bool) (s : State) : withPanels p (withPanels q s) = withPanels p s := rfl

/-- One more taking of captures. -/
theorem captures_step {a b : State} (u : UnitNo) (h : Holds anyUnit (withPanels b.iu.panelMarks a) b) :
    Holds anyUnit (withPanels (takeCaptures u b).iu.panelMarks a) (takeCaptures u b) := by
  have k := h.withPanels (takeCaptures u b).iu.panelMarks
  rw [withPanels_withPanels] at k
  exact k.trans (takeCaptures_panels u b)

/-- What the four takings of captures keep of the node. -/
theorem forCaptures_panels (s : State) :
    Holds anyUnit (withPanels (forUnits takeCaptures s).iu.panelMarks s) (forUnits takeCaptures s) :=
  captures_step .u3 (captures_step .u2 (captures_step .u1 (captures_step (a := s) (b := s) .u0 (Holds.refl _ s))))

theorem forCaptures_dc (s : State) : (forUnits takeCaptures s).dc = s.dc :=
  (takeCaptures_keeps _ _).2.trans ((takeCaptures_keeps _ _).2.trans ((takeCaptures_keeps _ _).2.trans (takeCaptures_keeps _ _).2))

/-- The load ended in the CL and the wire's cell started, before the units start. -/
def loadEnded (o : LoadOutcome) (c : NodeConfig) (s : State) : State :=
  let s := reportLoad o (s.modCl fun l => l.ended o c (s.timer 600))
  { s with su := { s.su with wire := freshCell s.pins.wire 50 s } }

theorem endLoad_eq (o : LoadOutcome) (c : NodeConfig) (s : State) :
    endLoad o c s =
      driveLines (forUnits takeCaptures (forUnits startUnit (forUnits startUnitSensing (loadEnded o c s)))) := rfl

theorem loadEnded_holds (o : LoadOutcome) (c : NodeConfig) (s : State) :
    Holds anyUnit
      { s with cl := s.cl.ended o c (s.timer 600), su := { s.su with wire := (loadEnded o c s).su.wire } } (loadEnded o c s) := by
  have h := (reportLoad_sends o (s.modCl fun l => l.ended o c (s.timer 600))).holds anyUnit
  exact ⟨{ h.1 with wire := rfl }, h.2⟩

/-- What a load end does and what it leaves: the CL ends the load, the configured units take their start states, sensing starts,
and nothing but units, sensing, panel-open marks, reports and outputs changes. -/
theorem endLoad_keeps (o : LoadOutcome) (c : NodeConfig) (s : State) :
    Holds anyUnit
      (withPanels (endLoad o c s).iu.panelMarks
        { s with cl := s.cl.ended o c (s.timer 600), su := { s.su with wire := (endLoad o c s).su.wire } })
      (endLoad o c s) := by
  rw [endLoad_eq]
  have h1 := loadEnded_holds o c s
  generalize loadEnded o c s = s2 at h1
  have h2 := (forUnits_any startUnitSensing_any s2).trans (forUnits_any startUnit_any _)
  generalize forUnits startUnit (forUnits startUnitSensing s2) = s3 at h2
  have h3 := forCaptures_panels s3
  generalize forUnits takeCaptures s3 = s4 at h3
  have h4 := (driveLines_sends s4).holds anyUnit
  generalize driveLines s4 = s5 at h4
  have w : s5.su.wire = s2.su.wire := h4.1.wire.trans (h3.1.wire.trans h2.1.wire)
  rw [h4.1.panelMarks, w]
  exact (((h1.trans h2).withPanels s4.iu.panelMarks).trans h3).trans h4

/-- What follows the load's report: nothing that a filled Fault Capture slot or the CL would show. -/
theorem endLoad_after (o : LoadOutcome) (c : NodeConfig) (s : State) :
    Holds anyUnit (withPanels (endLoad o c s).iu.panelMarks (loadEnded o c s)) (endLoad o c s) := by
  rw [endLoad_eq]
  generalize loadEnded o c s = s2
  have h2 := (forUnits_any startUnitSensing_any s2).trans (forUnits_any startUnit_any _)
  generalize forUnits startUnit (forUnits startUnitSensing s2) = s3 at h2
  have h3 := forCaptures_panels s3
  generalize forUnits takeCaptures s3 = s4 at h3
  have h4 := (driveLines_sends s4).holds anyUnit
  generalize driveLines s4 = s5 at h4
  rw [h4.1.panelMarks]
  exact ((h2.withPanels s4.iu.panelMarks).trans h3).trans h4

theorem endLoad_cl (o : LoadOutcome) (c : NodeConfig) (s : State) : (endLoad o c s).cl = s.cl.ended o c (s.timer 600) :=
  (endLoad_keeps o c s).1.cl

/-- A report leaves its slot filled. -/
theorem report_fills (k : FaultKind) (sev : Severity) (u : Option UnitNo) (s : State) :
    ((report k sev u s).fr.slot sev).isSome = true := by
  unfold report
  dsimp only
  cases sev <;> simp only [FaultRecorder.slot]
  · split <;> simp only [startPulse, State.modFr_fr] <;> cases h : s.fr.severe <;> simp [FaultRecorder.setSlot, countKind, h]
  · split <;> simp only [startPulse, State.modFr_fr] <;> cases h : s.fr.minor <;> simp [FaultRecorder.setSlot, countKind, h]

end Sys2Proof.Machine
end

