-- ==== Sys2Proof/Laws/Peers.lean ====
section
/-! SUPPORT. What the test of NOT_HEARD and a neighbour's naming do to NOT_HEARD (R64, R65). -/

namespace Sys2Proof.Machine

/-- The model's condition of NOT_HEARD is R65's. -/
theorem unheard_iff (s : State) : s.unheard = true ↔ Unheard s := by
  simp [State.unheard, Unheard, imp_iff_not_or]

/-- The test sets NOT_HEARD and reports it, where it is clear and its condition holds, and otherwise changes nothing (R65). -/
theorem testNotHeard_cases (s : State) :
    (s.pm.notHeard = false ∧ Unheard s ∧
        testNotHeard s = report .notHeard .minor none (s.modPm fun p => { p with notHeard := true })) ∨
      ((s.pm.notHeard = true ∨ ¬Unheard s) ∧ testNotHeard s = s) := by
  unfold testNotHeard
  rw [← unheard_iff]
  cases s.pm.notHeard <;> cases s.unheard <;> simp

/-- After the test NOT_HEARD is set where it was or its condition holds (R65). -/
theorem testNotHeard_notHeard (s : State) : (testNotHeard s).pm.notHeard = true ↔ s.pm.notHeard = true ∨ Unheard s := by
  rcases testNotHeard_cases s with ⟨clear, met, e⟩ | ⟨stands, e⟩
  · rw [e, (report_sends _ _ _ _).notHeard]
    simp [met]
  · rw [e]
    tauto

/-- The slot of a neighbour's sender once its naming is taken (R64). -/
def withNaming (src : Node) (b : Beacon) (s : State) : State :=
  s.setSlot src { s.slot src with naming := nextNaming (s.slot src).naming (namesOwn b s.cl.own) }

/-- What a beacon's naming can do: nothing unless a configured neighbour sent it; and then its run moves, and NOT_HEARD is cleared by one
that does not name this node where it was set, and tested at any other (R64, R65, log entry 31). -/
theorem takeNaming_cases (src : Node) (b : Beacon) (s : State) :
    (src ∉ s.neighbours ∧ takeNaming src b s = s) ∨
      (src ∈ s.neighbours ∧ s.pm.notHeard = true ∧ namesOwn b s.cl.own = false ∧
        takeNaming src b s = (withNaming src b s).modPm fun p => { p with notHeard := false }) ∨
      (src ∈ s.neighbours ∧ (s.pm.notHeard = false ∨ namesOwn b s.cl.own = true) ∧
        takeNaming src b s = testNotHeard (withNaming src b s)) := by
  have same : (withNaming src b s).pm.notHeard = s.pm.notHeard := rfl
  by_cases h : src ∈ s.neighbours
  · have e : takeNaming src b s =
        if (withNaming src b s).pm.notHeard && !namesOwn b s.cl.own then (withNaming src b s).modPm fun p => { p with notHeard := false }
        else testNotHeard (withNaming src b s) := by
      simp only [takeNaming, List.contains_iff_mem, h, if_true]
      rfl
    rw [e, same]
    cases s.pm.notHeard <;> cases namesOwn b s.cl.own <;> simp [h]
  · exact .inl ⟨h, by simp only [takeNaming, List.contains_iff_mem, h, if_false]⟩

end Sys2Proof.Machine
end

