-- ==== Sys2Proof/Laws/PerInstr.lean ====
section
/-! SUPPORT. A law of every command as syntax: the frame it stands for, if it is one, has a payload of a length its kind allows
(section 3.6; an ANSWER's data are as long as the command says). -/

namespace Sys2Proof.Laws

open Sys2Proof.Machine

/-- The payload of the command's frame has a length the table gives for its kind; an ANSWER's is at the command's choice. -/
def Command.Statement (i : Sys2Proof.Instr) : Prop :=
  ∀ f, frameOf i = some f → f.kind = .answer ∨ f.kind.lengthOk f.payload.length = true

/-- A command that is no frame. -/
theorem Command.of_none {i : Sys2Proof.Instr} (h : frameOf i = none) : Command.Statement i := by
  intro f e
  rw [h] at e
  cases e

/-- A command that is a frame. -/
theorem Command.of_some {i : Sys2Proof.Instr} {f : Frame} (h : frameOf i = some f)
    (k : f.kind = .answer ∨ f.kind.lengthOk f.payload.length = true) : Command.Statement i := by
  intro g e
  rw [h] at e
  cases e
  exact k

theorem Command.powerOnReset (straps : BitVec 6) : Command.Statement (.powerOnReset straps) :=
  Command.of_none rfl

theorem Command.supplyFall : Command.Statement .supplyFall :=
  Command.of_none rfl

theorem Command.resetPinLow : Command.Statement .resetPinLow :=
  Command.of_none rfl

theorem Command.resetPinRelease (straps : BitVec 6) : Command.Statement (.resetPinRelease straps) :=
  Command.of_none rfl

theorem Command.configReadPassComplete (bytes : List Byte) : Command.Statement (.configReadPassComplete bytes) :=
  Command.of_none rfl

theorem Command.configReadFail : Command.Statement .configReadFail :=
  Command.of_none rfl

theorem Command.listenExpiry : Command.Statement .listenExpiry :=
  Command.of_none rfl

theorem Command.quietPeriodEnd : Command.Statement .quietPeriodEnd :=
  Command.of_none rfl

theorem Command.attemptStart : Command.Statement .attemptStart :=
  Command.of_none rfl

theorem Command.sentInFull : Command.Statement .sentInFull :=
  Command.of_none rfl

theorem Command.arbitrationLost : Command.Statement .arbitrationLost :=
  Command.of_none rfl

theorem Command.transmitError : Command.Statement .transmitError :=
  Command.of_none rfl

theorem Command.lineQuietExpiry : Command.Statement .lineQuietExpiry :=
  Command.of_none rfl

theorem Command.discardedFrame (heard : List Byte) (framing : Bool) : Command.Statement (.discardedFrame heard framing) :=
  Command.of_none rfl

theorem Command.stationEmergencyOpen (src : Node) : Command.Statement (.stationEmergencyOpen src) :=
  Command.of_some rfl (Or.inr rfl)

theorem Command.stationEmergencyReset (src : Node) : Command.Statement (.stationEmergencyReset src) :=
  Command.of_some rfl (Or.inr rfl)

theorem Command.alertHandle (src : Node) (unit seq : Byte) : Command.Statement (.alertHandle src unit seq) :=
  Command.of_some rfl (Or.inr rfl)

theorem Command.alert (src : Node) (kind unit seq : Byte) : Command.Statement (.alert src kind unit seq) :=
  Command.of_some rfl (Or.inr rfl)

theorem Command.berth (src : Node) (seq consist : Byte) (s0 : BitVec 24) (d1 d2 d3 : Byte) : Command.Statement (.berth src seq consist s0 d1 d2 d3) :=
  Command.of_some rfl (Or.inr rfl)

theorem Command.berthExt (src : Node) (seq d1 d2 d3 d4 d5 d6 d7 : Byte) : Command.Statement (.berthExt src seq d1 d2 d3 d4 d5 d6 d7) :=
  Command.of_some rfl (Or.inr rfl)

theorem Command.standstill (src : Node) (seq : Byte) : Command.Statement (.standstill src seq) :=
  Command.of_some rfl (Or.inr rfl)

theorem Command.release (src : Node) (seq : Byte) : Command.Statement (.release src seq) :=
  Command.of_some rfl (Or.inr rfl)

theorem Command.close (src : Node) (seq : Byte) : Command.Statement (.close src seq) :=
  Command.of_some rfl (Or.inr rfl)

theorem Command.reopen (src : Node) (seq : Byte) : Command.Statement (.reopen src seq) :=
  Command.of_some rfl (Or.inr rfl)

theorem Command.depart (src : Node) (seq : Byte) : Command.Statement (.depart src seq) :=
  Command.of_some rfl (Or.inr rfl)

theorem Command.holdStart (src : Node) (seq car : Byte) : Command.Statement (.holdStart src seq car) :=
  Command.of_some rfl (Or.inr rfl)

theorem Command.holdEnd (src : Node) (seq car : Byte) : Command.Statement (.holdEnd src seq car) :=
  Command.of_some rfl (Or.inr rfl)

theorem Command.edge (src : Node) (seq : Byte) (unit quality : BitVec 4) (door : Byte) (stop : BitVec 24) : Command.Statement (.edge src seq unit quality door stop) :=
  Command.of_some rfl (Or.inr rfl)

theorem Command.beacon (src : Node) (content : Beacon) : Command.Statement (.beacon src content) :=
  Command.of_some rfl (Or.inr rfl)

theorem Command.result (src : Node) (requester sub arg outcome code : Byte) : Command.Statement (.result src requester sub arg outcome code) :=
  Command.of_some rfl (Or.inr rfl)

theorem Command.answer (src : Node) (requester topic arg : Byte) (part count : BitVec 4) (data : List Byte) : Command.Statement (.answer src requester topic arg part count data) :=
  Command.of_some rfl (Or.inl rfl)

theorem Command.isolate (src : Node) (dest arg : Byte) : Command.Statement (.isolate src dest arg) :=
  Command.of_some rfl (Or.inr rfl)

theorem Command.restore (src : Node) (dest arg : Byte) : Command.Statement (.restore src dest arg) :=
  Command.of_some rfl (Or.inr rfl)

theorem Command.rehome (src : Node) (dest arg : Byte) : Command.Statement (.rehome src dest arg) :=
  Command.of_some rfl (Or.inr rfl)

theorem Command.ackFault (src : Node) (dest arg : Byte) : Command.Statement (.ackFault src dest arg) :=
  Command.of_some rfl (Or.inr rfl)

theorem Command.ackRelease (src : Node) (dest arg : Byte) : Command.Statement (.ackRelease src dest arg) :=
  Command.of_some rfl (Or.inr rfl)

theorem Command.accessOpen (src : Node) (dest arg : Byte) : Command.Statement (.accessOpen src dest arg) :=
  Command.of_some rfl (Or.inr rfl)

theorem Command.accessClose (src : Node) (dest arg : Byte) : Command.Statement (.accessClose src dest arg) :=
  Command.of_some rfl (Or.inr rfl)

theorem Command.accessLock (src : Node) (dest arg : Byte) : Command.Statement (.accessLock src dest arg) :=
  Command.of_some rfl (Or.inr rfl)

theorem Command.resetNode (src : Node) (dest arg : Byte) : Command.Statement (.resetNode src dest arg) :=
  Command.of_some rfl (Or.inr rfl)

theorem Command.commandedReset (straps : BitVec 6) : Command.Statement (.commandedReset straps) :=
  Command.of_none rfl

theorem Command.queryFaults (src : Node) (dest arg clear : Byte) : Command.Statement (.queryFaults src dest arg clear) :=
  Command.of_some rfl (Or.inr rfl)

theorem Command.queryUnitCounters (src : Node) (dest arg clear : Byte) : Command.Statement (.queryUnitCounters src dest arg clear) :=
  Command.of_some rfl (Or.inr rfl)

theorem Command.queryNodeCounters (src : Node) (dest arg clear : Byte) : Command.Statement (.queryNodeCounters src dest arg clear) :=
  Command.of_some rfl (Or.inr rfl)

theorem Command.queryBerth (src : Node) (dest arg clear : Byte) : Command.Statement (.queryBerth src dest arg clear) :=
  Command.of_some rfl (Or.inr rfl)

theorem Command.queryServiceMap (src : Node) (dest arg clear : Byte) : Command.Statement (.queryServiceMap src dest arg clear) :=
  Command.of_some rfl (Or.inr rfl)

theorem Command.queryPeer (src : Node) (dest arg clear : Byte) : Command.Statement (.queryPeer src dest arg clear) :=
  Command.of_some rfl (Or.inr rfl)

theorem Command.controlSample (u : UnitNo) (motion : Int) (current : Nat) : Command.Statement (.controlSample u motion current) :=
  Command.of_none rfl

theorem Command.controlPeriod (u : UnitNo) (lockEngaged closed driveFault : Bool) : Command.Statement (.controlPeriod u lockEngaged closed driveFault) :=
  Command.of_none rfl

theorem Command.missedControlPeriod (u : UnitNo) : Command.Statement (.missedControlPeriod u) :=
  Command.of_none rfl

theorem Command.missedRunDriveFault (u : UnitNo) : Command.Statement (.missedRunDriveFault u) :=
  Command.of_none rfl

theorem Command.driveFaultTaken (u : UnitNo) : Command.Statement (.driveFaultTaken u) :=
  Command.of_none rfl

theorem Command.unlockComplete (u : UnitNo) : Command.Statement (.unlockComplete u) :=
  Command.of_none rfl

theorem Command.unlockTimeout (u : UnitNo) : Command.Statement (.unlockTimeout u) :=
  Command.of_none rfl

theorem Command.lockComplete (u : UnitNo) : Command.Statement (.lockComplete u) :=
  Command.of_none rfl

theorem Command.lockingTimeout (u : UnitNo) : Command.Statement (.lockingTimeout u) :=
  Command.of_none rfl

theorem Command.lockWatchTimeout (u : UnitNo) : Command.Statement (.lockWatchTimeout u) :=
  Command.of_none rfl

theorem Command.openingComplete (u : UnitNo) : Command.Statement (.openingComplete u) :=
  Command.of_none rfl

theorem Command.pendingCloseTaken (u : UnitNo) : Command.Statement (.pendingCloseTaken u) :=
  Command.of_none rfl

theorem Command.closingTravelEnd (u : UnitNo) : Command.Statement (.closingTravelEnd u) :=
  Command.of_none rfl

theorem Command.reversingComplete (u : UnitNo) : Command.Statement (.reversingComplete u) :=
  Command.of_none rfl

theorem Command.obstacleCurrent (u : UnitNo) : Command.Statement (.obstacleCurrent u) :=
  Command.of_none rfl

theorem Command.reopenPauseEnd (u : UnitNo) : Command.Statement (.reopenPauseEnd u) :=
  Command.of_none rfl

theorem Command.stallTimerExpiry (u : UnitNo) : Command.Statement (.stallTimerExpiry u) :=
  Command.of_none rfl

theorem Command.stallPauseEnd (u : UnitNo) : Command.Statement (.stallPauseEnd u) :=
  Command.of_none rfl

theorem Command.travelTimerExpiry (u : UnitNo) : Command.Statement (.travelTimerExpiry u) :=
  Command.of_none rfl

theorem Command.homingClosed (u : UnitNo) : Command.Statement (.homingClosed u) :=
  Command.of_none rfl

theorem Command.homingWaitEnd (u : UnitNo) : Command.Statement (.homingWaitEnd u) :=
  Command.of_none rfl

theorem Command.homingTimerExpiry (u : UnitNo) : Command.Statement (.homingTimerExpiry u) :=
  Command.of_none rfl

theorem Command.alignmentReading (u : UnitNo) (reading : Reading) : Command.Statement (.alignmentReading u reading) :=
  Command.of_none rfl

theorem Command.alignmentReadingTimeout (u : UnitNo) : Command.Statement (.alignmentReadingTimeout u) :=
  Command.of_none rfl

theorem Command.fusionWindowExpiry : Command.Statement .fusionWindowExpiry :=
  Command.of_none rfl

theorem Command.heldRelease : Command.Statement .heldRelease :=
  Command.of_none rfl

theorem Command.gapSample (u : UnitNo) (sample : Presence) : Command.Statement (.gapSample u sample) :=
  Command.of_none rfl

theorem Command.gapSampleTimeout (u : UnitNo) : Command.Statement (.gapSampleTimeout u) :=
  Command.of_none rfl

theorem Command.gapFilterRelease (u : UnitNo) : Command.Statement (.gapFilterRelease u) :=
  Command.of_none rfl

theorem Command.zoneSample (u : UnitNo) (sample : Presence) : Command.Statement (.zoneSample u sample) :=
  Command.of_none rfl

theorem Command.zoneSampleTimeout (u : UnitNo) : Command.Statement (.zoneSampleTimeout u) :=
  Command.of_none rfl

theorem Command.debouncedInputChange (input : DebouncedInput) (level : Bool) : Command.Statement (.debouncedInputChange input level) :=
  Command.of_none rfl

theorem Command.sensitiveEdgeChange (u : UnitNo) (level : Bool) : Command.Statement (.sensitiveEdgeChange u level) :=
  Command.of_none rfl

theorem Command.emergencyWireAssert : Command.Statement .emergencyWireAssert :=
  Command.of_none rfl

theorem Command.emergencyWireClear : Command.Statement .emergencyWireClear :=
  Command.of_none rfl

theorem Command.handleOperation (u : UnitNo) : Command.Statement (.handleOperation u) :=
  Command.of_none rfl

theorem Command.handleReturn (u : UnitNo) : Command.Statement (.handleReturn u) :=
  Command.of_none rfl

theorem Command.panelOperation (u : UnitNo) : Command.Statement (.panelOperation u) :=
  Command.of_none rfl

theorem Command.panelReturn (u : UnitNo) : Command.Statement (.panelReturn u) :=
  Command.of_none rfl

theorem Command.silenceTimerExpiry (node : Node) : Command.Statement (.silenceTimerExpiry node) :=
  Command.of_none rfl

theorem Command.beaconCadenceExpiry : Command.Statement .beaconCadenceExpiry :=
  Command.of_none rfl

theorem Command.beaconGapTimerExpiry : Command.Statement .beaconGapTimerExpiry :=
  Command.of_none rfl

theorem Command.neighbourAbsenceExpiry : Command.Statement .neighbourAbsenceExpiry :=
  Command.of_none rfl

theorem Command.closeCycleWarningEnd : Command.Statement .closeCycleWarningEnd :=
  Command.of_none rfl

theorem Command.memberRelease (u : UnitNo) : Command.Statement (.memberRelease u) :=
  Command.of_none rfl

theorem Command.memberDeadline (u : UnitNo) : Command.Statement (.memberDeadline u) :=
  Command.of_none rfl

theorem Command.ownHoldDeadline (car : Nat) : Command.Statement (.ownHoldDeadline car) :=
  Command.of_none rfl

theorem Command.departureCloseWarningEnd : Command.Statement .departureCloseWarningEnd :=
  Command.of_none rfl

theorem Command.departureCloseRequest (u : UnitNo) : Command.Statement (.departureCloseRequest u) :=
  Command.of_none rfl

theorem Command.departureCloseDeadline : Command.Statement .departureCloseDeadline :=
  Command.of_none rfl

theorem Command.emergencyCloseWarningEnd : Command.Statement .emergencyCloseWarningEnd :=
  Command.of_none rfl

theorem Command.emergencyCloseRequest (u : UnitNo) : Command.Statement (.emergencyCloseRequest u) :=
  Command.of_none rfl

theorem Command.emergencyCloseDeadline (u : UnitNo) : Command.Statement (.emergencyCloseDeadline u) :=
  Command.of_none rfl

theorem Command.accessCloseWarningEnd : Command.Statement .accessCloseWarningEnd :=
  Command.of_none rfl

theorem Command.accessCloseRequest (u : UnitNo) : Command.Statement (.accessCloseRequest u) :=
  Command.of_none rfl

theorem Command.accessCloseDeadline (u : UnitNo) : Command.Statement (.accessCloseDeadline u) :=
  Command.of_none rfl

theorem Command.pulseTimerExpiry (line : FaultLine) : Command.Statement (.pulseTimerExpiry line) :=
  Command.of_none rfl

end Sys2Proof.Laws
end

