-- ==== Sys2Proof/Laws/Queries.lean ====
section
/-! SUPPORT. The answers: each topic's data has the layout that the table of R193 gives it (`AnswerLayout`), and it is cut into parts of
four bytes. -/

namespace Sys2Proof.Machine

/-! ### Reading a number, a bit and a field of bits -/

/-- What stands behind a part of `k` bytes is read behind it. -/
theorem valueAt_right {l m : List Byte} {k o n : Nat} (hk : l.length = k) (h : k ≤ o) :
    valueAt (l ++ m) o n = valueAt m (o - k) n := by
  unfold valueAt
  subst hk
  rw [List.drop_append, List.drop_eq_nil_of_le h, List.nil_append]

/-- A byte is its number. -/
theorem valueAt_byte {d : List Byte} {o : Nat} {a : Byte} (h : (d.drop o).take 1 = [a]) : valueAt d o 1 = a.toNat := by
  simp [valueAt, h]

/-- Two bytes are the number of their field. -/
theorem valueAt_bytes2 {d : List Byte} {o : Nat} {x : BitVec 16} (h : (d.drop o).take 2 = bytes2 x) :
    valueAt d o 2 = x.toNat := by
  simp [valueAt, h, bytes2, Nat.shiftRight_eq_div_pow]
  omega

/-- Three bytes are the number of their field. -/
theorem valueAt_bytes3 {d : List Byte} {o : Nat} {x : BitVec 24} (h : (d.drop o).take 3 = bytes3 x) :
    valueAt d o 3 = x.toNat := by
  simp [valueAt, h, bytes3, Nat.shiftRight_eq_div_pow]
  omega

/-- Four bytes are the number of their field. -/
theorem valueAt_bytes4 {d : List Byte} {o : Nat} {x : BitVec 32} (h : (d.drop o).take 4 = bytes4 x) :
    valueAt d o 4 = x.toNat := by
  simp [valueAt, h, bytes4, Nat.shiftRight_eq_div_pow]
  omega

/-- Five bytes are the number of their field. -/
theorem valueAt_bytes5 {d : List Byte} {o : Nat} {x : BitVec 40} (h : (d.drop o).take 5 = bytes5 x) :
    valueAt d o 5 = x.toNat := by
  simp [valueAt, h, bytes5, Nat.shiftRight_eq_div_pow]
  omega

/-- A flag is its byte's bit. -/
theorem flagAt_byte {d : List Byte} {o : Nat} {a : Byte} (h : (d.drop o).take 1 = [a]) (i : Nat) :
    flagAt d o i = a.getLsbD i := by
  simp [flagAt, valueAt_byte h, BitVec.testBit_toNat]

/-- A field of bits is cut out of its byte. -/
theorem bitsAt_byte {d : List Byte} {o : Nat} {a : Byte} (h : (d.drop o).take 1 = [a]) (lo w : Nat) :
    bitsAt d o lo w = (a.extractLsb' lo w).toNat := by
  simp [bitsAt, valueAt_byte h, BitVec.extractLsb'_toNat, Nat.shiftRight_eq_div_pow]

/-- The bits of a byte built bit by bit. -/
theorem bitsByte_bit (i : Nat) : ∀ b7 b6 b5 b4 b3 b2 b1 b0 : Bool,
    (bitsByte b7 b6 b5 b4 b3 b2 b1 b0).getLsbD i = [b0, b1, b2, b3, b4, b5, b6, b7].getD i false := by
  by_cases h : i < 8
  · interval_cases i <;> decide
  · simp [BitVec.getLsbD_of_ge _ _ (Nat.not_lt.mp h), List.getElem?_eq_none (l := [_, _, _, _, _, _, _, _]) (Nat.not_lt.mp h)]

/-- A bit with a field is the field's. -/
theorem withUnused_bit {mask : Byte} {i : Nat} (h : mask.getLsbD i = false) (n : Nat) (b : Byte) :
    (withUnused mask n b).getLsbD i = b.getLsbD i := by
  by_cases hi : i < 8
  · simp only [withUnused, BitVec.getLsbD_or, BitVec.getLsbD_and, BitVec.getLsbD_not, h, hi, decide_true, Bool.not_false,
      Bool.and_true, Bool.and_false, Bool.or_false]
  · rw [BitVec.getLsbD_of_ge _ _ (Nat.not_lt.mp hi), BitVec.getLsbD_of_ge _ _ (Nat.not_lt.mp hi)]

/-- A field of bits stands among the unused ones. -/
theorem withUnused_bits {mask : Byte} {lo w : Nat} (h : mask.extractLsb' lo w = 0) (n : Nat) (b : Byte) :
    (withUnused mask n b).extractLsb' lo w = b.extractLsb' lo w := by
  refine BitVec.eq_of_getLsbD_eq fun i hi => ?_
  have := congrArg (fun x => x.getLsbD i) h
  simp only [BitVec.getLsbD_extractLsb', hi, decide_true, Bool.true_and] at this ⊢
  exact withUnused_bit (by simpa using this) n b

/-- A fault kind stands in the list of the kinds at its index. -/
theorem FaultKind.byCode_index (k : FaultKind) : FaultKind.byCode[k.index]? = some k := by cases k <;> rfl

/-- A slot has eight bytes. -/
theorem slotBytes_length (x : Option FaultRecord) : (slotBytes x).length = 8 := by cases x <;> rfl

/-- A Fault Capture slot's bytes are laid out as R193 says. -/
theorem slotAt_slotBytes (x : Option FaultRecord) (l : List Byte) : SlotAt (slotBytes x ++ l) 0 x := by
  refine ⟨?_, ?_⟩
  · rintro rfl i hi
    interval_cases i <;> rfl
  · rintro ⟨kind, unit, seq, time⟩ rfl
    refine ⟨rfl, ⟨kind.index, ?_, kind.byCode_index⟩, ?_, valueAt_byte rfl, valueAt_bytes4 rfl⟩
    · cases kind <;> rfl
    · rcases unit with _ | _ | _ | _ | _ <;> rfl

/-- A slot behind a part of `k` bytes is laid out behind it. -/
theorem slotAt_right {l m : List Byte} {k o : Nat} {x : Option FaultRecord} (hk : l.length = k) (h : k ≤ o)
    (a : SlotAt m (o - k) x) : SlotAt (l ++ m) o x := by
  have e : ∀ j n, valueAt (l ++ m) (o + j) n = valueAt m (o - k + j) n := fun j n => by
    rw [valueAt_right hk (by omega)]
    congr 1
    omega
  have e0 := fun n => e 0 n
  simp only [Nat.add_zero] at e0
  simpa only [SlotAt, e, e0] using a

/-- The FAULTS data is laid out as R193 says. -/
theorem faultsData_layout (s : State) : FaultsLayout s (faultsData s) := by
  refine ⟨?_, ?_, ?_, ?_⟩
  · simp [faultsData, slotBytes_length, List.range_succ, bytes2]
  · simp only [faultsData, List.append_assoc]
    exact slotAt_slotBytes _ _
  · simp only [faultsData, List.append_assoc]
    exact slotAt_right (slotBytes_length _) (by omega) (slotAt_slotBytes _ _)
  · intro k hk
    unfold CounterAt flagAt
    simp only [faultsData, List.append_assoc]
    rw [valueAt_right (slotBytes_length _) (by omega), valueAt_right (slotBytes_length _) (by omega),
      valueAt_right (slotBytes_length _) (by omega), valueAt_right (slotBytes_length _) (by omega)]
    interval_cases k <;>
      first
      | exact ⟨valueAt_bytes2 rfl, (flagAt_byte rfl _).trans ((bitsByte_bit ..).trans rfl)⟩
      | exact ⟨valueAt_bytes2 rfl, (flagAt_byte rfl _).trans ((withUnused_bit (by decide) ..).trans ((bitsByte_bit ..).trans rfl))⟩

/-- A unit state stands in the list of the states at its code. -/
theorem unitState_byCode (x : UnitState) : UnitState.byCode[x.code]? = some x := by cases x <;> rfl

/-- The first byte of the UNIT_COUNTERS data is the state code. -/
theorem unitData_code (s : State) (u : UnitNo) : valueAt (unitData s u) 0 1 = s.unitCode u := by
  rw [valueAt_byte (a := byte (s.unitCode u)) rfl, State.unitCode]
  split
  · cases s.unit u <;> rfl
  · rfl

/-- The UNIT_COUNTERS data is laid out as R193 says. -/
theorem unitData_layout (s : State) (u : UnitNo) : UnitLayout s u (unitData s u) := by
  have flag : ∀ i, (4 : Byte).getLsbD i = false → flagAt (unitData s u) 1 i = _ := fun i h =>
    (flagAt_byte rfl i).trans ((withUnused_bit h ..).trans (bitsByte_bit ..))
  have latch : ∀ i, (7 : Byte).getLsbD i = false → flagAt (unitData s u) 14 i = _ := fun i h =>
    (flagAt_byte rfl i).trans ((withUnused_bit h ..).trans (bitsByte_bit ..))
  refine ⟨rfl, fun h => by simp [unitData_code, State.unitCode, h],
    fun h => by simp [unitData_code, State.unitCode, h, unitState_byCode], flag 7 rfl, flag 6 rfl, flag 5 rfl, flag 4 rfl, flag 3 rfl, ?_,
    ⟨valueAt_bytes4 rfl, latch 7 rfl⟩, ⟨valueAt_bytes2 rfl, latch 6 rfl⟩, ⟨valueAt_bytes2 rfl, latch 5 rfl⟩,
    ⟨valueAt_bytes2 rfl, latch 4 rfl⟩, ⟨valueAt_bytes2 rfl, latch 3 rfl⟩⟩
  rw [bitsAt_byte (lo := 0) (w := 2) rfl, withUnused_bits (by decide)]
  generalize (s.dc.get u).isolationMark = a, (s.su.units.get u).handle.held = b, (s.su.units.get u).panel.held = c,
    s.iu.panelMarks.get u = d, s.iu.accessMarks.get u = e, (s.su.units.get u).alarm = x
  revert a b c d e
  cases x <;> decide

/-- A number in a byte, where the byte can hold it. -/
theorem numberAt_byte {d : List Byte} {o x : Nat} (h : (d.drop o).take 1 = [byte x]) : NumberAt d o 1 x := fun hx => by
  rw [valueAt_byte h, byte, BitVec.toNat_ofNat]
  exact Nat.mod_eq_of_lt hx

/-- A number in two bytes, where they can hold it. -/
theorem numberAt_bytes2 {d : List Byte} {o x : Nat} (h : (d.drop o).take 2 = bytes2 (BitVec.ofNat 16 x)) :
    NumberAt d o 2 x := fun hx => by
  rw [valueAt_bytes2 h, BitVec.toNat_ofNat]
  exact Nat.mod_eq_of_lt hx

/-- A number in three bytes, where they can hold it. -/
theorem numberAt_bytes3 {d : List Byte} {o x : Nat} (h : (d.drop o).take 3 = bytes3 (BitVec.ofNat 24 x)) :
    NumberAt d o 3 x := fun hx => by
  rw [valueAt_bytes3 h, BitVec.toNat_ofNat]
  exact Nat.mod_eq_of_lt hx

/-- A signed number in two bytes, where they can hold it. -/
theorem signedAt_signed16 {d : List Byte} {o : Nat} {x : Int} (h : (d.drop o).take 2 = signed16 x) : SignedAt d o x := by
  intro lo hi
  rw [valueAt_bytes2 h, BitVec.toNat_ofInt, Int.toNat_of_nonneg (Int.emod_nonneg _ (by decide))]
  split <;> omega

/-- A reason stands in the list of the reasons at its code. -/
theorem loadReason_byCode (x : LoadReason) : LoadReason.byCode[x.code]? = some x := by cases x <;> rfl

/-- The NODE_COUNTERS data is laid out as R193 says. -/
theorem nodeData_layout (s : State) : NodeLayout s (nodeData s) := by
  have flag : ∀ i, (0x1F : Byte).getLsbD i = false → flagAt (nodeData s) 3 i = _ := fun i h =>
    (flagAt_byte rfl i).trans ((withUnused_bit h ..).trans (bitsByte_bit ..))
  have latch : ∀ i, (1 : Byte).getLsbD i = false → flagAt (nodeData s) 23 i = _ := fun i h =>
    (flagAt_byte rfl i).trans ((withUnused_bit h ..).trans (bitsByte_bit ..))
  refine ⟨rfl, fun h => ?_, fun h => ?_, valueAt_byte rfl, ?_, flag 7 rfl, flag 6 rfl, ?_, fun o h => ?_,
    ⟨valueAt_bytes2 rfl, latch 7 rfl⟩, ⟨valueAt_bytes2 rfl, latch 6 rfl⟩, ⟨valueAt_bytes2 rfl, latch 5 rfl⟩,
    ⟨valueAt_bytes2 rfl, latch 4 rfl⟩, ⟨valueAt_bytes2 rfl, latch 3 rfl⟩, ⟨valueAt_bytes2 rfl, latch 2 rfl⟩,
    ⟨valueAt_bytes2 rfl, latch 1 rfl⟩⟩
  · simp [valueAt, nodeData, h]
  · simp [valueAt, nodeData, h]
  · rw [valueAt_byte (a := if s.iu.accessLock then 1 else 0) rfl]
    cases s.iu.accessLock <;> rfl
  · rw [flag 5 rfl]
    simp
  · unfold nodeData
    rw [h]
    refine ⟨?_, numberAt_bytes2 rfl, fun e => ?_, fun i e => ?_, numberAt_byte rfl⟩
    · rw [valueAt_byte (a := byte o.reason.code) rfl]
      exact (congrArg _ (by cases o.reason <;> rfl)).trans (loadReason_byCode o.reason)
    · exact valueAt_byte (a := 255) (by simp [LoadOutcome.bytes, bytes2, e])
    · exact numberAt_byte (by simp [LoadOutcome.bytes, bytes2, e])

/-- Two bytes are the number of their sixteen bits. -/
theorem valueAt_pair {d : List Byte} {o : Nat} {a b : Byte} (h : (d.drop o).take 2 = [a, b]) :
    valueAt d o 2 = (a ++ b).toNat := by
  rw [BitVec.toNat_append, ← Nat.shiftLeft_add_eq_or_of_lt b.isLt, Nat.shiftLeft_eq]
  simp [valueAt, h]

/-- The bits set for the numbers of a list. -/
theorem setBits_bit {α : Type} {w : Nat} (f : α → Nat) {i : Nat} (hi : i < w) : ∀ (l : List α) (m : BitVec w),
    (l.foldl (fun (m : BitVec w) c => m ||| ((1 : BitVec w) <<< f c)) m).getLsbD i = true ↔ m.getLsbD i = true ∨ ∃ c ∈ l, f c = i
  | [], m => by simp
  | c :: l, m => by
    rw [List.foldl_cons, setBits_bit f hi l]
    have : (m ||| ((1 : BitVec w) <<< f c)).getLsbD i = true ↔ m.getLsbD i = true ∨ f c = i := by
      simp only [BitVec.getLsbD_or, BitVec.getLsbD_shiftLeft, BitVec.ofNat_eq_ofNat, BitVec.getLsbD_one, Bool.or_eq_true, Bool.and_eq_true,
        decide_eq_true_eq, Bool.not_eq_true', decide_eq_false_iff_not]
      exact or_congr Iff.rfl (by omega)
    rw [this]
    simp [or_assoc]

/-- The car bits are the cars of the list. -/
theorem carBits_bit (l : List Nat) {c : Nat} (hc : c < 16) : (carBits l).getLsbD c = true ↔ c ∈ l := by
  refine (setBits_bit id hc l 0).trans ?_
  simp

/-- The node bits are the nodes of the list. -/
theorem nodeBits_bit (l : List Node) {i : Nat} (hi : i < 40) :
    (nodeBits l).getLsbD i = true ↔ ∃ p ∈ l, p.toNat - 1 = i := by
  refine (setBits_bit (fun p : Node => p.toNat - 1) hi l 0).trans ?_
  simp

/-- The cars held are those of the own holds of the close cycle. -/
theorem heldCars_mem (s : State) (c : Nat) : c ∈ s.heldCars ↔ ∃ y, s.bu.cycle = some y ∧ ∃ h ∈ y.holds, h.car = c := by
  unfold State.heldCars
  cases h : s.bu.cycle <;> simp

/-- Pairs of bytes take two bytes each. -/
theorem pairs_length {α : Type} (f g : α → Byte) (l : List α) : ((l.map fun h => [f h, g h]).flatten).length = 2 * l.length := by
  induction l with
  | nil => rfl
  | cons _ _ ih =>
    simp only [List.map_cons, List.flatten_cons, List.length_append, ih, List.length_cons, List.length_nil]
    omega

/-- Pair `i` of bytes stands behind the pairs before it. -/
theorem pairs_at {α : Type} (f g : α → Byte) (l : List α) (m : List Byte) {i : Nat} {h : α} (e : l[i]? = some h) :
    valueAt ((l.map fun h => [f h, g h]).flatten ++ m) (2 * i) 1 = (f h).toNat ∧
      ((((l.map fun h => [f h, g h]).flatten ++ m).drop (2 * i + 1)).take 1 = [g h]) := by
  induction l generalizing i with
  | nil => simp at e
  | cons x l ih =>
    rw [List.map_cons, List.flatten_cons, List.append_assoc]
    cases i with
    | zero =>
      obtain rfl : x = h := by simpa using e
      exact ⟨valueAt_byte rfl, rfl⟩
    | succ i =>
      obtain ⟨a, b⟩ := ih (i := i) (by simpa using e)
      refine ⟨?_, ?_⟩
      · rw [valueAt_right (k := 2) rfl (by omega)]
        exact a
      · rw [show 2 * (i + 1) + 1 = (2 * i + 1) + 2 by omega]
        exact b

/-- The fields of the second byte of the BERTH data. -/
theorem berthData_flags (x : BerthState) (v : Verdict) (p : Bool) :
    let b := byte (x.code * 32 + v.code * 4 + if p then 1 else 0)
    BerthState.byCode[(b.extractLsb' 5 3).toNat]? = some x ∧ Verdict.byCode[(b.extractLsb' 2 3).toNat]? = some v ∧
      b.getLsbD 0 = p := by
  cases x <;> cases v <;> cases p <;> decide

/-- A member's status stands in the list of the statuses at its code. -/
theorem memberCode_byCode (m : Option Member) :
    [none, some MemberStatus.underWarning, some .waiting, some .started][(memberCode m).toNat]? = some (m.map Member.status) := by
  rcases m with _ | ⟨w, _ | _ | _⟩ <;> rfl

/-- The quarters of a byte. -/
theorem quarters (a b c d : BitVec 2) :
    ((a ++ b ++ c ++ d : BitVec 8).extractLsb' 6 2) = a ∧ ((a ++ b ++ c ++ d : BitVec 8).extractLsb' 4 2) = b ∧
    ((a ++ b ++ c ++ d : BitVec 8).extractLsb' 2 2) = c ∧ ((a ++ b ++ c ++ d : BitVec 8).extractLsb' 0 2) = d := by
  revert a b c d
  decide

/-- The BERTH data is laid out as R193 says. -/
theorem berthData_layout (s : State) : BerthLayout s (berthData s) := by
  have flags := berthData_flags s.bu.berth.state s.bu.berth.verdict s.bu.berth.pendingRelease
  refine ⟨?_, valueAt_byte rfl, ?_, ?_, ?_, fun h => ?_, fun i h => ?_, fun x h => ?_, fun h => ?_, fun x h => ?_, fun i hi => ?_,
    fun u => ?_, fun c lo hi => ?_, numberAt_byte rfl, fun i h e => ?_, fun ok p hp => ?_⟩
  · simp only [berthData, holdListBytes, List.length_append, List.length_cons, pairs_length, bytes3, bytes5, List.length_map,
      List.length_range, List.length_nil]
    omega
  · rw [bitsAt_byte rfl, withUnused_bits (by decide)]
    exact flags.1
  · rw [bitsAt_byte rfl, withUnused_bits (by decide)]
    exact flags.2.1
  · exact (flagAt_byte rfl _).trans ((withUnused_bit (by decide) ..).trans flags.2.2)
  · simp only [berthData, h]
    rfl
  · simp only [berthData, h]
    exact numberAt_byte rfl
  · simp only [berthData, h]
    exact numberAt_bytes3 rfl
  · simp only [berthData, h]
    exact valueAt_bytes3 (x := BitVec.ofNat 24 16777215) rfl
  · simp only [berthData, h]
    exact numberAt_bytes3 rfl
  · interval_cases i <;> exact numberAt_byte rfl
  · have e : (s.bu.cycle.bind fun c => c.members.get u) = s.cycleMembers.get u := by
      unfold State.cycleMembers
      cases s.bu.cycle
      · cases u <;> rfl
      · rfl
    rw [bitsAt_byte rfl, e]
    obtain ⟨a, b, c, d⟩ := quarters (memberCode s.cycleMembers.q0) (memberCode s.cycleMembers.q1) (memberCode s.cycleMembers.q2)
      (memberCode s.cycleMembers.q3)
    cases u
    · exact (congrArg (fun x : BitVec 2 => _[x.toNat]?) a).trans (memberCode_byCode _)
    · exact (congrArg (fun x : BitVec 2 => _[x.toNat]?) b).trans (memberCode_byCode _)
    · exact (congrArg (fun x : BitVec 2 => _[x.toNat]?) c).trans (memberCode_byCode _)
    · exact (congrArg (fun x : BitVec 2 => _[x.toNat]?) d).trans (memberCode_byCode _)
  · rw [valueAt_pair rfl, BitVec.testBit_toNat, ← heldCars_mem, ← carBits_bit _ (by omega : c < 16), BitVec.getLsbD_append]
    interval_cases c <;>
      exact Eq.congr_left ((withUnused_bit (by decide) ..).trans (BitVec.getLsbD_extractLsb' ..))
  · obtain ⟨a, b⟩ := pairs_at (fun h : HoldEntry => nodeByte h.source) (fun h => byte h.car) s.bu.holdList
      (bytes5 (nodeBits s.iu.releaseSet)) e
    have place : ∀ o, (berthData s).drop (23 + o) = ((berthData s).drop 23).drop o := fun o => by rw [← List.drop_drop]
    refine ⟨?_, numberAt_byte ?_⟩
    · rw [valueAt, place]
      exact Eq.trans a (BitVec.toNat_setWidth_of_le (by decide))
    · rw [show 24 + 2 * i = 23 + (2 * i + 1) by omega, place]
      exact b
  · have place : (berthData s).drop (23 + 2 * s.bu.holdList.length) = bytes5 (nodeBits s.iu.releaseSet) := by
      rw [← List.drop_drop]
      exact List.drop_left' (pairs_length _ _ _)
    have n : 1 ≤ p.toNat ∧ p.toNat ≤ 40 := by simpa [isBay] using hp
    rw [valueAt_bytes5 (by rw [place]; rfl), BitVec.testBit_toNat, nodeBits_bit _ (by omega)]
    constructor
    · rintro ⟨q, hq, e⟩
      have := ok.2 q hq
      simp only [isBay, Bool.and_eq_true, decide_eq_true_eq] at this
      rwa [BitVec.eq_of_toNat_eq (by omega : p.toNat = q.toNat)]
    · exact fun hp => ⟨p, hp, rfl⟩

/-- A search outcome stands in the list of the outcomes at its code. -/
theorem searchOutcome_byCode (x : SearchOutcome) : SearchOutcome.byCode[x.code]? = some x := by cases x <;> rfl

/-- The eight bytes of a unit in the SERVICE_MAP data are laid out as R193 says. -/
theorem mapBytes_layout (s : State) (u : UnitNo) (l : List Byte) :
    MapAt (mapBytes s u ++ l) 0 (s.ae.searches.get u).outcome (s.ae.map.get u) := by
  have outcome : (byte (s.ae.searches.get u).outcome.code).toNat = (s.ae.searches.get u).outcome.code := by
    cases (s.ae.searches.get u).outcome <;> rfl
  unfold mapBytes
  cases s.ae.map.get u with
  | none =>
    refine ⟨?_, fun _ => valueAt_byte (a := 0) rfl, nofun, fun _ => valueAt_byte (a := 0) rfl, nofun, fun _ => valueAt_byte (a := 0) rfl,
      nofun, fun _ => valueAt_bytes2 (x := 0) rfl, nofun, fun _ => valueAt_bytes2 (x := 32768) rfl, nofun⟩
    rw [valueAt_byte (a := byte (s.ae.searches.get u).outcome.code) rfl, outcome]
    exact searchOutcome_byCode _
  | some e =>
    refine ⟨?_, nofun, fun x h => ⟨e.reason.code - 1, ?_, ?_⟩, fun h => ?_, fun k h => ?_, fun h => ?_, fun k h => ?_, fun h => ?_,
      fun k h => ?_, fun h => ?_, fun k h => ?_⟩
    · rw [valueAt_byte (a := byte (s.ae.searches.get u).outcome.code) rfl, outcome]
      exact searchOutcome_byCode _
    · rw [valueAt_byte (a := byte e.reason.code) rfl]
      cases e.reason <;> rfl
    · obtain rfl : e = x := by simpa using h
      cases e.reason <;> rfl
    all_goals simp only [Option.bind_some] at h; simp only [h]
    · exact valueAt_byte (a := 0) rfl
    · exact numberAt_byte rfl
    · exact valueAt_byte (a := 0) rfl
    · exact numberAt_byte rfl
    · exact valueAt_bytes2 (x := 0) rfl
    · exact signedAt_signed16 rfl
    · exact valueAt_bytes2 (x := 32768) rfl
    · exact signedAt_signed16 rfl

/-- A unit takes eight bytes of the SERVICE_MAP data. -/
theorem mapBytes_length (s : State) (u : UnitNo) : (mapBytes s u).length = 8 := by
  unfold mapBytes
  cases s.ae.map.get u <;> rfl

/-- A unit's bytes behind a part of `k` bytes are laid out behind it. -/
theorem mapAt_right {l m : List Byte} {k o : Nat} {r : SearchOutcome} {x : Option MapEntry} (hk : l.length = k) (h : k ≤ o)
    (a : MapAt m (o - k) r x) : MapAt (l ++ m) o r x := by
  have e : ∀ j n, valueAt (l ++ m) (o + j) n = valueAt m (o - k + j) n := fun j n => by
    rw [valueAt_right hk (by omega)]
    congr 1
    omega
  have e0 := fun n => e 0 n
  simp only [Nat.add_zero] at e0
  simpa only [MapAt, NumberAt, SignedAt, e, e0] using a

/-- The configured units stand in unit order, each behind as many as its number. -/
theorem configured_units (s : State) :
    (UnitNo.all.filter s.configured).length = min 4 s.cl.config.unitCount ∧
      ∀ u, s.configured u = true → ∃ l l', UnitNo.all.filter s.configured = l ++ u :: l' ∧ l.length = u.val := by
  have e : UnitNo.all.filter s.configured = UnitNo.all.take s.cl.config.unitCount := by
    unfold State.configured
    rcases s.cl.config.unitCount with _ | _ | _ | _ | n <;> simp [UnitNo.all, UnitNo.val]
  rw [e]
  refine ⟨by simp [UnitNo.all, min_comm], fun u h =>
    ⟨UnitNo.all.take u.val, (UnitNo.all.take s.cl.config.unitCount).drop (u.val + 1), ?_, ?_⟩⟩
  · unfold State.configured at h
    generalize s.cl.config.unitCount = n at h
    rcases n with _ | _ | _ | _ | n <;> cases u <;> simp_all [UnitNo.all, UnitNo.val]
  · cases u <;> rfl

/-- The units of a list take eight bytes each. -/
theorem mapUnits_length (s : State) (l : List UnitNo) : ((l.map (mapBytes s)).flatten).length = 8 * l.length := by
  induction l with
  | nil => rfl
  | cons _ _ ih =>
    simp only [List.map_cons, List.flatten_cons, List.length_append, ih, mapBytes_length, List.length_cons]
    omega

/-- The SERVICE_MAP data is laid out as R193 says. -/
theorem serviceMapData_layout (s : State) : MapLayout s (serviceMapData s) := by
  refine ⟨?_, ?_, fun h => ?_, fun m h => ?_, fun u hu => ?_⟩
  · rw [serviceMapData, List.length_append, mapUnits_length, (configured_units s).1]
    rfl
  · rw [valueAt_byte (a := byte s.ae.verdict.code) rfl]
    cases s.ae.verdict <;> rfl
  · simp only [serviceMapData, h]
    exact valueAt_byte (a := 0) rfl
  · simp only [serviceMapData, h]
    exact numberAt_byte rfl
  · obtain ⟨l, l', e, n⟩ := (configured_units s).2 u hu
    rw [serviceMapData, e, List.map_append, List.flatten_append, List.map_cons, List.flatten_cons]
    refine mapAt_right (k := 2) rfl (by omega) (mapAt_right (mapUnits_length s l) (by omega) ?_)
    rw [show 2 + 8 * u.val - 2 - 8 * l.length = 0 by omega]
    exact mapBytes_layout s u _

/-- The fields of a slot's byte. -/
theorem slotByte_fields : ∀ (c : BitVec 2) (p b l : Bool) (n : BitVec 2),
    (c ++ bit p ++ bit b ++ bit l ++ (0 : BitVec 1) ++ n : Byte).extractLsb' 6 2 = c ∧
      (c ++ bit p ++ bit b ++ bit l ++ (0 : BitVec 1) ++ n : Byte).getLsbD 5 = p ∧
      (c ++ bit p ++ bit b ++ bit l ++ (0 : BitVec 1) ++ n : Byte).getLsbD 4 = b ∧
      (c ++ bit p ++ bit b ++ bit l ++ (0 : BitVec 1) ++ n : Byte).getLsbD 3 = l ∧
      (c ++ bit p ++ bit b ++ bit l ++ (0 : BitVec 1) ++ n : Byte).extractLsb' 0 2 = n := by
  decide

/-- The halves of a byte. -/
theorem nibbles_halves : ∀ a b : BitVec 4, (nibbles a b).extractLsb' 4 4 = a ∧ (nibbles a b).extractLsb' 0 4 = b := by decide

/-- The eight bytes of a beacon are laid out as section 3.6 says. -/
theorem beaconAt_beaconBytes {d : List Byte} {o : Nat} {b : Beacon} (h : (d.drop o).take 8 = beaconBytes b) : BeaconAt d o b := by
  have p : ∀ i, i < 8 → (d.drop (o + i)).take 1 = ((beaconBytes b).drop i).take 1 := fun i hi => by
    rw [← h, List.drop_take, List.take_take, List.drop_drop, min_eq_left (by omega)]
  refine ⟨valueAt_byte (p 0 (by decide)), ?_, ?_, ?_, ?_, ?_, ?_, valueAt_byte (p 4 (by decide)), valueAt_byte (p 5 (by decide)),
    valueAt_byte (p 6 (by decide)), valueAt_byte (p 7 (by decide))⟩
  · exact (bitsAt_byte (p 1 (by decide)) _ _).trans (congrArg _ (nibbles_halves _ _).1)
  · exact (bitsAt_byte (p 1 (by decide)) _ _).trans (congrArg _ (nibbles_halves _ _).2)
  · exact (bitsAt_byte (p 2 (by decide)) _ _).trans (congrArg _ (nibbles_halves _ _).1)
  · exact (bitsAt_byte (p 2 (by decide)) _ _).trans (congrArg _ (nibbles_halves _ _).2)
  · exact (bitsAt_byte (p 3 (by decide)) _ _).trans (congrArg _ (nibbles_halves _ _).1)
  · exact (bitsAt_byte (p 3 (by decide)) _ _).trans (congrArg _ (nibbles_halves _ _).2)

/-- The PEER data is laid out as R193 says. -/
theorem peerData_layout (x : Slot) (draw : Nat) : PeerLayout x (peerData x draw) := by
  have first : ((peerData x draw).drop 0).take 1 = [_] := rfl
  have fields := slotByte_fields x.state.code x.pairing.isSome x.lastBeacon.isSome x.silence.latch (BitVec.ofNat 2 x.naming)
  refine ⟨?_, ?_, ?_, ?_, fun h => ?_, fun h => ?_, fun h e he => ?_, fun e he => ?_, fun b hb => ?_, ?_, ?_⟩
  · cases h : x.lastBeacon <;> simp [peerData, h, bytes4, bytes2, beaconBytes]
  · rw [bitsAt_byte first, withUnused_bits (by decide), fields.1]
    cases x.state <;> rfl
  · rw [flagAt_byte first, withUnused_bit (by decide), fields.2.1]
  · rw [flagAt_byte first, withUnused_bit (by decide), fields.2.2.1]
  · rw [bitsAt_byte first, withUnused_bits (by decide), fields.2.2.2.2, BitVec.toNat_ofNat]
    omega
  · simp only [peerData, h]
    exact valueAt_bytes4 (x := 0) rfl
  · simp only [peerData, h, he]
    exact valueAt_bytes4 rfl
  · simp only [peerData, he]
    exact valueAt_bytes4 rfl
  · simp only [peerData, hb]
    exact beaconAt_beaconBytes rfl
  · cases h : x.lastBeacon <;> simp only [peerData, h] <;> exact valueAt_bytes2 rfl
  · rw [flagAt_byte first, withUnused_bit (by decide), fields.2.2.2.1]

/-- A PEER query reads the slot of its number, and the empty one under the own number (R55). -/
theorem peerSlot_nodeByte (s : State) (n : Node) :
    s.peerSlot (nodeByte n) = if n = s.cl.own then Slot.empty else s.slot n := by
  have e : ∀ m : Node, (nodeByte m).setWidth 6 = m := fun m => BitVec.setWidth_setWidth_of_le _ (by decide)
  have inj : nodeByte n = nodeByte s.cl.own ↔ n = s.cl.own :=
    ⟨fun h => by rw [← e n, h, e], fun h => h ▸ rfl⟩
  simp only [State.peerSlot, inj, e]

/-! ### The parts (R193) -/

/-- The data is cut into parts of four bytes. -/
theorem parts_eq : ∀ d : List Byte, parts d = (List.range (partCount d)).map fun i => (d.drop (4 * i)).take 4
  | [] => rfl
  | [_] => by simp [parts, partCount]
  | [_, _] => by simp [parts, partCount]
  | [_, _, _] => by simp [parts, partCount]
  | a :: b :: c :: e :: l => by
    have n : partCount (a :: b :: c :: e :: l) = partCount l + 1 := by simp only [partCount, List.length_cons]; omega
    rw [n, List.range_succ_eq_map, List.map_cons, List.map_map, parts, parts_eq l]
    exact congrArg _ (List.map_congr_left fun i _ => by simp [Nat.mul_succ])

/-- There are as many parts as four bytes each ask for. -/
theorem parts_length (d : List Byte) : (parts d).length = partCount d := by simp [parts_eq]

end Sys2Proof.Machine
end

