-- ==== Sys2Proof/Laws/Record.lean ====
section
/-! SUPPORT. The checks of frames and records in a form the kernel evaluates on long lists: each byte's register is brought to a
numeral before the next byte is taken; and what the clamped fields load. -/

namespace Sys2Proof.Machine

/-- `crc` with the register evaluated after each byte. -/
def crcForced (poly start : BitVec 16) : List Byte → BitVec 16
  | [] => start
  | x :: l =>
    match (crcByte poly start x).toNat with
    | 0 => crcForced poly 0 l
    | n + 1 => crcForced poly (BitVec.ofNat 16 (n + 1)) l

theorem crc_nil (poly start : BitVec 16) : crc poly start [] = start := rfl

theorem crc_cons (poly start : BitVec 16) (x : Byte) (l : List Byte) :
    crc poly start (x :: l) = crc poly (crcByte poly start x) l := rfl

theorem crc_append (poly start : BitVec 16) (l m : List Byte) :
    crc poly start (l ++ m) = crc poly (crc poly start l) m := by
  simp [crc, List.foldl_append]

/-- The forced form is the check itself. -/
theorem crc_eq_forced (poly start : BitVec 16) (l : List Byte) : crc poly start l = crcForced poly start l := by
  induction l generalizing start with
  | nil => rfl
  | cons x l ih =>
    rw [crc_cons, ih, crcForced]
    split
    · next h => rw [BitVec.eq_of_toNat_eq (x := crcByte poly start x) (y := 0) (by simpa using h)]
    · next n h => rw [show n + 1 = (crcByte poly start x).toNat from h.symm, BitVec.ofNat_toNat, BitVec.setWidth_eq]

/-- The check of a record in the forced form. -/
theorem checkPasses_eq_forced (r : List Byte) (length : Nat) :
    checkPasses r length =
      (bytes2 (crcForced 0x1021#16 0xFFFF#16 (r.take (length - 2))) == (r.take length).drop (length - 2)) := by
  rw [checkPasses, recordCheck, crc_eq_forced]

/-- The check of R3 in the forced form. -/
theorem checkOk_forced (r : List Byte) (length : Nat) :
    CheckOk r length ↔ crcForced 0x1021#16 0xFFFF#16 (r.take (length - 2)) = BitVec.ofNat 16 (field2 r (length - 2)) := by
  rw [CheckOk, recordCheck, crc_eq_forced]

/-- The load outcome in the forced form. -/
theorem judgeRecord_passed (r : List Byte) (length : Nat) (own : Node) (h : checkPasses r length = true) :
    judgeRecord r length own =
      if field1 r 2 != own.toNat then LoadOutcome.refused .strap 0 none
      else
        match structureFails r length with
        | some o => LoadOutcome.refused .structural o none
        | none =>
          match nodeFieldFails r own with
          | some o => LoadOutcome.refused .nodeField o none
          | none =>
            match unitsFail r with
            | some x => x
            | none =>
              match consistsFail r with
              | some x => x
              | none => ⟨.ok, 0, none, clampTally r⟩ := by
  rw [judgeRecord, h]
  rfl

/-! ### The clamped fields (R9, R10) -/

/-- A clamped value is its field's brought into the range (R9). -/
theorem clamp_brought {lo hi : Nat} (h : lo ≤ hi) (n : Nat) : Brought lo hi n (clamp lo hi n) := by
  unfold Brought clamp
  split
  · omega
  · split <;> omega

/-- A unit entry's clamped values stand in its geometry, under a template the record may name (R9, R10). -/
theorem unitGeometry_clamped (r : List Byte) (u : UnitNo) (h : field1 r (unitEntry u + 9) ≤ 4) :
    UnitClamped r (26 + 20 * u.val) (unitGeometry r u) := by
  refine ⟨clamp_brought (by decide) _, fun (e : field1 r (unitEntry u + 9) = 4) => ?_, fun (e : field1 r (unitEntry u + 9) ≠ 4) => ?_⟩
  · have p : (unitGeometry r u).profile = resolveProfile r (unitEntry u) := rfl
    rw [p, resolveProfile, if_pos e]
    have o := clamp_brought (lo := 100) (hi := 800) (by decide) (field2 r (26 + 20 * u.val + 10))
    have c := clamp_brought (lo := 100) (hi := 800) (by decide) (field2 r (26 + 20 * u.val + 12))
    have k := clamp_brought (lo := 20) (hi := 100) (by decide) (field1 r (26 + 20 * u.val + 16))
    have low : min (Clamped.creep.value r (unitEntry u)) (smallerCruise r (unitEntry u)) = Clamped.creep.value r (unitEntry u) :=
      min_eq_left (le_trans k.2.1 (le_min o.1 c.1))
    rw [low]
    exact ⟨o, c, clamp_brought (by decide) _, k, le_trans k.2.1 o.1, le_trans k.2.1 c.1, clamp_brought (by decide) _⟩
  · have p : (unitGeometry r u).profile = resolveProfile r (unitEntry u) := rfl
    rw [p, resolveProfile, if_neg e]
    change Profile.builtIn[field1 r (unitEntry u + 9)]? = _
    generalize field1 r (unitEntry u + 9) = n at h e
    interval_cases n <;> first | rfl | exact absurd rfl e

end Sys2Proof.Machine
end

