-- ==== Sys2Proof/Laws/Ticks.lean ====
section
/-! SUPPORT. What a tick and a step keep: whatever every command they run keeps. -/

namespace Sys2Proof.Machine

variable {P : State → Prop}

/-- The state after a command keeps what the command's next state keeps. -/
theorem nextState_keeps {i : Instr} {s : State} (h : P s) (k : ∀ t, Sys2Proof.Machine.exec i s = .next t → P t) :
    P (nextState i s) := by
  unfold nextState
  split
  · exact k _ ‹_›
  · exact h
  · exact h

/-- A timer that is taken keeps what its command keeps. -/
theorem fireIfDue_keeps {p : (State → Option Time) × Instr} {s : State} (h : P s)
    (k : ∀ t, Sys2Proof.Machine.exec (debounceCommand s p.2) s = .next t → P t) : P (fireIfDue s p) := by
  unfold fireIfDue
  split
  · exact h
  · split
    · exact nextState_keeps h k
    · exact h

/-- Timers that end together keep what their command keeps. -/
theorem fireTimes_keeps {p : (State → Option Time) × Instr}
    (k : ∀ s t, P s → Sys2Proof.Machine.exec (debounceCommand s p.2) s = .next t → P t) :
    ∀ (n : Nat) (s : State), P s → P (fireTimes p n s)
  | 0, _, h => h
  | n + 1, s, h => fireTimes_keeps k n _ (fireIfDue_keeps h fun t => k s t h)

/-- A millisecond keeps what the clock and every timer's command keep. -/
theorem passTime_keeps {s : State} (clock : P { s with now := s.now + 1 })
    (k : ∀ p ∈ timers, ∀ s t, P s → Sys2Proof.Machine.exec (debounceCommand s p.2) s = .next t → P t) : P (passTime s) := by
  unfold passTime
  generalize ({ s with now := s.now + 1 } : State) = x at clock
  revert k
  induction timers generalizing x with
  | nil => intro _; exact clock
  | cons p l ih =>
    intro k
    exact ih _ (fireTimes_keeps (k p (List.mem_cons_self ..)) _ _ clock) fun q hq => k q (List.mem_cons_of_mem p hq)

/-- A reset that is due keeps what COMMANDED_RESET keeps. -/
theorem resetIfDue_keeps {s : State} (h : P s)
    (k : ∀ t, Sys2Proof.Machine.exec (.commandedReset s.pins.straps) s = .next t → P t) : P (resetIfDue s) := by
  unfold resetIfDue
  split
  · exact nextState_keeps h k
  · exact h

/-- A tick keeps what the clock, COMMANDED_RESET and every timer's command keep. -/
theorem tick_keeps (clock : ∀ s, P s → P { s with now := s.now + 1 })
    (reset : ∀ straps s t, P s → Sys2Proof.Machine.exec (.commandedReset straps) s = .next t → P t)
    (k : ∀ p ∈ timers, ∀ s t, P s → Sys2Proof.Machine.exec (debounceCommand s p.2) s = .next t → P t) {s : State} (h : P s) :
    P (tick s) := by
  unfold tick
  split
  · refine resetIfDue_keeps (passTime_keeps (clock _ ?_) k) fun t => reset _ _ t (passTime_keeps (clock _ ?_) k) <;>
      exact resetIfDue_keeps h fun t => reset _ _ t h
  · exact h

/-- A step keeps what the queue, the clock and every command keep. -/
theorem step_keeps (queue : ∀ s q, P s → P { s with pending := q }) (clock : ∀ s, P s → P { s with now := s.now + 1 })
    (k : ∀ i s t, P s → Sys2Proof.Machine.exec i s = .next t → P t) {s t : State} (h : P s)
    (e : Sys2Proof.Machine.step s = .next t) : P t := by
  unfold Sys2Proof.Machine.step at e
  split at e
  · injection e with e
    subst e
    exact tick_keeps clock (fun straps => k _) (fun p _ s t h => k _ s t h) h
  · exact k _ _ t (queue _ _ h) e

/-! ### The timers taken one after another -/

/-- A timer's look runs its command where it is due, and leaves the state alone where it is not. -/
theorem fireIfDue_cases (p : (State → Option Time) × Instr) (s : State) :
    (Due p s ∧ fireIfDue s p = nextState (debounceCommand s p.2) s) ∨ (¬Due p s ∧ fireIfDue s p = s) := by
  unfold fireIfDue Due
  split
  · rename_i h
    exact .inr ⟨by simp [h], rfl⟩
  · rename_i e h
    by_cases r : s.reached e = true
    · exact .inl ⟨⟨e, h, r⟩, by simp [r]⟩
    · exact .inr ⟨by simpa [h] using r, by simp [r]⟩

/-- A timer that is not due stays unlooked at, however often. -/
theorem fireTimes_rest {p : (State → Option Time) × Instr} {s : State} (h : ¬Due p s) : ∀ n, fireTimes p n s = s
  | 0 => rfl
  | n + 1 => by
    rw [fireTimes, ((fireIfDue_cases p s).resolve_left fun d => h d.1).2]
    exact fireTimes_rest h n

/-- The looks at one timer are its run, where every command answers a next state. -/
theorem fireTimes_run (total : ∀ i s, ∃ t, Sys2Proof.Machine.exec i s = .next t) (p : (State → Option Time) × Instr) :
    ∀ (n : Nat) (s : State), TimerRun p n s (fireTimes p n s)
  | 0, _ => .spent
  | n + 1, s => by
    by_cases d : Due p s
    · obtain ⟨t, e⟩ := total (debounceCommand s p.2) s
      have h : fireIfDue s p = t := by
        rw [((fireIfDue_cases p s).resolve_right fun r => r.1 d).2, nextState, e]
      exact .take d e (by rw [fireTimes, h]; exact fireTimes_run total p n t)
    · rw [fireTimes_rest d]
      exact .rest d

/-- The fold of the timers is their run. -/
theorem foldl_fireDue_run (total : ∀ i s, ∃ t, Sys2Proof.Machine.exec i s = .next t) :
    ∀ (l : List ((State → Option Time) × Instr)) (s : State), ExpiriesRun l s (l.foldl fireDue s)
  | [], _ => .done
  | _ :: l, s => .look (fireTimes_run total _ _ s) (foldl_fireDue_run total l _)

/-- Where no timer of a list is due the fold leaves the state alone. -/
theorem foldl_fireDue_rest {l : List ((State → Option Time) × Instr)} {s : State} (h : ∀ p ∈ l, ¬Due p s) :
    l.foldl fireDue s = s := by
  induction l with
  | nil => rfl
  | cons p l ih =>
    rw [List.foldl_cons, fireDue, fireTimes_rest (h p (List.mem_cons_self ..))]
    exact ih fun q hq => h q (List.mem_cons_of_mem p hq)

/-- A warning that ends is one of its list. -/
theorem firstEnd_length {l : List Warning} {e : Time} (h : firstEnd l = some e) : 0 < l.length := by
  cases l with
  | nil => simp [firstEnd] at h
  | cons => simp

/-- The two timers that may come due more than once at a tick. -/
theorem timers_together {p : (State → Option Time) × Instr} (m : p ∈ timers) :
    (p.2 = .closeCycleWarningEnd → p.1 = State.cycleEnd) ∧ (p.2 = .accessCloseWarningEnd → p.1 = State.accessEnd) := by
  revert p
  simp only [timers, closeTimers, silenceTimers, unitTimers, memberTimers, List.forall_mem_append, List.forall_mem_cons,
    List.forall_mem_map, List.forall_mem_flatten]
  simp

/-- A timer of the part that is due is looked at at least once. -/
theorem endsTogether_pos {p : (State → Option Time) × Instr} {s : State} (m : p ∈ timers) (h : Due p s) :
    0 < s.endsTogether p.2 := by
  obtain ⟨e, h, -⟩ := h
  unfold State.endsTogether
  split
  · exact firstEnd_length (((timers_together m).1 ‹_›) ▸ h)
  · exact firstEnd_length (((timers_together m).2 ‹_›) ▸ h)
  · exact Nat.one_pos

/-- The fold of the timers of which one alone is due, and none after its command, is its command's next state. -/
theorem foldl_fireDue_one {l l' : List ((State → Option Time) × Instr)} {p : (State → Option Time) × Instr} {s t : State}
    (split : timers = l ++ p :: l') (before : ∀ q ∈ l, ¬Due q s) (due : Due p s)
    (e : Sys2Proof.Machine.exec (debounceCommand s p.2) s = .next t) (after : ∀ q ∈ p :: l', ¬Due q t) :
    timers.foldl fireDue s = t := by
  have look : fireDue s p = t := by
    obtain ⟨n, hn⟩ := Nat.exists_eq_add_of_lt (endsTogether_pos (split ▸ by simp : p ∈ timers) due)
    rw [fireDue, hn, Nat.zero_add, fireTimes, ((fireIfDue_cases p s).resolve_right fun r => r.1 due).2, nextState, e]
    exact fireTimes_rest (after p (List.mem_cons_self ..)) n
  rw [split, List.foldl_append, foldl_fireDue_rest before, List.foldl_cons, look]
  exact foldl_fireDue_rest fun q hq => after q (List.mem_cons_of_mem p hq)

end Sys2Proof.Machine
end

