-- ==== Sys2Proof/Tests/Slice0.lean ====
section
/-! SUPPORT. The model's own tests: what WellFormed refuses, a state that meets the hypotheses of each statement, and single steps
whose results the spec states. -/

namespace Sys2Proof.Tests

open Sys2Proof.Machine

/-! ### Small states -/

/-- Unit 0 of the worked cases: template C (section 7.4, start-up of node 12). -/
def geometry0 : UnitGeometry := ⟨141800, 1000, 30, 1050, 90, ⟨600, 500, 1000, 60, 100⟩, 5000⟩

/-- Unit 1 of the worked cases: its custom profile, creep clamped to 100. -/
def geometry1 : UnitGeometry := ⟨137400, 1000, 30, 1050, 90, ⟨500, 450, 900, 100, 100⟩, 8000⟩

/-- Consist 2 of the worked cases (section 1.4). -/
def twoCars : Consist :=
  ⟨[0, 19800, 38800],
    [⟨3300, 1, 650⟩, ⟨8300, 1, 650⟩, ⟨13300, 1, 650⟩, ⟨22700, 2, 650⟩, ⟨27700, 2, 650⟩, ⟨32700, 2, 650⟩]⟩

/-- The configuration of node 12 in the worked cases. -/
def config12 : NodeConfig :=
  { faceId := 3, up := 13, down := 11, unitCount := 2, pulseMode := false, minorDrive := true
    params := ⟨1100, 500, 800, 2000, 8000, 2000, 3, 5000⟩, energy := some 10
    units := ⟨geometry0, geometry1, UnitGeometry.none, UnitGeometry.none⟩, consists := [twoCars, twoCars, twoCars] }

/-- A channel at rest in a state. -/
def channel (st : UnitState) (position : Int) : DoorChannel := { (DoorChannel.reset false).into st with position := position }

/-- Node 12 in RUNNING at node time 1,000, its two units locked. -/
def bay : State :=
  { State.reset with
    now := 1000
    cl := { Loader.loading 12 with phase := .running, outcome := some ⟨.ok, 0, none, 4⟩, config := config12, runningTime := some 900 }
    dc := ⟨channel .closedLocked 0, channel .closedLocked 0, channel .notConfigured 0, channel .notConfigured 0⟩ }

/-- The same node in another state of the CL. -/
def inPhase (p : LoaderState) : State := { bay with cl := { bay.cl with phase := p } }

/-- The same node with unit 0 in a state at a position. -/
def unitIn (st : UnitState) (position : Int) : State := bay.setDc .u0 (channel st position)

/-- The same with a timer of unit 0's channel running to 1,400. -/
def timed (st : UnitState) (f : DoorChannel → DoorChannel) : State := (unitIn st 500).modDc .u0 f

/-- Berth 37 at node 12 in a state: consist 2, S0 150,000, door 5 isolated, unit 0 served and unit 1 not. -/
def inBerth (b : BerthState) : State :=
  { bay with
    bu := { bay.bu with berth := ⟨37, some 2, some 150000, [5], b, false, .aligned, some 150118⟩ }
    ae :=
      { bay.ae with
        seq := 37, consist := some 2, s0 := some 150000, verdict := .aligned, sHat := some 150118, margin := some 40
        map := ⟨some ⟨.served, some 2, some 1, some 1300, some 1230⟩, some ⟨.partialWidth, some 3, some 1, some 1068, some 998⟩,
          none, none⟩ } }

/-- A Peer Table in which one slot is set. -/
def withSlot (n : Node) (x : Slot) (s : State) : State := s.setSlot n x

/-- A SILENT slot with a pairing time. -/
def silentSlot (pairing : Option Time) : Slot := { Slot.empty with state := .silent, lastFrame := some 0, pairing := pairing }

/-- A Transmit Queue entry. -/
def entry (kind : FrameKind) (payload : List Byte) (onLine : Bool) : TxEntry := ⟨kind, payload, none, onLine⟩

/-- A Transmit Queue of `n` more entries behind a head. -/
def queued (head : TxEntry) (n : Nat) (s : State) : State := s.setQueue (head :: List.replicate n (entry .answer [41, 6, 1, 17, 0] false))

/-- A warning period that runs, and one that is over. -/
def running (stop : Time) : Warning := ⟨900, stop, true⟩

def ended (stop : Time) : Warning := ⟨900, stop, false⟩

/-- A unit's member alone, at unit 0. -/
def first {α : Type} (x : α) : Quad (Option α) := ⟨some x, none, none, none⟩

/-- Berth 37 in CLOSING with a close cycle. -/
def closing (st : UnitState) (c : CloseCycle) : State :=
  ((inBerth .closing).setDc .u0 (channel st 1050)).setCycle (some c)

/-- Unit 0's filters and cells changed. -/
def sensed (f : UnitSensing → UnitSensing) (s : State) : State := s.modSu .u0 f

/-! ### Records -/

/-- A field of two bytes, one of three. -/
def wide2 (n : Nat) : List Byte := bytes2 (BitVec.ofNat 16 n)

def wide3 (n : Nat) : List Byte := bytes3 (BitVec.ofNat 24 n)

/-- A record with its length field and its check, the check worked out outside the model from R3. -/
def record (body : List Byte) (check : Nat) : List Byte := wide2 (body.length + 4) ++ body ++ wide2 check

/-- A car entry: its length and the offsets of its doors, each of half-width 650. -/
def carEntry (length : Nat) (doors : List Nat) : List Byte :=
  wide2 length ++ [byte doors.length] ++ (doors.map fun o => wide2 o ++ wide2 650).flatten ++ List.replicate (4 * (5 - doors.length)) 0

/-- A consist entry. -/
def consistEntry (cars : List (List Byte)) : List Byte := byte cars.length :: cars.flatten

/-- The node part of node 12's record in the worked start-up: two units, of templates C and custom. -/
def nodePart (consists : Nat) : List Byte :=
  [12, 3, 13, 11, 2, 0, 1] ++ wide2 1100 ++ wide2 500 ++ wide2 800 ++ wide2 1500 ++ wide2 9000 ++ wide2 2000 ++ [3] ++
    wide2 5000 ++ [10, byte consists] ++
    (wide3 141800 ++ wide2 1000 ++ [30] ++ wide2 1050 ++ [90, 2] ++ List.replicate 8 0 ++ wide2 5000) ++
    (wide3 137400 ++ wide2 1000 ++ [30] ++ wide2 1050 ++ [90, 4] ++ wide2 500 ++ wide2 450 ++ wide2 900 ++ [120, 100] ++
      wide2 9500) ++ List.replicate 40 0

/-- The record of the worked start-up: consists of 6, 4 and 2 cars, the third the consist of section 1.4. -/
def record12 : List Byte :=
  record (nodePart 3 ++ consistEntry (List.replicate 6 (carEntry 20000 [5000, 10000])) ++
    consistEntry (List.replicate 4 (carEntry 20000 [5000, 10000])) ++
    consistEntry [carEntry 19800 [3300, 8300, 13300], carEntry 19000 [2900, 7900, 12900]]) 0x16CF

/-- The shortest record that passes: one consist of one car with one door. -/
def shortest : List Byte := record (nodePart 1 ++ consistEntry [carEntry 8000 [1]]) 0x0940

/-- One consist of ten cars with five doors each. -/
def fifty : List Byte := record (nodePart 1 ++ consistEntry (List.replicate 10 (carEntry 26000 [1, 2, 3, 4, 25999]))) 0xB984

theorem test_check12 : checkPasses record12 387 = true := by rw [checkPasses_eq_forced]; decide +kernel

theorem test_check_shortest : checkPasses shortest 132 = true := by rw [checkPasses_eq_forced]; decide +kernel

theorem test_check_fifty : checkPasses fifty 339 = true := by rw [checkPasses_eq_forced]; decide +kernel

/-- The worked start-up passes with clamp count 4 (section 1.5). -/
theorem test_start_up_tally : judgeRecord record12 387 12 = ⟨.ok, 0, none, 4⟩ := by
  rw [judgeRecord_passed _ _ _ test_check12]; decide

/-- What it loads: the clamped parameters, unit 1's clamped creep and threshold, and the consist table of section 1.4. -/
theorem test_start_up_config :
    (buildConfig record12).params = config12.params ∧ (buildConfig record12).units = config12.units ∧
      (buildConfig record12).consists[2]? = some twoCars ∧ (buildConfig record12).energy = some 10 := by decide

/-! ### What WellFormed refuses -/

theorem test_refuses_source : (Instr.beacon 0 ⟨0, 0, 0, Quad.same 0, 0, 0, 0, 0⟩).wellFormed = false := by decide

theorem test_refuses_length : (Instr.answer 11 41 1 0 1 1 []).wellFormed = false := by decide

theorem test_refuses_sender : (Instr.release 12 37).wellFormed = false := by decide

theorem test_refuses_payload : (Instr.release 41 0).wellFormed = false := by decide

theorem test_refuses_short_pass : (Instr.configReadPassComplete [1]).wellFormed = false := by decide

theorem test_refuses_acceptable_bytes :
    (Instr.discardedFrame (Frame.bytes ⟨41, .release, [37]⟩) false).wellFormed = false := by decide +kernel

theorem test_refuses_alert_handle_as_other : (Instr.alert 11 1 0 37).wellFormed = false := by decide

theorem test_refuses_current : (Instr.controlSample .u0 0 16001).wellFormed = false := by decide

theorem test_refuses_car :
    (Instr.ownHoldDeadline 0).wellFormed = false ∧ (Instr.ownHoldDeadline 11).wellFormed = false := by decide

theorem test_refuses_slot :
    (Instr.silenceTimerExpiry 0).wellFormed = false ∧ (Instr.silenceTimerExpiry 48).wellFormed = false := by decide

theorem test_takes_bounds :
    (Instr.release 44 255).wellFormed = true ∧ (Instr.controlSample .u0 (-50) 16000).wellFormed = true ∧
      (Instr.ownHoldDeadline 10).wellFormed = true ∧ (Instr.silenceTimerExpiry 47).wellFormed = true ∧
      (Instr.discardedFrame (Frame.bytes ⟨41, .release, [37]⟩) true).wellFormed = true := by decide

/-! ### No word spells a command (the table gives no bits) -/

theorem test_no_word_spells : decodeTableWord 8 1 = none ∧ State.reset.withFetchWord 16 1 = State.reset := by decide

/-! ### States that meet the hypotheses of the statements -/

/-- No timer has come due, as a test that evaluates says it. -/
theorem none_due (s : State) (h : (timers.all fun p => (p.1 s).all fun e => !s.reached e) = true) :
    ∀ p ∈ timers, ∀ e, p.1 s = some e → s.reached e = false := by
  intro p hp e he
  simpa [he] using List.all_eq_true.mp h p hp

/-- A beacon due two milliseconds on. -/
def almostDue : State := { bay with pm := { bay.pm with cadence := some 1002 } }

/-- A timer of a list is due, as a test that evaluates says it. -/
def dueOf (l : List ((State → Option Time) × Instr)) (s : State) : Bool := l.any fun p => (p.1 s).any fun e => s.reached e

theorem not_due {l : List ((State → Option Time) × Instr)} {s : State} (h : dueOf l s = false) : ∀ q ∈ l, ¬Due q s := by
  rintro q hq ⟨e, he, r⟩
  have := List.any_eq_false.mp h q hq
  simp [he, r] at this

/-- A beacon due one millisecond on, the last of the timers. -/
def dueNext : State := { bay with pm := { bay.pm with cadence := some 1001 } }

/-- The same with a queue full of a RESET_NODE's RESULTs, of which the beacon removes the last: the reset has become due. -/
def dueWithReset : State :=
  { dueNext with
    lc := { dueNext.lc with queue := List.replicate 16 ⟨.result, [41, SubCommand.resetNode.code, 0, 0, 0], none, false⟩ }
    fr := { dueNext.fr with resetDue := true } }

theorem test_meets_StepTakesFrontOrTicks :
    ({ bay with supply := false }.pending = [] ∧ { bay with supply := false }.acts = false) ∧
      (almostDue.pending = [] ∧ almostDue.acts = true ∧ almostDue.fr.resetReported = false ∧
        ∀ p ∈ timers, ∀ e, p.1 { almostDue with now := almostDue.now + 1 } = some e →
          State.reached { almostDue with now := almostDue.now + 1 } e = false) ∧
      ∀ s ∈ [(dueNext, false), (dueWithReset, true)], s.1.pending = [] ∧ s.1.acts = true ∧ s.1.fr.resetReported = false ∧
        ∃ l p, timers = l ++ [p] ∧ (∀ q ∈ l, ¬Due q { s.1 with now := 1001 }) ∧ Due p { s.1 with now := 1001 } ∧
          ∃ t, Sys2Proof.Machine.exec (debounceCommand { s.1 with now := 1001 } p.2) { s.1 with now := 1001 } = .next t ∧
            (∀ q ∈ [p], ¬Due q t) ∧ t.fr.resetReported = s.2 := by
  refine ⟨by decide, ⟨by decide, by decide, by decide, none_due _ (by decide +kernel)⟩, ?_⟩
  intro s h
  simp only [List.mem_cons, List.not_mem_nil, or_false] at h
  rcases h with rfl | rfl <;>
    exact ⟨by decide, by decide, by decide, timers.dropLast, (fun s => s.pm.cadence, .beaconCadenceExpiry), rfl,
      not_due (by decide +kernel), ⟨1001, rfl, by decide⟩, _, rfl, not_due (by decide +kernel), by decide +kernel⟩

theorem test_meets_HeldPartStaysSafe :
    { bay with resetLow := true }.acts = false ∧ { bay with supply := false }.acts = false ∧
      Instr.attemptStart.isReset = false ∧ bay.cl.phase ≠ .loading ∧
      ({ bay with fr := { bay.fr with severePulse := some 1500 }, out := ⟨false, false, true, false⟩ }.out.severeOut = true) := by decide

theorem test_meets_ResetsRestart :
    (isBay 1 = true ∧ isBay 40 = true ∧ { bay with resetLow := true }.resetLow = true) ∧
      ({ bay with resetLow := true }.supply = true ∧ bay.acts = true ∧
        { bay with fr := { bay.fr with resetReported := true } }.fr.resetReported = true) ∧
      bay.resetLow = false ∧ bay.fr.resetReported = false ∧
      { bay with resetLow := true, supply := false }.supply = false ∧
      bay.cl.config.pulseMode = false ∧ State.reset.cl.phase = .loading := by decide

theorem test_meets_InvalidStrapsRefuse :
    isBay 0 = false ∧ isBay 41 = false ∧ isBay 63 = false ∧ bay.resetLow = false ∧
      ({ bay with resetLow := true }.resetLow = true ∧ { bay with resetLow := true }.supply = true) ∧
      { bay with fr := { bay.fr with resetReported := true } }.acts = true := by decide

theorem shortest_passes : (judgeRecord shortest 132 12).reason = .ok := by
  rw [judgeRecord_passed _ _ _ test_check_shortest]; decide

theorem fifty_passes : (judgeRecord fifty 339 12).reason = .ok := by
  rw [judgeRecord_passed _ _ _ test_check_fifty]; decide +kernel

/-- The least length, 132, and a longer one; a unit of a template and one of a custom profile, a value above its range and one below. -/
theorem test_meets_PassingRecordLoads :
    (State.reset.acts = true ∧ State.reset.cl.phase = .loading ∧ State.reset.cl.own = 12) ∧
      (field2 shortest 0 = 132 ∧ shortest.length = 132 ∧ shortest.take 132 = shortest ∧
        (judgeRecord shortest 132 12).reason = .ok ∧ 0 < (judgeRecord shortest 132 12).clamps) ∧
      (field2 fifty 0 = 339 ∧ fifty.length = 339 ∧ fifty.take 339 = fifty ∧ (judgeRecord fifty 339 12).reason = .ok) ∧
      field1 shortest (26 + 9) = 2 ∧ field1 shortest (46 + 9) = 4 ∧ field1 shortest (46 + 16) = 120 ∧
      field2 shortest (46 + 18) = 9500 ∧ field2 shortest 15 = 1500 ∧ field1 shortest 24 = 10 :=
  ⟨by decide +kernel, ⟨by decide +kernel, by decide +kernel, by decide +kernel, shortest_passes,
    by rw [judgeRecord_passed _ _ _ test_check_shortest]; decide⟩,
    ⟨by decide +kernel, by decide +kernel, by decide +kernel, fifty_passes⟩, by decide +kernel⟩

/-- A record of 132 bytes whose check does not match. -/
def unsound : List Byte := 0 :: 132 :: List.replicate 130 0

theorem unsound_fails : checkPasses unsound 132 = false := by rw [checkPasses_eq_forced]; decide +kernel

/-- The shortest record with bytes changed, and the check that then fits it, worked out outside the model from R3. -/
def altered (changes : List (Nat × Byte)) (check : Nat) : List Byte :=
  changes.foldl (fun r c => r.set c.1 c.2) (shortest.take 130) ++ wide2 check

/-- Altered records, each with the outcome that R5 to R8 give it: no consist, no car, one car more than the length holds, face id 8, a
moving mass of 19, a template index of 5, unit 1's opening over unit 0's, a door at offset 0, a consist without a door, a half-width of
299. -/
def alteredOnes : List (List Byte × LoadOutcome) :=
  [ (altered [(25, 0)] 0xFDA7, ⟨.structural, 25, none, 0⟩), (altered [(106, 0)] 0x3E43, ⟨.structural, 106, none, 0⟩),
    (altered [(106, 2)] 0x5045, ⟨.structural, 0, none, 0⟩), (altered [(3, 8)] 0xF40D, ⟨.nodeField, 3, none, 0⟩),
    (altered [(34, 19)] 0x0204, ⟨.unitField, 34, some 0, 0⟩), (altered [(55, 5)] 0xFA7E, ⟨.unitField, 55, some 1, 0⟩),
    (altered [(46, 2), (47, 41), (48, 232)] 0x59DD, ⟨.unitField, 46, some 1, 0⟩),
    (altered [(110, 0), (111, 0)] 0xD75F, ⟨.consistField, 110, some 0, 0⟩),
    (altered [(109, 0)] 0xDCB6, ⟨.consistField, 106, some 0, 0⟩),
    (altered [(112, 1), (113, 43)] 0xD5DA, ⟨.consistField, 112, some 0, 0⟩) ]

theorem altered_pass : ∀ x ∈ alteredOnes, checkPasses x.1 132 = true := by
  simp only [checkPasses_eq_forced]; decide +kernel

/-- Each is refused at its first failing field (R5 to R8). -/
theorem test_first_failures : ∀ x ∈ alteredOnes, judgeRecord x.1 132 12 = x.2 := by
  intro x h
  rw [judgeRecord_passed _ _ _ (altered_pass x h)]
  revert x h
  decide +kernel

/-- The bytes at offsets 3 to 8 that the node part of these records holds fail nowhere at node 12. -/
theorem node_fine (r : List Byte) (h : [3, 4, 5, 6, 7, 8].map (field1 r) = [3, 13, 11, 2, 0, 1]) :
    ∀ k, ¬NodeFieldFails r 12 k := by
  simp only [List.map_cons, List.map_nil, List.cons.injEq] at h
  have : (12 : Node).toNat = 12 := rfl
  unfold NodeFieldFails
  omega

/-- One consist of one car ends at byte 130. -/
theorem structure_fine (r : List Byte) (h : field1 r 25 = 1) (c : field1 r 106 = 1) : ∀ k, ¬StructureFails r 132 k := by
  have e : consistOffsets r (field1 r 25) 106 = [106] := by rw [h]; rfl
  intro k f
  unfold StructureFails at f
  rw [e, h] at f
  rcases f with ⟨f, _⟩ | ⟨_, _, ⟨l, p, l', q, _, f⟩ | ⟨_, f, _⟩⟩
  · omega
  · have : p = 106 := by
      rcases l with _ | ⟨a, l⟩
      · simpa using (List.cons.inj q).1.symm
      · simpa using congrArg List.length q
    subst this
    omega
  · simp [c] at f

/-- An entry of 1,000 mm half-width whose other fields lie in their ranges. -/
theorem unit_fine (r : List Byte) (e p t : Nat)
    (h : [field3 r e, field2 r (e + 3), field1 r (e + 5), field2 r (e + 6), field1 r (e + 8), field1 r (e + 9)] =
      [p, 1000, 30, 1050, 90, t]) (hp : 1000 ≤ p ∧ p ≤ 399000) (ht : t ≤ 4) : UnitEntryOk r e := by
  simp only [List.cons.injEq] at h
  unfold UnitEntryOk OpeningFits UnitFieldFails
  exact ⟨by omega, fun k => by omega⟩

/-- One consist of one car of 8,000 mm with one door fails at that door's two fields alone. -/
theorem consist_fails (r : List Byte) (c : field1 r 106 = 1) (d : field1 r 109 = 1) (l : field2 r 107 = 8000) (k : Nat) :
    ConsistFieldFails r 106 k ↔
      (k = 110 ∧ (field2 r 110 < 1 ∨ 8000 ≤ field2 r 110)) ∨ (k = 112 ∧ (field2 r 112 < 300 ∨ 900 < field2 r 112)) := by
  unfold ConsistFieldFails CarFieldFails
  constructor
  · rintro (⟨_, h⟩ | ⟨i, hi, h⟩)
    · have := h 0 (by omega)
      simp [d] at this
    · obtain rfl : i = 0 := by omega
      simp only [Nat.mul_zero, Nat.add_zero, Nat.reduceAdd] at h
      rcases h with h | h | ⟨n, hn, h⟩
      · omega
      · omega
      · obtain rfl : n = 0 := by omega
        simp only [Nat.mul_zero, Nat.add_zero, Nat.lt_irrefl, false_and, or_false] at h
        rcases h with ⟨rfl, h⟩ | ⟨rfl, h⟩ <;> omega
  · intro h
    refine Or.inr ⟨0, by omega, Or.inr (Or.inr ⟨0, by simp [d], ?_⟩)⟩
    simp only [Nat.mul_zero, Nat.add_zero, Nat.reduceAdd, l, Nat.lt_irrefl, false_and, or_false]
    rcases h with ⟨rfl, h⟩ | ⟨rfl, h⟩
    · exact Or.inl ⟨rfl, h⟩
    · exact Or.inr ⟨rfl, h⟩

/-- A record for each clause, the first with the last: its check fails; another node's; no consist; face id 8; a mass of 19; an opening
off the platform; two openings in one place; a door at offset 0; and one that passes. -/
theorem test_meets_RecordsJudged :
    (132 ≤ unsound.length ∧ ¬CheckOk unsound 132) ∧
      (shortest.length = 132 ∧ CheckOk shortest 132 ∧ field1 shortest 2 = (12 : Node).toNat ∧ field1 shortest 2 ≠ (13 : Node).toNat ∧
        (∀ k, ¬StructureFails shortest 132 k) ∧ (∀ k, ¬NodeFieldFails shortest 12 k) ∧
        UnitEntryOk shortest 26 ∧ UnitEntryOk shortest 46 ∧ OpeningsApart shortest 46 26 ∧
        consistOffsets shortest (field1 shortest 25) 106 = [106] ∧ ∀ j, ¬ConsistFieldFails shortest 106 j) ∧
      (let r := altered [(25, 0)] 0xFDA7;
        CheckOk r 132 ∧ field1 r 2 = 12 ∧ StructureFails r 132 25) ∧
      (let r := altered [(3, 8)] 0xF40D;
        CheckOk r 132 ∧ (∀ k, ¬StructureFails r 132 k) ∧ FirstAt (NodeFieldFails r 12) 3) ∧
      (let r := altered [(34, 19)] 0x0204;
        CheckOk r 132 ∧ (∀ k, ¬StructureFails r 132 k) ∧ (∀ k, ¬NodeFieldFails r 12 k) ∧ OpeningFits r 26 ∧
          FirstAt (UnitFieldFails r 26) 8) ∧
      (let r := altered [(26, 0), (27, 3), (28, 231)] 0xEDF8;
        CheckOk r 132 ∧ (∀ k, ¬StructureFails r 132 k) ∧ (∀ k, ¬NodeFieldFails r 12 k) ∧ ¬OpeningFits r 26) ∧
      (let r := altered [(46, 2), (47, 41), (48, 232)] 0x59DD;
        CheckOk r 132 ∧ (∀ k, ¬StructureFails r 132 k) ∧ (∀ k, ¬NodeFieldFails r 12 k) ∧ UnitEntryOk r 26 ∧ UnitEntryOk r 46 ∧
          ¬OpeningsApart r 46 26) ∧
      (let r := altered [(110, 0), (111, 0)] 0xD75F;
        CheckOk r 132 ∧ (∀ k, ¬StructureFails r 132 k) ∧ (∀ k, ¬NodeFieldFails r 12 k) ∧ UnitEntryOk r 26 ∧ UnitEntryOk r 46 ∧
          OpeningsApart r 46 26 ∧ consistOffsets r (field1 r 25) 106 = [106] ∧ FirstAt (ConsistFieldFails r 106) 110) := by
  have sums : CheckOk shortest 132 ∧ CheckOk (altered [(25, 0)] 0xFDA7) 132 ∧ CheckOk (altered [(3, 8)] 0xF40D) 132 ∧
      CheckOk (altered [(34, 19)] 0x0204) 132 ∧ CheckOk (altered [(26, 0), (27, 3), (28, 231)] 0xEDF8) 132 ∧
      CheckOk (altered [(46, 2), (47, 41), (48, 232)] 0x59DD) 132 ∧ CheckOk (altered [(110, 0), (111, 0)] 0xD75F) 132 ∧
      ¬CheckOk unsound 132 := by
    simp only [checkOk_forced]
    decide +kernel
  obtain ⟨a, b, c, d, e, f, g, h⟩ := sums
  refine ⟨⟨by decide +kernel, h⟩, ⟨by decide +kernel, a, by decide, by decide, structure_fine _ (by decide) (by decide),
    node_fine _ (by decide), unit_fine _ _ 141800 2 (by decide) (by decide) (by decide),
    unit_fine _ _ 137400 4 (by decide) (by decide) (by decide), by unfold OpeningsApart; decide, by decide, ?_⟩,
    ⟨b, by decide, Or.inl (by decide)⟩,
    ⟨c, structure_fine _ (by decide) (by decide), by unfold FirstAt NodeFieldFails; decide⟩,
    ⟨d, structure_fine _ (by decide) (by decide), node_fine _ (by decide), by unfold OpeningFits; decide,
      by unfold FirstAt UnitFieldFails; decide⟩,
    ⟨e, structure_fine _ (by decide) (by decide), node_fine _ (by decide), by unfold OpeningFits; decide⟩,
    ⟨f, structure_fine _ (by decide) (by decide), node_fine _ (by decide),
      unit_fine _ _ 141800 2 (by decide) (by decide) (by decide), unit_fine _ _ 141800 4 (by decide) (by decide) (by decide),
      by unfold OpeningsApart; decide⟩,
    ⟨g, structure_fine _ (by decide) (by decide), node_fine _ (by decide),
      unit_fine _ _ 141800 2 (by decide) (by decide) (by decide), unit_fine _ _ 137400 4 (by decide) (by decide) (by decide),
      by unfold OpeningsApart; decide, by decide, ?_⟩⟩
  · intro j
    rw [consist_fails _ (by decide) (by decide) (by decide)]
    have : field2 shortest 110 = 1 ∧ field2 shortest 112 = 650 := by decide
    omega
  · simp only [FirstAt, consist_fails _ (show field1 (altered [(110, 0), (111, 0)] 0xD75F) 106 = 1 by decide) (by decide) (by decide)]
    decide

theorem test_meets_RefusedLoads :
    (field2 [0, 131] 0 < 132 ∧ 1494 < field2 [5, 215] 0) ∧
      ((judgeRecord unsound 132 12).reason ≠ .ok ∧ field2 unsound 0 = 132 ∧ State.reset.cl.own = 12) ∧
      (2 ≤ { State.reset.cl with failures := 2 }.failures ∧ { State.reset.cl with failures := 1 }.failures < 2) := by
  rw [judgeRecord, unsound_fails]
  decide +kernel

/-- Node 12 in LOADING reads the worked record to its end. -/
theorem record12_ends (s : State) (r : s.reading = true) (o : s.cl.own = 12) :
    Sys2Proof.Machine.exec (.configReadPassComplete record12) s = .next (endLoad ⟨.ok, 0, none, 4⟩ (buildConfig record12) s) := by
  have h0 : field2 record12 0 = 387 := by decide +kernel
  have h1 : record12.length = 387 := by decide +kernel
  have h2 : record12.take 387 = record12 := by decide +kernel
  have h3 : takePass record12 s = endLoad ⟨.ok, 0, none, 4⟩ (buildConfig record12) s := by
    rw [takePass, h0, h1, h2, takeRecord, o, test_start_up_tally, if_neg (by decide), if_neg (by decide), if_neg (by decide)]
    exact congrArg (fun c => endLoad _ c s) (if_pos rfl)
  rw [← h3]
  show Host.Outcome.next (if s.reading then takePass record12 s else s) = _
  rw [if_pos r]

/-- The worked start-up loads: LISTEN, both units locked, two not configured, and CONFIG_CLAMPED kept (section 1.5). -/
theorem test_meets_StartStates :
    ∃ t, Sys2Proof.Machine.exec (.configReadPassComplete record12) State.reset = .next t ∧ t.cl.phase = .listen ∧
      (t.configured .u1 = true ∧ t.unit .u1 = .closedLocked) ∧ t.configured .u2 = false ∧
      t.fr.minor = some ⟨.configClamped, none, 0, 0⟩ :=
  ⟨_, record12_ends _ (by decide) rfl, by decide +kernel⟩

/-- LOADING with unit 0's handle and unit 1's panel held, the mark of unit 1 set, the wire asserted, and so many failed reads. -/
def heldInLoading (failures : Nat) : State :=
  let s := { State.reset with cl := { State.reset.cl with failures := failures } }
  ((s.modPins .u0 fun p => { p with handle := true }).modPins .u1 fun p => { p with panel := true, edge := true }).setDc .u1
    (DoorChannel.reset true)

/-- A record, with the clamp report before the captures; the third failed read, with an empty minor slot and a filled one; two resets
with a strap value that is no bay controller's. -/
theorem test_meets_StartStates_captures :
    (∃ t, Sys2Proof.Machine.exec (.configReadPassComplete record12) (heldInLoading 0) = .next t ∧ t.cl.phase = .listen ∧
        (t.unit .u0 = .manualReleased ∧ t.unit .u1 = .isolated) ∧ (t.su.units.get .u1).gapTimer = none ∧
        (t.iu.releaseSet = [12] ∧ t.iu.panelMarks.get .u1 = true) ∧
        t.lc.queue = [entry .alert [1, 0, 0] false, entry .alert [2, 1, 0] false]) ∧
      (∃ t, Sys2Proof.Machine.exec .configReadFail (heldInLoading 2) = .next t ∧ t.cl.phase = .configFault ∧
        t.fr.minor = some ⟨.handle, some .u0, 0, 0⟩ ∧ t.unit .u3 = .closedLocked ∧
        t.fr.kinds.getD 16 (Counter.zero 16) = ⟨1, false⟩) ∧
      (heldInLoading 2).fr.kinds.length = 17 ∧
      (isBay 0 = false ∧ bay.resetLow = false ∧ { bay with resetLow := true }.supply = true) := by
  refine ⟨⟨_, record12_ends _ (by decide) rfl, ?_⟩, ⟨_, rfl, ?_⟩, by decide⟩
  · decide +kernel
  · decide +kernel

theorem test_meets_TrainDoorsAscend :
    (judgeRecord fifty 339 12).reason = .ok ∧ (((buildConfig fifty).consists.map fun c => c.doors.length) = [50]) ∧
      (judgeRecord shortest 132 12).reason = .ok ∧
      (((buildConfig shortest).consists.map fun c => (c.doors.length, c.lengths.getLast?)) = [(1, some 8000)]) :=
  ⟨fifty_passes, by decide +kernel, shortest_passes, by decide +kernel⟩

theorem test_meets_WaitsEnd :
    ((inPhase .listen).acts = true ∧ (inPhase .listen).cl.phase = .listen) ∧
      { (inPhase .listen).cl with listenTimer := some 1000 }.listenTimer = some 1000 ∧
      (inPhase .configFault).cl.phase = .configFault ∧
      { (inPhase .configFault).cl with quietTimer := some 1001 }.quietTimer = some 1001 ∧
      (inPhase .listen).lc.queue.length ≤ 8 ∧ (inPhase .configFault).out.contact = false := by decide

/-- A frame waits; it is on the line. -/
def waiting : State := queued (entry .beacon [0, 0, 0, 0, 0, 0, 0, 0] false) 15 bay

def sending : State := queued (entry .beacon [0, 0, 0, 0, 0, 0, 0, 0] true) 15 bay

theorem test_meets_AttemptsStartAndLose :
    (waiting.canSend = true ∧ waiting.onLine = none ∧ waiting.lc.queue ≠ []) ∧
      ((inPhase .listen).canSend = false ∧ sending.onLine.isSome = true ∧ bay.lc.queue = []) ∧
      sending.acts = true := by decide

/-- A beacon on the line that holds a successor. -/
def succeeding : State :=
  bay.setQueue [{ entry .beacon [0, 0, 0, 0, 0, 0, 0, 0] true with successor := some [37, 0, 0, 0, 0, 0, 0, 0] }]

/-- A queue of 15 entries and of 16, whose highest class is 6; errors at 30 and 31. -/
theorem test_meets_AttemptsAndQueue :
    (waiting.canSend = true ∧ waiting.onLine = none ∧ waiting.lc.queue ≠ []) ∧
      (sending.takes = true ∧ sending.onLine = some (entry .beacon [0, 0, 0, 0, 0, 0, 0, 0] true) ∧
        QueueOk sending.lc.queue ∧ SuccessorsOk sending.lc.queue) ∧
      (succeeding.takes = true ∧ succeeding.onLine.isSome = true ∧ QueueOk succeeding.lc.queue ∧
        SuccessorsOk succeeding.lc.queue ∧ succeeding.pm.cadence = none) ∧
      (entry .result [41, 9, 0, 1, 0] true).isResetResult = true ∧
      ({ sending.lc with errors := 30 }.errors < 31 ∧ 31 ≤ { sending.lc with errors := 31 }.errors ∧ sending.fr.minor = none) ∧
      ((succeeding.takes = true ∧ { sending.lc with quietTimer := some 1000 }.quietTimer = some 1000) ∧
        (∃ x ∈ sending.lc.queue, x.kind = .beacon)) ∧
      ((queued (entry .answer [41, 6, 1, 17, 0] false) 14 bay).lc.queue.length = 15 ∧ sending.lc.queue.length = 16 ∧
        (∀ x ∈ sending.lc.queue, x.onLine = false → x.kind.cls ≤ FrameKind.answer.cls) ∧
        ∃ x ∈ sending.lc.queue, x.onLine = false ∧ FrameKind.alert.cls < x.kind.cls) := by
  unfold QueueOk SuccessorsOk
  decide

theorem test_meets_QueueStaysOk : QueueOk sending.lc.queue ∧ ∃ t, Sys2Proof.Machine.step sending = .next t :=
  ⟨by unfold QueueOk; decide, _, rfl⟩

theorem test_meets_BadFramesCount :
    (frameOf (.release 12 37) = some ⟨12, .release, [37]⟩ ∧ Frame.ok ⟨12, .release, [37]⟩ = false ∧ bay.hears = true) ∧
      acceptBytes (Frame.bytes ⟨41, .release, [37]⟩) true = none ∧ acceptBytes [] false = none := by decide

theorem test_meets_FramesRoundTrip :
    Frame.ok ⟨44, .release, [255]⟩ = true ∧ Frame.ok ⟨1, .answer, [47, 6, 47, 0x11, 1]⟩ = true ∧
      Frame.ok ⟨40, .answer, [41, 1, 0, 0xFF, 1, 2, 3, 4]⟩ = true := by decide

theorem test_meets_OwnNumberConflicts :
    frameOf (.holdStart 12 37 1) = some ⟨12, .hold, [37, 1, 1]⟩ ∧ Frame.ok ⟨12, .hold, [37, 1, 1]⟩ = true ∧
      bay.hears = true ∧ bay.cl.own = 12 ∧ bay.pm.identityConflict = false ∧
      { bay.pm with identityConflict := true }.identityConflict = true ∧ bay.noCloses := by
  unfold State.noCloses; decide

theorem test_meets_NotesOnly :
    (frameOf (.result 11 41 1 1 1 0) = some ⟨11, .result, [41, 1, 1, 1, 0]⟩ ∧ Frame.ok ⟨11, .result, [41, 1, 1, 1, 0]⟩ = true) ∧
      (frameOf (.alert 40 6 255 0) = some ⟨40, .alert, [6, 255, 0]⟩ ∧ Frame.ok ⟨40, .alert, [6, 255, 0]⟩ = true) ∧
      (frameOf (.answer 1 47 6 47 1 1 [0]) = some ⟨1, .answer, [47, 6, 47, 0x11, 0]⟩ ∧
        Frame.ok ⟨1, .answer, [47, 6, 47, 0x11, 0]⟩ = true) ∧
      (bay.hears = true ∧ (11 : Node) ≠ bay.cl.own ∧ bay.pm.slots.length = 64 ∧ (bay.slot 11).state ≠ .silent) ∧
      ((withSlot 11 (silentSlot none) bay).slot 11).state = .silent ∧ isBay 11 = true := by decide

/-- A beacon that names node 12 silent, and one that does not and shows a release. -/
def namesUs : Beacon := ⟨0, 0, 0, Quad.same 15, 0, 12, 0, 0⟩

def releases : Beacon := ⟨0, 0, 0, Quad.same 15, 0x40, 0, 0, 0⟩

/-- A node whose neighbour 13 is LIVE and has not named it for `n` beacons, and whose other neighbour was never heard. -/
def unnamed (n : Nat) : State := withSlot 13 { Slot.empty with state := .live, naming := n, silenceTimer := some 1000 } bay

/-- The same node, with its other neighbour SILENT and NOT_HEARD as given. -/
def otherSilent (n : Nat) (set : Bool) : State :=
  (withSlot 11 (silentSlot none) (unnamed n)).modPm fun p => { p with notHeard := set }

/-- Pairing times 600 ms and 601 ms back, and none; naming runs of 2 and 3; a neighbour's silence. -/
theorem test_meets_BeaconsTaken :
    (bay.hears = true ∧ bay.pm.slots.length = 64) ∧
      (Frame.ok ⟨13, .beacon, beaconBytes namesUs⟩ = true ∧ Frame.ok ⟨13, .beacon, beaconBytes releases⟩ = true ∧
        (13 : Node) ≠ bay.cl.own ∧ 13 ∈ bay.neighbours ∧ namesUs.up = nodeByte bay.cl.own ∧
        releases.up ≠ nodeByte bay.cl.own ∧ releases.down ≠ nodeByte bay.cl.own ∧ releases.flags.getLsbD 6 = true) ∧
      ((20 : Node) ∉ bay.neighbours ∧ Frame.ok ⟨20, .beacon, beaconBytes releases⟩ = true ∧ (bay.slot 13).state ≠ .silent) ∧
      (((withSlot 13 (silentSlot (some 400)) bay).slot 13).state = .silent ∧ (bay.now - 400).toNat ≤ 600) ∧
      (600 < (bay.now - 399).toNat ∧ ((withSlot 13 (silentSlot none) bay).slot 13).pairing = none) ∧
      ((unnamed 2).pm.notHeard = false ∧ Unheard (unnamed 3) ∧ ¬Unheard (unnamed 2) ∧ (unnamed 3).fr.minor = none) ∧
      (bay.bu.cycle = none ∧ bay.bu.departure = none ∧ bay.iu.emergencyClose = none ∧ bay.iu.accessClose = none) ∧
      (Frame.ok ⟨13, .alert, [1, 0, 37]⟩ = true ∧ bay.running = true) ∧
      ((unnamed 3).loaded = true ∧ ((unnamed 3).slot 13).silenceTimer = some 1000) := by
  unfold Unheard; decide

/-- A SILENT neighbour's beacon that does not name the node, with NOT_HEARD clear, its condition met and not, and with it set. -/
theorem test_meets_BeaconsTaken_unnamed :
    (Frame.ok ⟨11, .beacon, beaconBytes releases⟩ = true ∧ (11 : Node) ≠ bay.cl.own ∧ 11 ∈ (otherSilent 3 true).neighbours ∧
        (otherSilent 3 true).hears = true ∧ (otherSilent 3 true).pm.slots.length = 64) ∧
      (Unheard (otherSilent 3 false) ∧ ¬Unheard (otherSilent 2 false) ∧ (otherSilent 3 false).pm.notHeard = false) ∧
      (otherSilent 3 true).pm.notHeard = true := by
  unfold Unheard; decide

theorem test_meets_SilenceFalls :
    let s := withSlot 40 { Slot.empty with state := .live, silenceTimer := some 1000 } bay
    (s.loaded = true ∧ s.pm.slots.length = 64 ∧ (s.slot 40).silenceTimer = some 1000) ∧
      isBay 40 = true ∧ isBay 41 = false := by decide

theorem test_meets_BeaconTimers :
    let s := { bay with pm := { bay.pm with cadence := some 1000, gap := some 1000, absenceTimer := some 1000, changePending := true } }
    (s.loaded = true ∧ s.pm.cadence = some 1000 ∧ s.lc.queue.length < 16) ∧
      (s.pm.gap = some 1000 ∧ s.pm.changePending = true ∧ s.pm.lastBeacon ≠ some (s.reach 1000).summary) ∧
      ({ s.pm with lastBeacon := some (s.reach 1000).summary }.lastBeacon = some (s.reach 1000).summary) ∧
      bay.pm.changePending = false ∧ s.pm.absenceTimer = some 1000 := by decide

/-- The latch set, and the wire asserted. -/
def latched (wire : Bool) : State :=
  { bay with iu := { bay.iu with latch := true }, su := { bay.su with wire := ⟨wire, none⟩ } }

/-- Every state of the open-request table, the last millimetre and full travel in CLOSING. -/
theorem test_open_request_states :
    OpenIgnored false bay .u0 ∧ ¬OpenIgnored true bay .u0 ∧
      (∀ st ∈ [UnitState.unlocking, .heldOpen, .locking, .homing, .manualReleased, .releaseRestored, .isolated, .fault, .unknown],
        OpenIgnored true (unitIn st 0) .u0) ∧
      (∀ st ∈ [UnitState.opening, .opened, .closing, .reversing, .reopenWait], ¬OpenIgnored false (unitIn st 0) .u0) ∧
      0 < (unitIn .closing 1049).remainingOpen .u0 ∧ (unitIn .closing 1050).remainingOpen .u0 ≤ 0 ∧
      (bay.modPins .u0 fun p => { p with driveFault := true }).driveFault .u0 = true :=
  ⟨by unfold OpenIgnored; decide, by unfold OpenIgnored; decide, by unfold OpenIgnored; decide,
    by unfold OpenIgnored; decide, by decide, by decide, by decide⟩

theorem test_meets_EmergencyOpens :
    Accepted ⟨41, .stationEmergency, [1]⟩ bay ∧ Accepted ⟨44, .stationEmergency, [1]⟩ (inPhase .listen) ∧
      Accepted ⟨41, .stationEmergency, [1]⟩ (latched true) ∧
      (bay.iu.latch = false ∧ bay.configured .u0 = true ∧ bay.unit .u0 = .closedLocked ∧ bay.driveFault .u0 = false ∧
        bay.configured .u2 = false ∧ (unitIn .fault 0).unit .u0 = .fault) ∧
      (Accepted ⟨41, .stationEmergency, [1]⟩ (unitIn .reversing 1) ∧ (unitIn .reversing 1).unit .u0 = .reversing) := by
  unfold Accepted; decide

theorem test_meets_EmergencyResets :
    Accepted ⟨41, .stationEmergency, [2]⟩ bay ∧ Accepted ⟨41, .stationEmergency, [2]⟩ (inPhase .listen) ∧
      Accepted ⟨41, .stationEmergency, [2]⟩ (latched true) ∧
      ((latched true).su.wire.level = true ∧ (latched false).su.wire.level = false ∧ (latched false).iu.latch = true) ∧
      UnitState.opened.emergencyMember = true ∧ bay.configured .u0 = true ∧
      UnitNo.all.all (fun u => !((latched false).unit u).emergencyMember) = true := by
  unfold Accepted; decide

theorem test_meets_BerthsAnnounced :
    (AcceptedRunning ⟨41, .berth, [37, 2] ++ bytes3 150000 ++ [5, 9, 0]⟩ bay ∧ bay.berthState = .idle ∧
        bay.cl.config.consists[2]? = some twoCars ∧ UnitNo.all.all (fun u => !bay.iu.accessMarks.get u) = true) ∧
      (let s := { bay with iu := { bay.iu with accessMarks := ⟨false, true, false, false⟩ } };
        AcceptedRunning ⟨41, .berth, [37, 2] ++ bytes3 150000 ++ [5, 9, 0]⟩ s ∧
          UnitNo.all.find? s.iu.accessMarks.get = some .u1 ∧ s.preempted .u1 = true) ∧
      (AcceptedRunning ⟨41, .berth, [37, 2] ++ bytes3 150000 ++ [0, 0, 0]⟩ (inBerth .fixed) ∧
        (inBerth .fixed).berthState ≠ .idle ∧ (inBerth .fixed).seq = 37) ∧
      (AcceptedRunning ⟨41, .berth, [38, 3] ++ bytes3 400000 ++ [0, 0, 0]⟩ bay ∧ bay.cl.config.consists.length ≤ 3) ∧
      ((inBerth .released).berthState = .released ∧ (38 : Byte) ≠ (inBerth .released).seq) ∧
      ((inBerth .secured).berthState = .secured ∧
        UnitNo.all.all (fun u => !(inBerth .secured).configured u || (inBerth .secured).unit u == .closedLocked) = true ∧
        (inBerth .secured).cl.config.consists[2]? = some twoCars) := by
  unfold AcceptedRunning Accepted; decide

theorem test_meets_OtherSequencesDiscarded :
    frameOf (.close 41 38) = some ⟨41, .close, [38]⟩ ∧ AcceptedRunning ⟨41, .close, [38]⟩ (inBerth .released) ∧
      (38 : Byte) ≠ (inBerth .released).seq := by
  unfold AcceptedRunning Accepted; decide

/-- Nine and ten doors stand isolated. -/
theorem test_meets_BerthExtAdds :
    AcceptedRunning ⟨41, .berthExt, [37, 1, 2, 3, 4, 5, 6, 7]⟩ (inBerth .announced) ∧
      AcceptedRunning ⟨41, .berthExt, [37, 1, 2, 3, 4, 5, 6, 7]⟩ (inBerth .fixed) ∧ (inBerth .announced).seq = 37 ∧
      (inBerth .announced).bu.berth.isolated.Nodup ∧ (inBerth .announced).doorCount = 6 ∧
      { (inBerth .fusing).bu.berth with isolated := [11, 12, 13, 14, 15, 16, 17, 18, 19, 20] }.isolated.length ≤ 10 ∧
      ([0, 6, 7] : List Byte).countP (fun d => d != 0 && !([5, 6] : List Nat).contains d.toNat) = 1 := by
  unfold AcceptedRunning Accepted; decide

theorem test_meets_StandstillOpensWindow :
    AcceptedRunning ⟨41, .standstill, [37]⟩ (inBerth .announced) ∧ AcceptedRunning ⟨41, .standstill, [37]⟩ (inBerth .fusing) ∧
      AcceptedRunning ⟨41, .standstill, [38]⟩ (inBerth .announced) ∧ (inBerth .announced).seq = 37 ∧
      (inBerth .announced).berthState = .announced ∧ (inBerth .fusing).berthState ≠ .announced := by
  unfold AcceptedRunning Accepted; decide

/-- Berth 37 in a state under the latch. -/
def berthLatched (b : BerthState) : State := { inBerth b with iu := { (inBerth b).iu with latch := true } }

/-- Berth 37 FIXED with another verdict. -/
def withVerdict (b : BerthState) (v : Verdict) : State := (inBerth b).modBerth fun r => { r with verdict := v }

/-- Berth 37 FUSING, its window at its end; a release may be held. -/
def fusing (held : Bool) : State :=
  let s := inBerth .fusing
  { s with
    bu := { s.bu with berth := { s.bu.berth with pendingRelease := held } }
    ae :=
      { s.ae with
        window := some 1000
        samples := [⟨12, 0, 2, 150120, 4⟩, ⟨11, 1, 4, 150140, 4⟩, ⟨13, 1, 1, 150100, 2⟩, ⟨12, 1, 3, 150090, 2⟩, ⟨13, 0, 1, 150460, 1⟩] } }

/-- Berth 37 FIXED with a release held. -/
def heldFixed (v : Verdict) : State := (withVerdict .fixed v).modBerth fun r => { r with pendingRelease := true }

theorem test_meets_ReleasesJudged :
    (AcceptedRunning ⟨41, .release, [(inBerth .secured).seq]⟩ (inBerth .secured) ∧ (inBerth .secured).berthState = .secured) ∧
      (AcceptedRunning ⟨41, .release, [(berthLatched .fixed).seq]⟩ (berthLatched .fixed) ∧ (berthLatched .fixed).iu.latch = true) ∧
      (AcceptedRunning ⟨41, .release, [(inBerth .announced).seq]⟩ (inBerth .announced) ∧
        (inBerth .announced).pm.identityConflict = false ∧ (inBerth .announced).iu.latch = false) ∧
      ((withVerdict .fixed .outOfTolerance).berthState = .fixed ∧
        (withVerdict .fixed .outOfTolerance).bu.berth.verdict ≠ .aligned) ∧
      (inBerth .fusing).berthState = .fusing ∧
      ((inBerth .fixed).bu.berth.verdict = .aligned ∧ (inBerth .fixed).configured .u0 = true ∧
        (inBerth .fixed).served .u0 = true ∧ (inBerth .fixed).unit .u0 = .closedLocked ∧
        (inBerth .fixed).driveFault .u0 = false ∧ (inBerth .fixed).iu.emergencyClose = none ∧
        (inBerth .fixed).bu.cycle = none ∧ (inBerth .fixed).iu.accessClose = none) ∧
      ((fusing true).loaded = true ∧ (fusing true).ae.window = some 1000 ∧ (fusing true).bu.berth.pendingRelease = true ∧
        (fusing true).berthState = .fusing ∧ (fusing true).bu.cycle = none ∧ (fusing true).iu.emergencyClose = none ∧
        (fusing true).iu.accessClose = none) ∧
      (fusing false).bu.berth.pendingRelease = false ∧
      ((fusing true).pm.identityConflict = false ∧ (fusing true).iu.latch = false ∧ (fusing true).fix.verdict = .aligned ∧
        (mapEntry (fusing true) (fusing true).fix .u0).reason = .served) ∧
      ({ (fusing true) with ae := { (fusing true).ae with samples := [] } }.fix.verdict = .unaligned) ∧
      ((heldFixed .aligned).loaded = true ∧ (heldFixed .aligned).bu.berth.pendingRelease = true ∧
        (heldFixed .aligned).berthState = .fixed ∧ (heldFixed .aligned).bu.cycle = none ∧
        (heldFixed .aligned).iu.emergencyClose = none ∧ (heldFixed .aligned).iu.accessClose = none ∧ (heldFixed .unaligned).bu.berth.verdict ≠ .degraded) := by
  unfold AcceptedRunning Accepted; decide

/-- A close cycle over unit 0 under one warning. -/
def cycle (w : Warning) (st : MemberStatus) : CloseCycle := ⟨[w], first ⟨0, st⟩, []⟩

theorem test_meets_CloseByState :
    (AcceptedRunning ⟨41, .close, [37]⟩ ((inBerth .released).setDc .u0 (channel .opened 1050)) ∧
        ((inBerth .released).setDc .u0 (channel .opened 1050)).unit .u0 = .opened ∧ (inBerth .released).iu.emergencyClose = none) ∧
      (AcceptedRunning ⟨41, .close, [37]⟩ (inBerth .released) ∧ (inBerth .released).berthState = .released ∧
        UnitNo.all.all (fun u => (inBerth .released).unit u != .opened && (inBerth .released).unit u != .heldOpen) = true ∧
        (inBerth .released).noCloses) ∧
      (AcceptedRunning ⟨41, .close, [37]⟩ (closing .heldOpen (cycle (ended 1000) .started)) ∧
        (closing .heldOpen (cycle (ended 1000) .started)).unit .u0 = .heldOpen ∧
        (closing .heldOpen (cycle (ended 1000) .started)).bu.cycle = some (cycle (ended 1000) .started) ∧
        (closing .heldOpen (cycle (ended 1000) .started)).berthState = .closing) ∧
      (AcceptedRunning ⟨41, .close, [37]⟩ (closing .opened (cycle (ended 1000) .started)) ∧
        UnitNo.all.all (fun u => (closing .opened (cycle (ended 1000) .started)).unit u != .heldOpen) = true) ∧
      AcceptedRunning ⟨41, .close, [37]⟩ (inBerth .fixed) ∧ AcceptedRunning ⟨41, .close, [37]⟩ (inBerth .fusing) ∧
      AcceptedRunning ⟨41, .close, [37]⟩ (inBerth .secured) := by
  unfold AcceptedRunning Accepted State.noCloses; decide

/-- The last millimetre before full travel; a unit standing open at the departure, and none. -/
theorem test_meets_ReopensAndDeparts :
    (let s := (inBerth .closing).setDc .u0 (channel .closing 1049);
      AcceptedRunning ⟨41, .reopen, [37]⟩ s ∧ s.berthState = .closing ∧ s.bu.berth.verdict = .aligned ∧
        s.served .u0 = true ∧ s.iu.latch = false ∧ s.unit .u0 = .closing ∧ 0 < s.remainingOpen .u0 ∧
        s.iu.emergencyClose = none ∧ s.iu.accessClose = none ∧ { s.pm with identityConflict := true }.identityConflict = true) ∧
      (let c := { cycle (ended 950) .waiting with holds := [⟨10, ⟨true, false, false, false⟩, 8950⟩] };
        AcceptedRunning ⟨41, .reopen, [37]⟩ (closing .opened c) ∧ (closing .opened c).bu.cycle = some c ∧
          (closing .opened c).lc.queue.length + c.holds.length ≤ 8 ∧ (closing .opened c).bu.berth.verdict = .aligned) ∧
      ((inBerth .secured).unit .u0 = .closedLocked ∧ (inBerth .secured).pm.identityConflict = false ∧
        (inBerth .secured).driveFault .u0 = false ∧ (inBerth .secured).iu.emergencyClose = none) ∧
      (AcceptedRunning ⟨41, .reopen, [37]⟩ (berthLatched .secured) ∧ (berthLatched .secured).iu.latch = true) ∧
      (withVerdict .secured .none).bu.berth.verdict ≠ .degraded ∧
      (AcceptedRunning ⟨41, .reopen, [37]⟩ (inBerth .released) ∧ (inBerth .released).berthState = .released) ∧
      (let s := (inBerth .closing).setDc .u0 (channel .heldOpen 1050);
        AcceptedRunning ⟨41, .depart, [s.seq]⟩ s ∧
          (UnitNo.all.find? fun v => s.configured v && s.unit v != .closedLocked && s.unit v != .isolated && s.unit v != .fault) =
            some .u0 ∧
          s.lc.queue.length < 16 ∧ (s.unit .u0).coverable = true) ∧
      (AcceptedRunning ⟨41, .depart, [37]⟩ (inBerth .secured) ∧
        UnitNo.all.all (fun v => !(inBerth .secured).configured v || (inBerth .secured).unit v == .closedLocked) = true) := by
  unfold AcceptedRunning Accepted; decide

/-- Fifteen and sixteen holds, of other cars and of this one. -/
def holding (n : Nat) : State := (inBerth .closing).setHoldList ((List.range n).map fun i => ⟨BitVec.ofNat 6 (i + 14), 1, 950⟩)

theorem test_meets_HoldsListed :
    (AcceptedRunning ⟨13, .hold, [37, 1, 10]⟩ (holding 15) ∧ AcceptedRunning ⟨13, .hold, [37, 1, 1]⟩ (holding 16) ∧
        AcceptedRunning ⟨14, .hold, [37, 1, 1]⟩ (holding 16) ∧ AcceptedRunning ⟨14, .hold, [37, 2, 1]⟩ (holding 16)) ∧
      ((holding 16).pm.slots.length = 64 ∧ (holding 16).seq = 37 ∧ ((holding 16).slot 14).state ≠ .silent ∧
        (holding 15).bu.holdList.length = 15 ∧ (holding 16).bu.holdList.length = 16) ∧
      AcceptedRunning ⟨13, .hold, [38, 1, 1]⟩ (holding 1) ∧
      (((withSlot 13 (silentSlot none) (holding 1)).slot 13).state = .silent ∧ isBay 13 = true) ∧
      (let s := closing .opened (cycle (running 1000) .underWarning);
        s.loaded = true ∧ s.bu.cycle = some (cycle (running 1000) .underWarning) ∧
          firstRunning (cycle (running 1000) .underWarning).warnings = some 0 ∧ s.lc.queue.length ≤ 12 ∧
          UnitNo.all.all (fun u => (s.car u).all fun k => decide (k ≤ 10)) = true ∧ 0 < s.cl.config.params.holdMax) := by
  unfold AcceptedRunning Accepted; decide

/-- Peers' samples by number: `n` of them, one for each unit of nodes from 14 on. -/
def sampled (b : BerthState) (n : Nat) : State :=
  (inBerth b).modAe fun a =>
    { a with samples := (List.range n).map fun i => ⟨BitVec.ofNat 6 (14 + i / 4), i % 4, 1, 150000, 1⟩ }

theorem test_meets_EdgesExamined :
    AcceptedRunning ⟨13, .edge, [37, nibbles 1 3, 2] ++ bytes3 150000⟩ (sampled .fusing 59) ∧
      ((sampled .fusing 59).pm.identityConflict = false ∧ (sampled .fusing 59).seq = 37 ∧
        (sampled .fusing 59).berthState = .fusing ∧
        ((sampled .fusing 59).ae.samples.countP fun y => y.source != (sampled .fusing 59).cl.own) < 60) ∧
      (60 ≤ ((sampled .fusing 60).ae.samples.countP fun y => y.source != (sampled .fusing 60).cl.own) ∧
        (∀ y ∈ (sampled .fusing 60).ae.samples, y.source = 13 → y.unit ≠ (1 : BitVec 4).toNat)) ∧
      AcceptedRunning ⟨13, .edge, [38, nibbles 1 3, 2] ++ bytes3 150000⟩ (sampled .fusing 60) ∧
      (sampled .secured 0).berthState = .secured ∧
      { (sampled .fusing 0).pm with identityConflict := true }.identityConflict = true := by
  unfold AcceptedRunning Accepted; decide

/-- Unit 0 SEEKING with a run of four. -/
def seeking (run : List Int) : State := (inBerth .fusing).modAe fun a => { a with searches := a.searches.set .u0 ⟨.seeking, run⟩ }

/-- The same with the berth's nominal stop at `stop` and the reading run given. -/
def seekingAt (stop : Nat) (run : List Int) : State := (seeking run).modAe fun a => { a with s0 := some stop }

/-- A beacon and an EDGE of unit 1 in the queue, in class order. -/
def queuedEdge (s : State) : State :=
  s.setQueue [⟨.edge, [37, 0x13, 2] ++ bytes3 150100, none, false⟩, ⟨.beacon, beaconBytes s.summary, none, false⟩]

/-- Door 2 is matched at 120 mm; the gate of 800 mm holds 800 and not 801; a width off by 201; a stop beyond the chainage. -/
theorem test_meets_ReadingsTaken :
    ((seeking [18, 22, 20, 21]).active .u0 = true ∧ ((seeking [18, 22, 20, 21]).ae.searches.get .u0).outcome = .seeking ∧
        checkReading (.inView (-630) 670 3) = some (-630, 670, 3) ∧ checkReading .noDoor = none) ∧
      (stableRun (joinRun [18, 22, 20, 21] (centreOffset (-630) 670)) = true ∧
        stableRun (joinRun [-560, -640, -590, -625] (-605)) = false) ∧
      ((inBerth .fusing).ae.searches.get .u0).outcome ≠ .seeking ∧
      ((seeking []).unit .u0 ≠ .isolated ∧ (seeking []).unit .u0 ≠ .fault) ∧
      (((seeking []).modSu .u0 fun x => { x with alignTimer := some 1000 }).su.units.get .u0).alignTimer = some 1000 ∧
      (let m := fun (s : State) (a b : Int) => UnitNo.all.map fun u =>
          (s.trainDoors.zipIdx.filter fun d => s.trainDoors.all fun e =>
            decide (s.doorDistance u a b d.1.1 ≤ s.doorDistance u a b e.1)).map fun d => (d.1.2, s.doorDistance u a b d.1.1);
        (m (seeking []) (-630) 670).head? = some [(2, 120)] ∧ (m (seekingAt 149320 []) (-630) 670).head? = some [(2, 800)] ∧
          (m (seekingAt 149319 []) (-630) 670).head? = some [(2, 801)]) ∧
      ((seeking []).cl.config.params.stopTol = 500 ∧ QueueOk (queuedEdge (seeking [])).lc.queue ∧
        (queuedEdge (seeking [])).lc.queue.length < 15 ∧ (seeking []).pm.identityConflict = false ∧
        ((770 : Int) - (-731) - 2 * (650 : Nat)).natAbs = 201 ∧ (seeking []).observedCentre .u0 (-630) 670 + 8300 = 150120) := by
  unfold QueueOk
  decide

theorem test_meets_FusedStopBounds :
    (computeFix (fusing true).ae.samples 12 150000 500).sHat = some 150118 ∧
      (computeFix (fusing true).ae.samples 12 150000 500).verdict.opens = true ∧
      (computeFix (fusing true).ae.samples 12 150000 118).verdict.opens = true ∧
      totalWeight (retained [⟨12, 0, 1, 150000, 2⟩, ⟨11, 0, 1, 150400, 2⟩]) < 3 := by decide

/-- Samples of the own unit 0 and of a peer's, 150 mm apart. -/
def twoSamples (own peer : Nat) : List Sample := [⟨12, 0, 1, 150000, own⟩, ⟨11, 0, 1, 150150, peer⟩]

/-- A retained weight of 8 as S_hat lies 500 mm from S0 and 501, of 7, of 3 and of 2; no sample; 8 from one source; one beyond 150 mm. -/
theorem test_meets_FusedStopBounds_verdicts :
    (WeightedMedian (twoSamples 4 4) 150000 ∧
        computeFix (twoSamples 4 4) 12 149575 500 = ⟨.aligned, some 150075, some 40⟩ ∧
        computeFix (twoSamples 4 4) 12 149574 500 = ⟨.outOfTolerance, some 150075, none⟩) ∧
      (WeightedMedian (twoSamples 4 3) 150000 ∧
        computeFix (twoSamples 4 3) 12 150000 500 = ⟨.degraded, some 150064, some 120⟩) ∧
      (WeightedMedian (twoSamples 1 2) 150150 ∧
        computeFix (twoSamples 1 2) 12 150000 500 = ⟨.degraded, some 150100, some 120⟩) ∧
      (WeightedMedian (twoSamples 1 1) 150000 ∧ computeFix (twoSamples 1 1) 12 150000 500 = ⟨.unaligned, none, none⟩) ∧
      computeFix [] 12 150000 500 = ⟨.unaligned, none, none⟩ ∧
      (WeightedMedian (twoSamples 4 4) 150000 ∧
        computeFix (twoSamples 4 4) 13 150000 500 = ⟨.degraded, some 150075, some 120⟩) ∧
      (WeightedMedian (⟨13, 0, 1, 150151, 1⟩ :: twoSamples 4 4) 150150 ∧
        WeightedMedian (⟨13, 0, 1, 150301, 1⟩ :: twoSamples 5 4) 150000 ∧
        computeFix (⟨13, 0, 1, 150301, 1⟩ :: twoSamples 5 4) 12 150000 500 = ⟨.aligned, some 150067, some 40⟩) := by
  unfold WeightedMedian; decide

theorem test_meets_ServedMeans : (placedEntry (inBerth .fusing) 150118 40 .u0).reason = .served := by decide

/-- A best door, as a test that evaluates says it. -/
theorem bestDoor_of {s : State} {x : Nat} {u : UnitNo} {d : TrainDoor} {k : Nat} (h : (d, k) ∈ s.trainDoors)
    (b : ∀ p ∈ s.trainDoors, overlap (s.cl.config.units.get u) x p.1 ≤ overlap (s.cl.config.units.get u) x d ∧
      (overlap (s.cl.config.units.get u) x p.1 = overlap (s.cl.config.units.get u) x d → k ≤ p.2)) : BestDoor s x u d k :=
  ⟨h, fun d' k' m => b (d', k') m⟩

/-- Berth 37 in FUSING with unit 0 in a state and train doors isolated. -/
def fusingIn (st : UnitState) (isolated : List Nat) : State :=
  ((inBerth .fusing).setDc .u0 (channel st 0)).modBerth fun b => { b with isolated := isolated }

/-- Door 2 before unit 0 with each reason in turn; an effective clear width of MIN_CLEAR and of 1 less; no door, with p_u in car 1, at the
coupling to car 2, at the rear face and ahead of the front; a verdict that does not open. -/
theorem test_meets_ServedMeans_reasons :
    (BestDoor (inBerth .fusing) 150118 .u0 ⟨8300, 1, 650⟩ 2 ∧ BestDoor (inBerth .fusing) 149948 .u0 ⟨8300, 1, 650⟩ 2) ∧
      (placedEntry (fusingIn .isolated [2]) 150118 40 .u0 = ⟨.unitIsolated, some 2, some 1, some 1300, some 1230⟩ ∧
        (placedEntry (fusingIn .fault [2]) 150118 40 .u0).reason = .unitFault ∧
        (placedEntry (fusingIn .opened [2]) 150118 40 .u0).reason = .trainDoorIsolated ∧
        (placedEntry (fusingIn .opened [5]) 150118 170 .u0).reason = .served ∧
        (placedEntry (fusingIn .opened [5]) 150118 170 .u0).width = some 1100 ∧
        (placedEntry (fusingIn .opened [5]) 150118 171 .u0).reason = .partialWidth) ∧
      ((∀ x ∈ [147618, 161600, 180600, 141799], ∀ p ∈ (inBerth .fusing).trainDoors, overlap geometry0 x p.1 ≤ 0) ∧
        [147618, 161600, 180600, 141799].map (fun x => (placedEntry (inBerth .fusing) x 40 .u0).car) =
          [some 1, some 2, none, none] ∧
        (placedEntry (inBerth .fusing) 147618 40 .u0).reason = .noTrainDoor ∧
        (placedEntry (fusingIn .isolated []) 147618 40 .u0).reason = .unitIsolated) ∧
      Verdict.outOfTolerance.opens = false ∧ Verdict.degraded.opens = true :=
  ⟨⟨bestDoor_of (by decide) (by decide), bestDoor_of (by decide) (by decide)⟩, by decide, by decide, by decide⟩

/-- CONFIG_FAULT after its quiet period. -/
def faulted : State := inPhase .configFault

theorem test_meets_CommandsElsewhere :
    (frameOf (.isolate 45 13 1) = some ⟨45, .command, [13, 1, 1]⟩ ∧ Accepted ⟨45, .command, [13, 1, 1]⟩ bay ∧
        (13 : Byte) ≠ nodeByte bay.cl.own) ∧
      (Accepted ⟨45, .command, [12, 1, 1]⟩ faulted ∧ (12 : Byte) = nodeByte faulted.cl.own ∧ faulted.faultServing = true) ∧
      frameOf (.queryPeer 45 13 47 1) = some ⟨45, .query, [13, 6, 47, 1]⟩ ∧ Accepted ⟨45, .query, [13, 6, 47, 1]⟩ bay := by
  unfold Accepted; decide

/-- Unit 0 in a state, its isolation mark set or not, its switches closed or not. -/
def marked (st : UnitState) (mark closed : Bool) : State :=
  ((unitIn st 0).modDc .u0 fun d => { d with isolationMark := mark }).modPins .u0 fun p => { p with closed := closed }

theorem test_meets_UnitCommands :
    (bay.cl.phase = .running ∧ bay.named 1 .u0 = true ∧ bay.named 1 .u1 = false ∧ bay.named 15 .u2 = false) ∧
      (Addressed ⟨41, .command, commandPayload .isolate 12 15⟩ 12 (unitIn .releaseRestored 0) ∧
        (unitIn .releaseRestored 0).unit .u0 = .releaseRestored ∧ (unitIn .opened 0).unit .u0 ≠ .closedLocked) ∧
      (Addressed ⟨47, .command, commandPayload .restore 12 1⟩ 12 (marked .isolated true true) ∧
        (marked .isolated true true).closedAndEngaged .u0 = true ∧ (marked .isolated true true).iu.latch = false ∧
        (marked .isolated true false).closedAndEngaged .u0 = false ∧ (marked .isolated true false).driveFault .u0 = false) ∧
      (Addressed ⟨41, .command, commandPayload .rehome 12 1⟩ 12 (unitIn .fault 0) ∧ (unitIn .fault 0).unit .u0 = .fault ∧
        (unitIn .fault 0).driveFault .u0 = false) ∧
      (Addressed ⟨41, .command, commandPayload .ackRelease 12 1⟩ 12 (marked .releaseRestored true false) ∧
        ((marked .releaseRestored true false).dc.get .u0).isolationMark = true ∧
        ((marked .releaseRestored false true).dc.get .u0).isolationMark = false ∧
        (marked .releaseRestored false true).closedAndEngaged .u0 = true ∧
        (marked .releaseRestored false false).closedAndEngaged .u0 = false) ∧
      (let latch := fun s : State => { s with iu := { s.iu with latch := true } };
        let fault := fun s : State => s.modPins .u0 fun p => { p with driveFault := true };
        Addressed ⟨41, .command, commandPayload .restore 12 1⟩ 12 (latch (marked .isolated true true)) ∧
          (latch (marked .isolated true true)).iu.latch = true ∧ (latch (marked .isolated true true)).driveFault .u0 = false ∧
          Addressed ⟨41, .command, commandPayload .ackRelease 12 1⟩ 12 (latch (marked .releaseRestored false true)) ∧
          (fault (marked .isolated true false)).driveFault .u0 = true ∧
          (fault (marked .isolated true false)).closedAndEngaged .u0 = false ∧
          Addressed ⟨41, .command, commandPayload .rehome 12 1⟩ 12 (fault (unitIn .fault 0)) ∧
          (fault (unitIn .fault 0)).driveFault .u0 = true ∧
          Addressed ⟨41, .command, commandPayload .ackRelease 12 1⟩ 12 (fault (marked .releaseRestored false false)) ∧
          (fault (marked .releaseRestored false false)).gapAsserted .u0 = false ∧
          UnitNo.all.all (fun v => !bay.named 1 v || v == .u0) = true) := by
  unfold Addressed Accepted; decide

/-- Unit 0 with its gap filter and edge asserted, its zone BUSY, its alarm as given and its timers running. -/
def crowded (a : GapAlarm) (s : State) : State :=
  (sensed (fun x =>
    { x with
      gapWindow := [true, true, true], gapAsserted := true, zoneWindow := List.replicate 7 true, zoneBusy := true
      edge := ⟨true, none⟩, alarm := a, gapTimer := some 1010, zoneTimer := some 1010 }) s).modPins .u0 fun p =>
    { p with edge := true }

/-- ISOLATE of a unit in alarm, of one released by hand, and of one whose zone holds a car; RESTORE with the edge still pressed; ACK_RELEASE
to ISOLATED, and to CLOSED_LOCKED over an asserted filter, at IDLE and in a berth, and to HOMING. -/
theorem test_meets_UnitCommands_sensing :
    (Addressed ⟨41, .command, commandPayload .isolate 12 3⟩ 12 (crowded .trap bay) ∧ (crowded .trap bay).named 3 .u0 = true ∧
        (crowded .trap bay).unit .u0 = .closedLocked ∧
        (let c := crowded .none (closing .fault { cycle (ended 950) .waiting with holds := [⟨1, ⟨true, true, false, false⟩, 8950⟩] });
          Addressed ⟨41, .command, commandPayload .isolate 12 1⟩ 12 c ∧ (c.su.units.get .u0).zoneBusy = true ∧
            c.unit .u0 = .fault)) ∧
      (Addressed ⟨41, .command, commandPayload .restore 12 1⟩ 12 (marked .isolated true true) ∧
        (marked .isolated true true).unit .u0 = .isolated) ∧
      (Addressed ⟨41, .command, commandPayload .ackRelease 12 1⟩ 12 (crowded .none (marked .releaseRestored false true)) ∧
        ((crowded .none (marked .releaseRestored false true)).su.units.get .u0).alarm = .none ∧
        (crowded .none (marked .releaseRestored false true)).gapAsserted .u0 = true ∧
        (crowded .none (marked .releaseRestored false true)).closedAndEngaged .u0 = true ∧
        (crowded .none (marked .releaseRestored false true)).unit .u0 = .releaseRestored ∧
        (crowded .trap (marked .releaseRestored false false)).closedAndEngaged .u0 = false ∧
        ((crowded .trap (marked .releaseRestored true true)).dc.get .u0).isolationMark = true) := by
  unfold Addressed Accepted; decide

/-- Unit 0 open for access. -/
def access : State :=
  let s := unitIn .opened 1050
  { s with iu := { s.iu with accessMarks := ⟨true, false, false, false⟩ } }

theorem test_meets_AccessCommands :
    (bay.cl.phase = .running ∧ Addressed ⟨41, .command, commandPayload .accessOpen 12 3⟩ 12 bay ∧
        bay.pm.identityConflict = false ∧ bay.iu.latch = false ∧ bay.iu.accessLock = false ∧ bay.berthState = .idle ∧
        bay.named 3 .u0 = true ∧ bay.unit .u0 = .closedLocked ∧ bay.driveFault .u0 = false) ∧
      UnitNo.all.all (fun u => !(3 : Byte).getLsbD u.val || bay.configured u) = true ∧
      (Addressed ⟨41, .command, commandPayload .accessOpen 12 3⟩ 12 (latched false) ∧ (latched false).iu.latch = true) ∧
      ((inBerth .announced).berthState ≠ .idle ∧ { bay.iu with accessLock := true }.accessLock = true) ∧
      (Addressed ⟨41, .command, commandPayload .accessClose 12 1⟩ 12 access ∧ access.named 1 .u0 = true ∧
        access.iu.accessMarks.get .u0 = true ∧ access.accessMembers.get .u0 = none ∧ access.iu.latch = false) ∧
      Addressed ⟨41, .command, commandPayload .accessLock 12 0⟩ 12 bay ∧ bay.lc.queue.length < 15 := by
  unfold Addressed Accepted; decide

/-- Every sub-command that names units, under the four node-wide refusals of ACCESS_OPEN and without; CONFIG_FAULT; a reported reset. -/
theorem test_meets_ResultsSent :
    (bay.cl.phase = .running ∧ bay.lc.queue.length ≤ 8 ∧ bay.bu.cycle = none ∧ bay.bu.departure = none ∧
        bay.iu.emergencyClose = none ∧ bay.iu.accessClose = none) ∧
      (Addressed ⟨41, .command, commandPayload .isolate 12 15⟩ 12 bay ∧ Addressed ⟨41, .command, commandPayload .restore 12 1⟩ 12 bay ∧
        Addressed ⟨41, .command, commandPayload .rehome 12 1⟩ 12 bay ∧ Addressed ⟨41, .command, commandPayload .ackRelease 12 1⟩ 12 bay ∧
        Addressed ⟨41, .command, commandPayload .accessOpen 12 3⟩ 12 bay ∧
        Addressed ⟨41, .command, commandPayload .accessClose 12 3⟩ 12 bay) ∧
      (faulted.faultServing = true ∧ Addressed ⟨41, .command, commandPayload .isolate 12 1⟩ 12 faulted ∧
        Addressed ⟨41, .command, commandPayload .accessLock 12 0⟩ 12 faulted ∧
        Addressed ⟨41, .command, commandPayload .ackFault 12 2⟩ 12 faulted) ∧
      (let r := { bay with fr := { bay.fr with resetReported := true } };
        r.acts = true ∧ r.fr.resetReported = true ∧ r.running = true ∧ r.pending = [] ∧ r.onLine = none ∧
          Instr.transmitError.isReset = false) := by
  unfold Addressed Accepted; decide

/-- The example of R46: ACCESS_OPEN names units 0 and 1 and takes unit 1 alone. -/
theorem test_result_of_two :
    (nextState (.accessOpen 41 12 3) (unitIn .fault 0)).lc.queue = [entry .result [41, 6, 2, 1, 8] false] := by decide

/-- ISOLATE of a unit above the unit count, and a COMMAND in CONFIG_FAULT (R45, R46). -/
theorem test_result_refused :
    (nextState (.isolate 41 12 4) bay).lc.queue = [entry .result [41, 1, 0, 2, 8] false] ∧
      (nextState (.isolate 41 12 1) faulted).lc.queue = [entry .result [41, 1, 0, 2, 9] false] := by decide

/-- A Fault Capture record. -/
def kept : FaultRecord := ⟨.panel, some .u0, 0, 990⟩

theorem test_meets_FaultCommands :
    (bay.cl.phase = .running ∧ Addressed ⟨41, .command, commandPayload .ackFault 12 1⟩ 12 bay ∧
        Addressed ⟨41, .command, commandPayload .ackFault 12 2⟩ 12 bay ∧ bay.fr.severe = none ∧ bay.fr.minor = none ∧
        { bay.fr with severe := some kept }.severe.isSome = true ∧ { bay.fr with minor := some kept }.minor.isSome = true ∧
        bay.lc.queue.length < 15) ∧
      (Addressed ⟨41, .command, commandPayload .resetNode 12 0⟩ 12 faulted ∧ faulted.faultServing = true) ∧
      bay.loaded = true ∧ { bay.fr with severePulse := some 1000 }.severePulse = some 1000 ∧
      { bay.fr with minorPulse := some 1000 }.minorPulse = some 1000 := by
  unfold Addressed Accepted; decide

theorem test_meets_ReportsCount :
    bay.fr.kinds.length = 17 ∧ bay.fr.slot .severe = none ∧ { bay.fr with minor := some kept }.slot .minor ≠ none := by decide

/-- A 16-bit counter passes 65,535 and keeps its latch (R192). -/
theorem test_counter_wraps : (⟨65535, false⟩ : Counter 16).bump = ⟨0, true⟩ ∧ (⟨0, true⟩ : Counter 16).bump = ⟨1, true⟩ := by decide

/-- A full slot counts the kind reported (R188). -/
theorem test_report_counts :
    (report .trap .severe (some .u0) { bay with fr := { bay.fr with severe := some kept } }).fr.kinds.map (fun c => c.count.toNat) =
      [0, 0, 1] ++ List.replicate 14 0 := by decide

/-- The bounds of the arguments: units 0 and 3, slots 1 and 47. -/
theorem test_meets_QueriesAnswered :
    (bay.cl.phase = .running ∧ faulted.faultServing = true) ∧
      Addressed ⟨41, .query, queryPayload .faults 12 0 1⟩ 12 bay ∧
      (Addressed ⟨41, .query, queryPayload .unitCounters 12 3 0⟩ 12 faulted ∧ (3 : Byte).toNat = UnitNo.u3.val) ∧
      Addressed ⟨41, .query, queryPayload .nodeCounters 12 0 1⟩ 12 bay ∧
      Addressed ⟨41, .query, queryPayload .berth 12 0 0⟩ 12 bay ∧
      Addressed ⟨41, .query, queryPayload .serviceMap 12 0 0⟩ 12 bay ∧
      Addressed ⟨47, .query, queryPayload .peer 12 1 0⟩ 12 bay ∧ Addressed ⟨47, .query, queryPayload .peer 12 47 1⟩ 12 bay ∧
      (Addressed ⟨47, .query, queryPayload .peer 12 12 0⟩ 12 bay ∧ nodeByte bay.cl.own = 12) ∧
      bay.lc.queue.length + partCount (nodeData bay) < 16 ∧ bay.pm.slots.length = 64 ∧
      ReleaseSetOk [1, 12, 40] := by
  unfold Addressed Accepted ReleaseSetOk; decide

/-- Unit 0 in LOCKING, the last member of its closes or not: unit 1 closed, or still waiting to close. -/
def locking (other : UnitState) : State :=
  let s := (closing .locking
    ⟨[ended 950], ⟨some ⟨0, .started⟩, some ⟨0, .waiting⟩, none, none⟩, [⟨1, ⟨true, false, false, false⟩, 8950⟩]⟩).setDc .u1
      (channel other 1050)
  s.modDc .u0 fun d => { d with position := 0 }

/-- The same under an emergency close cycle over both units, in its berth. -/
def lockingAll (b : BerthState) (other : UnitState) : State :=
  let s := if b = .closing then locking other else (locking other).setCycle none |>.modBerth fun r => { r with state := b }
  { s with iu := { s.iu with emergencyClose := some ⟨ended 950, ⟨some .started, some .waiting, none, none⟩⟩ } }

/-- Unit 0 moving, with a pending close, toward a target. -/
def moving (st : UnitState) (kept : Bool) (target : ReverseTarget) (position : Int) : State :=
  (unitIn st position).modDc .u0 fun d => { d with pendingClose := kept, target := target, phase := .cruise }

theorem test_meets_MovementsEnd :
    let lock := timed .unlocking fun d => { d with lockTimer := some 1000 }
    (lock.active .u0 = true ∧ lock.unit .u0 = .unlocking ∧ (lock.dc.get .u0).lockTimer = some 1000) ∧
      ((unitIn .locking 0).unit .u0 = .locking ∧ (unitIn .locking 0).iu.latch = false ∧
        (unitIn .locking 0).driveFault .u0 = false ∧ (latched true).iu.latch = true) ∧
      ((moving .opening false .opened 1050).unit .u0 = .opening ∧
        ((moving .opening false .opened 1050).dc.get .u0).pendingClose = false ∧
        ((moving .opening true .opened 1049).dc.get .u0).pendingClose = true ∧
        (moving .opening true .opened 1049).obstructed .u0 = false) ∧
      ((sensed (fun x => { x with gapAsserted := true }) (moving .opening true .opened 1049)).obstructed .u0 = true ∧
        max (1049 : Int) 1050 = 1050 ∧ max (1051 : Int) 1050 = 1051) ∧
      (unitIn .closing 3).unit .u0 = .closing ∧
      (((moving .reversing false .reopenWait 1050).dc.get .u0).target = .reopenWait ∧
        ((moving .reversing false .opened 1051).dc.get .u0).target = .opened ∧
        (moving .reversing false .opened 1051).unit .u0 = .reversing) ∧
      (unitIn .homing 0).unit .u0 = .homing ∧
      (let done := locking .closedLocked;
        let open1 := locking .opened;
       done.active .u0 = true ∧ done.unit .u0 = .locking ∧ done.bu.cycle.isSome = true ∧ done.berthState = .closing ∧
        done.iu.latch = false ∧ done.bu.departure = none ∧ done.iu.emergencyClose = none ∧ done.iu.accessClose = none ∧
        memberDone (done.unit .u1) .waiting = true ∧ memberDone (open1.unit .u1) .waiting = false ∧
        done.lc.queue.length + (done.bu.cycle.elim [] CloseCycle.holds).length ≤ 8) ∧
      ((lockingAll .closing .closedLocked).unit .u1 = .closedLocked ∧ (lockingAll .closing .closedLocked).bu.cycle.isSome = true ∧
        (lockingAll .closing .closedLocked).iu.latch = false ∧ (lockingAll .released .isolated).unit .u1 = .isolated ∧
        (lockingAll .released .isolated).berthState = .released ∧ (lockingAll .fixed .fault).unit .u1 = .fault ∧
        (lockingAll .fixed .fault).berthState = .fixed ∧ memberDone ((lockingAll .closing .opened).unit .u1) .waiting = false) := by
  decide

theorem test_meets_UnitsFault :
    let lock := timed .locking fun d => { d with lockTimer := some 1400 }
    let watch := timed .closedLocked fun d => { d with lockTimer := some 1400 }
    let travel := timed .closing fun d => { d with travelTimer := some 1400 }
    let home := timed .homing fun d => { d with homingTimer := some 1400 }
    let drive := timed .opened fun d => { d with missed := 3 }
    (lock.active .u0 = true ∧ lock.unit .u0 = .locking ∧ (lock.dc.get .u0).lockTimer = some 1400) ∧
      (watch.unit .u0 = .closedLocked ∧ (watch.dc.get .u0).lockTimer = some 1400) ∧
      (travel.unit .u0 = .closing ∧ (travel.dc.get .u0).travelTimer = some 1400) ∧
      (home.unit .u0 = .homing ∧ (home.dc.get .u0).homingTimer = some 1400) ∧
      ((drive.dc.get .u0).enable = true ∧ drive.driveFault .u0 = true) ∧
      travel.closedAndEngaged .u0 = true ∧ travel.fr.slot .minor = none ∧ lock.fr.slot .severe = none ∧
      ({ lock.fr with severe := some kept }.slot .severe).isSome = true := by decide

/-- The bounds: attempts 2 and 3 of 3, stall counts 1 and 2, retries 2 and 3, the last millimetre. -/
theorem test_meets_PausesAndObstacles :
    let pause := fun (n : Nat) => timed .reopenWait fun d => { d with pauseTimer := some 1400, attempt := n }
    let stall := fun (n : Nat) => timed .reversing fun d => { d with stallTimer := some 1400, stallCount := n }
    let home := fun (n : Nat) => timed .homing fun d => { d with pauseTimer := some 1400, retries := n }
    let gap := sensed fun x => { x with gapAsserted := true }
    ((pause 2).active .u0 = true ∧ (pause 2).unit .u0 = .reopenWait ∧ ((pause 2).dc.get .u0).pauseTimer = some 1400 ∧
        ((pause 2).dc.get .u0).attempt < (pause 2).cl.config.params.maxAttempts ∧ (pause 2).obstructed .u0 = false ∧
        (gap (pause 2)).obstructed .u0 = true ∧ 0 < (pause 2).remainingOpen .u0 ∧
        ((gap (pause 2)).setDc .u0 (channel .reopenWait 1050)).remainingOpen .u0 ≤ 0 ∧
        (pause 3).cl.config.params.maxAttempts ≤ ((pause 3).dc.get .u0).attempt) ∧
      ((stall 1).unit .u0 = .reversing ∧ ((stall 1).dc.get .u0).stallTimer = some 1400 ∧
        ((stall 1).dc.get .u0).stallCount < 2 ∧ 2 ≤ ((stall 2).dc.get .u0).stallCount) ∧
      ((timed .opening fun d => { d with pauseTimer := some 1400 }).dc.get .u0).pauseTimer = some 1400 ∧
      ((unitIn .closing 1049).unit .u0 = .closing ∧ 0 < (unitIn .closing 1049).remainingOpen .u0 ∧
        (unitIn .closing 1050).remainingOpen .u0 ≤ 0) ∧
      ((home 2).unit .u0 = .homing ∧ ((home 2).dc.get .u0).retries < 3 ∧ ((home 2).dc.get .u0).retries = 2 ∧
        ((home 1).dc.get .u0).retries < 2 ∧ 3 ≤ ((home 3).dc.get .u0).retries ∧
        ((home 2).dc.get .u0).pauseTimer = some 1400 ∧ (gap (home 2)).obstructed .u0 = true ∧ (home 2).obstructed .u0 = false) ∧
      (((unitIn .homing 500).modDc .u0 fun d => { d with phase := .creep }).dc.get .u0).phase ≠ .hold := by decide

/-- The third sample above 5,000 mA; motions of 50 and 51 mm; two periods missed. -/
theorem test_meets_ControlSamples :
    let third := fun (st : UnitState) => timed st fun d => { d with overCount := 2, phase := .creep }
    ((third .closing).active .u0 = true ∧ ((third .closing).dc.get .u0).closes = true ∧
        ((third .closing).cl.config.units.get .u0).threshold < 5001 ∧ min 3 (((third .closing).dc.get .u0).overCount + 1) = 3 ∧
        (third .closing).unit .u0 = .closing ∧
        ((third .closing).dc.get .u0).position + 50 < ((third .closing).cl.config.units.get .u0).travel ∧
        (((third .closing).cl.config.units.get .u0).travel : Int) ≤ (channel .closing 1049).position + 1) ∧
      ((third .homing).unit .u0 = .homing ∧ ((third .homing).dc.get .u0).phase ≠ .hold ∧ ((third .homing).dc.get .u0).retries < 3) ∧
      ¬(((third .closing).cl.config.units.get .u0).threshold < 5000) ∧ (unitIn .opened 1050).active .u0 = true ∧
      ((unitIn .opened 1050).dc.get .u0).closes = false ∧ ((50 : Int) < 51 ∧ (-51 : Int) < -50) ∧
      2 ≤ ((timed .opened fun d => { d with missed := 2 }).dc.get .u0).missed := by decide

/-- Positions 3 and 4 at the end of closing travel, 100 and 101 in CREEP; remaining distances 1 and 0. -/
theorem test_meets_ControlPeriods :
    (bay.active .u0 = true ∧ (bay.dc.get .u0).enable = false ∧ bay.unit .u0 = .closedLocked ∧ bay.bu.cycle = none ∧
        bay.bu.departure = none ∧ bay.iu.emergencyClose = none ∧ bay.iu.accessClose = none) ∧
      (((unitIn .opened 1050).dc.get .u0).enable = true ∧ ((unitIn .opened 1050).dc.get .u0).missed < 3 ∧
        3 ≤ ((timed .opened fun d => { d with missed := 3 }).dc.get .u0).missed) ∧
      (unitIn .unlocking 0).unit .u0 = .unlocking ∧
      (0 < (unitIn .opening 1049).remainingOpen .u0 ∧ (unitIn .opening 1050).remainingOpen .u0 ≤ 0 ∧
        ((unitIn .opening 1050).dc.get .u0).pendingClose = false) ∧
      ((moving .reversing false .opened 1050).remainingOpen .u0 ≤ 0 ∧
        ((moving .reversing false .reopenWait 1050).dc.get .u0).target = .reopenWait) ∧
      (((unitIn .closing 3).dc.get .u0).position ≤ 3 ∧ 3 < ((unitIn .closing 4).dc.get .u0).position ∧
        ((unitIn .closing 4).dc.get .u0).phase ≠ .creep ∧
        (100 : Int) ≤ ((bay.cl.config.units.get .u0).profile.creepDistance : Int) ∧
        ((bay.cl.config.units.get .u0).profile.creepDistance : Int) < 101) ∧
      ((unitIn .locking 0).unit .u0 = .locking ∧ (unitIn .locking 0).iu.latch = false) ∧
      (unitIn .homing 500).unit .u0 = .homing ∧ (unitIn .heldOpen 1050).unit .u0 = .heldOpen := by decide

theorem test_meets_ClosingSpeeds :
    (0 < geometry0.mass ∧ 2000000 * 10 / geometry0.mass < 2 ^ 32) ∧
      geometry0.profile.creep < closingCruise (some 10) geometry0 1 ∧ 3 ≤ 3 ∧
      ((geometry0.profile.creep : Int) ≤ 60 ∧ (0 : Int) ≤ 0 ∧ (60 : Int) ≤ 60) ∧
      (let braking := fun v : Int => (geometry0.profile.creepDistance : Int) +
          (v * v - (geometry0.profile.creep : Int) * (geometry0.profile.creep : Int)) / (2 * (geometry0.profile.accel : Int));
        braking 471 = 209 ∧ (100 : Int) ≤ (geometry0.profile.creepDistance : Int) ∧ (geometry0.profile.creepDistance : Int) < 101 ∧
          (209 : Int) ≤ braking 471 ∧ braking 471 < 210 ∧ braking 0 < 100 ∧ (-1 : Int) < 0) := by decide

/-- A window of two OCCUPIED samples of four, and a filter asserted after nine CLEAR ones. -/
def gapBefore (st : UnitState) : State :=
  (sensed (fun x => { x with gapWindow := [true, false, true, false], gapTimer := some 1000 }) (unitIn st 500)).modDc .u0
    fun d => { d with phase := if st == .homing then .creep else d.phase }

def almostClear : State := sensed (fun x => { x with gapAsserted := true, clearRun := 9 }) bay

theorem test_meets_GapSamples :
    ((gapBefore .closing).senses .u0 = true ∧ ((gapBefore .closing).su.units.get .u0).gapTimer = some 1000 ∧
        (gapBefore .closing).gapAsserted .u0 = false ∧
        3 ≤ (joinWindow 5 ((gapBefore .closing).su.units.get .u0).gapWindow true).count true ∧
        ¬(3 ≤ (joinWindow 5 ((gapBefore .closing).su.units.get .u0).gapWindow false).count true)) ∧
      ((gapBefore .closing).unit .u0 = .closing ∧ 0 < (gapBefore .closing).remainingOpen .u0 ∧
        ((gapBefore .closing).setDc .u0 (channel .closing 1050)).remainingOpen .u0 ≤ 0) ∧
      ((gapBefore .homing).unit .u0 = .homing ∧ ((gapBefore .homing).dc.get .u0).phase ≠ .hold ∧
        ((gapBefore .homing).dc.get .u0).retries < 3 ∧
        (((gapBefore .homing).modDc .u0 fun d => { d with phase := .hold }).dc.get .u0).phase = .hold) ∧
      ((gapBefore .closedLocked).unit .u0 = .closedLocked ∧ ((gapBefore .closedLocked).su.units.get .u0).alarm = .none ∧
        (gapBefore .closedLocked).berthState = .idle ∧ (inBerth .fusing).berthState ≠ .announced) ∧
      ((gapBefore .opened).unit .u0 ≠ .closing ∧ (gapBefore .opened).unit .u0 ≠ .homing) ∧
      (almostClear.gapAsserted .u0 = true ∧ ¬((almostClear.su.units.get .u0).clearRun + 1 < 10)) ∧
      (3 ≤ (((gapBefore .homing).modDc .u0 fun d => { d with retries := 3 }).dc.get .u0).retries ∧
        (gapBefore .closedLocked).fr.severe = none ∧ (gapBefore .closedLocked).noCloses ∧
        (gapBefore .closedLocked).lc.queue.length < 16) ∧
      (let s := sensed (fun x => { x with alarm := .intrusion }) (inBerth .announced);
        AcceptedRunning ⟨41, .standstill, [s.seq]⟩ s ∧ s.berthState = .announced ∧ s.lc.queue.length ≤ 12 ∧
          (UnitNo.all.filter fun u => (s.su.units.get u).alarm == .intrusion) = [.u0] ∧ s.fr.severe = none ∧
          { s.fr with severe := some kept }.severe ≠ none ∧ s.fr.kinds.length = 17) := by
  unfold AcceptedRunning Accepted State.noCloses; decide

/-- An ISOLATED unit and one that is not configured take no sample. -/
theorem test_meets_GapSamples_aside :
    (crowded .none (unitIn .isolated 0)).senses .u0 = false ∧ bay.senses .u2 = false ∧ State.reset.senses .u0 = false := by decide

/-- Six OCCUPIED of nine; three of ten; an own hold at its deadline. -/
theorem test_meets_ZonesAndOwnHolds :
    let s := sensed (fun x => { x with zoneWindow := [true, true, true, true, true, true, false, false, false], zoneTimer := some 1000 }) bay
    let b := sensed (fun x => { x with zoneWindow := [true, true, true, false, false, false, false, false, false, false], zoneBusy := true }) bay
    let h := closing .opened { cycle (ended 900) .waiting with holds := [⟨10, ⟨true, false, false, false⟩, 1000⟩] }
    (s.senses .u0 = true ∧ (s.su.units.get .u0).zoneTimer = some 1000 ∧ (s.su.units.get .u0).zoneBusy = false ∧
        7 ≤ (joinWindow 10 (s.su.units.get .u0).zoneWindow true).count true) ∧
      ((b.su.units.get .u0).zoneBusy = true ∧ ¬(2 < (joinWindow 10 (b.su.units.get .u0).zoneWindow false).count true)) ∧
      (h.loaded = true ∧ h.ownHold 10 = some ⟨10, ⟨true, false, false, false⟩, 1000⟩ ∧ h.lc.queue.length < 16) := by
  decide

/-- Two own holds, of which unit 0 holds the first alone, as its zone falls to two OCCUPIED of ten. -/
def freeing : State :=
  sensed (fun x => { x with zoneWindow := List.replicate 3 true ++ List.replicate 7 false, zoneBusy := true })
    (closing .opened { cycle (ended 900) .waiting with
      holds := [⟨1, ⟨true, false, false, false⟩, 8900⟩, ⟨10, ⟨true, true, false, false⟩, 8900⟩] })

theorem test_meets_ZonesAndOwnHolds_freed :
    (freeing.senses .u0 = true ∧ (freeing.su.units.get .u0).zoneBusy = true ∧
        ¬(2 < (joinWindow 10 (freeing.su.units.get .u0).zoneWindow false).count true)) ∧
      (freeing.iu.latch = false ∧ freeing.iu.emergencyClose = none) ∧
      ∃ c, freeing.bu.cycle = some c ∧ c.unfinished freeing ∧ freeing.lc.queue.length + c.holds.length ≤ 8 ∧
        c.holds.length = 2 :=
  ⟨by decide, by decide, _, rfl, ⟨.u0, _, rfl, by decide⟩, by decide, rfl⟩

theorem test_meets_EdgeAndWire :
    let e := sensed (fun x => { x with edge := ⟨false, some 1010⟩ })
    let w := fun (l : Bool) (s : State) => { s with su := { s.su with wire := ⟨l, some 1050⟩ } }
    (bay.loaded = true ∧ bay.senses .u0 = true ∧ bay.senses .u2 = false) ∧
      ((e (unitIn .closing 1049)).edgeAsserted .u0 = !true ∧ ((e (unitIn .closing 1049)).su.units.get .u0).edge.timer = some 1010 ∧
        (e (unitIn .closing 1049)).unit .u0 = .closing ∧ 0 < (e (unitIn .closing 1049)).remainingOpen .u0) ∧
      ((gapBefore .homing).unit .u0 = .homing ∧ ((gapBefore .homing).dc.get .u0).phase ≠ .hold) ∧
      ((w false (inPhase .listen)).su.wire = ⟨false, some 1050⟩ ∧ (w false (inPhase .listen)).cl.phase = .listen) ∧
      ((w false bay).cl.phase = .running ∧ (w false bay).iu.latch = false ∧ (w false (latched false)).iu.latch = true ∧
        (w false bay).unit .u0 = .closedLocked ∧ (w false bay).driveFault .u0 = false) ∧
      ((w false faulted).su.wire = ⟨false, some 1050⟩ ∧ (w false faulted).loaded = true ∧ (w false faulted).faultServing = true ∧
        (w false faulted).iu.latch = false ∧
        (let q := { faulted with cl := { faulted.cl with quietTimer := some 5000 } };
          (w false q).cl.phase = .configFault ∧ (w false q).faultServing = false)) ∧
      (let m := fun f => (gapBefore .homing).modDc .u0 f;
        3 ≤ (((m fun d => { d with retries := 3 }).dc.get .u0).retries) ∧
          ((m fun d => { d with phase := .hold }).dc.get .u0).phase = .hold ∧ (gapBefore .homing).unit .u0 = .homing) ∧
      (w true bay).su.wire = ⟨true, some 1050⟩ ∧ (w false bay).lc.queue.length < 16 := by decide

theorem test_meets_HandlesAndPanels :
    let pulled := sensed (fun x => { x with handle := ⟨true, true⟩, panel := ⟨true, true⟩ })
    (bay.active .u0 = true ∧ (bay.su.units.get .u0).handle.live = false ∧ (bay.su.units.get .u0).panel.live = false ∧
        bay.strapOk = true ∧ bay.lc.queue.length < 16) ∧
      (let c := closing .opened (cycle (ended 950) .waiting);
        c.active .u1 = true ∧ (c.su.units.get .u1).handle.live = false ∧ c.strapOk = true ∧ c.berthState = .closing ∧
          c.bu.departure = none ∧ c.iu.emergencyClose = none ∧ c.iu.accessClose = none) ∧
      ((pulled (unitIn .manualReleased 0)).active .u0 = true ∧ ((pulled bay).su.units.get .u0).handle.live = true ∧
        ((pulled bay).su.units.get .u0).panel.live = true ∧ (pulled (unitIn .manualReleased 0)).unit .u0 = .manualReleased ∧
        (pulled bay).unit .u0 ≠ .manualReleased) ∧
      ((unitIn .isolated 0).active .u0 = true ∧ ((unitIn .isolated 0).su.units.get .u0).handle.live = false ∧
        (unitIn .isolated 0).unit .u0 = .isolated ∧ bay.unit .u0 ≠ .isolated) := by decide

/-- Unit 0 BUSY in front of car 1. -/
def busy (s : State) : State := sensed (fun x => { x with zoneBusy := true }) s

/-- The other three closes over unit 0. -/
def departing (st : UnitState) (w : Warning) : State :=
  (unitIn st 1050).setDeparture (some ⟨⟨true, false, false, false⟩, w⟩)

def emergency (st : UnitState) (w : Warning) (m : MemberStatus) : State :=
  let s := unitIn st 1050
  { s with iu := { s.iu with emergencyClose := some ⟨w, first m⟩ } }

def accessing (st : UnitState) (w : Warning) (m : MemberStatus) : State :=
  let s := access.setDc .u0 (channel st 1050)
  { s with iu := { s.iu with accessClose := some ⟨[w], first ⟨0, m⟩⟩ } }

theorem test_meets_WarningsEnd :
    let c := busy (closing .opened (cycle (running 1000) .underWarning))
    (c.loaded = true ∧ c.bu.cycle = some (cycle (running 1000) .underWarning) ∧
        firstRunning (cycle (running 1000) .underWarning).warnings = some 0 ∧ c.findsBusy .u0 = true ∧
        0 < c.cl.config.params.holdMax ∧ c.car .u0 = some 1 ∧ c.iu.latch = false ∧ c.iu.emergencyClose = none ∧
        memberDone (c.unit .u0) .underWarning = false) ∧
      ((departing .heldOpen (running 1001)).bu.departure = some ⟨⟨true, false, false, false⟩, running 1001⟩ ∧
        (running 1001).running = true ∧ (departing .heldOpen (running 1001)).iu.latch = false ∧
        (departing .heldOpen (running 1001)).obstructed .u0 = false ∧ (departing .opening (running 1001)).unit .u0 = .opening) ∧
      ((emergency .opened (running 1000) .underWarning).iu.emergencyClose = some ⟨running 1000, first .underWarning⟩ ∧
        (emergency .opened (running 1000) .underWarning).unit .u0 = .opened) ∧
      (accessing .opened (running 1000) .underWarning).iu.accessClose =
        some ⟨[running 1000], first ⟨0, .underWarning⟩⟩ ∧
      firstRunning [running 1000] = some 0 := by decide

/-- A warning that ended at 950 puts its members' deadline at 8,950 (HOLD_MAX 8,000). -/
theorem test_meets_MembersClose_closes :
    let c := closing .opened (cycle (ended 950) .waiting)
    let gap := sensed fun x => { x with gapAsserted := true }
    (c.active .u0 = true ∧ c.unit .u0 = .opened ∧ c.iu.latch = false ∧ c.platformHold = false ∧
        c.bu.cycle = some (cycle (ended 950) .waiting) ∧
        c.boardingHold (cycle (ended 950) .waiting) .u0 (warningAt [ended 950] 0) = false ∧
        c.gapFree .u0 (warningAt [ended 950] 0) = true) ∧
      c.memberDeadline .u0 = some 8950 ∧
      ((departing .opened (ended 950)).bu.departure = some ⟨⟨true, false, false, false⟩, ended 950⟩ ∧
        (departing .opened (ended 950)).gapFree .u0 (ended 950) = true ∧ (ended 950).running = false) ∧
      ((emergency .opened (ended 950) .waiting).gapFree .u0 (ended 950) = true ∧
        (emergency .opened (ended 950) .waiting).emergencyDeadline .u0 = some 8950) ∧
      ((accessing .opened (ended 950) .waiting).gapFree .u0 (ended 950) = true ∧
        (accessing .opened (ended 950) .waiting).accessDeadline .u0 = some 8950) ∧
      (c.obstructed .u0 = false ∧ (gap c).obstructed .u0 = true ∧
        0 < ((gap c).setDc .u0 (channel .opened 1049)).remainingOpen .u0 ∧ (gap c).remainingOpen .u0 ≤ 0 ∧
        c.iu.emergencyClose = none) := by decide

/-- The same in the words of the statement: every request and every deadline is due, to a unit standing open, in OPENING and in a state
that ignores its request. -/
theorem test_meets_MembersClose_due :
    let c := closing .opened (cycle (ended 950) .waiting)
    let d := fun st => departing st (ended 950)
    let e := fun st => emergency st (ended 950) .waiting
    let a := fun st => accessing st (ended 950) .waiting
    (CycleDue (.memberRelease .u0) .u0 c c ∧ CycleDue (.memberDeadline .u0) .u0 c (c.reach 8950)) ∧
      (∀ st, DepartureDue (.departureCloseRequest .u0) .u0 (d st) (d st) ∧
        DepartureDue .departureCloseDeadline .u0 (d st) ((d st).reach ((d st).deadline (ended 950)))) ∧
      (∀ st, EmergencyDue (.emergencyCloseRequest .u0) .u0 (e st) (e st) ∧
        EmergencyDue (.emergencyCloseDeadline .u0) .u0 (e st) ((e st).reach 8950)) ∧
      (∀ st, AccessDue (.accessCloseRequest .u0) .u0 (a st) (a st) ∧
        AccessDue (.accessCloseDeadline .u0) .u0 (a st) ((a st).reach 8950)) ∧
      ((d .opening).unit .u0 = .opening ∧ (d .opening).iu.latch = false ∧ (e .fault).unit .u0 = .fault ∧
        (e .fault).active .u0 = true) := by
  refine ⟨⟨⟨by decide, .inl ⟨rfl, rfl, _, _, rfl, rfl, by decide, by decide⟩⟩,
      ⟨by decide, .inr ⟨rfl, _, by decide +kernel, rfl⟩⟩⟩, fun st => ⟨⟨_, rfl, rfl, rfl, .inl ⟨rfl, rfl, rfl⟩⟩,
      ⟨_, rfl, rfl, rfl, .inr ⟨rfl, rfl⟩⟩⟩, fun st => ⟨.inl ⟨rfl, rfl, _, rfl, rfl, rfl⟩, .inr ⟨rfl, _, rfl, rfl⟩⟩,
    fun st => ⟨.inl ⟨rfl, rfl, _, _, rfl, rfl, rfl⟩, .inr ⟨rfl, _, rfl, rfl⟩⟩, by decide⟩

/-- Under the latch, with no emergency or access close: both requests of the close cycle, and both of the departure close. -/
theorem test_meets_MembersClose_latched :
    let latch := fun s : State => { s with iu := { s.iu with latch := true } }
    let c := fun st => latch (closing st (cycle (ended 950) .waiting))
    let d := latch (departing .opened (ended 950))
    ((c .opened).active .u0 = true ∧ (c .opened).unit .u0 = .opened ∧ (c .heldOpen).unit .u0 = .heldOpen ∧
        (c .opened).iu.latch = true ∧ (c .opened).iu.emergencyClose = none ∧ (c .opened).iu.accessClose = none ∧
        (c .opened).platformHold = false ∧ (c .opened).bu.cycle = some (cycle (ended 950) .waiting) ∧
        (c .opened).boardingHold (cycle (ended 950) .waiting) .u0 (warningAt [ended 950] 0) = false ∧
        (c .opened).gapFree .u0 (warningAt [ended 950] 0) = true ∧ (c .opened).memberDeadline .u0 = some 8950) ∧
      (d.active .u0 = true ∧ d.unit .u0 = .opened ∧ d.iu.latch = true ∧ d.iu.emergencyClose = none ∧ d.iu.accessClose = none ∧
        d.bu.departure = some ⟨⟨true, false, false, false⟩, ended 950⟩ ∧ d.gapFree .u0 (ended 950) = true ∧
        (ended 950).running = false) := by decide

/-- One millisecond before the deadline the gap filter still holds a member back; a boarding hold and a release do too. -/
theorem test_meets_MembersClose_waits :
    let c := { closing .opened (cycle (ended 950) .waiting) with now := 8949 }
    let gap := sensed fun x => { x with gapAsserted := true }
    ((gap c).gapFree .u0 (warningAt [ended 950] 0) = false ∧ (gap { c with now := 8950 }).gapFree .u0 (warningAt [ended 950] 0) = true) ∧
      (c.setHoldList [⟨13, 1, 950⟩]).boardingHold (cycle (ended 950) .waiting) .u0 (warningAt [ended 950] 0) = true ∧
      (c.berthState = .closing ∧ 13 ∈ { c.iu with releaseSet := [13] }.releaseSet ∧ (13 : Node) ≠ c.cl.own) ∧
      (c.bu.departure = none ∧ c.iu.emergencyClose = none ∧ c.iu.accessClose = none ∧
        memberDone (c.unit .u0) .waiting = false) ∧
      ((gap (departing .opened (ended 950))).gapFree .u0 (ended 950) = false ∧ (departing .opened (ended 950)).bu.cycle = none ∧
        (running 1000).running = true) ∧
      ((gap (emergency .opened (ended 950) .waiting)).gapFree .u0 (ended 950) = false ∧
        (emergency .opened (ended 950) .waiting).bu.departure = none) ∧
      ((gap (accessing .opened (ended 950) .waiting)).gapFree .u0 (ended 950) = false ∧
        (accessing .opened (ended 950) .waiting).bu.cycle = none) := by decide

/-- The Sample Set, the Hold List, the isolated list and the windows full, an own hold for each of two cars. -/
def full : State :=
  let s := ((sampled .closing 60).setHoldList (holding 16).bu.holdList).setCycle (some
    { cycle (ended 950) .waiting with
      holds := [⟨1, ⟨true, false, false, false⟩, 8950⟩, ⟨2, ⟨false, true, false, false⟩, 8950⟩] })
  { sensed (fun x => { x with gapWindow := List.replicate 5 true, zoneWindow := List.replicate 10 true })
      (s.modBerth fun r => { r with isolated := (List.range 10).map (· + 1) }) with
    iu := { s.iu with releaseSet := [1, 12, 40] } }

theorem test_meets_StoresStayOk : StoresOk full ∧ ∃ t, Sys2Proof.Machine.step full = .next t :=
  ⟨by
    unfold StoresOk SamplesOk HoldListOk ReleaseSetOk WindowsOk IsolatedOk OwnHoldsOk
    refine ⟨by decide, by decide +kernel, by decide +kernel, fun u => by cases u <;> decide +kernel, by decide +kernel,
      by decide +kernel, fun c h => ?_⟩
    obtain rfl : ⟨[ended 950], first ⟨0, .waiting⟩,
        [⟨1, ⟨true, false, false, false⟩, 8950⟩, ⟨2, ⟨false, true, false, false⟩, 8950⟩]⟩ = c := Option.some.inj h
    decide,
    _, rfl⟩

/-- The contact closed, and no close under way. -/
def secure : State := { bay with out := { bay.out with contact := true } }

theorem test_meets_ContactStaysTrue :
    ContactTrue secure ∧ secure.out.contact = true ∧ ∃ t, Sys2Proof.Machine.step secure = .next t :=
  ⟨fun _ => ⟨by decide, by decide +kernel, fun u => by cases u <;> decide +kernel⟩, rfl, _, rfl⟩

theorem test_meets_OutputsStayRight :
    OutputsFollow (unitIn .opened 1050) ∧ ((unitIn .opened 1050).dc.get .u0).enable = true ∧
      ∃ t, Sys2Proof.Machine.step (unitIn .opened 1050) = .next t :=
  ⟨fun u => by cases u <;> decide, rfl, _, rfl⟩

/-- Every latch set, a command waiting or none. -/
def kepts (pending : List Instr) : State :=
  { bay with
    iu := { bay.iu with latch := true, accessLock := true }, pm := { bay.pm with identityConflict := true }
    fr := { bay.fr with severe := some kept, minor := some kept }, pending := pending }

theorem test_meets_LatchesStay :
    (∃ t, Sys2Proof.Machine.step (kepts [.attemptStart]) = .next t) ∧ (∃ t, Sys2Proof.Machine.step (kepts []) = .next t) ∧
      (Instr.attemptStart.isReset = false ∧ (kepts []).pending = [] ∧ (kepts []).fr.resetDue = false ∧
        (kepts []).fr.resetReported = false ∧ (kepts []).fr.severe = some kept ∧ (kepts []).iu.accessLock = true) :=
  ⟨⟨_, rfl⟩, ⟨_, rfl⟩, by decide⟩

/-- CLOSING under a running warning, beacons sent, the last one as the summary stands. -/
def followed : State :=
  let s := closing .opened (cycle (running 1000) .underWarning)
  let s := { s with out := { s.out with warning := true }, pm := { s.pm with cadence := some 1100 } }
  { s with pm := { s.pm with lastBeacon := some s.summary } }

/-- LOADING after a failed read. -/
def loadingAgain : State := { State.reset with cl := { State.reset.cl with failures := 1 } }

theorem test_meets_FollowsStays :
    (Follows followed ∧ ∃ t, Sys2Proof.Machine.step followed = .next t) ∧
      Follows loadingAgain ∧ loadingAgain.cl.phase = .loading ∧ ∃ t, Sys2Proof.Machine.step loadingAgain = .next t :=
  ⟨⟨⟨by unfold SuccessorsOk; decide, by unfold CycleOk; decide,
    ⟨fun c h => ⟨.u0, ⟨0, .underWarning⟩, by cases h; decide, by decide⟩, fun e h => (Option.some_ne_none e h.symm).elim,
      by unfold State.noCloses; decide⟩,
    by unfold LinesFollow; decide, by unfold WarningFollows; decide,
    by unfold BeaconFollows; decide, by rw [ownReleaseFollows_iff]; decide⟩, _, rfl⟩,
    ⟨by unfold SuccessorsOk; decide, by unfold CycleOk; decide,
      ⟨fun c h => (Option.some_ne_none c h.symm).elim, fun e h => (Option.some_ne_none e h.symm).elim,
        by unfold State.noCloses; decide⟩,
      by unfold LinesFollow; decide, by unfold WarningFollows; decide, by unfold BeaconFollows; decide,
      by rw [ownReleaseFollows_iff]; decide⟩, by decide, _, rfl⟩

/-! ### The checks of R3 and R39 -/

/-- The two CRCs over the digits 1 to 9, worked out outside the model. -/
theorem test_checks :
    recordCheck [0x31, 0x32, 0x33, 0x34, 0x35, 0x36, 0x37, 0x38, 0x39] = 0x29B1 ∧
      frameCheck [0x31, 0x32, 0x33, 0x34, 0x35, 0x36, 0x37, 0x38, 0x39] = 0xFEE8 := by decide +kernel

/-- RELEASE 37 from 41, bit by bit: class 1, source 41, kind 7, two fill bits, length 1, sequence 37, and its check. -/
theorem test_frame_bits : Frame.bytes ⟨41, .release, [37]⟩ = [0b00110100, 0b10011100, 1, 37, 0x1D, 0x67] := by decide +kernel

/-- The same bytes heard are that frame (R41). -/
theorem test_frame_heard : acceptBytes [0b00110100, 0b10011100, 1, 37, 0x1D, 0x67] false = some ⟨41, .release, [37]⟩ := by decide +kernel

/-! ### Arithmetic: the worked cases -/

/-- "Every half rounds toward +∞" (chapter 6, Centre rounding). -/
theorem test_centre_rounding :
    centreOffset (-700) 699 = 0 ∧ centreOffset (-701) 698 = -1 ∧ centreOffset (-630) 673 = 22 ∧ centreOffset 1500 1500 = 1500 := by
  decide

/-- The fix for berth 37 (chapter 6): M, W_R, S_hat, verdict and margin. -/
theorem test_fix_37 :
    median (fusing true).ae.samples = some 150120 ∧ totalWeight (retained (fusing true).ae.samples) = 12 ∧
      computeFix (fusing true).ae.samples 12 150000 500 = ⟨.aligned, some 150118, some 40⟩ := by decide

/-- "Median on equal values" and "Weight below the floor after rejection" (chapter 6). -/
theorem test_fix_limits :
    computeFix [⟨12, 0, 1, 150010, 2⟩, ⟨11, 0, 1, 150010, 2⟩, ⟨13, 1, 1, 150300, 4⟩] 12 150000 500 = ⟨.degraded, some 150010, some 120⟩ ∧
      computeFix [⟨12, 0, 1, 150000, 2⟩, ⟨11, 0, 1, 150400, 2⟩] 12 150000 500 = ⟨.unaligned, none, none⟩ := by decide

/-- The map for berth 37 (chapter 6). -/
theorem test_map_37 :
    placedEntry (inBerth .fusing) 150118 40 .u0 = ⟨.served, some 2, some 1, some 1300, some 1230⟩ ∧
      placedEntry (inBerth .fusing) 150118 40 .u1 = ⟨.partialWidth, some 3, some 1, some 1068, some 998⟩ := by decide

/-- Unit 0's own sample of berth 37: k 2, S_i 150,120, quality 3, weight 4 (chapter 6). -/
theorem test_own_sample :
    (match deriveSample (inBerth .fusing) .u0 (-630) 670 3 with
      | .ok x => some x
      | .error _ => none) = some (⟨12, 0, 2, 150120, 4⟩, 3) := by decide

/-- The speeds of a close run (section 7.4). -/
theorem test_close_speeds :
    energyCap 10 90 = 471 ∧ [1, 2, 3, 4].map (closingCruise (some 10) geometry0) = [471, 353, 235, 235] ∧
      [1, 2, 3].map (closingCruise (some 10) geometry1) = [450, 337, 225] ∧
      [209, 160, 125] = [471, 353, 235].map (brakingPoint geometry0.profile) ∧ energyCap 1 200 = 100 := by decide

/-- Cars of the consist for S = 150,000 (section 1.4): 130,200 lies in car 2, 111,200 and anything above 150,000 in none. -/
theorem test_cars :
    carAt twoCars.lengths 150000 150000 = some 1 ∧ carAt twoCars.lengths 150000 130200 = some 2 ∧
      carAt twoCars.lengths 150000 111200 = none ∧ carAt twoCars.lengths 150000 150001 = none := by decide

/-! ### One step of each command -/

theorem test_powerOnReset : (nextState (.powerOnReset 40) bay).cl = Loader.loading 40 := by decide

theorem test_supplyFall : (nextState .supplyFall (unitIn .opened 1050)).dc.q0.solenoid = false := by decide

theorem test_resetPinLow : (nextState .resetPinLow (unitIn .closing 500)).dc.q0.enable = false := by decide

/-- "the attempt under way is abandoned": nothing is on the line while the pin is low (R36, R53). -/
theorem test_resetPinLow_line :
    (nextState .resetPinLow sending).lineFrame = none ∧ (nextState .resetPinLow sending).lc.queue = waiting.lc.queue := by decide

theorem test_resetPinRelease :
    (nextState (.resetPinRelease 12) { marked .isolated true true with resetLow := true }).dc.q0.isolationMark = true := by decide

theorem test_configReadPassComplete :
    (nextState (.configReadPassComplete [0xFF, 0xFF]) State.reset).cl.outcome = some ⟨.length, 0, none, 0⟩ := by decide

theorem test_configReadFail :
    (nextState .configReadFail (nextState .configReadFail (nextState .configReadFail State.reset))).cl.outcome =
      some ⟨.link, 0, none, 0⟩ := by decide

/-- "the IU closes the Secure Contact" at the entry to RUNNING (section 1.5). -/
theorem test_listenExpiry :
    (nextState .listenExpiry { inPhase .listen with cl := { (inPhase .listen).cl with listenTimer := some 1600 } }).out.contact = true := by
  decide

theorem test_quietPeriodEnd :
    (nextState .quietPeriodEnd { faulted with cl := { faulted.cl with quietTimer := some 1600 } }).pm.cadence = some 1800 := by decide

theorem test_attemptStart : (nextState .attemptStart waiting).onLine.isSome = true := by decide

/-- The frame on the line names this node as its source (R1, R39). -/
theorem test_line_source : (nextState .attemptStart waiting).lineFrame = some ⟨12, .beacon, [0, 0, 0, 0, 0, 0, 0, 0]⟩ := by decide

/-- A full queue: an ALERT takes the newest answer's place, an EDGE is dropped; each counts in TX_DROPS (R49). -/
theorem test_full_queue :
    let a := enqueue .alert [1, 0, 0] waiting
    let e := enqueue .edge [37, 3, 2, 0, 0, 0] waiting
    a.lc.queue.head? = some (entry .alert [1, 0, 0] false) ∧ a.lc.queue.length = 16 ∧ a.fr.nodeCounters.txDrops.count = 1 ∧
      e.lc.queue = waiting.lc.queue ∧ e.fr.nodeCounters.txDrops.count = 1 := by decide

theorem test_sentInFull : (nextState .sentInFull sending).lc.queue.length = 15 := by decide

theorem test_arbitrationLost : (nextState .arbitrationLost sending).lc.queue = waiting.lc.queue := by decide

theorem test_transmitError :
    (nextState .transmitError { sending with lc := { sending.lc with errors := 31 } }).lc.line = .lineQuiet := by decide

theorem test_lineQuietExpiry :
    (nextState .lineQuietExpiry { bay with lc := ⟨[], 32, .lineQuiet, some 3000⟩ }).lc = ⟨[], 0, .active, none⟩ := by decide

theorem test_discardedFrame :
    (nextState (.discardedFrame [1, 2] false) bay).fr.nodeCounters.discardedFrames.count = 1 := by decide

/-- A unit in motion under the emergency (the worked sequence of chapter 7). -/
theorem test_stationEmergencyOpen :
    let t := nextState (.stationEmergencyOpen 41) ((inBerth .closing).setDc .u0 (channel .closing 500))
    t.unit .u0 = .reversing ∧ t.dc.q0.target = .opened ∧ t.unit .u1 = .unlocking := by decide

theorem test_stationEmergencyReset :
    (nextState (.stationEmergencyReset 41) { latched false with dc := (unitIn .opened 1050).dc }).iu.emergencyClose =
      some ⟨⟨1000, 3000, true⟩, first .underWarning⟩ := by decide

theorem test_alertHandle : (nextState (.alertHandle 13 0 37) bay).iu.releaseSet = [13] := by decide

theorem test_alert : (nextState (.alert 13 3 0 37) bay).iu.releaseSet = [] := by decide

/-- BERTH 37 of chapter 5: the isolated list is {5}, the index 9 counts one discard. -/
theorem test_berth :
    let t := nextState (.berth 41 37 2 150000 5 9 0) bay
    t.bu.berth = ⟨37, some 2, some 150000, [5], .announced, false, .none, none⟩ ∧
      t.fr.nodeCounters.discardedFrames.count = 1 := by decide

/-- "Refused; BERTH_CONFLICT +1" (chapter 5). -/
theorem test_berth_refused :
    let t := nextState (.berth 42 38 2 150000 0 0 0) (inBerth .released)
    t.pm.lastRefusal = .conflict ∧ t.fr.nodeCounters.berthConflict.count = 1 ∧ t.seq = 37 := by decide

theorem test_berthExt :
    (nextState (.berthExt 41 37 1 5 0 7 2 1 0) (inBerth .announced)).bu.berth.isolated = [5, 1, 2] := by decide

/-- The window of chapter 5: FUSION_WINDOW 800. -/
theorem test_standstill : (nextState (.standstill 41 37) (inBerth .announced)).ae.window = some 1800 := by decide

/-- "NO_STANDSTILL", not remembered (chapter 5). -/
theorem test_release :
    let t := nextState (.release 41 37) (inBerth .announced)
    t.pm.lastRefusal = .noStandstill ∧ t.bu.berth.pendingRelease = false := by decide

/-- "Cycle over unit 0; warning" of 2,000 ms (chapter 5). -/
theorem test_close :
    (nextState (.close 41 37) ((inBerth .released).setDc .u0 (channel .opened 1050))).bu.cycle =
      some ⟨[⟨1000, 3000, true⟩], first ⟨0, .underWarning⟩, []⟩ := by decide

theorem test_reopen : (nextState (.reopen 41 37) (inBerth .secured)).unit .u0 = .unlocking := by decide

/-- Under the latch the request is withheld, and the unit is out of the covered set all the same (R88, R89). -/
theorem test_reopen_latched :
    let t := nextState (.reopen 41 37) ((berthLatched .secured).setDeparture (some ⟨⟨true, true, false, false⟩, ended 950⟩))
    t.unit .u0 = .closedLocked ∧ t.bu.departure = some ⟨⟨false, true, false, false⟩, ended 950⟩ := by decide

/-- "IDLE, 0, clear, none" (chapter 5). -/
theorem test_depart : (nextState (.depart 41 37) (inBerth .secured)).bu = BerthUnit.reset := by decide

/-- A departure with unit 0 released and unit 1 pausing (chapter 5): unit 1 alone is covered, 12 stands in the Release Set. -/
theorem test_depart_handle :
    let t := nextState (.depart 41 37)
      (((inBerth .closing).setDc .u0 (channel .manualReleased 500)).setDc .u1 (channel .reopenWait 1050))
    t.bu.departure = some ⟨⟨false, true, false, false⟩, ⟨1000, 3000, true⟩⟩ ∧ t.iu.releaseSet = [12] ∧
      t.fr.severe = some ⟨.departUnsecured, some .u0, 37, 1000⟩ := by decide

theorem test_holdStart :
    (nextState (.holdStart 11 37 3) (inBerth .closing)).bu.holdList = [⟨11, 3, 1000⟩] := by decide

theorem test_holdEnd :
    (nextState (.holdEnd 13 37 2) ((inBerth .closing).setHoldList [⟨11, 3, 950⟩, ⟨13, 2, 960⟩])).bu.holdList = [⟨11, 3, 950⟩] := by decide

/-- The EDGE from 11 of berth 37 (chapter 6). -/
theorem test_edge :
    (nextState (.edge 11 37 1 3 4 150140) (sampled .fusing 0)).ae.samples = [⟨11, 1, 4, 150140, 4⟩] := by decide

/-- "LATE_SAMPLES +1" after the window (chapter 6). -/
theorem test_edge_late :
    (nextState (.edge 14 37 0 3 4 150140) (inBerth .released)).fr.nodeCounters.lateSamples.count = 1 := by decide

/-- A SILENT neighbour's beacon that does not name the node sets NOT_HEARD where it is clear and the LIVE one's run is 3, and clears it
where it is set (R65). -/
theorem test_beacon_of_silent_neighbour :
    ((nextState (.beacon 11 releases) (otherSilent 3 false)).pm.notHeard = true ∧
        (nextState (.beacon 11 releases) (otherSilent 3 false)).fr.minor = some ⟨.notHeard, none, 0, 1000⟩) ∧
      (nextState (.beacon 11 releases) (otherSilent 3 true)).pm.notHeard = false := by decide

/-- The third beacon in a row that names the node sets NOT_HEARD and reports it (R64, R65). -/
theorem test_beacon_not_heard :
    let t := nextState (.beacon 13 namesUs) (unnamed 2)
    t.pm.notHeard = true ∧ t.fr.minor = some ⟨.notHeard, none, 0, 1000⟩ := by decide

theorem test_result : ((nextState (.result 11 41 1 1 1 0) bay).slot 11).silenceTimer = some 2000 := by decide

theorem test_answer : ((nextState (.answer 11 41 6 47 1 1 [0]) bay).slot 11).state = .live := by decide

/-- A unit isolated with its alarm standing: the alarm has ended and the streams have stopped (R152, R154). -/
theorem test_isolate :
    (nextState (.isolate 41 12 1) bay).unit .u0 = .isolated ∧
      (nextState (.isolate 41 12 1) (crowded .trap bay)).su.units.get .u0 = bay.su.units.get .u0 := by decide

/-- An edge still pressed starts its 10 ms at the return to service (R154). -/
theorem test_restore :
    (nextState (.restore 41 12 1) (marked .isolated true true)).unit .u0 = .closedLocked ∧
      ((nextState (.restore 41 12 1) (crowded .none (marked .isolated true true))).su.units.get .u0).edge = ⟨false, some 1010⟩ := by
  decide

/-- A unit brought back under the latch unlocks in the same event (R178). -/
theorem test_restore_latched :
    let s := { marked .isolated true true with iu := { bay.iu with latch := true } }
    (nextState (.restore 41 12 1) s).unit .u0 = .unlocking := by decide

/-- REHOME with a drive fault held: "HOMING, then at once FAULT", minor, since closed and engaged (chapter 7). -/
theorem test_rehome :
    let t := nextState (.rehome 41 12 1) ((unitIn .fault 0).modDc .u0 fun d => { d with missed := 3 })
    t.unit .u0 = .fault ∧ t.fr.minor = some ⟨.driveFault, some .u0, 0, 1000⟩ := by decide

theorem test_ackFault : (nextState (.ackFault 41 12 1) { bay with fr := { bay.fr with severe := some kept } }).fr.severe = none := by decide

theorem test_ackRelease : (nextState (.ackRelease 41 12 1) (unitIn .releaseRestored 0)).unit .u0 = .closedLocked := by decide

theorem test_accessOpen : (nextState (.accessOpen 41 12 3) bay).unit .u1 = .unlocking := by decide

theorem test_accessClose :
    (nextState (.accessClose 41 12 1) access).iu.accessClose = some ⟨[⟨1000, 3000, true⟩], first ⟨0, .underWarning⟩⟩ := by decide

theorem test_accessLock : (nextState (.accessLock 41 12 0) bay).iu.accessLock = true := by decide

theorem test_resetNode :
    (nextState (.resetNode 41 12 0) bay).lc.queue = [entry .result [41, 9, 0, 1, 0] false] := by decide

theorem test_commandedReset :
    (nextState (.commandedReset 12) { bay with fr := { bay.fr with resetReported := true } }).cl.phase = .loading := by decide

/-- A severe line held in LEVEL mode stays asserted through LOADING (R35). -/
theorem test_commandedReset_line :
    (nextState (.commandedReset 12)
      { bay with fr := { bay.fr with resetReported := true, severe := some kept }, out := ⟨true, true, true, true⟩ }).out =
      ⟨false, false, true, false⟩ := by decide

/-- A part whose reset is reported takes no frame, and the next tick resets it first (R195, log entry 6). -/
theorem test_reported_part :
    let s := { bay with fr := { bay.fr with resetReported := true } }
    nextState (.stationEmergencyOpen 41) s = s ∧ (tick s).cl.phase = .loading ∧ (tick s).now = 1 := by decide +kernel

theorem test_queryFaults : (nextState (.queryFaults 41 12 0 0) bay).lc.queue.all (fun e => e.kind == .answer) = true := by decide +kernel

theorem test_queryUnitCounters : (nextState (.queryUnitCounters 41 12 1 0) bay).lc.queue ≠ [] := by decide +kernel

theorem test_queryNodeCounters :
    (nextState (.queryNodeCounters 41 12 0 1) (countDiscard bay)).fr.nodeCounters.discardedFrames.count = 0 := by decide +kernel

theorem test_queryBerth : (nextState (.queryBerth 41 12 0 0) (inBerth .fixed)).lc.queue ≠ [] := by decide +kernel

/-- The first part: ALIGNED, margin 40, unit 0 SERVED, search NONE (chapter 6; the codes of section 11.5). -/
theorem test_queryServiceMap :
    (nextState (.queryServiceMap 41 12 0 0) (inBerth .fixed)).lc.queue.head?.map (fun e => e.payload.drop 4) = some [1, 40, 1, 0] := by
  decide +kernel

theorem test_queryPeer : (nextState (.queryPeer 41 12 13 0) bay).lc.queue ≠ [] := by decide +kernel

theorem test_controlSample :
    (nextState (.controlSample .u0 (-5) 100) (unitIn .closing 500)).dc.q0.position = 495 := by decide

/-- The third sample above the threshold reverses (chapter 7, the close run). -/
theorem test_controlSample_obstacle :
    let t := nextState (.controlSample .u0 0 5001) (timed .closing fun d => { d with overCount := 2 })
    t.unit .u0 = .reversing ∧ t.dc.q0.target = .reopenWait ∧ t.fr.unitCounters.q0.reversals.count = 1 := by decide

/-- The speed step of 10 mm/s (section 7.4). -/
theorem test_controlPeriod :
    (nextState (.controlPeriod .u0 false false false) (timed .closing fun d => { d with phase := .accelerate, attempt := 1 })).dc.q0.setpoint =
      -10 := by decide

/-- A lock lost at rest opens the contact before the watch runs out (section 9.6). -/
theorem test_controlPeriod_lock :
    let t := nextState (.controlPeriod .u0 false true false) secure
    t.out.contact = false ∧ t.dc.q0.lockTimer = some 1400 := by decide

theorem test_missedControlPeriod : (nextState (.missedControlPeriod .u0) bay).dc.q0.missed = 1 := by decide

theorem test_missedRunDriveFault : (nextState (.missedRunDriveFault .u0) bay).driveFault .u0 = true := by decide

theorem test_driveFaultTaken : (nextState (.driveFaultTaken .u0) (unitIn .opened 1050)).unit .u0 = .fault := by decide

theorem test_unlockComplete :
    let t := nextState (.unlockComplete .u0) (unitIn .unlocking 0)
    t.unit .u0 = .opening ∧ t.dc.q0.travelTimer = some 6000 ∧ t.dc.q0.stallTimer = some 1300 := by decide

theorem test_unlockTimeout :
    (nextState (.unlockTimeout .u0) (timed .unlocking fun d => { d with lockTimer := some 1400 })).fr.unitCounters.q0.unlockFails.count = 1 := by
  decide

/-- "The contact closes in the same event" as the last unit locks (section 9.5). -/
theorem test_lockComplete :
    let t := nextState (.lockComplete .u0) (unitIn .locking 0)
    t.unit .u0 = .closedLocked ∧ t.out.contact = true := by decide

/-- The last member's lock ends the cycle with a HOLD END and secures the berth, and as long as another stands open it does not (R166,
R167). -/
theorem test_lockComplete_last :
    let t := nextState (.lockComplete .u0) (locking .closedLocked)
    (t.bu.cycle = none ∧ t.berthState = .secured ∧ t.lc.queue = [entry .hold [37, 2, 1] false]) ∧
      (nextState (.lockComplete .u0) ((locking .opened).setHoldList [⟨11, 1, 960⟩])).berthState = .closing := by decide

theorem test_lockingTimeout :
    (nextState (.lockingTimeout .u0) (timed .locking fun d => { d with lockTimer := some 1400 })).fr.severe =
      some ⟨.lockFault, some .u0, 0, 1400⟩ := by decide

theorem test_lockWatchTimeout :
    (nextState (.lockWatchTimeout .u0) (timed .closedLocked fun d => { d with lockTimer := some 1400 })).unit .u0 = .fault := by decide

theorem test_openingComplete :
    (nextState (.openingComplete .u0) (unitIn .opening 1050)).fr.unitCounters.q0.openCycles.count = 1 := by decide

theorem test_pendingCloseTaken :
    (nextState (.pendingCloseTaken .u0) (moving .opening true .opened 1050)).unit .u0 = .closing := by decide

theorem test_closingTravelEnd : (nextState (.closingTravelEnd .u0) (unitIn .closing 2)).dc.q0.lockTimer = some 1400 := by decide

/-- "With the target OPEN, it enters OPEN, and OPEN_CYCLES is not counted" (R129). -/
theorem test_reversingComplete :
    let t := nextState (.reversingComplete .u0) (moving .reversing false .opened 1050)
    t.unit .u0 = .opened ∧ t.fr.unitCounters.q0.openCycles.count = 0 := by decide

theorem test_obstacleCurrent : (nextState (.obstacleCurrent .u0) (unitIn .closing 640)).unit .u0 = .reversing := by decide

/-- "CLOSING, attempt 2" (chapter 7, the close run). -/
theorem test_reopenPauseEnd :
    let t := nextState (.reopenPauseEnd .u0) (timed .reopenWait fun d => { d with pauseTimer := some 3000, attempt := 1 })
    t.unit .u0 = .closing ∧ t.dc.q0.attempt = 2 := by decide

/-- "3 is not below 3": HELD_OPEN (chapter 7, the close run). -/
theorem test_reopenPauseEnd_held :
    (nextState (.reopenPauseEnd .u0) (timed .reopenWait fun d => { d with pauseTimer := some 3000, attempt := 3 })).unit .u0 = .heldOpen := by
  decide

theorem test_stallTimerExpiry :
    (nextState (.stallTimerExpiry .u0) (timed .opening fun d => { d with stallTimer := some 1300 })).dc.q0.pauseTimer = some 1800 := by decide

/-- The third stall counts one more and faults (R131). -/
theorem test_stallTimerExpiry_third :
    let t := nextState (.stallTimerExpiry .u0) (timed .opening fun d => { d with stallTimer := some 1300, stallCount := 2 })
    t.unit .u0 = .fault ∧ t.dc.q0.stallCount = 3 := by decide

theorem test_stallPauseEnd :
    (nextState (.stallPauseEnd .u0) (timed .opening fun d => { d with pauseTimer := some 1500 })).dc.q0.stallTimer = some 1800 := by decide

theorem test_travelTimerExpiry :
    (nextState (.travelTimerExpiry .u0) (timed .closing fun d => { d with travelTimer := some 6000 })).unit .u0 = .fault := by decide

/-- A closed switch that reads CLOSED sets the position to 0 and enters LOCKING (R136). -/
theorem test_homingClosed :
    let t := nextState (.homingClosed .u0) (unitIn .homing 7)
    t.unit .u0 = .locking ∧ t.dc.q0.position = 0 := by decide

theorem test_homingWaitEnd :
    (nextState (.homingWaitEnd .u0) (timed .homing fun d => { d with pauseTimer := some 3000 })).dc.q0.retries = 1 := by decide

theorem test_homingTimerExpiry :
    (nextState (.homingTimerExpiry .u0) (timed .homing fun d => { d with homingTimer := some 11000 })).fr.severe =
      some ⟨.homeFail, some .u0, 0, 11000⟩ := by decide

/-- The stable reading of unit 0 at berth 37 (chapter 6): SAMPLED. -/
theorem test_alignmentReading :
    let t := nextState (.alignmentReading .u0 (.inView (-630) 670 3)) (seeking [18, 22, 20, 21])
    t.ae.samples = [⟨12, 0, 2, 150120, 4⟩] ∧ t.lc.queue = [entry .edge ([37, 0x03, 2] ++ bytes3 150120) false] := by decide

/-- The five offsets of unit 1 with a spread of 80 are not stable (chapter 6). -/
theorem test_alignmentReading_spread :
    ((nextState (.alignmentReading .u0 (.inView (-1255) 45 2)) (seeking [-560, -640, -590, -625])).ae.searches.get .u0).run =
      [-560, -640, -590, -625, -605] := by decide

theorem test_alignmentReadingTimeout :
    ((nextState (.alignmentReadingTimeout .u0) ((seeking [18]).modSu .u0 fun x => { x with alignTimer := some 1040 })).ae.searches.get .u0).run =
      [] := by decide

/-- "FIXED, then RELEASED … open request to unit 0; unit 1 gets none" (chapter 5). -/
theorem test_fusionWindowExpiry :
    let t := nextState .fusionWindowExpiry (fusing true)
    t.berthState = .released ∧ t.unit .u0 = .unlocking ∧ t.unit .u1 = .closedLocked ∧ t.bu.berth.sHat = some 150118 := by decide

theorem test_heldRelease : (nextState .heldRelease (fusing true)).bu.berth.pendingRelease = false := by decide

/-- TRAP at a locked unit in a berth (section 9.6). -/
theorem test_gapSample :
    let s := sensed (fun x => { x with gapWindow := [true, true] }) (inBerth .closing)
    let t := nextState (.gapSample .u0 .occupied) s
    (t.su.units.get .u0).alarm = .trap ∧ t.fr.severe = some ⟨.trap, some .u0, 37, 1000⟩ := by decide

theorem test_gapSampleTimeout :
    ((nextState (.gapSampleTimeout .u0) (sensed (fun x => { x with gapTimer := some 1040 }) bay)).su.units.get .u0).gapWindow = [true] := by
  decide

/-- "Unit 1 filter releases; alarm ends" (section 9.6). -/
theorem test_gapFilterRelease :
    ((nextState (.gapFilterRelease .u0) (sensed (fun x => { x with gapAsserted := true, alarm := .trap }) bay)).su.units.get .u0).alarm =
      .none := by decide

theorem test_zoneSample :
    ((nextState (.zoneSample .u0 .occupied)
      (sensed (fun x => { x with zoneWindow := List.replicate 6 true }) bay)).su.units.get .u0).zoneBusy = true := by decide

theorem test_zoneSampleTimeout :
    ((nextState (.zoneSampleTimeout .u0) (sensed (fun x => { x with zoneTimer := some 1200 }) bay)).su.units.get .u0).zoneWindow = [false] := by
  decide

theorem test_debouncedInputChange :
    (nextState (.debouncedInputChange .wire true) bay).su.wire = ⟨false, some 1050⟩ := by decide

/-- "Position 300: sensitive edge asserts": REVERSING (chapter 7, the close run). -/
theorem test_sensitiveEdgeChange :
    (nextState (.sensitiveEdgeChange .u0 true) (sensed (fun x => { x with edge := ⟨false, some 1010⟩ }) (unitIn .closing 300))).unit .u0 =
      .reversing := by decide

theorem test_emergencyWireAssert :
    let t := nextState .emergencyWireAssert { bay with su := { bay.su with wire := ⟨false, some 1050⟩ } }
    t.iu.latch = true ∧ t.unit .u0 = .unlocking ∧ t.unit .u1 = .unlocking := by decide

theorem test_emergencyWireClear :
    let t := nextState .emergencyWireClear { latched true with su := { bay.su with wire := ⟨true, some 1050⟩ } }
    t.iu.latch = true ∧ t.su.wire.level = false := by decide

theorem test_handleOperation :
    let t := nextState (.handleOperation .u1) bay
    t.unit .u1 = .manualReleased ∧ t.lc.queue = [entry .alert [1, 1, 0] false] ∧ t.iu.releaseSet = [12] := by decide

theorem test_handleReturn :
    (nextState (.handleReturn .u0) (sensed (fun x => { x with handle := ⟨true, true⟩ }) (unitIn .manualReleased 0))).unit .u0 =
      .releaseRestored := by decide

theorem test_panelOperation : (nextState (.panelOperation .u0) secure).out.contact = false := by decide

theorem test_panelReturn :
    ((nextState (.panelReturn .u0) (sensed (fun x => { x with panel := ⟨true, true⟩ }) bay)).su.units.get .u0).panel = ⟨false, false⟩ := by
  decide

/-- A silent peer's holds leave the Hold List (section 9.5). -/
theorem test_silenceTimerExpiry :
    (nextState (.silenceTimerExpiry 11)
      ((inBerth .closing).setHoldList [⟨11, 3, 950⟩] |> withSlot 11 { Slot.empty with state := .live, silenceTimer := some 2000 })).bu.holdList =
      [] := by decide

theorem test_beaconCadenceExpiry :
    (nextState .beaconCadenceExpiry almostDue).lc.queue = [entry .beacon [0, 0, 0, 0xFF, 0, 0, 0, 0] false] := by decide

theorem test_beaconGapTimerExpiry :
    (nextState .beaconGapTimerExpiry
      { bay with pm := { bay.pm with gap := some 1050, changePending := true } }).pm.changePending = false := by decide

/-- Neither neighbour was ever heard: both qualify in the summary (R63). -/
theorem test_neighbourAbsenceExpiry :
    let t := nextState .neighbourAbsenceExpiry { bay with pm := { bay.pm with absenceTimer := some 6000 } }
    t.summary.up = 13 ∧ t.summary.down = 11 := by decide

/-- "Warning ends; unit 0 zone BUSY": WAITING, an own hold to its deadline, HOLD START sent (section 9.5). -/
theorem test_closeCycleWarningEnd :
    let t := nextState .closeCycleWarningEnd (busy (closing .opened (cycle (running 2000) .underWarning)))
    t.bu.cycle = some ⟨[ended 2000], first ⟨0, .waiting⟩, [⟨1, ⟨true, false, false, false⟩, 10000⟩]⟩ ∧
      t.lc.queue = [entry .hold [37, 1, 1] false] := by decide

theorem test_memberRelease : (nextState (.memberRelease .u0) (closing .opened (cycle (ended 950) .waiting))).unit .u0 = .closing := by decide

theorem test_memberDeadline :
    (nextState (.memberDeadline .u0)
      ((closing .opened (cycle (ended 950) .waiting)).setHoldList [⟨13, 1, 960⟩])).unit .u0 = .closing := by decide

theorem test_ownHoldDeadline :
    (nextState (.ownHoldDeadline 1)
      (closing .opened { cycle (ended 950) .waiting with holds := [⟨1, ⟨true, false, false, false⟩, 8950⟩] })).lc.queue =
      [entry .hold [37, 2, 1] false] := by decide

theorem test_departureCloseWarningEnd :
    (nextState .departureCloseWarningEnd (departing .heldOpen (running 3000))).unit .u0 = .closing := by decide

theorem test_departureCloseRequest :
    (nextState (.departureCloseRequest .u0) (departing .opened (ended 950))).bu.departure = none := by decide

theorem test_departureCloseDeadline :
    (nextState .departureCloseDeadline
      (sensed (fun x => { x with gapAsserted := true }) (departing .opened (ended 950)))).fr.unitCounters.q0.reversals.count = 1 := by decide

theorem test_emergencyCloseWarningEnd :
    (nextState .emergencyCloseWarningEnd (emergency .opened (running 3000) .underWarning)).dc.q0.attempt = 1 := by decide

/-- "Unit 1 ignores its close request, REQUEST_IGNORED +1" in RELEASE_RESTORED (chapter 7, the emergency sequence). -/
theorem test_emergencyCloseRequest :
    (nextState (.emergencyCloseRequest .u0) (emergency .releaseRestored (ended 950) .waiting)).fr.unitCounters.q0.requestIgnored.count = 1 := by
  decide

theorem test_emergencyCloseDeadline :
    (nextState (.emergencyCloseDeadline .u0) (emergency .heldOpen (ended 950) .waiting)).now = 8950 := by decide

theorem test_accessCloseWarningEnd :
    (nextState .accessCloseWarningEnd (accessing .opened (running 3000) .underWarning)).unit .u0 = .closing := by decide

theorem test_accessCloseRequest :
    (nextState (.accessCloseRequest .u0) (accessing .opened (ended 950) .waiting)).iu.accessClose = none := by decide

theorem test_accessCloseDeadline :
    (nextState (.accessCloseDeadline .u0) (accessing .opened (ended 950) .waiting)).unit .u0 = .closing := by decide

theorem test_pulseTimerExpiry :
    (nextState (.pulseTimerExpiry .severe) { bay with fr := { bay.fr with severePulse := some 1500 } }).out.severeOut = false := by decide

/-- An empty queue: one millisecond, and the beacon due with it (R59). -/
theorem test_tick :
    (tick bay).now = 1001 ∧ (tick (tick almostDue)).lc.queue = [entry .beacon [0, 0, 0, 0xFF, 0, 0, 0, 0] false] := by decide +kernel

/-- Four warnings started in one millisecond by an ACCESS_CLOSE for each unit end at one tick, and the output with them (R33, R184). -/
theorem test_tick_warnings :
    let s := { bay with
      cl := { bay.cl with config := { config12 with unitCount := 4, units := Quad.same geometry0 } }
      dc := Quad.same (channel .opened 1050), iu := { bay.iu with accessMarks := Quad.same true } }
    let c := (nextState (.accessClose 41 12 8) (nextState (.accessClose 41 12 4) (nextState (.accessClose 41 12 2)
      (nextState (.accessClose 41 12 1) s))))
    c.accessWarnings.length = 4 ∧ c.out.warning = true ∧
      (let t := tick { c with now := 2999 };
        t.out.warning = false ∧ UnitNo.all.all (fun u => t.unit u == .closing) = true) := by decide +kernel

end Sys2Proof.Tests
end

/-! The Berth Unit's frames in RUNNING: delivery past the checks of R41 to R44, the test of the sequence (R71), and STANDSTILL (R78). -/

namespace Sys2Proof.Machine

/-! ### Delivery -/

/-- An accepted frame is noted for its source and delivered (R44). -/
theorem receive_of_accepted {f : Frame} {s : State} (h : Accepted f s) (g : State → State) :
    receive f g s = g (noteActivity f.source (f.kind == .beacon) s) := by
  obtain ⟨_, hok, hown⟩ := h
  simp [receive, hok, hown]

/-- A note in the Peer Table leaves the phase alone, so that the frame is delivered in RUNNING and the event settled. -/
theorem onFrameSettling_of_acceptedRunning {f : Frame} {s : State} (h : AcceptedRunning f s) (g : State → State) :
    onFrameSettling f (inRunning g) s = settle s (g (noteActivity f.source (f.kind == .beacon) s)) := by
  obtain ⟨hacc, hphase⟩ := h
  have hrun : (noteActivity f.source (f.kind == .beacon) s).running = true := beq_iff_eq.mpr hphase
  rw [onFrameSettling, if_pos hacc.1, receive_of_accepted hacc, inRunning, if_pos hrun]

/-! ### The sequence (R71) -/

@[simp] theorem noteActivity_seq (n : Node) (b : Bool) (s : State) : (noteActivity n b s).seq = s.seq := rfl

@[simp] theorem noteActivity_berthState (n : Node) (b : Bool) (s : State) :
    (noteActivity n b s).berthState = s.berthState := rfl

theorem onSequence_same {q : Byte} {s : State} (h : q = s.seq) (g : State → State) : onSequence q g s = g s := if_pos h

theorem onSequence_other {q : Byte} {s : State} (h : q ≠ s.seq) (g : State → State) : onSequence q g s = countDiscard s :=
  if_neg h

/-! ### Standstill (R78) -/

theorem onStandstill_announced {s : State} (h : s.berthState = .announced) :
    onStandstill s = openWindow (setBerthState .fusing s) := if_pos (beq_iff_eq.mpr h)

theorem onStandstill_other {s : State} (h : s.berthState ≠ .announced) : onStandstill s = s :=
  if_neg fun e => h (beq_iff_eq.mp e)

/-- The end of an event reaches the AE through the searches of the units that act, and none acts. -/
theorem Ends.ae_eq {s t : State} (h : Ends s t) : t.ae = s.ae := by
  have hsearches : t.ae.searches = s.ae.searches := Quad.ext_get fun u => h.1.runs u rfl
  have halign := h.1.align
  rw [← hsearches] at halign
  exact halign

/-- What `openWindow` writes is read off the AE, node time and the configuration, which the end of an event keeps. -/
theorem openWindow_ae_congr {s t : State} (hae : t.ae = s.ae) (hnow : t.now = s.now) (hcl : t.cl = s.cl) :
    (openWindow t).ae = (openWindow s).ae := by
  have hconfigured : t.configured = s.configured := by
    funext u
    rw [State.configured, State.configured, hcl]
  simp only [openWindow, State.modAe_ae, State.timer, hae, hnow, hcl, hconfigured]

/-- Opening the window after what the end of an event may do comes to the same frame as opening it before (R105). -/
theorem Ends.openWindow {s t : State} (h : Ends s t) : Ends (openWindow s) (openWindow t) := by
  have hae := openWindow_ae_congr h.ae_eq h.2.1 h.1.cl
  exact
    ⟨{ h.1 with
        align := by rw [hae]
        outcomes := fun _ => by rw [hae]
        runs := fun _ _ => by rw [hae] }, h.2⟩

/-- STANDSTILL in ANNOUNCED: FUSING and the open window, with the alarms that change as the train comes (R78, R105, R151). -/
theorem onStandstill_ends {s : State} (h : s.berthState = .announced) :
    Ends (openWindow (s.modBerth fun r => { r with state := .fusing })) (onStandstill s) := by
  rw [onStandstill_announced h]
  exact (setBerthState_ends .fusing s).openWindow

theorem exec_standstill (src : Node) (seq : Byte) (s : State) :
    exec (.standstill src seq) s =
      .next (onFrameSettling ⟨src, .standstill, [seq]⟩ (inRunning (onSequence seq onStandstill)) s) := rfl

theorem exec_standstill_of_acceptedRunning {src : Node} {seq : Byte} {s : State}
    (h : AcceptedRunning ⟨src, .standstill, [seq]⟩ s) :
    exec (.standstill src seq) s = .next (settle s (onSequence seq onStandstill (noteActivity src false s))) := by
  rw [exec_standstill, onFrameSettling_of_acceptedRunning h]
  rfl

/-- The end of an event secures a berth out of CLOSING or RELEASED alone (R85, R166, R167). -/
theorem Ends.berthState_eq {s t : State} (h : Ends s t) (hc : s.berthState ≠ .closing) (hr : s.berthState ≠ .released) :
    t.berthState = s.berthState := by
  rcases h.1.berthState with same | ⟨_, closing | ⟨released, _⟩⟩
  · exact same
  · exact absurd closing hc
  · exact absurd released hr

/-- Settles O28: STANDSTILL settles one of three states, by the sequence and the berth's state, and `settle_ends` says what the settling
may do. -/
theorem standstillOpensWindow : Obligations.StandstillOpensWindow := by
  intro src seq s h
  have hexec := exec_standstill_of_acceptedRunning h
  refine ⟨fun hseq hst => ?opens, fun hseq hst => ?ignored, fun hseq => ?otherSequence⟩
  case opens =>
    rw [onSequence_same (by simpa using hseq)] at hexec
    have hends := (onStandstill_ends (s := noteActivity src false s) (by simpa using hst)).trans (settle_ends s _)
    have hfusing := hends.berthState_eq (by simp [openWindow, State.berthState]) (by simp [openWindow, State.berthState])
    exact ⟨_, hexec, hfusing, hends⟩
  case ignored =>
    rw [onSequence_same (by simpa using hseq), onStandstill_other (by simpa using hst)] at hexec
    exact ⟨_, hexec, settle_ends s _⟩
  case otherSequence =>
    rw [onSequence_other (by simpa using hseq)] at hexec
    exact ⟨_, hexec, settle_ends s _⟩

end Sys2Proof.Machine

/-! An EDGE in RUNNING (R102, R103): the tests of `takeEdge` in order, an equation for each, and the keying of the sample into the set. -/

namespace Sys2Proof.Machine

/-! ### Delivery of a frame that touches no unit, close or warning -/

theorem onFrame_of_acceptedRunning {f : Frame} {s : State} (h : AcceptedRunning f s) (g : State → State) :
    onFrame f (inRunning g) s = finish (g (noteActivity f.source (f.kind == .beacon) s)) := by
  obtain ⟨hacc, hphase⟩ := h
  have hrun : (noteActivity f.source (f.kind == .beacon) s).running = true := beq_iff_eq.mpr hphase
  rw [onFrame, if_pos hacc.1, receive_of_accepted hacc, inRunning, if_pos hrun]

theorem finish_ends (s : State) : Ends s (finish s) := (finish_sends s).ends

/-! ### What the note of activity leaves alone -/

@[simp] theorem noteActivity_identityConflict (n : Node) (b : Bool) (s : State) :
    (noteActivity n b s).pm.identityConflict = s.pm.identityConflict := rfl

@[simp] theorem noteActivity_holdsKey (n : Node) (b : Bool) (s : State) (src : Node) (unit : Nat) :
    (noteActivity n b s).holdsKey src unit = s.holdsKey src unit := rfl

@[simp] theorem noteActivity_peerSamples (n : Node) (b : Bool) (s : State) :
    (noteActivity n b s).peerSamples = s.peerSamples := rfl

/-! ### The Sample Set (R103) -/

theorem holdsKey_iff {s : State} {src : Node} {unit : Nat} :
    s.holdsKey src unit = true ↔ ∃ y ∈ s.ae.samples, y.source = src ∧ y.unit = unit := by
  simp [State.holdsKey]

theorem peerSamples_eq_countP (s : State) :
    s.peerSamples = s.ae.samples.countP fun y => y.source != s.cl.own := List.countP_eq_length_filter.symm

/-- A sample whose key the set holds, or that finds one of the 60 peer places free, joins the set. -/
theorem admitSample_joins {x : Sample} {s : State} (h : s.holdsKey x.source x.unit = true ∨ s.peerSamples < 60) :
    admitSample x s = s.modAe fun a => { a with samples := joinSample x a.samples } :=
  if_pos (by simpa using h)

/-- A sample of a new key that finds no free peer place is counted and dropped. -/
theorem admitSample_overflows {x : Sample} {s : State} (hkey : s.holdsKey x.source x.unit = false)
    (hfull : 60 ≤ s.peerSamples) : admitSample x s = countOverflow s :=
  if_neg (by simpa [hkey] using hfull)

/-! ### The tests in order (R102) -/

/-- The peer sample an admitted EDGE carries, its weight 4, 2 or 1 by its quality (R102). -/
def edgeSample (src : Node) (unit quality : BitVec 4) (door : Byte) (stop : BitVec 24) : Sample :=
  { source := src, unit := unit.toNat, door := door.toNat, stop := stop.toNat
    weight := if quality = 3 then 4 else if quality = 2 then 2 else 1 }

@[simp] theorem edgeSample_source (src : Node) (unit quality : BitVec 4) (door : Byte) (stop : BitVec 24) :
    (edgeSample src unit quality door stop).source = src := rfl

@[simp] theorem edgeSample_unit (src : Node) (unit quality : BitVec 4) (door : Byte) (stop : BitVec 24) :
    (edgeSample src unit quality door stop).unit = unit.toNat := rfl

/-- A quality's weight, read off the four bits an EDGE carries instead of off their number. -/
theorem qualityWeight_toNat (q : BitVec 4) :
    qualityWeight q.toNat = if q = 3 then 4 else if q = 2 then 2 else 1 := by
  simp [qualityWeight, ← BitVec.toNat_inj]

section TestsInOrder

variable {src : Node} {seq door : Byte} {unit quality : BitVec 4} {stop : BitVec 24} {s : State}

theorem takeEdge_conflict (hid : s.pm.identityConflict = true) : takeEdge src seq unit quality door stop s = s :=
  if_pos hid

theorem takeEdge_otherSequence (hid : s.pm.identityConflict = false) (hseq : seq ≠ s.seq) :
    takeEdge src seq unit quality door stop s = countDiscard s := by
  simp [takeEdge, hid, hseq]

theorem takeEdge_late (hid : s.pm.identityConflict = false) (hseq : seq = s.seq)
    (hst : ¬(s.berthState = .announced ∨ s.berthState = .fusing)) :
    takeEdge src seq unit quality door stop s = countLate s := by
  simp [takeEdge, hid, hseq, hst]

theorem takeEdge_admitted (hid : s.pm.identityConflict = false) (hseq : seq = s.seq)
    (hst : s.berthState = .announced ∨ s.berthState = .fusing) :
    takeEdge src seq unit quality door stop s = admitSample (edgeSample src unit quality door stop) s := by
  simp [takeEdge, edgeSample, hid, hseq, hst, qualityWeight_toNat]

end TestsInOrder

theorem exec_edge (src : Node) (seq : Byte) (unit quality : BitVec 4) (door : Byte) (stop : BitVec 24) (s : State) :
    exec (.edge src seq unit quality door stop) s =
      .next (onFrame ⟨src, .edge, [seq, nibbles unit quality, door] ++ bytes3 stop⟩
        (inRunning (takeEdge src seq unit quality door stop)) s) := rfl

theorem exec_edge_of_acceptedRunning {src : Node} {seq : Byte} {unit quality : BitVec 4} {door : Byte} {stop : BitVec 24}
    {s : State} (h : AcceptedRunning ⟨src, .edge, [seq, nibbles unit quality, door] ++ bytes3 stop⟩ s) :
    exec (.edge src seq unit quality door stop) s =
      .next (finish (takeEdge src seq unit quality door stop (noteActivity src false s))) := by
  rw [exec_edge, onFrame_of_acceptedRunning h]
  rfl

/-- Settles O33: the event ends by `finish` whatever the EDGE's fate, so that each clause comes to what `takeEdge` makes of the noted
state. -/
theorem edgesExamined : Obligations.EdgesExamined := by
  intro src seq unit quality door stop s h
  refine ⟨_, exec_edge_of_acceptedRunning h, fun hid => ?conflict, fun hid hseq => ?otherSequence, fun hid hseq hst => ?late,
    fun hid hseq hst => ⟨fun hroom => ?joins, fun hnew hfull => ?overflows⟩⟩
  case conflict =>
    rw [takeEdge_conflict (by simpa using hid)]
    exact finish_ends _
  case otherSequence =>
    rw [takeEdge_otherSequence (by simpa using hid) (by simpa using hseq)]
    exact finish_ends _
  case late =>
    have hover : ¬(s.berthState = .announced ∨ s.berthState = .fusing) := by
      rcases hst with fixed | released | closing | secured <;> simp [*]
    rw [takeEdge_late (by simpa using hid) (by simpa using hseq) (by simpa using hover)]
    exact finish_ends _
  case joins =>
    rw [← holdsKey_iff, ← peerSamples_eq_countP] at hroom
    rw [takeEdge_admitted (by simpa using hid) (by simpa using hseq) (by simpa using hst),
      admitSample_joins (by simpa using hroom)]
    exact finish_ends _
  case overflows =>
    have hkey : s.holdsKey src unit.toNat = false := by simpa [State.holdsKey] using hnew
    rw [← peerSamples_eq_countP] at hfull
    rw [takeEdge_admitted (by simpa using hid) (by simpa using hseq) (by simpa using hst),
      admitSample_overflows (by simpa using hkey) (by simpa using hfull)]
    exact finish_ends _

end Sys2Proof.Machine

/-! What the body of an event can do: a chain of small moves, each of which says what the invariants of the part ask of it. Every shared
operation and every command is such a chain, so that an invariant has to be shown of the moves alone. -/

namespace Sys2Proof.Machine

/-! ### The moves -/

/-- The command starts the part up: a reset, the end of a pass over the record, or the end of LISTEN or of the quiet period. No other
changes the CL. -/
def startsUp : Instr → Bool
  | .powerOnReset _ => true
  | .resetPinRelease _ => true
  | .commandedReset _ => true
  | .configReadPassComplete _ => true
  | .configReadFail => true
  | .listenExpiry => true
  | .quietPeriodEnd => true
  | _ => false

/-- The command may end a load or begin one: no beacon is sent under it (R20, R59). -/
def loads : Instr → Bool
  | .powerOnReset _ => true
  | .resetPinRelease _ => true
  | .commandedReset _ => true
  | .configReadPassComplete _ => true
  | .configReadFail => true
  | _ => false

/-- The command has the Secure Contact evaluated before the event's end (R17, R169). -/
def evaluates : Instr → Bool
  | .controlPeriod _ _ _ _ => true
  | .listenExpiry => true
  | _ => false

/-- The Fault Recorder after a move of the command `i`: its filled slots stand unless `i` acknowledges faults, and a reset is marked due
by RESET_NODE alone (R189, R195). -/
structure RecorderStays (i : Instr) (r r' : FaultRecorder) : Prop where
  severe : (∀ src dest arg, i ≠ .ackFault src dest arg) → ∀ x, r.severe = some x → r'.severe = some x
  minor : (∀ src dest arg, i ≠ .ackFault src dest arg) → ∀ x, r.minor = some x → r'.minor = some x
  due : (∀ src dest arg, i ≠ .resetNode src dest arg) → r'.resetDue = r.resetDue
  reported : r'.resetReported = r.resetReported

/-- The Interlock Unit after a move of the command `i`. -/
structure InterlockStays (i : Instr) (s : State) (x : InterlockUnit) : Prop where
  latch : (∀ src, i ≠ .stationEmergencyReset src) → s.iu.latch = true → x.latch = true
  lock : s.iu.accessLock = true → x.accessLock = true
  releases : ReleaseSetOk s.iu.releaseSet → ReleaseSetOk x.releaseSet
  own : OwnReleaseFollows s → OwnReleaseFollows { s with iu := x }

/-- The Berth Unit and the Alignment Engine after a move. -/
structure BerthStays (s : State) (b : BerthUnit) (a : AlignEngine) : Prop where
  holds : HoldListOk s.bu.holdList → HoldListOk b.holdList
  isolated : IsolatedOk s.bu.berth.isolated → IsolatedOk b.berth.isolated
  own : OwnHoldsOk s → OwnHoldsOk { s with bu := b }
  samples : SamplesOk s.cl.own s.ae.samples → SamplesOk s.cl.own a.samples
  runs : ∀ u, (s.ae.searches.get u).run.length ≤ 5 → (a.searches.get u).run.length ≤ 5
  cycle : CycleOk s → CycleOk { s with bu := b, ae := a }

/-- A Door Channel as a unit enters its state, the outputs by the state's row (R116). -/
structure Entered (d : DoorChannel) : Prop where
  enable : d.enable = d.st.driven
  solenoid : d.solenoid = d.st.energised
  setpoint : d.st.driven = false → d.setpoint = 0

/-- One move of the body of the command `i`. -/
inductive Move (i : Instr) : State → State → Prop where
  | enqueue (k : FrameKind) (p : List Byte) (s : State) : Move i s (enqueue k p s)
  | line (f : LineController → LineController) (s : State) : (f s.lc).queue = s.lc.queue → Move i s (s.modLc f)
  | begins (s : State) : s.onLine = none → Move i s (beginAttempt s)
  | loses (s : State) : Move i s (endAttempt s)
  | sends (s : State) : Move i s (takeSent s)
  | gone (e : TxEntry) (s : State) : Move i s (reportGone e s)
  | clock (n : Time) (s : State) : Move i s { s with now := n }
  | pins (p : Pins) (s : State) : Move i s { s with pins := p }
  | draws (n : Nat) (s : State) : Move i s { s with freeCount := n }
  | cl (f : Loader → Loader) (s : State) : startsUp i = true → (f s.cl).own = s.cl.own → Move i s (s.modCl f)
  | pm (f : PeerMonitor → PeerMonitor) (s : State) : (f s.pm).slots.length = s.pm.slots.length →
      (s.pm.identityConflict = true → (f s.pm).identityConflict = true) →
      (loads i = false ∨ (f s.pm).cadence = s.pm.cadence) → Move i s (s.modPm f)
  | fr (f : FaultRecorder → FaultRecorder) (s : State) : RecorderStays i s.fr (f s.fr) → Move i s (s.modFr f)
  /-- A unit enters a state, with its outputs by the state's row, and the own number follows it (R116, R173). -/
  | unit (u : UnitNo) (d : DoorChannel) (s : State) : Entered d → Move i s (syncOwnRelease (s.setDc u d))
  /-- A channel moves within its state. -/
  | channel (u : UnitNo) (d : DoorChannel) (s : State) : d.st = s.unit u → d.enable = (s.dc.get u).enable →
      d.solenoid = (s.dc.get u).solenoid → (d.setpoint = (s.dc.get u).setpoint ∨ d.setpoint = 0 ∨ d.st.driven = true) →
      Move i s (s.setDc u d)
  | sensing (u : UnitNo) (x : UnitSensing) (s : State) :
      ((s.su.units.get u).gapWindow.length ≤ 5 → x.gapWindow.length ≤ 5) →
      ((s.su.units.get u).zoneWindow.length ≤ 10 → x.zoneWindow.length ≤ 10) → Move i s (s.setSu u x)
  | wire (c : Debounced) (s : State) : Move i s { s with su := { s.su with wire := c } }
  | berth (b : BerthUnit) (a : AlignEngine) (s : State) : BerthStays s b a → Move i s { s with bu := b, ae := a }
  | iu (f : InterlockUnit → InterlockUnit) (s : State) : InterlockStays i s (f s.iu) → Move i s (s.modIu f)
  | contact (s : State) : evaluates i = true → Move i s (evalContact s)

/-- A chain of moves. -/
abbrev Moves (i : Instr) : State → State → Prop := Relation.ReflTransGen (Move i)

variable {i : Instr}

theorem Moves.refl (s : State) : Moves i s s := Relation.ReflTransGen.refl

theorem Move.moves {s t : State} (h : Move i s t) : Moves i s t := Relation.ReflTransGen.single h

/-- What every move keeps, every chain keeps. -/
theorem Moves.keeps {P : State → Prop} (k : ∀ s t, Move i s t → P s → P t) {s t : State} (h : Moves i s t) (p : P s) : P t := by
  induction h with
  | refl => exact p
  | tail _ m ih => exact k _ _ m ih

/-- A guarded operation. -/
theorem Moves.guard {a b : State} {c : Prop} [Decidable c] {f : State → State} (h : Moves i a b) (k : ∀ s, Moves i s (f s)) :
    Moves i a (if c then f b else b) := by
  split
  · exact h.trans (k b)
  · exact h

theorem forUnits_moves {f : UnitNo → State → State} (h : ∀ u s, Moves i s (f u s)) (s : State) : Moves i s (forUnits f s) :=
  (((h .u0 s).trans (h .u1 _)).trans (h .u2 _)).trans (h .u3 _)

/-! ### Frames, reports and counters -/

theorem RecorderStays.refl (r : FaultRecorder) : RecorderStays i r r := ⟨fun _ _ h => h, fun _ _ h => h, fun _ => rfl, rfl⟩

theorem enqueue_moves (k : FrameKind) (p : List Byte) (s : State) : Moves i s (enqueue k p s) := (Move.enqueue k p s).moves

theorem alert_moves (k : AlertKind) (u : Option UnitNo) (s : State) : Moves i s (alert k u s) := enqueue_moves _ _ s

theorem sendHold_moves (a : Byte) (c : Nat) (s : State) : Moves i s (sendHold a c s) := enqueue_moves _ _ s

theorem foldl_sendHold_moves (l : List OwnHold) (a : Byte) (s : State) :
    Moves i s (l.foldl (fun s h => sendHold a h.car s) s) := by
  induction l generalizing s with
  | nil => exact Moves.refl s
  | cons h l ih => exact (sendHold_moves a h.car s).trans (ih _)

theorem refuse_moves (c : RefusalCode) (s : State) : Moves i s (refuse c s) := (Move.pm _ s rfl id (.inr rfl)).moves

theorem sendResult_moves (n : Node) (sub : SubCommand) (arg : Byte) (done : Bool) (c : RefusalCode) (s : State) :
    Moves i s (sendResult n sub arg done c s) := by
  unfold sendResult
  dsimp only
  split
  · exact enqueue_moves _ _ s
  · exact (enqueue_moves _ _ s).trans (refuse_moves c _)

theorem modUnitCounters_moves (u : UnitNo) (f : UnitCounters → UnitCounters) (s : State) : Moves i s (s.modUnitCounters u f) :=
  (Move.fr _ s ⟨fun _ _ h => h, fun _ _ h => h, fun _ => rfl, rfl⟩).moves

theorem modNodeCounters_moves (f : NodeCounters → NodeCounters) (s : State) : Moves i s (s.modNodeCounters f) :=
  (Move.fr _ s ⟨fun _ _ h => h, fun _ _ h => h, fun _ => rfl, rfl⟩).moves

theorem countDiscard_moves (s : State) : Moves i s (countDiscard s) := modNodeCounters_moves _ s

theorem countIgnored_moves (u : UnitNo) (s : State) : Moves i s (countIgnored u s) := modUnitCounters_moves u _ s

theorem startPulse_moves (sev : Severity) (s : State) : Moves i s (startPulse sev s) := by
  refine (Move.fr _ s ?_).moves
  cases sev <;> exact ⟨fun _ _ h => h, fun _ _ h => h, fun _ => rfl, rfl⟩

/-- A report fills an empty slot or counts, and leaves a filled one (R188). -/
theorem report_recorder (k : FaultKind) (sev : Severity) (u : Option UnitNo) (s : State) :
    RecorderStays i s.fr
      (match s.fr.slot sev with
      | none => s.fr.setSlot sev (some ⟨k, u, s.seq, s.now⟩)
      | some _ => countKind k s.fr) := by
  split
  · next h => cases sev <;> exact ⟨fun _ x e => by simp_all [FaultRecorder.slot, FaultRecorder.setSlot],
      fun _ x e => by simp_all [FaultRecorder.slot, FaultRecorder.setSlot], fun _ => rfl, rfl⟩
  · exact ⟨fun _ _ h => h, fun _ _ h => h, fun _ => rfl, rfl⟩

theorem report_moves (k : FaultKind) (sev : Severity) (u : Option UnitNo) (s : State) : Moves i s (report k sev u s) := by
  unfold report
  exact (Move.fr _ s (report_recorder k sev u s)).moves.guard (startPulse_moves sev)

/-! ### Sensing, gap alarms and own holds -/

/-- Sensing changed in anything but its windows. -/
theorem setSu_moves {u : UnitNo} {x : UnitSensing} (s : State) (g : x.gapWindow = (s.su.units.get u).gapWindow ∨ x.gapWindow = [])
    (z : x.zoneWindow = (s.su.units.get u).zoneWindow ∨ x.zoneWindow = []) : Moves i s (s.setSu u x) := by
  refine (Move.sensing u x s ?_ ?_).moves
  · rcases g with g | g <;> simp [g]
  · rcases z with z | z <;> simp [z]

theorem setAlarm_moves (u : UnitNo) (a : GapAlarm) (s : State) : Moves i s (setAlarm u a s) :=
  setSu_moves s (.inl rfl) (.inl rfl)

theorem raiseTrap_moves (u : UnitNo) (s : State) : Moves i s (raiseTrap u s) :=
  ((setAlarm_moves u _ s).trans (report_moves _ _ _ _)).trans (alert_moves _ _ _)

theorem raiseIntrusion_moves (u : UnitNo) (s : State) : Moves i s (raiseIntrusion u s) :=
  ((setAlarm_moves u _ s).trans (report_moves _ _ _ _)).trans (alert_moves _ _ _)

theorem checkAlarm_moves (u : UnitNo) (s : State) : Moves i s (checkAlarm u s) := by
  unfold checkAlarm
  split
  · split
    · exact raiseIntrusion_moves u s
    · exact raiseTrap_moves u s
  · exact Moves.refl s

theorem intrusionToTrap_moves (u : UnitNo) (s : State) : Moves i s (intrusionToTrap u s) := by
  unfold intrusionToTrap
  split
  · exact raiseTrap_moves u s
  · exact Moves.refl s

/-- A close cycle that stands is changed, its own holds still one for a car. -/
theorem setCycle_moves {c c' : CloseCycle} {s : State} (h : s.bu.cycle = some c)
    (k : (c.holds.Pairwise fun a b => a.car ≠ b.car) → c'.holds.Pairwise fun a b => a.car ≠ b.car) :
    Moves i s (s.setCycle (some c')) := by
  refine (Move.berth { s.bu with cycle := some c' } s.ae s ⟨id, id, fun o => ?_, id, fun _ => id, fun ⟨o, w⟩ => ⟨?_, w⟩⟩).moves
  · rintro _ ⟨⟩
    exact k (o c h)
  · show (some c').isSome = true ↔ s.berthState = .closing
    rw [← o, h]
    exact Iff.rfl

theorem setHoldList_moves {l : List HoldEntry} (s : State) (h : HoldListOk s.bu.holdList → HoldListOk l) :
    Moves i s (s.setHoldList l) := (Move.berth { s.bu with holdList := l } s.ae s ⟨h, id, id, id, fun _ => id, id⟩).moves

theorem setDeparture_moves (d : Option DepartureClose) (s : State) : Moves i s (s.setDeparture d) :=
  (Move.berth { s.bu with departure := d } s.ae s ⟨id, id, id, id, fun _ => id, id⟩).moves

/-- Holds kept by a filter, their holding units changed, are still one for a car. -/
theorem holds_filterMap {l : List OwnHold} (p : OwnHold → Bool) (f : OwnHold → OwnHold) (car : ∀ h, (f h).car = h.car)
    (o : l.Pairwise fun a b => a.car ≠ b.car) : ((l.map f).filter p).Pairwise fun a b => a.car ≠ b.car :=
  List.Pairwise.filter p (List.pairwise_map.2 (o.imp fun h => by simpa [car] using h))

theorem zoneFreed_moves (u : UnitNo) (s : State) : Moves i s (zoneFreed u s) := by
  unfold zoneFreed
  split
  · exact Moves.refl s
  · next c h =>
    exact (setCycle_moves h (holds_filterMap OwnHold.standing (fun h => { h with holders := h.holders.set u false }) fun _ => rfl)).trans (foldl_sendHold_moves _ _ _)

theorem startSensing_moves (u : UnitNo) (s : State) : Moves i s (startSensing u s) := setSu_moves s (.inr rfl) (.inr rfl)

theorem restSensing_moves (u : UnitNo) (s : State) : Moves i s (restSensing u s) := by
  unfold restSensing
  exact (setSu_moves s (.inr rfl) (.inr rfl)).guard (zoneFreed_moves u)

/-! ### The interlock's small changes -/

/-- The IU's marks and closes, none of which an invariant reads. -/
theorem modIu_moves {f : InterlockUnit → InterlockUnit} (s : State)
    (l : s.iu.latch = true → (f s.iu).latch = true) (a : s.iu.accessLock = true → (f s.iu).accessLock = true)
    (r : (f s.iu).releaseSet = s.iu.releaseSet) : Moves i s (s.modIu f) := by
  refine (Move.iu _ s ⟨fun _ => l, a, ?_, ?_⟩).moves
  · rw [r]
    exact id
  · intro o
    show _ ∈ (f s.iu).releaseSet ↔ _
    rw [r]
    exact o

theorem dropCovered_moves (u : UnitNo) (s : State) : Moves i s (dropCovered u s) := by
  unfold dropCovered
  split
  · exact Moves.refl s
  · exact setDeparture_moves _ s

theorem dropAccessMember_moves (u : UnitNo) (s : State) : Moves i s (dropAccessMember u s) := by
  unfold dropAccessMember
  split
  · exact Moves.refl s
  · exact modIu_moves s id id rfl

theorem clearAccess_moves (u : UnitNo) (s : State) : Moves i s (clearAccess u s) := by
  unfold clearAccess
  split
  · exact (modIu_moves s id id rfl).trans (dropAccessMember_moves u _)
  · exact Moves.refl s

/-- The AE changes, its window as it was. -/
theorem modAe_moves {f : AlignEngine → AlignEngine} (s : State)
    (samples : SamplesOk s.cl.own s.ae.samples → SamplesOk s.cl.own (f s.ae).samples)
    (runs : ∀ u, (s.ae.searches.get u).run.length ≤ 5 → ((f s.ae).searches.get u).run.length ≤ 5)
    (window : CycleOk s → (f s.ae).window.isSome = true → s.berthState = .fusing) : Moves i s (s.modAe f) :=
  (Move.berth s.bu (f s.ae) s ⟨id, id, id, samples, runs, fun o => ⟨o.1, window o⟩⟩).moves

/-- The searches of the AE change, each run within its five. -/
theorem setSearch_moves {u : UnitNo} {x : Search} (s : State)
    (h : (s.ae.searches.get u).run.length ≤ 5 → x.run.length ≤ 5) :
    Moves i s (s.modAe fun a => { a with searches := a.searches.set u x }) := by
  refine modAe_moves s id (fun v hv => ?_) fun o => o.2
  simp only [Quad.get_set]
  split
  · next e => subst e; exact h hv
  · exact hv

theorem emptyRun_moves (u : UnitNo) (s : State) : Moves i s (emptyRun u s) := setSearch_moves s fun _ => Nat.zero_le 5

/-! ### A unit's change of state

The own number's place in the Release Set follows the unit at the end of `moveUnit`; it may as well follow it at once, since nothing in
between reads or writes it. -/

/-- Enqueuing reads and writes the Transmit Queue and the Fault Recorder alone. -/
theorem reportGone_aside (e : TxEntry) (s u : State) :
    reportGone e { u with lc := s.lc, fr := s.fr } = { u with lc := (reportGone e s).lc, fr := (reportGone e s).fr } := by
  unfold reportGone
  split <;> rfl

theorem enqueue_aside (k : FrameKind) (p : List Byte) (s u : State) :
    enqueue k p { u with lc := s.lc, fr := s.fr } =
      { u with lc := (enqueue k p s).lc, fr := (enqueue k p s).fr } := by
  unfold enqueue
  dsimp only
  split
  · rfl
  · split
    · rfl
    · split
      · rfl
      · split
        · split
          · exact reportGone_aside _ (countDrop (s.setQueue _)) u
          · exact reportGone_aside _ (countDrop s) u
        · exact reportGone_aside _ (countDrop s) u

theorem enqueue_modIu (k : FrameKind) (p : List Byte) (s : State) (f : InterlockUnit → InterlockUnit) :
    enqueue k p (s.modIu f) = (enqueue k p s).modIu f := by
  have h := enqueue_aside k p s s
  rw [show enqueue k p s = _ from h]
  exact enqueue_aside k p s (s.modIu f)

theorem foldl_sendHold_modIu (l : List OwnHold) (a : Byte) (s : State) (f : InterlockUnit → InterlockUnit) :
    l.foldl (fun s h => sendHold a h.car s) (s.modIu f) = (l.foldl (fun s h => sendHold a h.car s) s).modIu f := by
  induction l generalizing s with
  | nil => rfl
  | cons h l ih =>
    have step : sendHold a h.car (s.modIu f) = (sendHold a h.car s).modIu f := enqueue_modIu _ _ s f
    rw [List.foldl_cons, List.foldl_cons, step, ih]

theorem zoneFreed_modIu (u : UnitNo) (s : State) (f : InterlockUnit → InterlockUnit) :
    zoneFreed u (s.modIu f) = (zoneFreed u s).modIu f := by
  unfold zoneFreed
  rw [State.modIu_bu]
  split
  · rfl
  · exact foldl_sendHold_modIu _ _ (s.setCycle _) f

theorem modSu_modIu (u : UnitNo) (g : UnitSensing → UnitSensing) (s : State) (f : InterlockUnit → InterlockUnit) :
    (s.modIu f).modSu u g = (s.modSu u g).modIu f := rfl

theorem restSensing_modIu (u : UnitNo) (s : State) (f : InterlockUnit → InterlockUnit) :
    restSensing u (s.modIu f) = (restSensing u s).modIu f := by
  unfold restSensing
  dsimp only
  rw [modSu_modIu, State.modIu_su]
  split
  · exact zoneFreed_modIu u _ f
  · rfl

/-- The own number's place in the Release Set by what `syncOwnRelease` reads. -/
def placeOwn (released strap : Bool) (own : Node) (x : InterlockUnit) : InterlockUnit :=
  { x with releaseSet := if released && strap then insertNode own x.releaseSet else eraseNode own x.releaseSet }

theorem syncOwnRelease_eq (s : State) : syncOwnRelease s = s.modIu (placeOwn s.ownReleased s.strapOk s.cl.own) := rfl

/-- An operation that touches neither channels nor CL and passes changes of the IU by lets the own number follow before it. -/
theorem sync_comm {f : State → State} {s : State} (iu : ∀ r o n, f (s.modIu (placeOwn r o n)) = (f s).modIu (placeOwn r o n))
    (dc : (f s).dc = s.dc) (cl : (f s).cl = s.cl) : syncOwnRelease (f s) = f (syncOwnRelease s) := by
  have released : (f s).ownReleased = s.ownReleased := by simp [State.ownReleased, State.unit, dc]
  have strap : (f s).strapOk = s.strapOk := by simp [State.strapOk, cl]
  rw [syncOwnRelease_eq, syncOwnRelease_eq, iu, released, strap, cl]

theorem sync_guard {f : State → State} {s : State} {c : Prop} [Decidable c] (h : syncOwnRelease (f s) = f (syncOwnRelease s)) :
    syncOwnRelease (if c then f s else s) = if c then f (syncOwnRelease s) else syncOwnRelease s := by
  split
  · exact h
  · rfl

theorem sync_startSensing (u : UnitNo) (s : State) : syncOwnRelease (startSensing u s) = startSensing u (syncOwnRelease s) :=
  sync_comm (fun _ _ _ => rfl) rfl rfl

theorem sync_restSensing (u : UnitNo) (s : State) : syncOwnRelease (restSensing u s) = restSensing u (syncOwnRelease s) :=
  sync_comm (fun _ _ _ => restSensing_modIu u s _) (restSensing_dc u s) (restSensing_holds u s).1.cl

theorem sync_emptyRun (u : UnitNo) (s : State) : syncOwnRelease (emptyRun u s) = emptyRun u (syncOwnRelease s) :=
  sync_comm (fun _ _ _ => rfl) rfl rfl

theorem sync_dropCovered (u : UnitNo) (s : State) : syncOwnRelease (dropCovered u s) = dropCovered u (syncOwnRelease s) := by
  refine sync_comm (fun r o n => ?_) (dropCovered_dc u s) (dropCovered_holds (x := noUnit) u s).1.cl
  unfold dropCovered
  rw [State.modIu_bu]
  split <;> rfl

theorem dropAccessMember_placeOwn (u : UnitNo) (s : State) (r o : Bool) (n : Node) :
    dropAccessMember u (s.modIu (placeOwn r o n)) = (dropAccessMember u s).modIu (placeOwn r o n) := by
  have same : (s.modIu (placeOwn r o n)).iu.accessClose = s.iu.accessClose := rfl
  unfold dropAccessMember
  rw [same]
  split <;> rfl

theorem clearMark_placeOwn (u : UnitNo) (s : State) (r o : Bool) (n : Node) :
    ((s.modIu (placeOwn r o n)).modIu fun i => { i with accessMarks := i.accessMarks.set u false }) =
      (s.modIu fun i => { i with accessMarks := i.accessMarks.set u false }).modIu (placeOwn r o n) := rfl

theorem sync_clearAccess (u : UnitNo) (s : State) : syncOwnRelease (clearAccess u s) = clearAccess u (syncOwnRelease s) := by
  refine sync_comm (fun r o n => ?_) (clearAccess_dc u s) (clearAccess_holds u s).1.cl
  have same : (s.modIu (placeOwn r o n)).iu.accessMarks = s.iu.accessMarks := rfl
  unfold clearAccess
  rw [same, clearMark_placeOwn]
  split
  · exact dropAccessMember_placeOwn u _ r o n
  · rfl

/-- What hangs on unit `u`'s change from the state `old` to the channel `d`, between the channel and the own Release Set entry. -/
def hangs (old : UnitState) (u : UnitNo) (d : DoorChannel) (s : State) : State :=
  let s := if old == .isolated && d.st != .isolated then startSensing u s else s
  let s := if old != .isolated && d.st == .isolated then restSensing u s else s
  let s := if d.st == .isolated || d.st == .fault then emptyRun u s else s
  if d.st.outOfHands then dropCovered u (clearAccess u s) else s

theorem hangs_moves (old : UnitState) (u : UnitNo) (d : DoorChannel) (s : State) : Moves i s (hangs old u d s) := by
  unfold hangs
  exact ((((Moves.refl s).guard (startSensing_moves u)).guard (restSensing_moves u)).guard (emptyRun_moves u)).guard
    (f := fun s => dropCovered u (clearAccess u s)) fun s => (clearAccess_moves u s).trans (dropCovered_moves u _)

theorem sync_hangs (old : UnitState) (u : UnitNo) (d : DoorChannel) (s : State) :
    syncOwnRelease (hangs old u d s) = hangs old u d (syncOwnRelease s) := by
  have last : ∀ s, syncOwnRelease (dropCovered u (clearAccess u s)) = dropCovered u (clearAccess u (syncOwnRelease s)) :=
    fun s => by rw [sync_dropCovered, sync_clearAccess]
  unfold hangs
  dsimp only
  rw [sync_guard (f := fun s => dropCovered u (clearAccess u s)) (last _), sync_guard (sync_emptyRun u _),
    sync_guard (sync_restSensing u _), sync_guard (sync_startSensing u _)]

theorem moveUnit_eq (u : UnitNo) (d : DoorChannel) (s : State) :
    moveUnit u d s = checkAlarm u (hangs (s.unit u) u d (syncOwnRelease (s.setDc u d))) := by
  rw [← sync_hangs]
  rfl

theorem moveUnit_moves {u : UnitNo} {d : DoorChannel} (s : State) (h : Entered d) : Moves i s (moveUnit u d s) := by
  rw [moveUnit_eq]
  exact ((Move.unit u d s h).moves.trans (hangs_moves _ u d _)).trans (checkAlarm_moves u _)

/-! ### The entries and the requests -/

theorem enterFault_moves (k : FaultKind) (u : UnitNo) (s : State) : Moves i s (enterFault k u s) :=
  (moveUnit_moves s ⟨rfl, rfl, fun _ => rfl⟩).trans (report_moves _ _ _ _)

theorem takeHeldDriveFault_moves (u : UnitNo) (s : State) : Moves i s (takeHeldDriveFault u s) := by
  unfold takeHeldDriveFault
  exact (Moves.refl s).guard (enterFault_moves .driveFault u)

theorem enterClosedLocked_moves (u : UnitNo) (s : State) : Moves i s (enterClosedLocked u s) :=
  moveUnit_moves s ⟨rfl, rfl, fun _ => rfl⟩

theorem enterUnlocking_moves (u : UnitNo) (s : State) : Moves i s (enterUnlocking u s) :=
  (moveUnit_moves s ⟨rfl, rfl, fun _ => rfl⟩).trans (takeHeldDriveFault_moves u _)

theorem enterOpening_moves (u : UnitNo) (s : State) : Moves i s (enterOpening u s) := moveUnit_moves s ⟨rfl, rfl, fun _ => rfl⟩

theorem standOpen_moves (u : UnitNo) (s : State) : Moves i s (standOpen u s) := moveUnit_moves s ⟨rfl, rfl, fun _ => rfl⟩

theorem enterReopenWait_moves (u : UnitNo) (s : State) : Moves i s (enterReopenWait u s) :=
  moveUnit_moves s ⟨rfl, rfl, fun _ => rfl⟩

theorem enterHeldOpen_moves (u : UnitNo) (s : State) : Moves i s (enterHeldOpen u s) :=
  (moveUnit_moves s ⟨rfl, rfl, fun _ => rfl⟩).trans (report_moves _ _ _ _)

theorem reverseDone_moves (u : UnitNo) (s : State) : Moves i s (reverseDone u s) := by
  unfold reverseDone
  split
  · exact enterReopenWait_moves u s
  · exact standOpen_moves u s

theorem enterReversing_moves (g : ReverseTarget) (u : UnitNo) (s : State) : Moves i s (enterReversing g u s) := by
  unfold enterReversing
  exact (moveUnit_moves s ⟨rfl, rfl, fun h => absurd h (by simp [UnitState.driven])⟩).guard (reverseDone_moves u)

theorem reverseOnObstacle_moves (u : UnitNo) (s : State) : Moves i s (reverseOnObstacle u s) :=
  (modUnitCounters_moves u _ s).trans (enterReversing_moves _ u _)

/-- A channel that moves within its state with its outputs as they were. -/
theorem setDc_moves {u : UnitNo} {d : DoorChannel} (s : State) (h : d.st = s.unit u) (e : d.enable = (s.dc.get u).enable)
    (l : d.solenoid = (s.dc.get u).solenoid) (p : d.setpoint = (s.dc.get u).setpoint ∨ d.setpoint = 0 ∨ d.st.driven = true) :
    Moves i s (s.setDc u d) := (Move.channel u d s h e l p).moves

theorem stopOnObstacle_moves (u : UnitNo) (s : State) : Moves i s (stopOnObstacle u s) := by
  unfold stopOnObstacle
  dsimp only
  split
  · exact Moves.refl s
  · split
    · exact enterFault_moves _ u s
    · exact setDc_moves s rfl rfl rfl (.inr (.inl rfl))

theorem obstacle_moves (u : UnitNo) (s : State) : Moves i s (obstacle u s) := by
  unfold obstacle
  split
  · exact reverseOnObstacle_moves u s
  · exact stopOnObstacle_moves u s
  · exact Moves.refl s

theorem enterClosing_moves (n : Nat) (u : UnitNo) (s : State) : Moves i s (enterClosing n u s) := by
  unfold enterClosing
  exact (moveUnit_moves s ⟨rfl, rfl, fun _ => rfl⟩).guard (reverseOnObstacle_moves u)

theorem openingDone_moves (u : UnitNo) (s : State) : Moves i s (openingDone u s) := by
  unfold openingDone
  exact Moves.guard ((standOpen_moves u s).trans (modUnitCounters_moves u _ _)) (enterClosing_moves 1 u)

theorem enterLocking_moves (u : UnitNo) (s : State) : Moves i s (enterLocking u s) := moveUnit_moves s ⟨rfl, rfl, fun _ => rfl⟩

theorem enterHoming_moves (u : UnitNo) (s : State) : Moves i s (enterHoming u s) :=
  (moveUnit_moves s ⟨rfl, rfl, fun _ => rfl⟩).trans (takeHeldDriveFault_moves u _)

theorem enterManualReleased_moves (u : UnitNo) (s : State) : Moves i s (enterManualReleased u s) :=
  moveUnit_moves s ⟨rfl, rfl, fun _ => rfl⟩

theorem enterReleaseRestored_moves (u : UnitNo) (s : State) : Moves i s (enterReleaseRestored u s) :=
  moveUnit_moves s ⟨rfl, rfl, fun _ => rfl⟩

theorem enterIsolated_moves (m : Bool) (u : UnitNo) (s : State) : Moves i s (enterIsolated m u s) :=
  moveUnit_moves s ⟨rfl, rfl, fun _ => rfl⟩

theorem openRequest_moves (u : UnitNo) (s : State) : Moves i s (openRequest u s) := by
  unfold openRequest
  split
  case h_1 =>
    split
    · exact enterUnlocking_moves u s
    · exact countIgnored_moves u s
  case h_3 | h_6 => exact setDc_moves s rfl rfl rfl (.inl rfl)
  case h_4 | h_16 => exact Moves.refl s
  case h_5 => exact enterReversing_moves _ u s
  case h_7 => exact standOpen_moves u s
  all_goals exact countIgnored_moves u s

theorem closeRequest_moves (u : UnitNo) (s : State) : Moves i s (closeRequest u s) := by
  unfold closeRequest
  split
  case h_3 => exact setDc_moves s rfl rfl rfl (.inl rfl)
  case h_4 | h_8 => exact enterClosing_moves 1 u s
  case h_7 | h_16 => exact Moves.refl s
  all_goals exact countIgnored_moves u s

theorem berthCloseRequest_moves (u : UnitNo) (s : State) : Moves i s (berthCloseRequest u s) := by
  unfold berthCloseRequest
  split
  · exact Moves.refl s
  · exact closeRequest_moves u s

theorem berthOpenRequest_moves (u : UnitNo) (s : State) : Moves i s (berthOpenRequest u s) := by
  unfold berthOpenRequest
  split
  · exact dropCovered_moves u s
  · exact (dropCovered_moves u s).trans (openRequest_moves u _)

end Sys2Proof.Machine

/-! The closes, the berth's transitions and the commands as chains of moves. -/

namespace Sys2Proof.Machine

variable {i : Instr}

/-! ### The berth's transitions

A berth's state and its close cycle change together, and the frames and alarms that come in between do not read them. -/

/-- Change the Berth Unit. -/
def State.modBu (f : BerthUnit → BerthUnit) (s : State) : State := { s with bu := f s.bu }

theorem enqueue_modBu (k : FrameKind) (p : List Byte) (s : State) (f : BerthUnit → BerthUnit) :
    enqueue k p (s.modBu f) = (enqueue k p s).modBu f := by
  have h := enqueue_aside k p s s
  rw [show enqueue k p s = _ from h]
  exact enqueue_aside k p s (s.modBu f)

section
variable {f : BerthUnit → BerthUnit} (seq : ∀ b, (f b).berth.seq = b.berth.seq)
include seq

theorem sendHold_modBu (a : Byte) (c : Nat) (s : State) : sendHold a c (s.modBu f) = (sendHold a c s).modBu f := by
  have same : (s.modBu f).seq = s.seq := seq s.bu
  unfold sendHold
  rw [same, enqueue_modBu]

theorem foldl_sendHold_modBu (l : List OwnHold) (a : Byte) (s : State) :
    l.foldl (fun s h => sendHold a h.car s) (s.modBu f) = (l.foldl (fun s h => sendHold a h.car s) s).modBu f := by
  induction l generalizing s with
  | nil => rfl
  | cons h l ih => rw [List.foldl_cons, List.foldl_cons, ← ih, sendHold_modBu seq]

theorem report_modBu (k : FaultKind) (sev : Severity) (u : Option UnitNo) (s : State) :
    report k sev u (s.modBu f) = (report k sev u s).modBu f := by
  have same : (s.modBu f).seq = s.seq := seq s.bu
  unfold report
  rw [same]
  have pulses : reportPulses sev (s.modBu f) = reportPulses sev s := rfl
  rw [pulses]
  dsimp only
  split <;> rfl

theorem raiseTrap_modBu (u : UnitNo) (s : State) : raiseTrap u (s.modBu f) = (raiseTrap u s).modBu f := by
  have alarm : setAlarm u .trap (s.modBu f) = (setAlarm u .trap s).modBu f := rfl
  have same : ∀ x : State, (x.modBu f).seq = x.seq := fun x => seq x.bu
  unfold raiseTrap alert
  rw [alarm, report_modBu seq, same, enqueue_modBu]

theorem intrusionToTrap_modBu (u : UnitNo) (s : State) : intrusionToTrap u (s.modBu f) = (intrusionToTrap u s).modBu f := by
  have same : (s.modBu f).su = s.su := rfl
  unfold intrusionToTrap
  rw [same]
  split
  · exact raiseTrap_modBu seq u s
  · rfl

theorem traps_modBu (s : State) : forUnits intrusionToTrap (s.modBu f) = (forUnits intrusionToTrap s).modBu f := by
  simp only [forUnits, intrusionToTrap_modBu seq]

end

/-- The Berth Unit with the berth in a state and a cycle as given. -/
def BerthUnit.pass (st : BerthState) (c : Option CloseCycle) (b : BerthUnit) : BerthUnit :=
  { b with berth := { b.berth with state := st }, cycle := c }

/-- A berth that passes to a state with its cycle, the two agreeing. -/
theorem pass_moves {st : BerthState} {c : Option CloseCycle} (s : State)
    (holds : ∀ x, c = some x → x.holds = [] ∨ s.bu.cycle = some x)
    (agree : CycleOk s → (c.isSome = true ↔ st = .closing) ∧ (s.ae.window.isSome = true → st = .fusing)) :
    Moves i s (s.modBu (BerthUnit.pass st c)) := by
  refine (Move.berth (s.bu.pass st c) s.ae s ⟨id, id, fun o x e => ?_, id, fun _ => id, agree⟩).moves
  rcases holds x e with h | h
  · rw [h]
    exact List.Pairwise.nil
  · exact o x h

theorem traps_moves (s : State) : Moves i s (forUnits intrusionToTrap s) := forUnits_moves intrusionToTrap_moves s

/-- The Berth Unit with the berth in a state. -/
def BerthUnit.enter (st : BerthState) (b : BerthUnit) : BerthUnit := { b with berth := { b.berth with state := st } }

/-- The Berth Unit with its cycle as given. -/
def BerthUnit.withCycle (c : Option CloseCycle) (b : BerthUnit) : BerthUnit := { b with cycle := c }

theorem BerthUnit.enter_seq (st : BerthState) (b : BerthUnit) : (b.enter st).berth.seq = b.berth.seq := rfl

theorem BerthUnit.withCycle_seq (c : Option CloseCycle) (b : BerthUnit) : (b.withCycle c).berth.seq = b.berth.seq := rfl

theorem setBerthState_eq (st : BerthState) (s : State) :
    setBerthState st s = if st.beforeTrain then s.modBu (BerthUnit.enter st)
      else forUnits intrusionToTrap (s.modBu (BerthUnit.enter st)) := rfl

/-- The own holds of the close cycle. -/
def State.ownHolds (s : State) : List OwnHold :=
  match s.bu.cycle with
  | none => []
  | some c => c.holds

theorem endCycle_eq (s : State) :
    endCycle true s = s.ownHolds.foldl (fun s h => sendHold 2 h.car s) (s.modBu (BerthUnit.withCycle none)) := by
  unfold endCycle State.ownHolds
  split
  · next h =>
    simp only [h, List.foldl_nil]
    show s = s.setCycle none
    rw [← h]
    rfl
  · next h =>
    simp only [h, if_true]
    rfl

theorem intrusionToTrap_bu (u : UnitNo) (s : State) : (intrusionToTrap u s).bu = s.bu := by
  unfold intrusionToTrap
  split
  · exact (alert_sends _ _ _).bu.trans (report_sends _ _ _ _).bu
  · rfl

theorem traps_bu (s : State) : (forUnits intrusionToTrap s).bu = s.bu := by simp only [forUnits, intrusionToTrap_bu]

/-- The berth state changes where no cycle stands before or after. -/
theorem setBerthState_moves {st : BerthState} (s : State) (old : s.berthState ≠ .closing) (new : st ≠ .closing)
    (window : CycleOk s → s.ae.window.isSome = true → st = .fusing) : Moves i s (setBerthState st s) := by
  have h : Moves i s (s.modBu (BerthUnit.enter st)) := by
    refine (Move.berth (s.bu.enter st) s.ae s ⟨id, id, id, id, fun _ => id, fun o => ⟨?_, window o⟩⟩).moves
    exact ⟨fun e => absurd (o.1.1 e) old, fun e => absurd e new⟩
  rw [setBerthState_eq]
  split
  · exact h
  · exact h.trans (traps_moves _)

/-- The berth goes to SECURED with its cycle ended (R85, R166, R167). -/
theorem secure_moves (s : State) (h : s.berthState ≠ .fusing) : Moves i s (setBerthState .secured (endCycle true s)) := by
  have pass : Moves i s ((s.modBu (BerthUnit.enter .secured)).modBu (BerthUnit.withCycle none)) :=
    pass_moves (st := .secured) (c := none) s (fun _ e => nomatch e) fun o => ⟨by simp, fun w => absurd (o.2 w) h⟩
  rw [setBerthState_eq, endCycle_eq]
  simp only [BerthState.beforeTrain, Bool.false_eq_true, if_false]
  rw [← foldl_sendHold_modBu (BerthUnit.enter_seq _)]
  exact (pass.trans (foldl_sendHold_moves _ _ _)).trans (traps_moves _)

/-- The berth goes from CLOSING or SECURED to RELEASED with its cycle ended (R84, R167). -/
theorem reopen_moves (s : State) (h : s.berthState ≠ .fusing) : Moves i s (endCycle true (setBerthState .released s)) := by
  have pass : Moves i s ((s.modBu (BerthUnit.enter .released)).modBu (BerthUnit.withCycle none)) :=
    pass_moves (st := .released) (c := none) s (fun _ e => nomatch e) fun o => ⟨by simp, fun w => absurd (o.2 w) h⟩
  rw [setBerthState_eq, endCycle_eq]
  simp only [BerthState.beforeTrain, Bool.false_eq_true, if_false]
  rw [← traps_modBu (BerthUnit.withCycle_seq _)]
  exact (pass.trans (traps_moves _)).trans (foldl_sendHold_moves _ _ _)

/-- The berth goes from RELEASED to CLOSING with a new close cycle (R83, R157). -/
theorem startCycle_moves (s : State) (h : s.berthState ≠ .fusing) : Moves i s (startCycle (setBerthState .closing s)) := by
  have start : ∃ c : CloseCycle, c.holds = [] ∧ startCycle (setBerthState .closing s) =
      (setBerthState .closing s).modBu (BerthUnit.withCycle (some c)) := ⟨_, rfl, rfl⟩
  obtain ⟨c, holds, e⟩ := start
  have pass : Moves i s ((s.modBu (BerthUnit.enter .closing)).modBu (BerthUnit.withCycle (some c))) :=
    pass_moves (st := .closing) (c := some c) s (fun _ e => .inl (by cases e; exact holds))
      fun o => ⟨by simp, fun w => absurd (o.2 w) h⟩
  rw [e, setBerthState_eq]
  simp only [BerthState.beforeTrain, Bool.false_eq_true, if_false]
  rw [← traps_modBu (BerthUnit.withCycle_seq _)]
  exact pass.trans (traps_moves _)

/-! ### The closes -/

theorem judgeMember_moves (u : UnitNo) (s : State) : Moves i s (judgeMember u s) := by
  unfold judgeMember
  split
  · exact Moves.refl s
  · next c h =>
    split
    · exact Moves.refl s
    · split
      · refine Relation.ReflTransGen.trans ?_ (berthCloseRequest_moves u _)
        exact setCycle_moves h id
      · exact Moves.refl s

theorem judgeCovered_moves (u : UnitNo) (s : State) : Moves i s (judgeCovered u s) := by
  unfold judgeCovered
  split
  · exact Moves.refl s
  · split
    · exact (dropCovered_moves u s).trans (berthCloseRequest_moves u _)
    · exact Moves.refl s

theorem judgeEmergencyMember_moves (u : UnitNo) (s : State) : Moves i s (judgeEmergencyMember u s) := by
  unfold judgeEmergencyMember
  split
  · exact Moves.refl s
  · split
    · split
      · exact (modIu_moves s id id rfl).trans (closeRequest_moves u _)
      · exact Moves.refl s
    · exact Moves.refl s

theorem judgeAccessMember_moves (u : UnitNo) (s : State) : Moves i s (judgeAccessMember u s) := by
  unfold judgeAccessMember
  split
  · exact Moves.refl s
  · split
    · exact Moves.refl s
    · split
      · exact (dropAccessMember_moves u s).trans (closeRequest_moves u _)
      · exact Moves.refl s

theorem completeCycle_moves (s : State) : Moves i s (completeCycle s) := by
  unfold completeCycle
  split
  · exact Moves.refl s
  · split
    · next h =>
      have closing : s.berthState = .closing := beq_iff_eq.mp (Bool.and_eq_true_iff.mp h).1
      exact secure_moves s (by simp [closing])
    · exact Moves.refl s

theorem completeEmergency_moves (s : State) : Moves i s (completeEmergency s) := by
  unfold completeEmergency
  split
  · exact Moves.refl s
  · split
    · refine (modIu_moves (f := fun x => { x with emergencyClose := none }) s id id rfl).trans ?_
      unfold emergencyNotice
      split
      · next h => exact secure_moves _ (by simp [h])
      · next h => exact secure_moves _ (by simp [h])
      · exact Moves.refl _
    · exact Moves.refl s

theorem settleCloses_moves (s : State) : Moves i s (settleCloses s) :=
  (((((forUnits_moves judgeMember_moves s).trans (forUnits_moves judgeCovered_moves _)).trans
    (forUnits_moves judgeEmergencyMember_moves _)).trans (forUnits_moves judgeAccessMember_moves _)).trans
      (completeCycle_moves _)).trans (completeEmergency_moves _)

theorem comeClosed_moves (u : UnitNo) (s : State) : Moves i s (comeClosed u s) := by
  unfold comeClosed
  exact Moves.guard (enterClosedLocked_moves u s) (f := fun s => openRequest u (settleCloses s)) fun s =>
    (settleCloses_moves s).trans (openRequest_moves u _)

end Sys2Proof.Machine

/-! The bodies of the commands as chains of moves, family by family. -/

namespace Sys2Proof.Machine

variable {i : Instr}

/-! ### The stores' own lemmas -/

theorem insertNode_ok {n : Node} {l : List Node} (h : ReleaseSetOk l) (bay : isBay n = true) : ReleaseSetOk (insertNode n l) := by
  refine ⟨?_, fun m hm => (((mem_insertNode n m l).1 hm).elim (fun e => e ▸ bay) (h.2 m))⟩
  have sorted := h.1
  clear h
  induction l with
  | nil => exact List.pairwise_singleton _ _
  | cons a l ih =>
    obtain ⟨first, rest⟩ := List.pairwise_cons.1 sorted
    unfold insertNode
    split
    · next lt =>
      exact List.pairwise_cons.2 ⟨fun m hm => (List.mem_cons.1 hm).elim (fun e => e ▸ lt) fun hm => lt.trans (first m hm), sorted⟩
    · next ge =>
      split
      · exact sorted
      · next ne =>
        refine List.pairwise_cons.2 ⟨fun m hm => ?_, ih rest⟩
        rcases (mem_insertNode n m l).1 hm with rfl | hm
        · have : a.toNat ≠ m.toNat := fun e => ne (BitVec.eq_of_toNat_eq e.symm)
          omega
        · exact first m hm

theorem eraseNode_ok {n : Node} {l : List Node} (h : ReleaseSetOk l) : ReleaseSetOk (eraseNode n l) :=
  ⟨h.1.filter _, fun m hm => h.2 m ((mem_eraseNode n m l).1 hm).2⟩

/-- The own number joins only as a bay controller's. -/
theorem placeOwn_ok (s : State) {x : InterlockUnit} (h : ReleaseSetOk x.releaseSet) :
    ReleaseSetOk (placeOwn s.ownReleased s.strapOk s.cl.own x).releaseSet := by
  unfold placeOwn
  dsimp only
  split
  · next own => exact insertNode_ok h (Bool.and_eq_true_iff.1 own).2
  · exact eraseNode_ok h

/-- A sample joins the set in the place of an older one of its key, or as a new one where a peer's finds room. -/
theorem joinSample_ok {own : Node} {x : Sample} {l : List Sample} (h : SamplesOk own l) (unit : x.source = own → x.unit < 4)
    (room : x.source ≠ own → (∃ y ∈ l, y.source = x.source ∧ y.unit = x.unit) ∨ (l.countP fun y => y.source != own) < 60) :
    SamplesOk own (joinSample x l) := by
  obtain ⟨keys, units, peers⟩ := h
  have mem : ∀ y, y ∈ l.filter (fun y => !(y.source == x.source && y.unit == x.unit)) ↔
      y ∈ l ∧ ¬(y.source = x.source ∧ y.unit = x.unit) := fun y => by
    simp only [List.mem_filter, Bool.not_eq_true', Bool.and_eq_false_iff, beq_eq_false_iff_ne, ne_eq, not_and_or]
  refine ⟨?_, fun y hy => ?_, ?_⟩
  · refine List.pairwise_append.2 ⟨keys.filter _, List.pairwise_singleton _ _, fun y hy z hz => ?_⟩
    rw [List.mem_singleton.1 hz]
    exact ((mem y).1 hy).2
  · rcases List.mem_append.1 hy with hy | hy
    · exact units y ((mem y).1 hy).1
    · rw [List.mem_singleton.1 hy]
      exact unit
  · unfold joinSample
    have le : (l.filter fun y => !(y.source == x.source && y.unit == x.unit)).countP (fun y => y.source != own) ≤
        l.countP fun y => y.source != own := (List.filter_sublist).countP_le
    rw [List.countP_append, List.countP_singleton]
    by_cases own' : x.source = own
    · simp [own'] at le ⊢
      omega
    · have one : (x.source != own) = true := by simpa using own'
      rw [if_pos one]
      rcases room own' with ⟨y, hy, src, un⟩ | lt
      · have lt : (l.filter fun y => !(y.source == x.source && y.unit == x.unit)).countP (fun y => y.source != own) <
            l.countP fun y => y.source != own := by
          have gone := List.length_eq_countP_add_countP (fun y => y.source == x.source && y.unit == x.unit)
            (l := l.filter fun y => y.source != own)
          have pos : 0 < (l.filter fun y => y.source != own).countP fun y => y.source == x.source && y.unit == x.unit :=
            List.countP_pos_iff.2 ⟨y, List.mem_filter.2 ⟨hy, by simpa [src] using own'⟩, by simp [src, un]⟩
          rw [← List.countP_eq_length_filter] at gone
          rw [List.countP_filter] at gone pos ⊢
          simp only [List.countP_filter, Bool.not_eq_true, Bool.decide_eq_false, Bool.and_comm (_ != _)] at gone pos ⊢
          omega
        omega
      · omega

/-- A run of at most five offsets stays one. -/
theorem joinRun_length {run : List Int} (h : run.length ≤ 5) (c : Int) : (joinRun run c).length ≤ 5 := by
  simp only [joinRun, List.length_drop, List.length_append, List.length_singleton]
  omega

theorem joinWindow_length {room : Nat} {l : List Bool} (h : l.length ≤ room) (x : Bool) : (joinWindow room l x).length ≤ room := by
  simp only [joinWindow, List.length_drop, List.length_append, List.length_singleton]
  omega

/-! ### The Alignment Engine -/

theorem endSearch_moves (u : UnitNo) (o : SearchOutcome) (s : State) : Moves i s (endSearch u o s) :=
  setSearch_moves s fun _ => Nat.zero_le 5

theorem setRun_moves {u : UnitNo} {run : List Int} (s : State) (h : (s.ae.searches.get u).run.length ≤ 5 → run.length ≤ 5) :
    Moves i s (setRun u run s) := setSearch_moves s h

theorem deriveSample_own {s : State} {u : UnitNo} {a b : Int} {q : Nat} {x : Sample} {quality : Nat}
    (h : deriveSample s u a b q = .ok (x, quality)) : x.source = s.cl.own ∧ x.unit = u.val := by
  unfold deriveSample at h
  dsimp only at h
  split at h
  · cases h
  · split at h
    · cases h
    · split at h
      · cases h
      · split at h
        · cases h
        · cases h
          exact ⟨rfl, rfl⟩

theorem unitNo_val_lt (u : UnitNo) : u.val < 4 := by cases u <;> decide

theorem takeStable_moves (u : UnitNo) (a b : Int) (q : Nat) (s : State) : Moves i s (takeStable u a b q s) := by
  unfold takeStable
  split
  · exact endSearch_moves u _ s
  · next x quality h =>
    obtain ⟨src, unit⟩ := deriveSample_own h
    have join : Moves i s (s.modAe fun ae => { ae with samples := joinSample x ae.samples }) :=
      modAe_moves s (fun o => joinSample_ok o (fun _ => unit ▸ unitNo_val_lt u) fun ne => absurd src ne) (fun _ => id) fun o => o.2
    dsimp only
    split
    · exact join.trans (endSearch_moves u _ _)
    · exact (join.trans (endSearch_moves u _ _)).trans (enqueue_moves _ _ _)

theorem takeReading_moves (u : UnitNo) (r : Option (Int × Int × Nat)) (s : State) : Moves i s (takeReading u r s) := by
  unfold takeReading
  split
  · exact Moves.refl s
  · split
    · exact setRun_moves s fun _ => Nat.zero_le 5
    · split
      · exact setRun_moves s fun _ => Nat.zero_le 5
      · dsimp only
        split
        · exact takeStable_moves u _ _ _ s
        · exact setRun_moves s fun h => joinRun_length h _

theorem restartAlign_moves (u : UnitNo) (ms : Nat) (s : State) : Moves i s (restartAlign u ms s) :=
  setSu_moves s (.inl rfl) (.inl rfl)

theorem admitSample_moves {x : Sample} (s : State) (peer : x.source ≠ s.cl.own) : Moves i s (admitSample x s) := by
  unfold admitSample
  split
  · next h =>
    refine modAe_moves s (fun o => joinSample_ok o (fun e => absurd e peer) fun _ => ?_) (fun _ => id) fun o => o.2
    rw [Bool.or_eq_true, holdsKey_iff, decide_eq_true_iff, peerSamples_eq_countP] at h
    exact h
  · exact modNodeCounters_moves _ s

theorem takeEdge_moves {src : Node} {seq : Byte} {unit quality : BitVec 4} {door : Byte} {stop : BitVec 24} (s : State)
    (peer : src ≠ s.cl.own) : Moves i s (takeEdge src seq unit quality door stop s) := by
  unfold takeEdge
  split
  · exact Moves.refl s
  · split
    · exact countDiscard_moves s
    · split
      · exact admitSample_moves s peer
      · exact modNodeCounters_moves _ s

theorem alignTake_moves (seq : Byte) (consist s0 : Nat) (s : State) : Moves i s (alignTake seq consist s0 s) :=
  modAe_moves s id (fun u _ => by simp) fun o => o.2

theorem openWindow_moves (s : State) (h : s.berthState = .fusing) : Moves i s (openWindow s) := by
  refine modAe_moves s id (fun u o => ?_) fun _ _ => h
  simp only [Quad.get_build]
  split
  · exact Nat.zero_le 5
  · exact o

/-! ### The Interlock Unit -/

theorem noteHandle_moves (u : UnitNo) (s : State) : Moves i s (noteHandle u s) :=
  ((modUnitCounters_moves u _ s).trans (report_moves _ _ _ _)).trans (alert_moves _ _ _)

theorem notePanel_moves (u : UnitNo) (s : State) : Moves i s (notePanel u s) :=
  ((modIu_moves s id id rfl).trans (report_moves _ _ _ _)).trans (alert_moves _ _ _)

theorem latchRequest_moves (u : UnitNo) (s : State) : Moves i s (latchRequest u s) := by
  unfold latchRequest
  exact Moves.guard (Moves.refl s) (openRequest_moves u)

theorem enterLatch_moves (s : State) : Moves i s (enterLatch s) :=
  (modIu_moves s (fun _ => rfl) id rfl).trans (forUnits_moves latchRequest_moves _)

theorem latchIfClear_moves (s : State) : Moves i s (latchIfClear s) := by
  unfold latchIfClear
  split
  · exact Moves.refl s
  · exact enterLatch_moves s

theorem setWire_moves (s : State) : Moves i s (setWire s) := (modIu_moves s id id rfl).trans (alert_moves _ _ _)

theorem setLine_moves (b : Bool) (s : State) : Moves i s (setLine b s) := modIu_moves s id id rfl

theorem exitLatch_moves {src : Node} (s : State) : Moves (.stationEmergencyReset src) s (exitLatch s) :=
  (Move.iu (fun x => { x with latch := false, wireMark := false, lineMark := false, emergencyClose := some (
    { warning := s.newWarning
      members := Quad.build fun u => if s.configured u && (s.unit u).emergencyMember then some .underWarning else none } : EmergencyClose) })
    s ⟨fun h => absurd rfl (h src), id, id, id⟩).moves

theorem joinAccess_moves (q : Quad Bool) (s : State) : Moves i s (joinAccess q s) := by
  unfold joinAccess
  dsimp only
  split
  · exact modIu_moves s id id rfl
  · exact Moves.refl s

/-! ### The Berth Unit -/

/-- The Berth Record changes but for its state. -/
theorem modBerth_moves {f : Berth → Berth} (s : State) (state : (f s.bu.berth).state = s.bu.berth.state)
    (isolated : IsolatedOk s.bu.berth.isolated → IsolatedOk (f s.bu.berth).isolated) : Moves i s (s.modBerth f) := by
  refine (Move.berth { s.bu with berth := f s.bu.berth } s.ae s ⟨id, isolated, id, id, fun _ => id, fun o => ?_⟩).moves
  show (s.bu.cycle.isSome = true ↔ (f s.bu.berth).state = .closing) ∧ (s.ae.window.isSome = true → (f s.bu.berth).state = .fusing)
  rw [state]
  exact o

theorem addIndex_moves (s : State) (x : Byte) : Moves i s (addIndex s x) := by
  unfold addIndex
  dsimp only
  split
  · exact Moves.refl s
  · next new =>
    split
    · exact countDiscard_moves s
    · next room =>
      refine modBerth_moves s rfl fun ⟨_, nodup⟩ => ⟨?_, ?_⟩
      · simp only [List.length_append, List.length_singleton]
        omega
      · exact List.nodup_append.2 ⟨nodup, List.nodup_singleton _, fun a ha b hb => by
          rw [List.mem_singleton.1 hb]
          exact fun e => new (.inr (e ▸ ha))⟩

theorem addIndices_moves (l : List Byte) (s : State) : Moves i s (addIndices l s) := by
  unfold addIndices
  induction l generalizing s with
  | nil => exact Moves.refl s
  | cons x l ih => exact (addIndex_moves s x).trans (ih _)

theorem refuseBerth_moves (s : State) : Moves i s (refuseBerth s) := (modNodeCounters_moves _ s).trans (refuse_moves _ _)

theorem takeBerth_moves {seq consist : Byte} {s0 : BitVec 24} {doors : List Byte} (s : State) (h : s.berthState = .idle) :
    Moves i s (takeBerth seq consist s0 doors s) := by
  have take : Moves i s (s.modBerth fun _ =>
      { Berth.none with seq := seq, consist := some consist.toNat, s0 := some s0.toNat, state := .announced }) := by
    refine (Move.berth { s.bu with berth :=
        { Berth.none with seq := seq, consist := some consist.toNat, s0 := some s0.toNat, state := .announced } } s.ae s
      { holds := id, isolated := fun _ => ⟨Nat.zero_le 10, List.nodup_nil⟩, own := id, samples := id, runs := fun _ => id
        cycle := fun o => ⟨⟨fun e => absurd (o.1.1 e) (by simp [h]), fun e => nomatch e⟩, fun w => absurd (o.2 w) (by simp [h])⟩ }).moves
  exact (take.trans (addIndices_moves doors _)).trans (alignTake_moves _ _ _ _)

theorem preemptAccess_moves (s : State) : Moves i s (preemptAccess s) := by
  unfold preemptAccess
  split
  · exact Moves.refl s
  · exact (joinAccess_moves _ s).trans (report_moves _ _ _ _)

/-- The berth's record, cycle, Hold List and alignment are wiped (R75, R86). -/
theorem wipe_moves (s : State) :
    Moves i s { s with bu := { s.bu with berth := Berth.none, cycle := none, holdList := [] }, ae := AlignEngine.reset } := by
  have wiped : BerthStays s { s.bu with berth := Berth.none, cycle := none, holdList := [] } AlignEngine.reset :=
    { holds := fun _ => ⟨Nat.zero_le 16, List.Pairwise.nil⟩
      isolated := fun _ => ⟨Nat.zero_le 10, List.nodup_nil⟩
      own := fun _ _ e => nomatch e
      samples := fun _ => ⟨List.Pairwise.nil, fun _ e => (nomatch e), Nat.zero_le 60⟩
      runs := fun u _ => by cases u <;> exact Nat.zero_le 5
      cycle := fun _ => ⟨⟨fun e => (nomatch e), fun e => (nomatch e)⟩, fun e => (nomatch e)⟩ }
  exact (Move.berth _ _ s wiped).moves

theorem onBerth_moves (seq consist : Byte) (s0 : BitVec 24) (doors : List Byte) (s : State) :
    Moves i s (onBerth seq consist s0 doors s) := by
  unfold onBerth
  split
  · next idle =>
    split
    · exact (takeBerth_moves s (beq_iff_eq.1 idle)).trans (preemptAccess_moves _)
    · exact refuseBerth_moves s
  · split
    · exact Moves.refl s
    · split
      · exact (wipe_moves s).trans (takeBerth_moves _ rfl)
      · exact refuseBerth_moves s

theorem onSequence_moves {q : Byte} {g : State → State} (s : State) (h : Moves i s (g s)) : Moves i s (onSequence q g s) := by
  unfold onSequence
  split
  · exact h
  · exact countDiscard_moves s

theorem onBerthExt_moves (doors : List Byte) (s : State) : Moves i s (onBerthExt doors s) := by
  unfold onBerthExt
  split
  · exact addIndices_moves doors s
  · exact Moves.refl s

theorem setBerthState_bu (st : BerthState) (s : State) : (setBerthState st s).bu = s.bu.enter st := by
  rw [setBerthState_eq]
  split
  · rfl
  · exact traps_bu _

theorem onStandstill_moves (s : State) : Moves i s (onStandstill s) := by
  unfold onStandstill
  split
  · next h =>
    have announced : s.berthState = .announced := beq_iff_eq.1 h
    refine (setBerthState_moves s (by simp [announced]) (by simp) fun _ _ => rfl).trans (openWindow_moves _ ?_)
    simp [State.berthState, setBerthState_bu, BerthUnit.enter]
  · exact Moves.refl s

theorem openServed_moves (u : UnitNo) (s : State) : Moves i s (openServed u s) := by
  unfold openServed
  split
  · exact berthOpenRequest_moves u s
  · exact Moves.refl s

theorem releaseByVerdict_moves (s : State) (h : s.berthState = .fixed) : Moves i s (releaseByVerdict s) := by
  unfold releaseByVerdict
  split
  · exact (setBerthState_moves s (by simp [h]) (by simp) fun o w => absurd (o.2 w) (by simp [h])).trans
      (forUnits_moves openServed_moves _)
  · exact refuse_moves _ s

theorem judgeHeld_moves (s : State) (h : s.berthState = .fixed) : Moves i s (judgeHeld s) := by
  unfold judgeHeld
  refine Relation.ReflTransGen.trans (modBerth_moves (f := fun b => { b with pendingRelease := false }) s rfl id) ?_
  dsimp only
  split
  · exact refuse_moves _ _
  · split
    · exact refuse_moves _ _
    · exact releaseByVerdict_moves _ h

/-- The fix is copied into the record and the berth is FIXED: one move and the alarms that change (R79, R105, R151). -/
theorem copyFix_moves (s : State) (w : s.ae.window.isSome = true) : Moves i s (copyFix (fixBerth s)) := by
  refine Relation.ReflTransGen.trans (Move.berth
    { s.bu with berth := { s.bu.berth with verdict := s.fix.verdict, sHat := s.fix.sHat.map (min 400000), state := .fixed } }
    (fixBerth s).ae s ⟨id, id, id, id, fun u _ => ?_, fun o => ⟨?_, fun e => nomatch e⟩⟩).moves (traps_moves _)
  · simp [fixBerth, Search.close]
  · exact ⟨fun e => absurd (o.1.1 e) (by simp [o.2 w]), fun e => nomatch e⟩

theorem closeWindow_moves (s : State) (w : s.ae.window.isSome = true) : Moves i s (closeWindow s) := by
  unfold closeWindow
  dsimp only
  split
  · refine (copyFix_moves s w).trans (judgeHeld_moves _ ?_)
    simp [copyFix, State.berthState, setBerthState_bu, BerthUnit.enter]
  · exact copyFix_moves s w

theorem onRelease_moves (s : State) : Moves i s (onRelease s) := by
  unfold onRelease
  split
  · exact Moves.refl s
  · exact Moves.refl s
  · exact Moves.refl s
  · split
    · exact refuse_moves _ s
    · split
      · exact refuse_moves _ s
      · split
        · exact refuse_moves _ s
        · exact modBerth_moves s rfl id
        · next h _ => exact releaseByVerdict_moves s (by assumption)
        · exact Moves.refl s

theorem repeatClose_moves (s : State) : Moves i s (repeatClose s) := by
  unfold repeatClose
  split
  · exact Moves.refl s
  · next c h =>
    split
    · exact setCycle_moves h id
    · exact Moves.refl s

theorem onClose_moves (s : State) : Moves i s (onClose s) := by
  unfold onClose
  split
  · next h => exact startCycle_moves s (by simp [h])
  · exact repeatClose_moves s
  · next h => exact setBerthState_moves s (by simp [h]) (by simp) fun o w => absurd (o.2 w) (by simp [h])
  · exact modBerth_moves s rfl id
  · exact Moves.refl s

theorem reopenBerth_moves (s : State) (h : s.berthState ≠ .fusing) : Moves i s (reopenBerth s) := by
  unfold reopenBerth
  split
  · exact (reopen_moves s h).trans (forUnits_moves openServed_moves _)
  · exact refuse_moves _ s

theorem onReopen_moves (s : State) : Moves i s (onReopen s) := by
  unfold onReopen
  split
  · next h => exact reopenBerth_moves s (by simp [h])
  · next h => exact reopenBerth_moves s (by simp [h])
  · exact Moves.refl s

theorem reportUnsecured_moves (s : State) : Moves i s (reportUnsecured s) := by
  unfold reportUnsecured
  split
  · exact Moves.refl s
  · exact (report_moves _ _ _ _).trans (alert_moves _ _ _)

theorem startDeparture_moves (q : Quad Bool) (s : State) : Moves i s (startDeparture q s) := by
  unfold startDeparture
  split
  · exact Moves.refl s
  · exact setDeparture_moves _ s

/-- The Release Set empties but for the own number (R86, R173). -/
theorem emptyReleases_moves (s : State) : Moves i s (syncOwnRelease (s.modIu fun x => { x with releaseSet := [] })) := by
  refine (Move.iu (fun x => placeOwn s.ownReleased s.strapOk s.cl.own { x with releaseSet := [] }) s
    ⟨fun _ => id, id, fun _ => placeOwn_ok s ⟨List.Pairwise.nil, fun _ e => nomatch e⟩, fun _ => ?_⟩).moves
  exact syncOwnRelease_follows (s.modIu fun x => { x with releaseSet := [] })

/-- What a DEPART wipes, as one change of the BU and the AE before the Release Set empties. -/
theorem departed_eq (s : State) (f : InterlockUnit → InterlockUnit) :
    (syncOwnRelease ((((alignEnd s).setCycle none).setHoldList []).modIu f)).modBerth (fun _ => Berth.none) =
      syncOwnRelease
        (({ s with bu := { s.bu with berth := Berth.none, cycle := none, holdList := [] }, ae := AlignEngine.reset } : State).modIu f) :=
  rfl

theorem onDepart_moves (s : State) : Moves i s (onDepart s) := by
  unfold onDepart
  dsimp only
  rw [departed_eq]
  exact (((reportUnsecured_moves s).trans (wipe_moves _)).trans (emptyReleases_moves _)).trans (startDeparture_moves _ _)

/-- A hold joins a list that holds none of its key. -/
theorem holdList_append {l : List HoldEntry} {new : HoldEntry} (o : l.Pairwise fun a b => ¬(a.source = b.source ∧ a.car = b.car))
    (none : ∀ h ∈ l, HoldEntry.hasKey new.source new.car h = false) :
    (l ++ [new]).Pairwise fun a b => ¬(a.source = b.source ∧ a.car = b.car) := by
  refine List.pairwise_append.2 ⟨o, List.pairwise_singleton _ _, fun a ha b hb => ?_⟩
  rw [List.mem_singleton.1 hb]
  simpa [HoldEntry.hasKey] using none a ha

theorem holdList_refresh {l : List HoldEntry} {new : HoldEntry} (o : HoldListOk l)
    (held : l.any (HoldEntry.hasKey new.source new.car) = true) :
    HoldListOk ((l.filter fun h => !HoldEntry.hasKey new.source new.car h) ++ [new]) := by
  refine ⟨?_, holdList_append (o.2.filter _) (by simp)⟩
  obtain ⟨x, hx, key⟩ := List.any_eq_true.1 held
  have lt : (l.filter fun h => !HoldEntry.hasKey new.source new.car h).length < l.length :=
    List.length_filter_lt_length_iff_exists.2 ⟨x, hx, by simp [key]⟩
  have le := o.1
  simp only [List.length_append, List.length_singleton]
  omega

theorem holdList_evict {l : List HoldEntry} {new : HoldEntry} (o : HoldListOk l)
    (none : ∀ h ∈ l, HoldEntry.hasKey new.source new.car h = false) : HoldListOk (l.drop 1 ++ [new]) := by
  refine ⟨?_, holdList_append o.2.drop fun h m => none h (List.mem_of_mem_drop m)⟩
  have le := o.1
  simp only [List.length_append, List.length_singleton, List.length_drop]
  omega

theorem holdStartList_moves (src : Node) (car : Nat) (s : State) : Moves i s (holdStartList src car s) := by
  unfold holdStartList
  dsimp only
  split
  · next held => exact setHoldList_moves s fun o => holdList_refresh (new := ⟨src, car, s.now⟩) o held
  · next held =>
    have none : ∀ h ∈ s.bu.holdList, HoldEntry.hasKey src car h = false := by simpa using held
    split
    · next room =>
      refine setHoldList_moves s fun o => ⟨?_, holdList_append (new := ⟨src, car, s.now⟩) o.2 none⟩
      simp only [List.length_append, List.length_singleton]
      omega
    · exact Relation.ReflTransGen.trans (setHoldList_moves s fun o => holdList_evict (new := ⟨src, car, s.now⟩) o none)
        (modNodeCounters_moves _ _)

/-- The Hold List loses entries. -/
theorem filterHolds_moves (p : HoldEntry → Bool) (s : State) : Moves i s (s.setHoldList (s.bu.holdList.filter p)) :=
  setHoldList_moves s fun o => ⟨(List.filter_sublist.length_le).trans o.1, o.2.filter _⟩

theorem onHold_moves {src : Node} {q : Byte} {g : State → State} (s : State) (h : Moves i s (g s)) : Moves i s (onHold src q g s) := by
  unfold onHold
  split
  · exact h
  · exact countDiscard_moves s

/-! ### The closes' warnings and deadlines -/

theorem joinHold_moves {u : UnitNo} {car : Nat} {deadline : Time} {c : CloseCycle} {s : State} (h : s.bu.cycle = some c) :
    Moves i s (joinHold u car deadline c s) := by
  unfold joinHold
  split
  · exact setCycle_moves h fun o => List.pairwise_map.2 (o.imp fun {a b} ne => by split <;> split <;> exact ne)
  · next free =>
    refine Relation.ReflTransGen.trans (setCycle_moves h fun o => List.pairwise_append.2 ⟨o, List.pairwise_singleton _ _, fun a ha b hb => ?_⟩)
      (sendHold_moves _ _ _)
    rw [List.mem_singleton.1 hb]
    have none : c.holdFor car = none := by simpa using free
    simpa using List.find?_eq_none.1 none a ha

theorem formHold_moves (deadline : Time) (u : UnitNo) (s : State) : Moves i s (formHold deadline u s) := by
  unfold formHold
  split
  · next h _ =>
    split
    · exact joinHold_moves h
    · exact Moves.refl s
  · exact Moves.refl s

theorem endCycleWarning_moves {c : CloseCycle} {n : Nat} {s : State} (h : s.bu.cycle = some c) : Moves i s (endCycleWarning c n s) := by
  have ends := setCycle_moves (i := i) (c' := { c with warnings := endWarning c.warnings n, members := waitMembers n c.members }) h id
  have forms : ∀ u x, Moves i x (if c.endsUnder n u then formHold (s.deadline (warningAt c.warnings n)) u x else x) :=
    fun u x => (Moves.refl x).guard (formHold_moves _ u)
  exact ends.trans (forUnits_moves forms _)

theorem endHold_moves (car : Nat) (s : State) : Moves i s (endHold car s) := by
  unfold endHold
  split
  · exact Moves.refl s
  · next c h =>
    refine Relation.ReflTransGen.trans (setCycle_moves h fun o => ?_) (sendHold_moves _ _ _)
    exact o.filter _

theorem endDepartureWarning_moves (s : State) : Moves i s (endDepartureWarning s) := setDeparture_moves _ s

theorem endEmergencyWarning_moves (s : State) : Moves i s (endEmergencyWarning s) := modIu_moves s id id rfl

theorem endAccessWarning_moves (a : AccessClose) (n : Nat) (s : State) : Moves i s (endAccessWarning a n s) := modIu_moves s id id rfl

end Sys2Proof.Machine

/-! The bodies of the commands as chains of moves: Commands, Door Channels, Line Controller, loads, peers, queries and sensing. -/

namespace Sys2Proof.Machine

variable {i : Instr}

/-! ### Time and pins -/

theorem reach_moves (t : Time) (s : State) : Moves i s (s.reach t) := by
  unfold State.reach
  split
  · exact (Move.clock t s).moves
  · exact Moves.refl s

theorem modPins_moves (u : UnitNo) (f : UnitPins → UnitPins) (s : State) : Moves i s (s.modPins u f) := (Move.pins _ s).moves

/-! ### Commands -/

theorem decideUnit_moves {arg : Byte} {g : UnitNo → State → State × RefusalCode} (h : ∀ u s, Moves i s (g u s).1) (d : Deciding)
    (u : UnitNo) : Moves i d.state (decideUnit arg g d u).state := by
  unfold decideUnit
  split
  · exact Moves.refl _
  · dsimp only
    split
    · exact h u _
    · exact Moves.refl _

theorem foldl_decideUnit_moves {arg : Byte} {g : UnitNo → State → State × RefusalCode} (h : ∀ u s, Moves i s (g u s).1)
    (l : List UnitNo) (d : Deciding) : Moves i d.state (l.foldl (decideUnit arg g) d).state := by
  induction l generalizing d with
  | nil => exact Moves.refl _
  | cons u l ih => exact (decideUnit_moves h d u).trans (ih _)

theorem decideUnits_moves {arg : Byte} {g : UnitNo → State → State × RefusalCode} (h : ∀ u s, Moves i s (g u s).1) (s : State) :
    Moves i s (decideUnits arg g s).state := foldl_decideUnit_moves h UnitNo.all ⟨s, Quad.same false, .none⟩

theorem unitCommand_moves {src : Node} {sub : SubCommand} {arg : Byte} {g : UnitNo → State → State × RefusalCode}
    (h : ∀ u s, Moves i s (g u s).1) (s : State) : Moves i s (unitCommand src sub arg g s) :=
  (decideUnits_moves h s).trans (sendResult_moves _ _ _ _ _ _)

theorem onCommand_moves {src : Node} {sub : SubCommand} {dest arg : Byte} {g : State → State} (h : ∀ s, Moves i s (g s)) (s : State) :
    Moves i s (onCommand src sub dest arg g s) := by
  unfold onCommand
  split
  · exact Moves.refl s
  · split
    · exact h s
    · split
      · exact sendResult_moves _ _ _ _ _ s
      · exact Moves.refl s

theorem consumeHandle_moves (u : UnitNo) (s : State) : Moves i s (consumeHandle u s) := setSu_moves s (.inl rfl) (.inl rfl)

theorem isolateUnit_moves (u : UnitNo) (s : State) : Moves i s (isolateUnit u s).1 := by
  unfold isolateUnit
  split
  · exact enterIsolated_moves _ u s
  · exact enterIsolated_moves _ u s
  · exact enterIsolated_moves _ u s
  · exact (consumeHandle_moves u s).trans (enterIsolated_moves _ u _)
  · exact Moves.refl s

theorem bringBack_moves (u : UnitNo) (s : State) : Moves i s (bringBack u s) := by
  unfold bringBack
  split
  · exact comeClosed_moves u s
  · exact enterHoming_moves u s

theorem restoreUnit_moves (u : UnitNo) (s : State) : Moves i s (restoreUnit u s).1 := by
  unfold restoreUnit
  split
  · have unmarked : Moves i s (s.modDc u fun d => { d with isolationMark := false }) := setDc_moves s rfl rfl rfl (.inl rfl)
    exact unmarked.trans (bringBack_moves u _)
  · exact Moves.refl s

theorem rehomeUnit_moves (u : UnitNo) (s : State) : Moves i s (rehomeUnit u s).1 := by
  unfold rehomeUnit
  split
  · exact enterHoming_moves u s
  · exact enterHoming_moves u s
  · exact Moves.refl s

theorem ackReleaseUnit_moves (u : UnitNo) (s : State) : Moves i s (ackReleaseUnit u s).1 := by
  unfold ackReleaseUnit
  split
  · refine (consumeHandle_moves u s).trans ?_
    dsimp only
    split
    · exact enterIsolated_moves _ u _
    · exact bringBack_moves u _
  · exact Moves.refl s

theorem accessOpenUnit_moves (wide : RefusalCode) (u : UnitNo) (s : State) : Moves i s (accessOpenUnit wide u s).1 := by
  unfold accessOpenUnit
  split
  · exact Moves.refl s
  · split
    · have marked : Moves i s (s.modIu fun x => { x with accessMarks := x.accessMarks.set u true }) := modIu_moves s id id rfl
      exact marked.trans (openRequest_moves u _)
    · exact Moves.refl s

theorem accessCloseUnit_moves (u : UnitNo) (s : State) : Moves i s (accessCloseUnit u s).1 := by
  unfold accessCloseUnit
  split
  · exact Moves.refl s
  · split
    · exact Moves.refl s
    · exact Moves.refl s

theorem takeAccessClose_moves (src : Node) (arg : Byte) (s : State) : Moves i s (takeAccessClose src arg s) :=
  ((decideUnits_moves accessCloseUnit_moves s).trans (joinAccess_moves _ _)).trans (sendResult_moves _ _ _ _ _ _)

theorem takeAccessLock_moves (src : Node) (s : State) : Moves i s (takeAccessLock src s) := by
  have locked : Moves i s (s.modIu fun x => { x with accessLock := true }) := modIu_moves s id (fun _ => rfl) rfl
  exact locked.trans (sendResult_moves _ _ _ _ _ _)

theorem takeAckFault_moves {src dest : Node} {byte arg arg' : Byte} (s : State) :
    Moves (.ackFault src byte arg) s (takeAckFault dest arg' s) := by
  have emptied : Moves (.ackFault src byte arg) s (s.modFr fun r => r.setSlot (severityOf arg') none) := by
    refine (Move.fr _ s ?_).moves
    cases severityOf arg' <;>
      exact ⟨fun h => absurd rfl (h src byte arg), fun h => absurd rfl (h src byte arg), fun _ => rfl, rfl⟩
  unfold takeAckFault
  dsimp only
  split
  · exact emptied.trans (sendResult_moves _ _ _ _ _ _)
  · exact (startPulse_moves _ s).trans (sendResult_moves _ _ _ _ _ _)

theorem takeResetNode_moves {src dest : Node} {byte arg : Byte} (s : State) :
    Moves (.resetNode src byte arg) s (takeResetNode dest s) := by
  have due : Moves (.resetNode src byte arg) s (s.modFr fun r => { r with resetDue := true }) :=
    (Move.fr _ s ⟨fun _ _ h => h, fun _ _ h => h, fun h => absurd rfl (h src byte arg), rfl⟩).moves
  exact due.trans (sendResult_moves _ _ _ _ _ _)

theorem stopPulse_moves (line : FaultLine) (s : State) :
    Moves i s (s.modFr fun r =>
      match line with
      | .severe => { r with severePulse := none }
      | .minor => { r with minorPulse := none }) := by
  refine (Move.fr _ s ?_).moves
  cases line <;> exact ⟨fun _ _ h => h, fun _ _ h => h, fun _ => rfl, rfl⟩

/-! ### Door Channels -/

theorem takeSample_moves (u : UnitNo) (motion : Int) (current : Nat) (s : State) : Moves i s (takeSample u motion current s) := by
  unfold takeSample
  dsimp only
  exact Moves.guard (setDc_moves s rfl rfl rfl (.inl rfl)) (obstacle_moves u)

theorem takeMissed_moves (u : UnitNo) (s : State) : Moves i s (takeMissed u s) := setDc_moves s rfl rfl rfl (.inl rfl)

theorem watchStall_moves (u : UnitNo) (s : State) : Moves i s (watchStall u s) := by
  unfold watchStall
  dsimp only
  split
  · exact setDc_moves s rfl rfl rfl (.inl rfl)
  · exact Moves.refl s

theorem watchStall_unit (u : UnitNo) (s : State) : (watchStall u s).unit u = s.unit u := by
  unfold watchStall
  dsimp only
  split <;> simp [State.unit]

theorem periodOpen_moves {u : UnitNo} {done : State → State} (s : State) (h : (s.unit u).driven = true) (k : Moves i s (done s)) :
    Moves i s (periodOpen u done s) := by
  unfold periodOpen
  split
  · exact k
  · exact (watchStall_moves u s).trans
      (setDc_moves _ rfl rfl rfl (.inr (.inr (show ((watchStall u s).unit u).driven = true by rwa [watchStall_unit]))))

theorem periodClosing_moves {u : UnitNo} (s : State) (h : (s.unit u).driven = true) : Moves i s (periodClosing u s) := by
  unfold periodClosing
  split
  · exact enterLocking_moves u s
  · exact setDc_moves s rfl rfl rfl (.inr (.inr h))

theorem periodHoming_moves {u : UnitNo} (s : State) (h : (s.unit u).driven = true) : Moves i s (periodHoming u s) := by
  unfold periodHoming
  split
  · exact enterLocking_moves u s
  · exact setDc_moves s rfl rfl rfl (.inr (.inr h))

theorem periodByState_moves (u : UnitNo) (s : State) : Moves i s (periodByState u s) := by
  unfold periodByState
  split
  case h_1 => exact setDc_moves s rfl rfl rfl (.inl rfl)
  case h_2 =>
    split
    · exact Moves.refl s
    · exact enterOpening_moves u s
  case h_3 h => exact periodOpen_moves s (by simp [h, UnitState.driven]) (openingDone_moves u s)
  case h_4 h => exact periodClosing_moves s (by simp [h, UnitState.driven])
  case h_5 h => exact periodOpen_moves s (by simp [h, UnitState.driven]) (reverseDone_moves u s)
  case h_6 =>
    split
    · exact comeClosed_moves u s
    · exact Moves.refl s
  case h_7 h => exact periodHoming_moves s (by simp [h, UnitState.driven])
  case h_8 => exact Moves.refl s

theorem takePeriod_moves (u : UnitNo) (s : State) : Moves i s (takePeriod u s) := by
  unfold takePeriod
  split
  · exact enterFault_moves _ u s
  · exact periodByState_moves u s

theorem takeDriveFault_moves (u : UnitNo) (s : State) : Moves i s (takeDriveFault u s) := by
  unfold takeDriveFault
  split
  · exact enterFault_moves _ u s
  · exact (modPins_moves u _ s).trans (enterFault_moves _ u _)

theorem failUnlock_moves (u : UnitNo) (s : State) : Moves i s (failUnlock u s) :=
  ((modUnitCounters_moves u _ s).trans (report_moves _ _ _ _)).trans (enterClosedLocked_moves u _)

theorem atFullTravel_moves (u : UnitNo) (s : State) : Moves i s (atFullTravel u s) := setDc_moves s rfl rfl rfl (.inl rfl)

theorem endReopenPause_moves (u : UnitNo) (s : State) : Moves i s (endReopenPause u s) := by
  unfold endReopenPause
  split
  · exact enterClosing_moves _ u s
  · exact enterHeldOpen_moves u s

theorem takeStall_moves (u : UnitNo) (s : State) : Moves i s (takeStall u s) := by
  unfold takeStall
  dsimp only
  split
  · have stalled : Moves i s (s.setDc u { s.dc.get u with stallCount := (s.dc.get u).stallCount + 1 }) :=
      setDc_moves s rfl rfl rfl (.inl rfl)
    exact stalled.trans (enterFault_moves _ u _)
  · exact setDc_moves s rfl rfl rfl (.inr (.inl rfl))

theorem endStallPause_moves (u : UnitNo) (s : State) : Moves i s (endStallPause u s) := setDc_moves s rfl rfl rfl (.inr (.inl rfl))

theorem endHomingWait_moves (u : UnitNo) (s : State) : Moves i s (endHomingWait u s) := by
  unfold endHomingWait
  dsimp only
  split
  · exact Moves.guard (setDc_moves s rfl rfl rfl (.inl rfl)) (stopOnObstacle_moves u)
  · exact enterFault_moves _ u s

/-! ### The Line Controller -/

theorem endAttempt_moves (s : State) : Moves i s (endAttempt s) := (Move.loses s).moves

theorem reportSent_moves (e : TxEntry) (s : State) : Moves i s (reportGone e (takeSent s)) :=
  (Move.sends s).moves.trans (Move.gone e _).moves

theorem enterLineQuiet_moves (s : State) : Moves i s (enterLineQuiet s) := by
  have quiet : Moves i s (s.modLc fun l => { l with line := .lineQuiet, quietTimer := s.timer 2000 }) := (Move.line _ s rfl).moves
  exact (quiet.trans (modNodeCounters_moves _ _)).trans (report_moves _ _ _ _)

theorem countError_moves (s : State) : Moves i s (countError s) := by
  unfold countError
  exact Moves.guard (Move.line (fun l => { l with errors := min 32 (l.errors + 1) }) s rfl).moves enterLineQuiet_moves

theorem leaveLineQuiet_moves (s : State) : Moves i s (leaveLineQuiet s) := (Move.line _ s rfl).moves

/-! ### Loads -/

theorem reportLoad_moves (o : LoadOutcome) (s : State) : Moves i s (reportLoad o s) := by
  unfold reportLoad
  split
  · exact (Moves.refl s).guard (report_moves _ _ _)
  · exact report_moves _ _ _ s
  · exact report_moves _ _ _ s

theorem startUnitSensing_moves (u : UnitNo) (s : State) : Moves i s (startUnitSensing u s) := by
  unfold startUnitSensing
  split
  · exact (startSensing_moves u s).trans (setSu_moves _ (.inl rfl) (.inl rfl))
  · exact Moves.refl s

theorem startUnit_moves (u : UnitNo) (s : State) : Moves i s (startUnit u s) := by
  unfold startUnit
  split
  · refine moveUnit_moves s ?_
    split <;> exact ⟨rfl, rfl, fun _ => rfl⟩
  · exact setDc_moves s rfl rfl rfl (.inl rfl)

theorem takeCaptures_moves (u : UnitNo) (s : State) : Moves i s (takeCaptures u s) := by
  unfold takeCaptures
  split
  · dsimp only
    exact ((Moves.refl s).guard (noteHandle_moves u)).guard (notePanel_moves u)
  · exact Moves.refl s

theorem Loader.ended_own (l : Loader) (o : LoadOutcome) (c : NodeConfig) (t : Option Time) : (l.ended o c t).own = l.own := by
  unfold Loader.ended
  split <;> rfl

/-- The end of a load but for its last step, the fault lines. -/
def loadStarted (o : LoadOutcome) (c : NodeConfig) (s : State) : State :=
  forUnits takeCaptures (forUnits startUnit (forUnits startUnitSensing (loadEnded o c s)))

theorem endLoad_lines (o : LoadOutcome) (c : NodeConfig) (s : State) : endLoad o c s = driveLines (loadStarted o c s) := rfl

theorem startWire_moves (c : Debounced) (s : State) : Moves i s { s with su := { s.su with wire := c } } := (Move.wire c s).moves

theorem endCl_moves (h : startsUp i = true) (o : LoadOutcome) (c : NodeConfig) (s : State) :
    Moves i s (s.modCl fun l => l.ended o c (s.timer 600)) :=
  (Move.cl (fun l => l.ended o c (s.timer 600)) s h (Loader.ended_own s.cl o c (s.timer 600))).moves

theorem loadEnded_moves (h : startsUp i = true) (o : LoadOutcome) (c : NodeConfig) (s : State) : Moves i s (loadEnded o c s) :=
  ((endCl_moves h o c s).trans (reportLoad_moves o _)).trans (startWire_moves _ _)

theorem loadStarted_moves (h : startsUp i = true) (o : LoadOutcome) (c : NodeConfig) (s : State) : Moves i s (loadStarted o c s) :=
  (((loadEnded_moves h o c s).trans (forUnits_moves startUnitSensing_moves _)).trans (forUnits_moves startUnit_moves _)).trans
    (forUnits_moves takeCaptures_moves _)

theorem takeMarks_moves (s : State) : Moves i s (takeMarks s) := by
  unfold takeMarks
  dsimp only
  exact ((Moves.refl s).guard setWire_moves).guard latchIfClear_moves

theorem sendBeacon_moves (h : loads i = false) (s : State) : Moves i s (sendBeacon s) :=
  (enqueue_moves _ _ s).trans (Move.pm _ _ rfl id (.inl h)).moves

/-! ### Peers -/

theorem setSlot_moves (n : Node) (x : Slot) (s : State) : Moves i s (s.setSlot n x) :=
  (Move.pm (fun p => { p with slots := p.slots.set n.toNat x }) s List.length_set id (.inr rfl)).moves

theorem noteActivity_moves (n : Node) (b : Bool) (s : State) : Moves i s (noteActivity n b s) := setSlot_moves n _ s

theorem ownNumberFrame_moves (s : State) : Moves i s (ownNumberFrame s) := by
  unfold ownNumberFrame
  split
  · exact Moves.refl s
  · exact Relation.ReflTransGen.trans
      (Move.pm (fun p => { p with identityConflict := true }) s rfl (fun _ => rfl) (.inr rfl)).moves (report_moves _ _ _ _)

theorem testNotHeard_moves (s : State) : Moves i s (testNotHeard s) := by
  unfold testNotHeard
  split
  · exact Relation.ReflTransGen.trans (Move.pm (fun p => { p with notHeard := true }) s rfl id (.inr rfl)).moves (report_moves _ _ _ _)
  · exact Moves.refl s

theorem takeNaming_moves (src : Node) (b : Beacon) (s : State) : Moves i s (takeNaming src b s) := by
  unfold takeNaming
  split
  · refine (setSlot_moves src { s.slot src with naming := nextNaming (s.slot src).naming (namesOwn b s.cl.own) } s).trans ?_
    dsimp only
    split
    · exact (Move.pm (fun p => { p with notHeard := false }) _ rfl id (.inr rfl)).moves
    · exact testNotHeard_moves _
  · exact Moves.refl s

/-- A bay controller's number other than the own one joins or leaves the Release Set (R173). -/
theorem otherReleases_moves {src : Node} (s : State) (joins : Bool) (bay : isBay src = true) (peer : src ≠ s.cl.own) :
    Moves i s (s.modIu fun x => { x with releaseSet := if joins then insertNode src x.releaseSet else eraseNode src x.releaseSet }) := by
  refine (Move.iu _ s ⟨fun _ => id, id, fun ok => ?_, fun o => ?_⟩).moves
  · dsimp only
    split
    · exact insertNode_ok ok bay
    · exact eraseNode_ok ok
  · refine Iff.trans ?_ o
    show s.cl.own ∈ (if joins = true then _ else _) ↔ _
    split
    · rw [mem_insertNode]
      exact or_iff_right fun e => peer e.symm
    · rw [mem_eraseNode]
      exact and_iff_right fun e => peer e.symm

theorem takeReleaseFlag_moves {src : Node} {active : Bool} (s : State) (bay : isBay src = true) (peer : src ≠ s.cl.own) :
    Moves i s (takeReleaseFlag src active s) := otherReleases_moves s active bay peer

theorem takeAlert_moves {src : Node} {k : Byte} (s : State) (bay : isBay src = true) (peer : src ≠ s.cl.own) :
    Moves i s (takeAlert src k s) := by
  unfold takeAlert
  split
  · exact otherReleases_moves s true bay peer
  · exact Moves.refl s

theorem takeNaming_cl (src : Node) (b : Beacon) (s : State) : (takeNaming src b s).cl = s.cl := by
  unfold takeNaming
  split
  · dsimp only
    split
    · rfl
    · unfold testNotHeard
      split
      · exact (report_sends _ _ _ _).cl
      · rfl
  · rfl

theorem takeBeacon_moves {src : Node} {b : Beacon} (s : State) (bay : isBay src = true) (peer : src ≠ s.cl.own) :
    Moves i s (takeBeacon src b s) :=
  ((setSlot_moves src _ s).trans (takeNaming_moves src b _)).trans
    (takeReleaseFlag_moves _ bay (by rw [takeNaming_cl]; exact peer))

theorem takeOpenCall_moves (s : State) : Moves i s (takeOpenCall s) := by
  unfold takeOpenCall
  split
  · exact setLine_moves true s
  · split
    · exact (setLine_moves true s).trans (latchIfClear_moves _)
    · exact Moves.refl s

theorem takeResetCall_moves {src : Node} (s : State) : Moves (.stationEmergencyReset src) s (takeResetCall s) := by
  unfold takeResetCall
  split
  · exact setLine_moves false s
  · split
    · split
      · exact countDiscard_moves s
      · exact exitLatch_moves s
    · exact Moves.refl s

theorem purgeHolds_moves (n : Node) (s : State) : Moves i s (purgeHolds n s) := filterHolds_moves _ s

theorem fallSilent_moves (n : Node) (s : State) : Moves i s (fallSilent n s) := by
  unfold fallSilent
  dsimp only
  exact ((setSlot_moves n _ s).guard (purgeHolds_moves n)).guard testNotHeard_moves

theorem endGap_moves (h : loads i = false) (s : State) : Moves i s (endGap s) := by
  unfold endGap
  refine Relation.ReflTransGen.trans (Move.pm (fun p => { p with gap := none }) s rfl id (.inr rfl)).moves ?_
  dsimp only
  split
  · split
    · exact (Move.pm (fun p => { p with changePending := false }) _ rfl id (.inr rfl)).moves
    · exact sendBeacon_moves h _
  · exact Moves.refl _

theorem passAbsence_moves (s : State) : Moves i s (s.modPm fun p => { p with absenceTimer := none, absenceOver := true }) :=
  (Move.pm _ s rfl id (.inr rfl)).moves

/-! ### Queries -/

theorem sendParts_moves (src : Node) (topic : Topic) (arg : Byte) (count n : Nat) (l : List (List Byte)) (s : State) :
    Moves i s (sendParts src topic arg count n l s) := by
  induction l generalizing n s with
  | nil => exact Moves.refl s
  | cons p l ih => exact (enqueue_moves _ _ s).trans (ih _ _)

theorem answerQuery_moves {src : Node} {topic : Topic} {arg clear : Byte} {data : List Byte} {zero : State → State}
    (h : ∀ s, Moves i s (zero s)) (s : State) : Moves i s (answerQuery src topic arg clear data zero s) := by
  have sent := (Move.draws (i := i) (s.freeCount + drawsPerAnswer) s).moves.trans
    (sendParts_moves src topic arg (parts data).length 1 (parts data) _)
  exact Moves.guard sent h

theorem zeroKinds_moves (s : State) : Moves i s (zeroKinds s) := (Move.fr _ s ⟨fun _ _ h => h, fun _ _ h => h, fun _ => rfl, rfl⟩).moves

theorem zeroSilence_moves (n : Byte) (s : State) : Moves i s (zeroSilence n s) := by
  unfold zeroSilence
  split
  · exact Moves.refl s
  · exact setSlot_moves _ _ s

theorem onQuery_moves {dest : Byte} {g : State → State} (h : ∀ s, Moves i s (g s)) (s : State) : Moves i s (onQuery dest g s) := by
  unfold onQuery
  split
  · exact h s
  · exact Moves.refl s

theorem answerUnit_moves (src : Node) (arg clear : Byte) (s : State) : Moves i s (answerUnit src arg clear s) := by
  unfold answerUnit
  split
  · exact Moves.refl s
  · exact answerQuery_moves (modUnitCounters_moves _ _) s

/-! ### Sensing -/

theorem gapChanged_moves (u : UnitNo) (b : Bool) (s : State) : Moves i s (gapChanged u b s) := by
  unfold gapChanged
  split
  · exact (obstacle_moves u s).trans (checkAlarm_moves u _)
  · exact setAlarm_moves u _ s

theorem feedGap_moves (u : UnitNo) (occ : Bool) (s : State) : Moves i s (feedGap u occ s) := by
  have joins : Moves i s (s.setSu u ((s.su.units.get u).gapStep occ)) := (Move.sensing u ((s.su.units.get u).gapStep occ) s (joinWindow_length · occ) id).moves
  unfold feedGap
  dsimp only
  split
  · exact joins
  · exact joins.trans (gapChanged_moves u _ _)

theorem releaseGap_moves (u : UnitNo) (s : State) : Moves i s (releaseGap u s) := by
  have released : Moves i s (s.modSu u fun x =>
      { x with gapWindow := List.replicate 5 false, clearRun := 10, gapAsserted := false }) :=
    
    (Move.sensing u { s.su.units.get u with gapWindow := List.replicate 5 false, clearRun := 10, gapAsserted := false } s
      (fun _ => le_rfl) id).moves
  exact released.trans (gapChanged_moves u _ _)

theorem feedZone_moves (u : UnitNo) (occ : Bool) (s : State) : Moves i s (feedZone u occ s) := by
  have joins : Moves i s (s.setSu u ((s.su.units.get u).zoneStep occ)) := 
    (Move.sensing u ((s.su.units.get u).zoneStep occ) s id (joinWindow_length · occ)).moves
  exact joins.guard (zoneFreed_moves u)

theorem setRaw_moves (input : DebouncedInput) (level : Bool) (s : State) : Moves i s (setRaw input level s) := by
  cases input with
  | edge u => exact modPins_moves u (fun p => { p with edge := level }) s
  | wire => exact (Move.pins _ s).moves

theorem followRaw_moves (input : DebouncedInput) (level : Bool) (s : State) : Moves i s (followRaw input level s) := by
  cases input with
  | edge u => exact (Moves.refl s).guard fun s => setSu_moves s (.inl rfl) (.inl rfl)
  | wire => exact (Moves.refl s).guard (f := fun s => s.setWireCell (s.su.wire.follow level (s.timer 50))) fun s => (Move.wire _ s).moves

theorem debounced_moves (c : Debounced) (s : State) : Moves i s (s.debounced c) := by
  unfold State.debounced
  split
  · exact Moves.refl s
  · exact reach_moves _ s

theorem changeEdge_moves (u : UnitNo) (level : Bool) (s : State) : Moves i s (changeEdge u level s) := by
  unfold changeEdge
  dsimp only
  exact Moves.guard ((setRaw_moves (.edge u) level s).trans (setSu_moves _ (.inl rfl) (.inl rfl))) (obstacle_moves u)

theorem changeWire_moves (level : Bool) (s : State) : Moves i s (changeWire level s) :=
  (setRaw_moves .wire level s).trans (Move.wire _ _).moves

theorem assertWire_moves (s : State) : Moves i s (assertWire s) := by
  unfold assertWire
  dsimp only
  exact (changeWire_moves true s).guard (f := fun s => latchIfClear (setWire s)) fun s => (setWire_moves s).trans (latchIfClear_moves _)

theorem clearWire_moves (s : State) : Moves i s (clearWire s) := (changeWire_moves false s).trans (modIu_moves _ id id rfl)

theorem operateHandle_moves (u : UnitNo) (s : State) : Moves i s (operateHandle u s) := by
  have taken : Moves i s (s.modSu u fun x => { x with handle := ⟨true, true⟩ }) := setSu_moves s (.inl rfl) (.inl rfl)
  exact (taken.trans (enterManualReleased_moves u _)).trans (noteHandle_moves u _)

theorem returnHandle_moves (u : UnitNo) (s : State) : Moves i s (returnHandle u s) := by
  unfold returnHandle
  dsimp only
  exact Moves.guard (setSu_moves s (.inl rfl) (.inl rfl)) (enterReleaseRestored_moves u)

theorem operatePanel_moves (u : UnitNo) (s : State) : Moves i s (operatePanel u s) := by
  have taken : Moves i s (s.modSu u fun x => { x with panel := ⟨true, true⟩ }) := setSu_moves s (.inl rfl) (.inl rfl)
  exact taken.trans (notePanel_moves u _)

theorem returnPanel_moves (u : UnitNo) (s : State) : Moves i s (returnPanel u s) := by
  have taken : Moves i s (s.modSu u fun x => { x with panel := ⟨false, false⟩ }) := setSu_moves s (.inl rfl) (.inl rfl)
  exact taken.trans (modIu_moves _ id id rfl)

end Sys2Proof.Machine

/-! What every move keeps: the Transmit Queue's order, the stores' bounds, the outputs' rows, the latches. -/

namespace Sys2Proof.Machine

variable {i : Instr}

/-! ### The Transmit Queue (R47 to R50) -/

theorem insertByClass_perm (e : TxEntry) (q : List TxEntry) : (insertByClass e q).Perm (e :: q) := by
  induction q with
  | nil => exact List.Perm.refl _
  | cons x l ih =>
    unfold insertByClass
    split
    · exact (ih.cons x).trans (List.Perm.swap e x l)
    · exact List.Perm.refl _

theorem insertByClass_sorted (e : TxEntry) {q : List TxEntry} (h : q.Pairwise fun a b => a.kind.cls ≤ b.kind.cls) :
    (insertByClass e q).Pairwise fun a b => a.kind.cls ≤ b.kind.cls := by
  induction q with
  | nil => exact List.pairwise_singleton _ _
  | cons x l ih =>
    obtain ⟨first, rest⟩ := List.pairwise_cons.1 h
    unfold insertByClass
    split
    · next le =>
      refine List.pairwise_cons.2 ⟨fun y hy => ?_, ih rest⟩
      rcases List.mem_cons.1 ((insertByClass_perm e l).subset hy) with rfl | hy
      · exact le
      · exact first y hy
    · next gt =>
      refine List.pairwise_cons.2 ⟨fun y hy => ?_, h⟩
      rcases List.mem_cons.1 hy with rfl | hy
      · omega
      · have := first y hy
        omega

/-- What is removed leaves the other entries in their order. -/
theorem removeLast_some {p : TxEntry → Bool} {l l' : List TxEntry} {y : TxEntry} (h : removeLast p l = (l', some y)) :
    l'.Sublist l ∧ l.length = l'.length + 1 := by
  induction l generalizing l' y with
  | nil => cases h
  | cons x l ih =>
    unfold removeLast at h
    split at h
    · next l'' z e =>
      obtain ⟨sub, len⟩ := ih e
      cases h
      exact ⟨sub.cons_cons x, by simp [len]⟩
    · split at h
      · cases h
        exact ⟨List.sublist_cons_self x l, rfl⟩
      · cases h

theorem QueueOk.sublist {q q' : List TxEntry} (h : QueueOk q) (sub : q'.Sublist q) : QueueOk q' :=
  ⟨sub.length_le.trans h.1, h.2.1.sublist sub, sub.countP_le.trans h.2.2.1, sub.countP_le.trans h.2.2.2⟩

/-- Entries changed or taken off in their places, none of them put on the line. -/
theorem QueueOk.filterMap {q : List TxEntry} {f : TxEntry → Option TxEntry} (h : QueueOk q)
    (k : ∀ e e', f e = some e' → e'.kind = e.kind ∧ (e'.onLine = true → e.onLine = true)) : QueueOk (q.filterMap f) := by
  have count : ∀ p : TxEntry → Bool, (∀ e e', f e = some e' → p e' = true → p e = true) → (q.filterMap f).countP p ≤ q.countP p := by
    intro p hp
    rw [List.countP_filterMap]
    refine List.countP_mono_left fun e _ he => ?_
    cases hf : f e with
    | none => simp [hf] at he
    | some e' => exact hp e e' hf (by simpa [hf] using he)
  refine ⟨(List.length_filterMap_le f q).trans h.1, ?_, (count _ fun e e' hf he => ?_).trans h.2.2.1,
    (count _ fun e e' hf => (k e e' hf).2).trans h.2.2.2⟩
  · refine List.pairwise_filterMap.2 (h.2.1.imp fun {a b} le a' ha b' hb => ?_)
    rw [(k a a' ha).1, (k b b' hb).1]
    exact le
  · rw [← (k e e' hf).1]
    exact he

theorem QueueOk.map {q : List TxEntry} {f : TxEntry → TxEntry} (h : QueueOk q) (kind : ∀ e, (f e).kind = e.kind)
    (line : ∀ e, (f e).onLine = true → e.onLine = true) : QueueOk (q.map f) := by
  rw [← List.filterMap_eq_map]
  refine h.filterMap fun e e' hf => ?_
  cases hf
  exact ⟨kind e, line e⟩

/-- A frame that waits joins a queue with room; a beacon one without a beacon. -/
theorem QueueOk.insert {q : List TxEntry} {e : TxEntry} (h : QueueOk q) (room : q.length < 16) (off : e.onLine = false)
    (beacon : e.kind = .beacon → (q.any fun x => x.kind == .beacon) = false) : QueueOk (insertByClass e q) := by
  obtain ⟨-, sorted, beacons, lines⟩ := h
  have perm := insertByClass_perm e q
  refine ⟨?_, insertByClass_sorted e sorted, ?_, ?_⟩
  · rw [perm.length_eq, List.length_cons]
    omega
  · rw [perm.countP_eq, List.countP_cons]
    by_cases k : e.kind = .beacon
    · have none : (q.countP fun x => x.kind == .beacon) = 0 :=
        List.countP_eq_zero.2 fun x hx => List.any_eq_false.1 (beacon k) x hx
      simp [none, k]
    · simpa [k] using beacons
  · rw [perm.countP_eq, List.countP_cons, off]
    simpa using lines

theorem reportGone_lc (e : TxEntry) (s : State) : (reportGone e s).lc = s.lc := by
  unfold reportGone
  split <;> rfl

theorem replaceBeacon_queueOk {q : List TxEntry} (h : QueueOk q) (p : List Byte) : QueueOk (replaceBeacon p q) := by
  refine h.map (fun e => ?_) fun e => ?_ <;> split
  · split <;> rfl
  · rfl
  · split
    · exact id
    · exact id
  · exact id

theorem enqueue_queueOk {s : State} (h : QueueOk s.lc.queue) (k : FrameKind) (p : List Byte) : QueueOk (enqueue k p s).lc.queue := by
  unfold enqueue
  dsimp only
  split
  · exact replaceBeacon_queueOk h p
  · next other =>
    have fresh : k = .beacon → (s.lc.queue.any fun x => x.kind == .beacon) = false := by simpa using other
    split
    · next room => exact h.insert room rfl fresh
    · split
      · exact h
      · split
        · split
          · next q' gone e =>
            rw [reportGone_lc]
            obtain ⟨sub, len⟩ := removeLast_some e
            refine (h.sublist sub).insert (by have := h.1; omega) rfl fun b => ?_
            have none := fresh b
            rw [List.any_eq_false] at none ⊢
            exact fun x hx => none x (sub.subset hx)
          · rw [reportGone_lc]
            exact h
        · rw [reportGone_lc]
          exact h

theorem endAttempt_queueOk {s : State} (h : QueueOk s.lc.queue) : QueueOk (endAttempt s).lc.queue := by
  refine QueueOk.map h (fun e => ?_) fun e => ?_ <;> split
  · rfl
  · rfl
  · next l => exact fun _ => l
  · exact id

theorem takeSent_queueOk {s : State} (h : QueueOk s.lc.queue) : QueueOk (takeSent s).lc.queue := by
  refine QueueOk.filterMap h fun e e' hf => ?_
  split at hf
  · next l =>
    split at hf
    · cases hf
      exact ⟨rfl, fun _ => l⟩
    · cases hf
  · cases hf
    exact ⟨rfl, id⟩

theorem beginAttempt_queueOk {s : State} (h : QueueOk s.lc.queue) (idle : s.onLine = none) : QueueOk (beginAttempt s).lc.queue := by
  unfold beginAttempt
  split
  · exact h
  · next e q hq =>
    have off : q.countP (fun x => x.onLine) = 0 :=
      List.countP_eq_zero.2 fun x hx => by
        have := List.find?_eq_none.1 idle x (by rw [hq]; exact List.mem_cons_of_mem e hx)
        simpa using this
    rw [hq] at h
    obtain ⟨len, sorted, beacons, -⟩ := h
    refine ⟨len, ?_, ?_, ?_⟩
    · exact List.pairwise_cons.2 (List.pairwise_cons.1 sorted)
    · simpa [List.countP_cons] using beacons
    · show ({ e with onLine := true } :: q).countP _ ≤ 1
      rw [List.countP_cons, off]
      simp

theorem move_queueOk {s t : State} (m : Move i s t) (h : QueueOk s.lc.queue) : QueueOk t.lc.queue := by
  cases m with
  | enqueue k p => exact enqueue_queueOk h k p
  | line f _ same =>
    show QueueOk (f s.lc).queue
    rw [same]
    exact h
  | begins _ idle => exact beginAttempt_queueOk h idle
  | loses => exact endAttempt_queueOk h
  | sends => exact takeSent_queueOk h
  | gone e =>
    rw [reportGone_lc]
    exact h
  | _ => exact h

/-! ### Only a beacon on the line holds a successor (R48) -/

theorem enqueue_successors {s : State} (h : SuccessorsOk s.lc.queue) (k : FrameKind) (p : List Byte) :
    SuccessorsOk (enqueue k p s).lc.queue := by
  have joins : ∀ q, SuccessorsOk q → SuccessorsOk (insertByClass ⟨k, p, none, false⟩ q) := fun q ok e he some => by
    rcases List.mem_cons.1 ((insertByClass_perm _ q).subset he) with rfl | he
    · cases some
    · exact ok e he some
  unfold enqueue
  dsimp only
  split
  · intro e he some
    obtain ⟨e', he', rfl⟩ := List.mem_map.1 he
    by_cases b : (e'.kind == FrameKind.beacon) = true
    · by_cases l : e'.onLine = true
      · rw [if_pos b, if_pos l]
        exact ⟨beq_iff_eq.1 b, l⟩
      · rw [if_pos b, if_neg l] at some ⊢
        exact h e' he' some
    · rw [if_neg b] at some ⊢
      exact h e' he' some
  · split
    · exact joins _ h
    · split
      · exact h
      · split
        · split
          · next q' gone e =>
            rw [reportGone_lc]
            exact joins q' fun x hx => h x ((removeLast_some e).1.subset hx)
          · rw [reportGone_lc]
            exact h
        · rw [reportGone_lc]
          exact h

theorem endAttempt_successors {s : State} (h : SuccessorsOk s.lc.queue) : SuccessorsOk (endAttempt s).lc.queue := by
  intro e he some
  obtain ⟨e', he', rfl⟩ := List.mem_map.1 he
  by_cases l : e'.onLine = true
  · rw [if_pos l] at some
    cases some
  · rw [if_neg l] at some ⊢
    exact h e' he' some

theorem takeSent_successors {s : State} (h : SuccessorsOk s.lc.queue) : SuccessorsOk (takeSent s).lc.queue := by
  intro e he some
  obtain ⟨e', he', hf⟩ := List.mem_filterMap.1 he
  split at hf
  · split at hf
    · cases hf
      cases some
    · cases hf
  · cases hf
    exact h e he' some

theorem beginAttempt_successors {s : State} (h : SuccessorsOk s.lc.queue) : SuccessorsOk (beginAttempt s).lc.queue := by
  unfold beginAttempt
  split
  · exact h
  · next e q hq =>
    rw [hq] at h
    intro x hx some
    rcases List.mem_cons.1 hx with rfl | hx
    · exact ⟨(h e (List.mem_cons_self ..) some).1, rfl⟩
    · exact h x (List.mem_cons_of_mem e hx) some

theorem move_successors {s t : State} (m : Move i s t) (h : SuccessorsOk s.lc.queue) : SuccessorsOk t.lc.queue := by
  cases m with
  | enqueue k p => exact enqueue_successors h k p
  | line f _ same =>
    show SuccessorsOk (f s.lc).queue
    rw [same]
    exact h
  | begins => exact beginAttempt_successors h
  | loses => exact endAttempt_successors h
  | sends => exact takeSent_successors h
  | gone e =>
    rw [reportGone_lc]
    exact h
  | _ => exact h

/-! ### What the queue's moves leave alone -/

theorem reportGone_eq (e : TxEntry) (s : State) : reportGone e s = { s with fr := (reportGone e s).fr } := by
  unfold reportGone
  split <;> rfl

theorem beginAttempt_eq (s : State) : beginAttempt s = { s with lc := (beginAttempt s).lc } := by
  unfold beginAttempt
  split <;> rfl

theorem enqueue_eq (k : FrameKind) (p : List Byte) (s : State) :
    enqueue k p s = { s with lc := (enqueue k p s).lc, fr := (enqueue k p s).fr } := enqueue_aside k p s s

/-! ### The stores (R55, R74, R93, R101, R141, R143, R158, R161, R173) -/

theorem OwnHoldsOk.congr {s t : State} (h : OwnHoldsOk s) (e : t.bu = s.bu) : OwnHoldsOk t := by
  unfold OwnHoldsOk
  rw [e]
  exact h

theorem move_storesOk {s t : State} (m : Move i s t) (h : StoresOk s) : StoresOk t := by
  obtain ⟨samples, holds, releases, windows, slots, isolated, own⟩ := id h
  cases m with
  | enqueue k p =>
    rw [enqueue_eq]
    exact h
  | begins =>
    rw [beginAttempt_eq]
    exact h
  | gone e =>
    rw [reportGone_eq]
    exact h
  | cl f _ _ same =>
    refine ⟨?_, holds, releases, windows, slots, isolated, own⟩
    show SamplesOk (f s.cl).own s.ae.samples
    rw [same]
    exact samples
  | pm f _ len => exact ⟨samples, holds, releases, windows, len.trans slots, isolated, own⟩
  | unit u d => exact ⟨samples, holds, placeOwn_ok (s.setDc u d) releases, windows, slots, isolated, own⟩
  | sensing u x _ gap zone =>
    refine ⟨samples, holds, releases, fun v => ?_, slots, isolated, own⟩
    show ((s.su.units.set u x).get v).gapWindow.length ≤ 5 ∧ ((s.su.units.set u x).get v).zoneWindow.length ≤ 10 ∧ _
    rw [Quad.get_set]
    split
    · exact ⟨gap (windows u).1, zone (windows u).2.1, (windows v).2.2⟩
    · exact windows v
  | berth b a _ stays =>
    exact ⟨stays.samples samples, stays.holds holds, releases, fun v => ⟨(windows v).1, (windows v).2.1, stays.runs v (windows v).2.2⟩,
      slots, stays.isolated isolated, stays.own own⟩
  | iu f _ stays => exact ⟨samples, holds, stays.releases releases, windows, slots, isolated, own⟩
  | _ => exact h

/-! ### Close cycle and window follow the berth's state; the own number follows the units -/

theorem move_cycleOk {s t : State} (m : Move i s t) (h : CycleOk s) : CycleOk t := by
  cases m with
  | enqueue k p =>
    rw [enqueue_eq]
    exact h
  | begins =>
    rw [beginAttempt_eq]
    exact h
  | gone e =>
    rw [reportGone_eq]
    exact h
  | berth b a _ stays => exact stays.cycle h
  | _ => exact h

theorem OwnReleaseFollows.congr {s t : State} (h : OwnReleaseFollows s) (own : t.cl.own = s.cl.own)
    (set : t.iu.releaseSet = s.iu.releaseSet) (units : ∀ u, t.unit u = s.unit u) : OwnReleaseFollows t := by
  unfold OwnReleaseFollows
  simp only [own, set, units]
  exact h

/-- A channel that stays in its state leaves every unit in its state. -/
theorem setDc_unit {u : UnitNo} {d : DoorChannel} {s : State} (h : d.st = s.unit u) (v : UnitNo) : (s.setDc u d).unit v = s.unit v := by
  simp only [State.unit, State.setDc_dc, Quad.get_set]
  split
  · next e =>
    subst e
    exact h
  · rfl

theorem move_ownRelease {s t : State} (m : Move i s t) (h : OwnReleaseFollows s) : OwnReleaseFollows t := by
  cases m with
  | enqueue k p =>
    rw [enqueue_eq]
    exact h
  | begins =>
    rw [beginAttempt_eq]
    exact h
  | gone e =>
    rw [reportGone_eq]
    exact h
  | cl f _ _ same => exact h.congr same rfl fun _ => rfl
  | unit u d => exact syncOwnRelease_follows _
  | channel u d _ st => exact h.congr rfl rfl (setDc_unit st)
  | iu f _ stays => exact stays.own h
  | _ => exact h

/-! ### The outputs of the Door Channels (R21, R36, R116) -/

/-- The part acts, and its Door Channels' outputs stand as their states' rows. -/
def Drives (s : State) : Prop := s.acts = true ∧ OutputsFollow s

theorem move_drives {s t : State} (m : Move i s t) (h : Drives s) : Drives t := by
  obtain ⟨acts, follow⟩ := id h
  cases m with
  | enqueue k p =>
    rw [enqueue_eq]
    exact h
  | begins =>
    rw [beginAttempt_eq]
    exact h
  | gone e =>
    rw [reportGone_eq]
    exact h
  | unit u d _ entered =>
    refine ⟨acts, fun v => ?_⟩
    have same : (syncOwnRelease (s.setDc u d)).dc.get v = if u = v then d else s.dc.get v := Quad.get_set _ _ _ _
    rw [State.unit, same, show (syncOwnRelease (s.setDc u d)).acts = true from acts]
    split
    · rw [Bool.true_and, Bool.true_and, entered.enable]
      exact ⟨rfl, entered.solenoid, entered.setpoint⟩
    · have row := follow v
      rwa [acts] at row
  | channel u d _ st enable solenoid setpoint =>
    refine ⟨acts, fun v => ?_⟩
    rw [setDc_unit st]
    have row := follow v
    show ((s.dc.set u d).get v).enable = (s.acts && _) ∧ ((s.dc.set u d).get v).solenoid = (s.acts && _) ∧
      (((s.dc.set u d).get v).enable = false → ((s.dc.set u d).get v).setpoint = 0)
    rw [Quad.get_set]
    split
    · next e =>
      subst e
      obtain ⟨on, lock, rest⟩ := row
      refine ⟨enable.trans on, solenoid.trans lock, fun off => ?_⟩
      rw [enable] at off
      rcases setpoint with same | zero | driven
      · exact same.trans (rest off)
      · exact zero
      · rw [on, acts, Bool.true_and, ← st, driven] at off
        cases off
    · exact row
  | _ => exact h

/-! ### The latches (R66, R176, R185, R189) -/

/-- What stays from `s` to `t` under the command `i`: filled Fault Capture slots, ACCESS_LOCK, IDENTITY_CONFLICT and the latch, each but
for the command that undoes it, and a part with no reset due has none. -/
structure LatchesHeld (i : Instr) (s t : State) : Prop where
  severe : (∀ src dest arg, i ≠ .ackFault src dest arg) → ∀ x, s.fr.severe = some x → t.fr.severe = some x
  minor : (∀ src dest arg, i ≠ .ackFault src dest arg) → ∀ x, s.fr.minor = some x → t.fr.minor = some x
  lock : s.iu.accessLock = true → t.iu.accessLock = true
  identity : s.pm.identityConflict = true → t.pm.identityConflict = true
  latch : (∀ src, i ≠ .stationEmergencyReset src) → s.iu.latch = true → t.iu.latch = true
  reset : (∀ src dest arg, i ≠ .resetNode src dest arg) → s.fr.resetDue = false → s.fr.resetReported = false →
    t.fr.resetDue = false ∧ t.fr.resetReported = false

/-- A state in which they all stand as before. -/
theorem LatchesHeld.same {s t : State} (severe : t.fr.severe = s.fr.severe) (minor : t.fr.minor = s.fr.minor)
    (due : t.fr.resetDue = s.fr.resetDue) (reported : t.fr.resetReported = s.fr.resetReported)
    (identity : t.pm.identityConflict = s.pm.identityConflict) (lock : t.iu.accessLock = s.iu.accessLock)
    (latch : t.iu.latch = s.iu.latch) : LatchesHeld i s t where
  severe := fun _ _ h => severe.trans h
  minor := fun _ _ h => minor.trans h
  lock := lock.trans
  identity := identity.trans
  latch := fun _ => latch.trans
  reset := fun _ h k => ⟨due.trans h, reported.trans k⟩

theorem LatchesHeld.refl (s : State) : LatchesHeld i s s := LatchesHeld.same rfl rfl rfl rfl rfl rfl rfl

theorem LatchesHeld.trans {a b c : State} (h : LatchesHeld i a b) (k : LatchesHeld i b c) : LatchesHeld i a c where
  severe := fun n x e => k.severe n x (h.severe n x e)
  minor := fun n x e => k.minor n x (h.minor n x e)
  lock := k.lock ∘ h.lock
  identity := k.identity ∘ h.identity
  latch := fun n => k.latch n ∘ h.latch n
  reset := fun n due reported => (h.reset n due reported).elim (k.reset n)

theorem reportGone_latches (e : TxEntry) (s : State) : LatchesHeld i s (reportGone e s) := by
  unfold reportGone
  split
  · next gone =>
    refine { LatchesHeld.refl (i := i) s with reset := fun _ due _ => ?_ }
    rw [due, Bool.and_false] at gone
    cases gone
  · exact LatchesHeld.refl s

theorem enqueue_latches (k : FrameKind) (p : List Byte) (s : State) : LatchesHeld i s (enqueue k p s) := by
  have drop : LatchesHeld i s (countDrop s) := LatchesHeld.same rfl rfl rfl rfl rfl rfl rfl
  unfold enqueue
  dsimp only
  split
  · exact LatchesHeld.same rfl rfl rfl rfl rfl rfl rfl
  · split
    · exact LatchesHeld.same rfl rfl rfl rfl rfl rfl rfl
    · split
      · exact drop
      · split
        · split
          · next q' gone _ =>
            have taken : LatchesHeld i s (countDrop (s.setQueue (insertByClass ⟨k, p, none, false⟩ q'))) := LatchesHeld.same rfl rfl rfl rfl rfl rfl rfl
            exact taken.trans (reportGone_latches gone _)
          · exact drop.trans (reportGone_latches _ _)
        · exact drop.trans (reportGone_latches _ _)

theorem move_latches {s t : State} (m : Move i s t) : LatchesHeld i s t := by
  cases m with
  | enqueue k p => exact enqueue_latches k p s
  | begins =>
    rw [beginAttempt_eq]
    exact LatchesHeld.same rfl rfl rfl rfl rfl rfl rfl
  | gone e => exact reportGone_latches e s
  | pm f _ _ keeps => exact { LatchesHeld.refl (i := i) s with identity := keeps }
  | fr f _ stays =>
    exact { LatchesHeld.refl (i := i) s with
      severe := stays.severe, minor := stays.minor
      reset := fun n due reported => ⟨(stays.due n).trans due, stays.reported.trans reported⟩ }
  | iu f _ stays => exact { LatchesHeld.refl (i := i) s with lock := stays.lock, latch := stays.latch }
  | _ => exact LatchesHeld.same rfl rfl rfl rfl rfl rfl rfl

theorem Moves.latches {s t : State} (h : Moves i s t) : LatchesHeld i s t := by
  induction h with
  | refl => exact LatchesHeld.refl s
  | tail _ m ih => exact ih.trans (move_latches m)

/-! ### What no move changes -/

theorem Moves.pending {s t : State} (h : Moves i s t) : t.pending = s.pending := by
  refine h.keeps (P := fun x => x.pending = s.pending) (fun a b m e => ?_) rfl
  cases m with
  | enqueue k p =>
    rw [enqueue_eq]
    exact e
  | begins =>
    rw [beginAttempt_eq]
    exact e
  | gone x =>
    rw [reportGone_eq]
    exact e
  | _ => exact e

theorem Moves.acts {s t : State} (h : Moves i s t) : t.acts = s.acts := by
  refine h.keeps (P := fun x => x.acts = s.acts) (fun a b m e => ?_) rfl
  cases m with
  | enqueue k p =>
    rw [enqueue_eq]
    exact e
  | begins =>
    rw [beginAttempt_eq]
    exact e
  | gone x =>
    rw [reportGone_eq]
    exact e
  | _ => exact e

theorem Moves.cl {s t : State} (h : Moves i s t) (n : startsUp i = false) : t.cl = s.cl := by
  refine h.keeps (P := fun x => x.cl = s.cl) (fun a b m e => ?_) rfl
  cases m with
  | enqueue k p =>
    rw [enqueue_eq]
    exact e
  | begins =>
    rw [beginAttempt_eq]
    exact e
  | gone x =>
    rw [reportGone_eq]
    exact e
  | cl f _ starts =>
    rw [n] at starts
    cases starts
  | _ => exact e

theorem Moves.out {s t : State} (h : Moves i s t) (n : evaluates i = false) : t.out = s.out := by
  refine h.keeps (P := fun x => x.out = s.out) (fun a b m e => ?_) rfl
  cases m with
  | enqueue k p =>
    rw [enqueue_eq]
    exact e
  | begins =>
    rw [beginAttempt_eq]
    exact e
  | gone x =>
    rw [reportGone_eq]
    exact e
  | contact _ starts =>
    rw [n] at starts
    cases starts
  | _ => exact e

/-- A load sends no beacon and starts no cadence. -/
theorem Moves.cadence {s t : State} (h : Moves i s t) (n : loads i = true) : t.pm.cadence = s.pm.cadence := by
  refine h.keeps (P := fun x => x.pm.cadence = s.pm.cadence) (fun a b m e => ?_) rfl
  cases m with
  | enqueue k p =>
    rw [enqueue_eq]
    exact e
  | begins =>
    rw [beginAttempt_eq]
    exact e
  | gone x =>
    rw [reportGone_eq]
    exact e
  | pm f _ _ _ same => exact (same.resolve_left (by simp [n])).trans e
  | _ => exact e

end Sys2Proof.Machine

/-! The ends of events, and what every command comes to: nothing, or a chain of moves with its end, or a reset. -/

namespace Sys2Proof.Machine

variable {i : Instr}

/-! ### The end of an event -/

theorem changeBeacon_moves (h : loads i = false) (s : State) : Moves i s (changeBeacon s) := by
  unfold changeBeacon
  split
  · split
    · exact sendBeacon_moves h s
    · exact (Move.pm _ s rfl id (.inr rfl)).moves
  · exact Moves.refl s

/-- A property that reads no outputs and that every move keeps, the end of an event keeps. -/
theorem finish_keeps {P : State → Prop} (k : ∀ s t, Move .supplyFall s t → P s → P t) (out : ∀ s o, P s → P { s with out := o })
    {s : State} (h : P s) : P (finish s) := Moves.keeps k (changeBeacon_moves (i := .supplyFall) rfl _) (out s _ h)

theorem settle_keeps {P : State → Prop} (k : ∀ s t, Move .supplyFall s t → P s → P t) (out : ∀ s o, P s → P { s with out := o })
    {s0 s : State} (h : P s) : P (settle s0 s) := by
  have closed : P (settleCloses s) := Moves.keeps k (settleCloses_moves s) h
  unfold settle
  refine finish_keeps k out (out _ _ ?_)
  split
  · exact closed
  · exact out _ _ closed

/-- An end of an event that judged closes and evaluated the contact, before the outputs and the beacon follow. -/
def judged (s0 s : State) : State :=
  let s := settleCloses s
  if s.contactInputs == s0.contactInputs then s else evalContact s

theorem settle_eq (s0 s : State) : settle s0 s = finish (driveWarning (judged s0 s)) := rfl

theorem judged_eq (s0 s : State) : judged s0 s = { settleCloses s with out := (judged s0 s).out } := by
  unfold judged
  dsimp only
  split <;> rfl

theorem settleCloses_out (s : State) : (settleCloses s).out = s.out := (settleCloses_moves (i := .supplyFall) s).out rfl

theorem enqueue_out (k : FrameKind) (p : List Byte) (s : State) : (enqueue k p s).out = s.out := by
  rw [enqueue_eq]

theorem finish_out (s : State) : (finish s).out = (driveLines s).out := (changeBeacon_moves (i := .supplyFall) rfl (driveLines s)).out rfl

/-! ### The Secure Contact (R168, R169) -/

/-- What the contact's truth reads. -/
theorem ContactTrue.congr {s t : State} (h : ContactTrue s) (contact : t.out.contact = s.out.contact) (phase : t.cl.phase = s.cl.phase)
    (count : t.cl.config.unitCount = s.cl.config.unitCount) (inputs : t.contactInputs = s.contactInputs) : ContactTrue t := by
  simp only [State.contactInputs, Prod.mk.injEq] at inputs
  obtain ⟨units, alarms, panels, latch⟩ := inputs
  have unit : ∀ u, t.unit u = s.unit u := fun u => by simpa using congrArg (·.get u) units
  have alarm : ∀ u, (t.su.units.get u).alarm = (s.su.units.get u).alarm := fun u => by simpa using congrArg (·.get u) alarms
  intro closed
  rw [contact] at closed
  obtain ⟨running, clear, safe⟩ := h closed
  refine ⟨phase.trans running, latch.trans clear, fun u => ?_⟩
  simp only [State.configured, State.unitQuiet, count, unit, alarm, panels]
  exact safe u

/-- An evaluated contact is true. -/
theorem evalContact_true (s : State) : ContactTrue (evalContact s) := by
  intro closed
  have all : s.contactCondition = true := closed
  simp only [State.contactCondition, Bool.and_eq_true, UnitNo.all_all, Bool.not_eq_true'] at all
  obtain ⟨⟨⟨⟨_, running⟩, secure⟩, quiet⟩, clear⟩ := all
  refine ⟨beq_iff_eq.1 running, clear, fun u => ⟨fun conf => ?_, quiet u⟩⟩
  have safe := secure u
  rw [State.unitSecure, show s.configured u = true from conf] at safe
  simp only [Bool.not_true, Bool.false_or, Bool.and_eq_true, Bool.or_eq_true, beq_iff_eq] at safe
  exact safe.1

theorem Sends.contactInputs {s t : State} (h : Sends s t) : t.contactInputs = s.contactInputs := by
  have units : t.unit = s.unit := funext h.unit
  simp [State.contactInputs, units, h.su, h.iu]

theorem judged_contact {s0 b s : State} (h : ContactTrue b) (inputs : b.contactInputs = s0.contactInputs)
    (cl : s.cl.phase = b.cl.phase ∧ s.cl.config.unitCount = b.cl.config.unitCount) (contact : s.out.contact = b.out.contact) :
    ContactTrue (judged s0 s) := by
  have kept := (settleCloses_ends s).1.cl
  unfold judged
  dsimp only
  split
  · next same =>
    refine h.congr ?_ (by rw [kept]; exact cl.1) (by rw [kept]; exact cl.2) ((beq_iff_eq.1 same).trans inputs.symm)
    rw [settleCloses_out]
    exact contact
  · exact evalContact_true _

/-- A state in which the contact is true, brought to the end of an event. -/
theorem finish_contact {s : State} (h : ContactTrue s) : ContactTrue (finish s) := by
  have sends := finish_sends s
  refine h.congr ?_ (by rw [sends.cl]) (by rw [sends.cl]) sends.contactInputs
  rw [finish_out]
  rfl

theorem driveWarning_contact {s : State} (h : ContactTrue s) : ContactTrue (driveWarning s) := h

/-- The contact stays true through an event from `b` on that reads its inputs against the same ones. -/
theorem settle_contact {s0 b s : State} (h : ContactTrue b) (inputs : b.contactInputs = s0.contactInputs)
    (cl : s.cl.phase = b.cl.phase ∧ s.cl.config.unitCount = b.cl.config.unitCount) (contact : s.out.contact = b.out.contact) :
    ContactTrue (settle s0 s) := by
  rw [settle_eq]
  exact finish_contact (driveWarning_contact (judged_contact h inputs cl contact))

/-- The frame of an event's end opens nothing the contact reads. -/
theorem ContactTrue.ends {s t : State} (h : ContactTrue s) (e : Ends s t) (contact : t.out.contact = s.out.contact) : ContactTrue t := by
  intro closed
  rw [contact] at closed
  obtain ⟨running, clear, safe⟩ := h closed
  have keeps := e.1.toLeaves
  refine ⟨by rw [keeps.cl]; exact running, keeps.latch.trans clear, fun u => ?_⟩
  obtain ⟨shut, quiet⟩ := safe u
  rw [State.configured, keeps.cl]
  refine ⟨fun conf => ?_, ?_⟩
  · rcases keeps.doors u rfl with same | ⟨opening, _⟩ | ⟨opened, _⟩
    · rw [State.unit, same]
      exact shut conf
    · rcases shut conf with st | st <;> rw [State.unit, opening] at st <;> cases st
    · rcases shut conf with st | st <;> rcases opened with o | o <;> rw [State.unit, o] at st <;> cases st
  · rw [State.unitQuiet, Bool.and_eq_true] at quiet ⊢
    rw [keeps.panelMarks]
    refine ⟨?_, quiet.2⟩
    rcases keeps.sensing u rfl with same | ⟨intrusion, _⟩
    · rw [same]
      exact quiet.1
    · rw [intrusion] at quiet
      cases quiet.1

/-- A contact evaluated in the event stays true through its end. -/
theorem settle_contact_evaluated (s0 s : State) : ContactTrue (settle s0 (evalContact s)) := by
  rw [settle_eq]
  refine finish_contact (driveWarning_contact ?_)
  unfold judged
  dsimp only
  split
  · exact (evalContact_true s).ends (settleCloses_ends _) (by rw [settleCloses_out])
  · exact evalContact_true _

/-! ### The beacon follows the summary (R59) -/

/-- The summary reads neither the LC nor a beacon's own registers, nor the counters. -/
theorem enqueue_fr (k : FrameKind) (p : List Byte) (s : State) :
    ∃ n r, (enqueue k p s).fr = { s.fr with nodeCounters := n, resetReported := r } := by
  have gone : ∀ (e : TxEntry) (x : State), x.fr.resetDue = s.fr.resetDue → (∃ n r, x.fr = { s.fr with nodeCounters := n, resetReported := r }) →
      ∃ n r, (reportGone e x).fr = { s.fr with nodeCounters := n, resetReported := r } := by
    rintro e x - ⟨n, r, h⟩
    unfold reportGone
    split
    · exact ⟨n, true, by rw [State.modFr_fr, h]⟩
    · exact ⟨n, r, h⟩
  unfold enqueue
  dsimp only
  split
  · exact ⟨_, _, rfl⟩
  · split
    · exact ⟨_, _, rfl⟩
    · split
      · exact ⟨_, _, rfl⟩
      · split
        · split
          · exact gone _ _ rfl ⟨_, _, rfl⟩
          · exact gone _ _ rfl ⟨_, _, rfl⟩
        · exact gone _ _ rfl ⟨_, _, rfl⟩

theorem enqueue_summary (k : FrameKind) (p : List Byte) (s : State) : (enqueue k p s).summary = s.summary := by
  obtain ⟨n, r, fr⟩ := enqueue_fr k p s
  rw [enqueue_eq, fr]
  rfl

theorem sendBeacon_summary (s : State) : (sendBeacon s).summary = s.summary := enqueue_summary _ _ s

theorem sendBeacon_follows (s : State) : BeaconFollows (sendBeacon s) := fun _ _ => .inl (by rw [sendBeacon_summary]; rfl)

theorem changeBeacon_follows (s : State) : BeaconFollows (changeBeacon s) := by
  unfold changeBeacon
  split
  · split
    · exact sendBeacon_follows s
    · next gap =>
      refine fun _ _ => .inr ⟨rfl, ?_⟩
      unfold State.gapOver at gap
      split at gap
      · cases gap rfl
      · next t h => exact h ▸ rfl
  · next same =>
    intro _ runs
    simp only [Bool.and_eq_true, not_and, Bool.not_eq_true, bne_eq_false_iff_eq] at same
    exact .inl (same runs)

theorem finish_follows (s : State) : BeaconFollows (finish s) := changeBeacon_follows _

theorem changeBeacon_cadence {s : State} (h : s.pm.cadence = none) : changeBeacon s = s := by
  simp [changeBeacon, h]

/-! ### The fault lines and the warning output follow (R33, R190, R191) -/

/-- What the fault lines read and are. -/
def SameLines (s t : State) : Prop :=
  t.cl.config = s.cl.config ∧ t.fr.severe = s.fr.severe ∧ t.fr.minor = s.fr.minor ∧ t.fr.severePulse = s.fr.severePulse ∧
    t.fr.minorPulse = s.fr.minorPulse ∧ t.out = s.out

theorem LinesFollow.congr {s t : State} (h : s.acts = true → s.out.severeOut = s.severeLine ∧ s.out.minorOut = s.minorLine)
    (acts : t.acts = s.acts) (e : SameLines s t) : t.acts = true → t.out.severeOut = t.severeLine ∧ t.out.minorOut = t.minorLine := by
  obtain ⟨config, severe, minor, sp, mp, out⟩ := e
  rw [acts]
  simp only [State.severeLine, State.minorLine, config, severe, minor, sp, mp, out]
  exact h

theorem enqueue_lines (k : FrameKind) (p : List Byte) (s : State) : SameLines s (enqueue k p s) := by
  obtain ⟨n, r, fr⟩ := enqueue_fr k p s
  rw [enqueue_eq, fr]
  exact ⟨rfl, rfl, rfl, rfl, rfl, rfl⟩

theorem sendBeacon_lines (s : State) : SameLines s (sendBeacon s) := enqueue_lines _ _ s

theorem changeBeacon_lines (s : State) : SameLines s (changeBeacon s) := by
  unfold changeBeacon
  split
  · split
    · exact sendBeacon_lines s
    · exact ⟨rfl, rfl, rfl, rfl, rfl, rfl⟩
  · exact ⟨rfl, rfl, rfl, rfl, rfl, rfl⟩

theorem finish_lines (s : State) : LinesFollow (finish s) := by
  have driven : (driveLines s).acts = true →
      (driveLines s).out.severeOut = (driveLines s).severeLine ∧ (driveLines s).out.minorOut = (driveLines s).minorLine :=
    fun _ => ⟨rfl, rfl⟩
  exact fun acts _ => LinesFollow.congr driven (changeBeacon_sends _).acts (changeBeacon_lines _) acts

theorem WarningFollows.congr {s t : State} (h : WarningFollows s) (acts : t.acts = s.acts) (out : t.out.warning = s.out.warning)
    (cycle : t.bu.cycle = s.bu.cycle) (departure : t.bu.departure = s.bu.departure)
    (emergency : t.iu.emergencyClose = s.iu.emergencyClose) (access : t.iu.accessClose = s.iu.accessClose) : WarningFollows t := by
  intro a
  simp only [State.warningRunning, out, cycle, departure, emergency, access]
  exact h (acts ▸ a)

theorem finish_warning {s : State} (h : WarningFollows s) : WarningFollows (finish s) := by
  have sends := finish_sends s
  exact h.congr sends.acts (by rw [finish_out]; rfl) (by rw [sends.bu]) (by rw [sends.bu]) (by rw [sends.iu]) (by rw [sends.iu])

theorem driveWarning_follows (s : State) : WarningFollows (driveWarning s) := fun _ => rfl

/-! ### A close that stands has a member not done (R166, R181) -/

theorem CloseCycle.unfinished_iff (c : CloseCycle) (s : State) :
    c.unfinished s ↔ (UnitNo.all.all fun u => match c.members.get u with
      | none => true
      | some m => memberDone (s.unit u) m.status) = false := by
  rw [← Bool.not_eq_true, UnitNo.all_all, CloseCycle.unfinished, not_forall]
  refine exists_congr fun u => ?_
  cases c.members.get u <;> simp

theorem EmergencyClose.unfinished_iff (e : EmergencyClose) (s : State) :
    e.unfinished s ↔ (UnitNo.all.all fun u => match e.members.get u with
      | none => true
      | some m => memberDone (s.unit u) m) = false := by
  rw [← Bool.not_eq_true, UnitNo.all_all, EmergencyClose.unfinished, not_forall]
  refine exists_congr fun u => ?_
  cases e.members.get u <;> simp

/-- No close cycle or emergency close cycle stands with all its members done. -/
def NoneDone (s : State) : Prop :=
  (∀ c, s.bu.cycle = some c → c.unfinished s) ∧ ∀ e, s.iu.emergencyClose = some e → e.unfinished s

theorem NoneDone.congr {s t : State} (h : NoneDone s) (cycle : t.bu.cycle = s.bu.cycle)
    (emergency : t.iu.emergencyClose = s.iu.emergencyClose) (units : ∀ u, t.unit u = s.unit u) : NoneDone t := by
  unfold NoneDone CloseCycle.unfinished EmergencyClose.unfinished
  simp only [cycle, emergency, units]
  exact h

theorem endCycle_bu (b : Bool) (s : State) : (endCycle b s).bu = { s.bu with cycle := none } := (endCycle_sends b s).bu

theorem endCycle_iu (b : Bool) (s : State) : (endCycle b s).iu = s.iu := (endCycle_sends b s).iu

theorem setBerthState_iu (b : BerthState) (s : State) : (setBerthState b s).iu = s.iu := by
  have trap : ∀ u s, (intrusionToTrap u s).iu = s.iu := fun u s => by
    unfold intrusionToTrap
    split
    · exact (alert_sends _ _ _).iu.trans (report_sends _ _ _ _).iu
    · rfl
  unfold setBerthState
  dsimp only
  split
  · rfl
  · simp [forUnits, trap]

theorem completeCycle_unfinished {s : State} (cycle : CycleOk s) {c : CloseCycle} (h : (completeCycle s).bu.cycle = some c) :
    c.unfinished (completeCycle s) := by
  unfold completeCycle at h ⊢
  split at h
  · next none => rw [none] at h; cases h
  · next c' some =>
    have closing : s.berthState = .closing := cycle.1.1 (by rw [some]; rfl)
    split at h
    · rw [setBerthState_bu, BerthUnit.enter, endCycle_bu] at h
      cases h
    · next open' =>
      rw [if_neg open']
      rw [some] at h
      cases h
      rw [CloseCycle.unfinished_iff, ← Bool.not_eq_true]
      intro done
      exact open' (Bool.and_eq_true_iff.2 ⟨beq_iff_eq.2 closing, done⟩)

theorem completeEmergency_noneDone {s : State} (cycle : CycleOk s) (h : ∀ c, s.bu.cycle = some c → c.unfinished s) :
    NoneDone (completeEmergency s) := by
  unfold completeEmergency
  split
  · next none => exact ⟨h, fun e some => absurd some (by simp [none])⟩
  · next e some =>
    split
    · have none : (emergencyNotice (s.modIu fun x => { x with emergencyClose := none })).iu.emergencyClose = none ∧
          (emergencyNotice (s.modIu fun x => { x with emergencyClose := none })).bu.cycle = none := by
        unfold emergencyNotice
        split
        · simp [setBerthState_iu, setBerthState_bu, BerthUnit.enter, endCycle_iu, endCycle_bu]
        · simp [setBerthState_iu, setBerthState_bu, BerthUnit.enter, endCycle_iu, endCycle_bu]
        · next other =>
          refine ⟨rfl, ?_⟩
          show s.bu.cycle = none
          rw [← Option.not_isSome_iff_eq_none, cycle.1]
          exact other
      exact ⟨fun c e => absurd (none.2.symm.trans e) (by simp), fun x e => absurd (none.1.symm.trans e) (by simp)⟩
    · next open' =>
      refine ⟨h, fun e' some' => ?_⟩
      rw [some] at some'
      cases some'
      rw [EmergencyClose.unfinished_iff, ← Bool.not_eq_true]
      exact open'

/-- The closes judged, none stands with all its members done. -/
theorem settleCloses_noneDone {s : State} (h : CycleOk s) : NoneDone (settleCloses s) := by
  have judged : ∀ {a b : State}, Moves .supplyFall a b → CycleOk a → CycleOk b := fun m =>
    m.keeps fun _ _ m => move_cycleOk m
  have asked := judged ((((forUnits_moves judgeMember_moves s).trans (forUnits_moves judgeCovered_moves _)).trans
    (forUnits_moves judgeEmergencyMember_moves _)).trans (forUnits_moves judgeAccessMember_moves _)) h
  exact completeEmergency_noneDone (judged (completeCycle_moves _) asked) fun c => completeCycle_unfinished asked

theorem finish_noneDone {s : State} (h : NoneDone s) : NoneDone (finish s) := by
  have sends := finish_sends s
  exact h.congr (by rw [sends.bu]) (by rw [sends.iu]) sends.unit

theorem settle_noneDone {s0 s : State} (h : CycleOk s) : NoneDone (settle s0 s) := by
  rw [settle_eq]
  refine finish_noneDone ?_
  rw [judged_eq]
  exact settleCloses_noneDone h

end Sys2Proof.Machine

/-! What a command comes to. -/

namespace Sys2Proof.Machine

variable {i : Instr}

/-! ### Bodies that touch neither units nor closes -/

/-- Units, gap alarms, panel-open marks, latch and closes stand as before. -/
structure Aside (s t : State) : Prop where
  dc : t.dc = s.dc
  alarms : ∀ u, (t.su.units.get u).alarm = (s.su.units.get u).alarm
  latch : t.iu.latch = s.iu.latch
  panels : t.iu.panelMarks = s.iu.panelMarks
  emergency : t.iu.emergencyClose = s.iu.emergencyClose
  access : t.iu.accessClose = s.iu.accessClose
  cycle : t.bu.cycle = s.bu.cycle
  departure : t.bu.departure = s.bu.departure

theorem Aside.refl (s : State) : Aside s s := ⟨rfl, fun _ => rfl, rfl, rfl, rfl, rfl, rfl, rfl⟩

theorem Aside.trans {a b c : State} (h : Aside a b) (k : Aside b c) : Aside a c :=
  ⟨k.dc.trans h.dc, fun u => (k.alarms u).trans (h.alarms u), k.latch.trans h.latch, k.panels.trans h.panels,
    k.emergency.trans h.emergency, k.access.trans h.access, k.cycle.trans h.cycle, k.departure.trans h.departure⟩

theorem Sends.aside {s t : State} (h : Sends s t) : Aside s t := by
  refine ⟨h.dc, fun u => ?_, ?_, ?_, ?_, ?_, ?_, ?_⟩ <;> simp only [h.su, h.iu, h.bu]

theorem Aside.contactInputs {s t : State} (h : Aside s t) : t.contactInputs = s.contactInputs := by
  have units : t.unit = s.unit := funext fun u => by rw [State.unit, State.unit, h.dc]
  have alarms : (fun u => (t.su.units.get u).alarm) = fun u => (s.su.units.get u).alarm := funext h.alarms
  simp [State.contactInputs, units, alarms, h.latch, h.panels]

theorem Aside.noneDone {s t : State} (h : Aside s t) (n : NoneDone s) : NoneDone t :=
  n.congr h.cycle h.emergency fun u => by rw [State.unit, State.unit, h.dc]

/-! ### What a reset restarts -/

/-- `r` is what a reset leaves of `s` at the start of LOADING (R15, R20, R35). -/
structure Restarted (i : Instr) (s r : State) : Prop where
  reset : i.isReset = true
  cl : ∃ own, r.cl = Loader.loading own
  lc : r.lc = LineController.reset
  pm : r.pm = PeerMonitor.reset
  bu : r.bu = BerthUnit.reset
  ae : r.ae = AlignEngine.reset
  su : r.su = SensingUnit.reset
  dc : ∀ u, ∃ mark, r.dc.get u = DoorChannel.reset mark
  iu : ∃ lock, r.iu = InterlockUnit.reset lock ∧ ((∀ straps, i ≠ .powerOnReset straps) → s.iu.accessLock = true → lock = true)
  slots : (∀ straps, i ≠ .powerOnReset straps) → r.fr.severe = s.fr.severe ∧ r.fr.minor = s.fr.minor
  out : r.out.contact = false ∧ r.out.warning = false
  pending : r.pending = s.pending

/-- The command starts the part up in no way, and evaluates the contact at its end alone. -/
def Plain (i : Instr) : Prop := startsUp i = false ∧ loads i = false ∧ evaluates i = false

/-- What the command `i` can make of `s`. -/
inductive Event (i : Instr) (s : State) : State → Prop where
  | stays : Event i s s
  | pins (p : Pins) : Event i s { s with pins := p }
  /-- An event whose end nothing follows. -/
  | aside {t : State} : s.acts = true → Plain i → Moves i s t → Aside s t → SameLines s t → (BeaconFollows s → BeaconFollows t) →
      (s.cl.phase = .loading → t.pm.cadence = s.pm.cadence) → Event i s t
  | finished {a : State} : s.acts = true → Plain i → Moves i s a → Aside s a →
      (s.cl.phase = .loading → a.pm.cadence = s.pm.cadence) → Event i s (finish a)
  | settled {s0 a : State} : s.acts = true → Moves i s a → a.cl.phase ≠ .loading → (ContactTrue s → ContactTrue (settle s0 a)) →
      Event i s (settle s0 a)
  /-- The supply falls or the reset pin goes low. -/
  | held (supply low : Bool) : (supply && !low) = false → i.isReset = true → Event i s { holdSafe s with supply := supply, resetLow := low }
  /-- The reset pin is released on a part without supply. -/
  | lifted : s.supply = false → i.isReset = true → Event i s { s with resetLow := false }
  | failed : s.acts = true → s.cl.phase = .loading → loads i = true →
      Event i s (s.modCl fun l => { l with failures := l.failures + 1 })
  | loaded (o : LoadOutcome) (c : NodeConfig) : s.acts = true → s.cl.phase = .loading → loads i = true → Event i s (endLoad o c s)
  | restarted {r : State} : loads i = true → Restarted i s r → Event i s r
  | reloaded {r : State} (o : LoadOutcome) (c : NodeConfig) : loads i = true → Restarted i s r → r.acts = true →
      Event i s (endLoad o c r)

theorem loads_startsUp (h : loads i = true) : startsUp i = true := by
  cases i <;> first | rfl | cases h

/-! ### The wrappers -/

theorem takes_acts {s : State} (h : s.takes = true) : s.acts = true := (Bool.and_eq_true_iff.1 h).1

theorem loaded_acts {s : State} (h : s.loaded = true) : s.acts = true := takes_acts (Bool.and_eq_true_iff.1 h).1

theorem loaded_phase {s : State} (h : s.loaded = true) : s.cl.phase ≠ .loading := by
  simpa using (Bool.and_eq_true_iff.1 h).2

theorem hears_acts {s : State} (h : s.hears = true) : s.acts = true := takes_acts (Bool.and_eq_true_iff.1 h).1

theorem hears_phase {s : State} (h : s.hears = true) : s.cl.phase ≠ .loading := by
  intro e
  simp [State.hears, State.running, e] at h

theorem active_loaded {s : State} {u : UnitNo} (h : s.active u = true) : s.loaded = true := (Bool.and_eq_true_iff.1 h).1

theorem senses_loaded {s : State} {u : UnitNo} (h : s.senses u = true) : s.loaded = true :=
  active_loaded (Bool.and_eq_true_iff.1 h).1

/-- An event of a part that acts, its end judged against a state of the same inputs. -/
theorem Event.settles {s s0 a : State} (acts : s.acts = true) (phase : s.cl.phase ≠ .loading) (p : Plain i)
    (inputs : s.contactInputs = s0.contactInputs) (m : Moves i s a) : Event i s (settle s0 a) := by
  have cl := m.cl p.1
  exact .settled acts m (by rw [cl]; exact phase) fun h =>
    settle_contact h inputs (by rw [cl]; exact ⟨rfl, rfl⟩) (by rw [m.out p.2.2])

theorem Event.onNode {s a : State} (l : s.loaded = true) (p : Plain i) (m : Moves i s a) : Event i s (settle s a) :=
  .settles (loaded_acts l) (loaded_phase l) p rfl m

theorem onUnit_event {u : UnitNo} {g : State → State} (s : State) (p : Plain i) (m : ∀ s, Moves i s (g s)) : Event i s (onUnit u g s) := by
  unfold onUnit
  split
  · next h => exact .onNode (active_loaded h) p (m s)
  · exact .stays

theorem onUnitIn_event {u : UnitNo} {st : UnitState} {g : State → State} (s : State) (p : Plain i) (m : ∀ s, Moves i s (g s)) :
    Event i s (onUnitIn u st g s) := by
  unfold onUnitIn
  split
  · next h => exact .onNode (active_loaded (Bool.and_eq_true_iff.1 h).1) p (m s)
  · exact .stays

theorem reach_inputs (t : Time) (s : State) : (s.reach t).contactInputs = s.contactInputs := by
  unfold State.reach
  split <;> rfl

/-- An expiry of a part that has loaded, its end judged from the time the timer ends. -/
theorem onExpiry_event {timer : Option Time} {g : State → State} {s : State} (acts : s.acts = true) (phase : s.cl.phase ≠ .loading)
    (p : Plain i) (m : ∀ s, Moves i s (g s)) : Event i s (onExpiry timer (fun s' => settle s' (g s')) s) := by
  unfold onExpiry
  split
  · exact .stays
  · next t => exact .settles acts phase p (reach_inputs t s).symm ((reach_moves t s).trans (m _))

theorem onExpiry_loaded_event {timer : Option Time} {g : State → State} (s : State) (p : Plain i) (m : ∀ s, Moves i s (g s)) :
    Event i s (if s.loaded then onExpiry timer (fun s' => settle s' (g s')) s else s) := by
  split
  · next h => exact onExpiry_event (loaded_acts h) (loaded_phase h) p m
  · exact .stays

theorem onUnitTimer_event {u : UnitNo} {runs : UnitState → Bool} {timer : DoorChannel → Option Time} {g : State → State} (s : State)
    (p : Plain i) (m : ∀ s, Moves i s (g s)) : Event i s (onUnitTimer u runs timer g s) := by
  unfold onUnitTimer
  split
  · next h =>
    have l := active_loaded (Bool.and_eq_true_iff.1 h).1
    exact onExpiry_event (loaded_acts l) (loaded_phase l) p m
  · exact .stays

/-! ### Frames -/

theorem receive_moves {f : Frame} {g : State → State} (s : State)
    (m : ∀ x : State, f.ok = true → f.source ≠ x.cl.own → Moves i x (g x)) : Moves i s (receive f g s) := by
  unfold receive
  split
  · exact countDiscard_moves s
  · next ok =>
    split
    · exact ownNumberFrame_moves s
    · next peer => exact (noteActivity_moves _ _ s).trans (m _ (by simpa using ok) peer)

theorem onFrameSettling_event {f : Frame} {g : State → State} (s : State) (p : Plain i)
    (m : ∀ x : State, f.ok = true → f.source ≠ x.cl.own → Moves i x (g x)) : Event i s (onFrameSettling f g s) := by
  unfold onFrameSettling
  split
  · next h => exact .settles (hears_acts h) (hears_phase h) p rfl (receive_moves s m)
  · exact .stays

theorem inRunning_moves {g : State → State} (s : State) (m : Moves i s (g s)) : Moves i s (inRunning g s) := by
  unfold inRunning
  split
  · exact m
  · exact Moves.refl s

theorem ownNumberFrame_aside (s : State) : Aside s (ownNumberFrame s) := by
  unfold ownNumberFrame
  split
  · exact Aside.refl s
  · have set : Aside s (s.modPm fun p => { p with identityConflict := true }) := ⟨rfl, fun _ => rfl, rfl, rfl, rfl, rfl, rfl, rfl⟩
    exact set.trans (report_sends _ _ _ _).aside

theorem receive_aside {f : Frame} {g : State → State} (s : State) (k : ∀ x, Aside x (g x)) : Aside s (receive f g s) := by
  unfold receive
  split
  · exact ⟨rfl, fun _ => rfl, rfl, rfl, rfl, rfl, rfl, rfl⟩
  · split
    · exact ownNumberFrame_aside s
    · have noted : Aside s (noteActivity f.source (f.kind == .beacon) s) := ⟨rfl, fun _ => rfl, rfl, rfl, rfl, rfl, rfl, rfl⟩
      exact noted.trans (k _)

theorem onFrame_event {f : Frame} {g : State → State} (s : State) (p : Plain i)
    (m : ∀ x : State, f.ok = true → f.source ≠ x.cl.own → Moves i x (g x)) (k : ∀ x, Aside x (g x)) :
    Event i s (onFrame f g s) := by
  unfold onFrame
  split
  · next h => exact .finished (hears_acts h) p (receive_moves s m) (receive_aside s k) fun e => absurd e (hears_phase h)
  · exact .stays

theorem inRunning_aside {g : State → State} (s : State) (k : Aside s (g s)) : Aside s (inRunning g s) := by
  unfold inRunning
  split
  · exact k
  · exact Aside.refl s

/-! ### The bodies without units and closes -/

theorem addIndices_aside (l : List Byte) (s : State) : Aside s (addIndices l s) := by
  have one : ∀ (s : State) x, Aside s (addIndex s x) := fun s x => by
    unfold addIndex
    dsimp only
    split
    · exact Aside.refl s
    · split <;> exact ⟨rfl, fun _ => rfl, rfl, rfl, rfl, rfl, rfl, rfl⟩
  unfold addIndices
  induction l generalizing s with
  | nil => exact Aside.refl s
  | cons x l ih => exact (one s x).trans (ih _)

theorem onSequence_aside {q : Byte} {g : State → State} (s : State) (k : Aside s (g s)) : Aside s (onSequence q g s) := by
  unfold onSequence
  split
  · exact k
  · exact ⟨rfl, fun _ => rfl, rfl, rfl, rfl, rfl, rfl, rfl⟩

theorem onBerthExt_aside (l : List Byte) (s : State) : Aside s (onBerthExt l s) := by
  unfold onBerthExt
  split
  · exact addIndices_aside l s
  · exact Aside.refl s

theorem takeEdge_aside (src : Node) (seq : Byte) (unit quality : BitVec 4) (door : Byte) (stop : BitVec 24) (s : State) :
    Aside s (takeEdge src seq unit quality door stop s) := by
  unfold takeEdge
  split
  · exact Aside.refl s
  · split
    · exact ⟨rfl, fun _ => rfl, rfl, rfl, rfl, rfl, rfl, rfl⟩
    · split
      · unfold admitSample
        split <;> exact ⟨rfl, fun _ => rfl, rfl, rfl, rfl, rfl, rfl, rfl⟩
      · exact ⟨rfl, fun _ => rfl, rfl, rfl, rfl, rfl, rfl, rfl⟩

theorem refuse_aside (c : RefusalCode) (s : State) : Aside s (refuse c s) := ⟨rfl, fun _ => rfl, rfl, rfl, rfl, rfl, rfl, rfl⟩

theorem sendResult_aside (n : Node) (sub : SubCommand) (arg : Byte) (done : Bool) (c : RefusalCode) (s : State) :
    Aside s (sendResult n sub arg done c s) := by
  unfold sendResult
  dsimp only
  split
  · exact (enqueue_sends _ _ s).aside
  · exact (enqueue_sends _ _ s).aside.trans (refuse_aside c _)

theorem onCommand_aside {src : Node} {sub : SubCommand} {dest arg : Byte} {g : State → State} (k : ∀ s, Aside s (g s)) (s : State) :
    Aside s (onCommand src sub dest arg g s) := by
  unfold onCommand
  split
  · exact Aside.refl s
  · split
    · exact k s
    · split
      · exact sendResult_aside _ _ _ _ _ s
      · exact Aside.refl s

theorem takeAccessLock_aside (src : Node) (s : State) : Aside s (takeAccessLock src s) := by
  have locked : Aside s (s.modIu fun x => { x with accessLock := true }) := ⟨rfl, fun _ => rfl, rfl, rfl, rfl, rfl, rfl, rfl⟩
  exact locked.trans (sendResult_aside _ _ _ _ _ _)

theorem takeAckFault_aside (src : Node) (arg : Byte) (s : State) : Aside s (takeAckFault src arg s) := by
  have emptied : Aside s (s.modFr fun r => r.setSlot (severityOf arg) none) := ⟨rfl, fun _ => rfl, rfl, rfl, rfl, rfl, rfl, rfl⟩
  unfold takeAckFault
  dsimp only
  split
  · exact emptied.trans (sendResult_aside _ _ _ _ _ _)
  · exact (startPulse_sends _ s).aside.trans (sendResult_aside _ _ _ _ _ _)

theorem onResetNode_aside (src : Node) (dest : Byte) (s : State) : Aside s (onResetNode src dest s) := by
  have due : Aside s (s.modFr fun r => { r with resetDue := true }) := ⟨rfl, fun _ => rfl, rfl, rfl, rfl, rfl, rfl, rfl⟩
  unfold onResetNode
  split
  · exact due.trans (sendResult_aside _ _ _ _ _ _)
  · exact Aside.refl s

theorem sendParts_aside (src : Node) (topic : Topic) (arg : Byte) (count n : Nat) (l : List (List Byte)) (s : State) :
    Aside s (sendParts src topic arg count n l s) := by
  induction l generalizing n s with
  | nil => exact Aside.refl s
  | cons p l ih => exact (enqueue_sends _ _ s).aside.trans (ih _ _)

theorem answerQuery_aside {src : Node} {topic : Topic} {arg clear : Byte} {data : List Byte} {zero : State → State}
    (k : ∀ s, Aside s (zero s)) (s : State) : Aside s (answerQuery src topic arg clear data zero s) := by
  have drawn : Aside s { s with freeCount := s.freeCount + drawsPerAnswer } := ⟨rfl, fun _ => rfl, rfl, rfl, rfl, rfl, rfl, rfl⟩
  have sent := drawn.trans (sendParts_aside src topic arg (parts data).length 1 (parts data) _)
  unfold answerQuery
  dsimp only
  split
  · exact sent.trans (k _)
  · exact sent

theorem onQuery_aside {dest : Byte} {g : State → State} (k : ∀ s, Aside s (g s)) (s : State) : Aside s (onQuery dest g s) := by
  unfold onQuery
  split
  · exact k s
  · exact Aside.refl s

theorem answerUnit_aside (src : Node) (arg clear : Byte) (s : State) : Aside s (answerUnit src arg clear s) := by
  unfold answerUnit
  split
  · exact Aside.refl s
  · have zeroed : ∀ u s, Aside s (zeroUnit u s) := fun u s => ⟨rfl, fun _ => rfl, rfl, rfl, rfl, rfl, rfl, rfl⟩
    exact answerQuery_aside (zeroed _) s

theorem zeroSilence_aside (n : Byte) (s : State) : Aside s (zeroSilence n s) := by
  unfold zeroSilence
  split <;> exact ⟨rfl, fun _ => rfl, rfl, rfl, rfl, rfl, rfl, rfl⟩

theorem restartAlign_aside (u : UnitNo) (ms : Nat) (s : State) : Aside s (restartAlign u ms s) := by
  refine ⟨rfl, fun v => ?_, rfl, rfl, rfl, rfl, rfl, rfl⟩
  show ((s.su.units.set u _).get v).alarm = _
  rw [Quad.get_set]
  split
  · next e => subst e; rfl
  · rfl

theorem takeStable_aside (u : UnitNo) (a b : Int) (q : Nat) (s : State) : Aside s (takeStable u a b q s) := by
  unfold takeStable
  split
  · exact ⟨rfl, fun _ => rfl, rfl, rfl, rfl, rfl, rfl, rfl⟩
  · next x quality _ =>
    dsimp only
    have stored : Aside s (endSearch u .sampled (s.modAe fun ae => { ae with samples := joinSample x ae.samples })) := ⟨rfl, fun _ => rfl, rfl, rfl, rfl, rfl, rfl, rfl⟩
    split
    · exact stored
    · exact stored.trans (enqueue_sends _ _ _).aside

theorem takeReading_aside (u : UnitNo) (r : Option (Int × Int × Nat)) (s : State) : Aside s (takeReading u r s) := by
  unfold takeReading
  split
  · exact Aside.refl s
  · split
    · exact ⟨rfl, fun _ => rfl, rfl, rfl, rfl, rfl, rfl, rfl⟩
    · split
      · exact ⟨rfl, fun _ => rfl, rfl, rfl, rfl, rfl, rfl, rfl⟩
      · dsimp only
        split
        · exact takeStable_aside u _ _ _ s
        · exact ⟨rfl, fun _ => rfl, rfl, rfl, rfl, rfl, rfl, rfl⟩

theorem reportGone_aside' (e : TxEntry) (s : State) : Aside s (reportGone e s) := (reportGone_sends e s).aside

theorem countError_aside (s : State) : Aside s (countError s) := by
  have counted : Aside s (s.modLc fun l => { l with errors := min 32 (l.errors + 1) }) := ⟨rfl, fun _ => rfl, rfl, rfl, rfl, rfl, rfl, rfl⟩
  unfold countError
  dsimp only
  split
  · have quiet : Aside s (((s.modLc fun l => { l with errors := min 32 (l.errors + 1) }).modLc fun l =>
        { l with line := .lineQuiet, quietTimer := s.timer 2000 }).modNodeCounters fun c =>
          { c with lineQuietEvents := c.lineQuietEvents.bump }) := ⟨rfl, fun _ => rfl, rfl, rfl, rfl, rfl, rfl, rfl⟩
    exact quiet.trans (report_sends _ _ _ _).aside
  · exact counted

end Sys2Proof.Machine

/-! Every command answers a next state, and it is one of the events'. -/

namespace Sys2Proof.Machine

variable {i : Instr}

/-! ### Resets and loads -/

theorem powerOnValues_restarted (straps straps' : BitVec 6) (s : State) : Restarted (.powerOnReset straps') s (powerOnValues straps s) where
  reset := rfl
  cl := ⟨straps, rfl⟩
  lc := rfl
  pm := rfl
  bu := rfl
  ae := rfl
  su := rfl
  dc := fun u => ⟨false, by cases u <;> rfl⟩
  iu := ⟨false, rfl, fun n => absurd rfl (n straps')⟩
  slots := fun n => absurd rfl (n straps')
  out := ⟨rfl, rfl⟩
  pending := rfl

/-- The node's state as LOADING begins after a node reset (R20, R35). -/
def nodeRestart (straps : BitVec 6) (s : State) : State :=
  { State.reset with
    pins := { s.pins with straps := straps }, cl := Loader.loading straps
    dc := Quad.build fun u => DoorChannel.reset (s.dc.get u).isolationMark
    iu := InterlockUnit.reset s.iu.accessLock
    fr := { s.fr with severePulse := none, minorPulse := none, resetDue := false, resetReported := false }
    out := (holdSafe s).out, freeCount := s.freeCount, pending := s.pending }

theorem nodeReset_eq (straps : BitVec 6) (s : State) : nodeReset straps s = startLoading (nodeRestart straps s) := rfl

theorem nodeRestart_restarted (straps : BitVec 6) (s : State) (h : i.isReset = true) : Restarted i s (nodeRestart straps s) where
  reset := h
  cl := ⟨straps, rfl⟩
  lc := rfl
  pm := rfl
  bu := rfl
  ae := rfl
  su := rfl
  dc := fun u => ⟨(s.dc.get u).isolationMark, Quad.get_build _ u⟩
  iu := ⟨s.iu.accessLock, rfl, fun _ => id⟩
  slots := fun _ => ⟨rfl, rfl⟩
  out := ⟨rfl, rfl⟩
  pending := rfl

theorem startLoading_event {s r : State} (h : loads i = true) (k : Restarted i s r) (acts : r.acts = true) :
    Event i s (startLoading r) := by
  unfold startLoading
  split
  · exact .restarted h k
  · exact .reloaded _ _ h k acts

theorem nodeReset_event (straps : BitVec 6) (s : State) (h : loads i = true) (k : i.isReset = true) : Event i s (nodeReset straps s) := by
  rw [nodeReset_eq]
  exact startLoading_event h (nodeRestart_restarted straps s k) rfl

theorem powerOnReset_event (straps : BitVec 6) (s : State) :
    Event (.powerOnReset straps) s (if s.resetLow then powerOnValues straps s else startLoading (powerOnValues straps s)) := by
  split
  · exact .restarted rfl (powerOnValues_restarted straps straps s)
  · next low => exact startLoading_event rfl (powerOnValues_restarted straps straps s) (by simpa [State.acts, powerOnValues, State.reset] using low)

theorem resetPinRelease_event (straps : BitVec 6) (s : State) :
    Event (.resetPinRelease straps) s (if !s.resetLow then s else if s.supply then nodeReset straps s else { s with resetLow := false }) := by
  split
  · exact .stays
  · split
    · exact nodeReset_event straps s rfl rfl
    · next off => exact .lifted (by simpa using off) rfl

theorem commandedReset_event (straps : BitVec 6) (s : State) :
    Event (.commandedReset straps) s (if s.acts && s.fr.resetReported then nodeReset straps s else s) := by
  split
  · exact nodeReset_event straps s rfl rfl
  · exact .stays

section
variable {s : State} (h : loads i = true) (acts : s.acts = true) (loading : s.cl.phase = .loading)
include h acts loading

theorem refuseLoad_event (reason : LoadReason) : Event i s (refuseLoad reason s) := .loaded _ _ acts loading h

theorem failPass_event : Event i s (failPass s) := by
  unfold failPass
  split
  · exact .failed acts loading h
  · exact refuseLoad_event h acts loading _

theorem takePass_event (bytes : List Byte) : Event i s (takePass bytes s) := by
  unfold takePass
  split
  · exact failPass_event h acts loading
  · split
    · exact refuseLoad_event h acts loading _
    · split
      · exact failPass_event h acts loading
      · exact .loaded _ _ acts loading h

end

theorem reading_iff (s : State) : s.reading = true ↔ s.acts = true ∧ s.cl.phase = .loading := by simp [State.reading]

theorem configReadPass_event (bytes : List Byte) (s : State) :
    Event (.configReadPassComplete bytes) s (if s.reading then takePass bytes s else s) := by
  split
  · next h => exact takePass_event rfl ((reading_iff s).1 h).1 ((reading_iff s).1 h).2 bytes
  · exact .stays

theorem configReadFail_event (s : State) : Event .configReadFail s (if s.reading then failPass s else s) := by
  split
  · next h => exact failPass_event rfl ((reading_iff s).1 h).1 ((reading_iff s).1 h).2
  · exact .stays

/-! ### The ends of the two waits -/

theorem takeMarks_cl (s : State) : (takeMarks s).cl = s.cl := (takeMarks_moves (i := .supplyFall) s).cl rfl

theorem takeMarks_out (s : State) : (takeMarks s).out = s.out := (takeMarks_moves (i := .supplyFall) s).out rfl

/-- RUNNING entered, before the contact is evaluated (R17). -/
def runningBegun (s : State) : State :=
  sendBeacon ((s.modCl fun l => { l with phase := .running, listenTimer := none, runningTime := some s.now }).modPm fun p =>
    { p with absenceTimer := s.timer 5000 })

theorem enterRunning_eq (s : State) : enterRunning s = takeMarks (evalContact (runningBegun s)) := rfl

theorem enterRunning_moves (s : State) : Moves .listenExpiry s (enterRunning s) := by
  have begun : Moves .listenExpiry s (s.modCl fun l => { l with phase := .running, listenTimer := none, runningTime := some s.now }) :=
    (Move.cl _ s rfl rfl).moves
  have timed : Moves .listenExpiry s (runningBegun s) :=
    (begun.trans (Move.pm (fun p => { p with absenceTimer := s.timer 5000 }) _ rfl id (.inr rfl)).moves).trans (sendBeacon_moves rfl _)
  rw [enterRunning_eq]
  exact (timed.trans (Move.contact _ rfl).moves).trans (takeMarks_moves _)

theorem runningBegun_inputs (s : State) : (runningBegun s).contactInputs = s.contactInputs := (sendBeacon_sends _).contactInputs

theorem enterRunning_phase (s : State) : (enterRunning s).cl.phase = .running := by
  rw [enterRunning_eq, takeMarks_cl]
  exact congrArg Loader.phase (sendBeacon_sends _).cl

theorem listenExpiry_event (s : State) :
    Event .listenExpiry s
      (if s.acts && s.cl.phase == .listen then onExpiry s.cl.listenTimer (fun s' => settle s' (enterRunning s')) s else s) := by
  split
  · next h =>
    unfold onExpiry
    split
    · exact .stays
    · next t _ =>
      refine .settled (Bool.and_eq_true_iff.1 h).1 ((reach_moves t s).trans (enterRunning_moves _)) (by simp [enterRunning_phase])
        fun _ => settle_contact (evalContact_true (runningBegun (s.reach t))) (runningBegun_inputs _) ?_ ?_
      · rw [enterRunning_eq, takeMarks_cl]
        exact ⟨rfl, rfl⟩
      · rw [enterRunning_eq, takeMarks_out]
  · exact .stays

theorem quietPeriodEnd_event (s : State) :
    Event .quietPeriodEnd s
      (if s.acts && s.cl.phase == .configFault then onExpiry s.cl.quietTimer (fun s' => settle s' (endQuietPeriod s')) s else s) := by
  split
  · next h =>
    obtain ⟨acts, fault⟩ := Bool.and_eq_true_iff.1 h
    unfold onExpiry
    split
    · exact .stays
    · next t _ =>
      have quiet : Moves .quietPeriodEnd s ((s.reach t).modCl fun l => { l with quietTimer := none }) :=
        (reach_moves t s).trans (Move.cl _ _ rfl rfl).moves
      have sent : Moves .quietPeriodEnd s (endQuietPeriod (s.reach t)) :=
        (quiet.trans (sendBeacon_moves rfl _)).trans (takeMarks_moves _)
      have cl : (endQuietPeriod (s.reach t)).cl = { (s.reach t).cl with quietTimer := none } :=
        (takeMarks_cl _).trans (sendBeacon_sends _).cl
      have kept : (s.reach t).cl = s.cl := (reach_moves (i := .supplyFall) t s).cl rfl
      have out : (s.reach t).out = s.out := (reach_moves (i := .supplyFall) t s).out rfl
      refine .settled acts sent ?_ fun true => settle_contact true (reach_inputs t s).symm ?_ ?_
      · rw [cl, kept, beq_iff_eq.1 fault]
        exact fun e => nomatch e
      · rw [cl, kept]
        exact ⟨rfl, rfl⟩
      · rw [endQuietPeriod, takeMarks_out, sendBeacon, State.modPm_out, enqueue_out, State.modCl_out, out]
  · exact .stays

/-! ### The line -/

theorem attemptStart_event (s : State) : Event .attemptStart s (if s.canSend && s.onLine.isNone then beginAttempt s else s) := by
  split
  · next h =>
    simp only [State.canSend, Bool.and_eq_true, Option.isNone_iff_eq_none] at h
    obtain ⟨⟨⟨takes, _⟩, _⟩, idle⟩ := h
    refine .aside (takes_acts takes) ⟨rfl, rfl, rfl⟩ (Move.begins s idle).moves ?_ ?_ ?_ fun _ => ?_ <;> rw [beginAttempt_eq]
    · exact ⟨rfl, fun _ => rfl, rfl, rfl, rfl, rfl, rfl, rfl⟩
    · exact ⟨rfl, rfl, rfl, rfl, rfl, rfl⟩
    · exact id
  · exact .stays

theorem arbitrationLost_event (s : State) : Event .arbitrationLost s (if s.acts && s.onLine.isSome then endAttempt s else s) := by
  split
  · next h =>
    exact .aside (Bool.and_eq_true_iff.1 h).1 ⟨rfl, rfl, rfl⟩ (endAttempt_moves s)
      ⟨rfl, fun _ => rfl, rfl, rfl, rfl, rfl, rfl, rfl⟩ ⟨rfl, rfl, rfl, rfl, rfl, rfl⟩ id fun _ => rfl
  · exact .stays

theorem reportGone_pm (e : TxEntry) (s : State) : (reportGone e s).pm = s.pm := by rw [reportGone_eq]

theorem report_pm (k : FaultKind) (sev : Severity) (u : Option UnitNo) (s : State) : (report k sev u s).pm = s.pm := by
  unfold report
  dsimp only
  split <;> rfl

theorem sentInFull_event (s : State) :
    Event .sentInFull s
      (match s.onLine with
      | none => s
      | some e => if s.takes then finish (reportGone e (takeSent s)) else s) := by
  split
  · exact .stays
  · next e _ =>
    split
    · next h =>
      have sent : Aside s (takeSent s) := ⟨rfl, fun _ => rfl, rfl, rfl, rfl, rfl, rfl, rfl⟩
      exact .finished (takes_acts h) ⟨rfl, rfl, rfl⟩ (reportSent_moves e s) (sent.trans (reportGone_aside' e _))
        fun _ => congrArg PeerMonitor.cadence (reportGone_pm e _)
    · exact .stays

theorem countError_pm (s : State) : (countError s).pm = s.pm := by
  unfold countError
  dsimp only
  split
  · exact report_pm _ _ _ _
  · rfl

theorem transmitError_event (s : State) :
    Event .transmitError s (if s.takes && s.onLine.isSome then finish (countError (endAttempt s)) else s) := by
  split
  · next h =>
    have ended : Aside s (endAttempt s) := ⟨rfl, fun _ => rfl, rfl, rfl, rfl, rfl, rfl, rfl⟩
    exact .finished (takes_acts (Bool.and_eq_true_iff.1 h).1) ⟨rfl, rfl, rfl⟩ ((endAttempt_moves s).trans (countError_moves _))
      (ended.trans (countError_aside _)) fun _ => congrArg PeerMonitor.cadence (countError_pm _)
  · exact .stays

/-- Node time moves, and with it nothing that an event's end would follow. -/
theorem reach_eq (t : Time) (s : State) : s.reach t = { s with now := (s.reach t).now } := by
  unfold State.reach
  split <;> rfl

theorem reach_aside (t : Time) (s : State) : Aside s (s.reach t) := by
  rw [reach_eq]
  exact ⟨rfl, fun _ => rfl, rfl, rfl, rfl, rfl, rfl, rfl⟩

theorem lineQuietExpiry_event (s : State) :
    Event .lineQuietExpiry s (if s.takes then onExpiry s.lc.quietTimer leaveLineQuiet s else s) := by
  split
  · next h =>
    unfold onExpiry
    split
    · exact .stays
    · next t _ =>
      refine .aside (takes_acts h) ⟨rfl, rfl, rfl⟩ ((reach_moves t s).trans (leaveLineQuiet_moves _)) ?_ ?_ ?_ fun _ => ?_ <;> rw [reach_eq]
      · exact ⟨rfl, fun _ => rfl, rfl, rfl, rfl, rfl, rfl, rfl⟩
      · exact ⟨rfl, rfl, rfl, rfl, rfl, rfl⟩
      · exact id
      · rfl
  · exact .stays

theorem discardedFrame_event (heard : List Byte) (framing : Bool) (s : State) :
    Event (.discardedFrame heard framing) s (if s.hears && (acceptBytes heard framing).isNone then countDiscard s else s) := by
  split
  · next h =>
    have hears := (Bool.and_eq_true_iff.1 h).1
    exact .aside (hears_acts hears) ⟨rfl, rfl, rfl⟩ (countDiscard_moves s) ⟨rfl, fun _ => rfl, rfl, rfl, rfl, rfl, rfl, rfl⟩
      ⟨rfl, rfl, rfl, rfl, rfl, rfl⟩ id fun e => absurd e (hears_phase hears)
  · exact .stays

/-! ### Beacons and the other timers that touch no unit -/

theorem BeaconFollows.congr {s t : State} (h : BeaconFollows s) (acts : t.acts = s.acts) (pm : t.pm = s.pm)
    (summary : t.summary = s.summary) : BeaconFollows t := by
  unfold BeaconFollows
  rw [acts, pm, summary]
  exact h

theorem beaconCadenceExpiry_event (s : State) :
    Event .beaconCadenceExpiry s (if s.loaded then onExpiry s.pm.cadence sendBeacon s else s) := by
  split
  · next h =>
    unfold onExpiry
    split
    · exact .stays
    · next t _ =>
      refine .aside (loaded_acts h) ⟨rfl, rfl, rfl⟩ ((reach_moves t s).trans (sendBeacon_moves rfl _))
        ((reach_aside t s).trans (sendBeacon_sends _).aside) ?_ (fun _ => sendBeacon_follows _) fun e => absurd e (loaded_phase h)
      rw [reach_eq]
      exact sendBeacon_lines { s with now := (s.reach t).now }
  · exact .stays

/-- The gap timer's end keeps the beacon with the summary (R59). -/
theorem endGap_follows {s : State} (h : BeaconFollows s) : BeaconFollows (endGap s) := by
  unfold endGap
  dsimp only
  split
  · split
    · next same => exact fun _ _ => .inl same
    · exact sendBeacon_follows _
  · next settled =>
    intro acts runs
    exact (h acts runs).elim .inl fun pending => absurd pending.1 settled

theorem endGap_aside (s : State) : Aside s (endGap s) := by
  unfold endGap
  dsimp only
  split
  · split
    · exact ⟨rfl, fun _ => rfl, rfl, rfl, rfl, rfl, rfl, rfl⟩
    · have stopped : Aside s (s.modPm fun p => { p with gap := none }) := ⟨rfl, fun _ => rfl, rfl, rfl, rfl, rfl, rfl, rfl⟩
      exact stopped.trans (sendBeacon_sends _).aside
  · exact ⟨rfl, fun _ => rfl, rfl, rfl, rfl, rfl, rfl, rfl⟩

theorem endGap_lines (s : State) : SameLines s (endGap s) := by
  unfold endGap
  dsimp only
  split
  · split
    · exact ⟨rfl, rfl, rfl, rfl, rfl, rfl⟩
    · exact sendBeacon_lines (s.modPm fun p => { p with gap := none })
  · exact ⟨rfl, rfl, rfl, rfl, rfl, rfl⟩

theorem beaconGapTimerExpiry_event (s : State) :
    Event .beaconGapTimerExpiry s (if s.loaded then onExpiry s.pm.gap endGap s else s) := by
  split
  · next h =>
    unfold onExpiry
    split
    · exact .stays
    · next t _ =>
      refine .aside (loaded_acts h) ⟨rfl, rfl, rfl⟩ ((reach_moves t s).trans (endGap_moves rfl _)) ?_ ?_ (fun follows => endGap_follows ?_)
        fun e => absurd e (loaded_phase h) <;> rw [reach_eq]
      · have timed : Aside s { s with now := (s.reach t).now } := ⟨rfl, fun _ => rfl, rfl, rfl, rfl, rfl, rfl, rfl⟩
        exact timed.trans (endGap_aside _)
      · exact endGap_lines { s with now := (s.reach t).now }
      · exact follows
  · exact .stays

/-- The expiry of a timer whose event touches neither units nor closes. -/
theorem onExpiry_finished {timer : Option Time} {g : State → State} {s : State} (h : s.loaded = true) (p : Plain i)
    (m : ∀ s, Moves i s (g s)) (k : ∀ s, Aside s (g s)) : Event i s (onExpiry timer (fun s => finish (g s)) s) := by
  unfold onExpiry
  split
  · exact .stays
  · next t =>
    exact .finished (loaded_acts h) p ((reach_moves t s).trans (m _)) ((reach_aside t s).trans (k _)) fun e => absurd e (loaded_phase h)

theorem onExpiry_loaded_finished {timer : Option Time} {g : State → State} (s : State) (p : Plain i) (m : ∀ s, Moves i s (g s))
    (k : ∀ s, Aside s (g s)) : Event i s (if s.loaded then onExpiry timer (fun s => finish (g s)) s else s) := by
  split
  · next h => exact onExpiry_finished h p m k
  · exact .stays

/-! ### Door Channels -/

theorem setLevels_moves (u : UnitNo) (a b c : Bool) (s : State) : Moves i s (setLevels u a b c s) := modPins_moves u _ s

theorem controlPeriod_event (u : UnitNo) (a b c : Bool) (s : State) :
    Event (.controlPeriod u a b c) s (onUnit u (fun s => evalContact (takePeriod u s)) (setLevels u a b c s)) := by
  unfold onUnit
  split
  · next h =>
    have l : s.loaded = true := active_loaded h
    have period : Moves (.controlPeriod u a b c) s (takePeriod u (setLevels u a b c s)) :=
      (setLevels_moves u a b c s).trans (takePeriod_moves u _)
    refine .settled (loaded_acts l) (period.trans (Move.contact _ rfl).moves) ?_ fun _ => settle_contact_evaluated _ _
    show (takePeriod u (setLevels u a b c s)).cl.phase ≠ _
    rw [(takePeriod_moves (i := .supplyFall) u (setLevels u a b c s)).cl rfl]
    exact loaded_phase l
  · exact .pins _

theorem closes_active {s : State} {u : UnitNo} {c : Bool} {g : State → State} (p : Plain i) (m : ∀ s, Moves i s (g s)) :
    Event i s (if c then onUnit u g s else s) := by
  split
  · exact onUnit_event s p m
  · exact .stays

theorem guarded_unitIn {s : State} {u : UnitNo} {st : UnitState} {c : Bool} {g : State → State} (p : Plain i)
    (m : ∀ s, Moves i s (g s)) : Event i s (if c then onUnitIn u st g s else s) := by
  split
  · exact onUnitIn_event s p m
  · exact .stays

/-- A local event of a part that senses or has loaded, judged from the state it finds. -/
theorem guarded_event {c : Bool} {a s : State} (h : c = true → s.loaded = true) (p : Plain i) (m : Moves i s a) :
    Event i s (if c then settle s a else s) := by
  split
  · next e => exact .onNode (h e) p m
  · exact .stays

/-- A local event of the clock's timers of a unit that senses. -/
theorem guarded_expiry {c : Bool} {timer : Option Time} {g : State → State} {s : State} (h : c = true → s.loaded = true) (p : Plain i)
    (m : ∀ s, Moves i s (g s)) : Event i s (if c then onExpiry timer (fun s => settle s (g s)) s else s) := by
  split
  · next e => exact onExpiry_event (loaded_acts (h e)) (loaded_phase (h e)) p m
  · exact .stays

theorem debounced_inputs (c : Debounced) (s : State) : (s.debounced c).contactInputs = s.contactInputs := by
  unfold State.debounced
  split
  · rfl
  · exact reach_inputs _ s

theorem debounced_event {c : Bool} {cell : Debounced} {g : State → State} {s : State} (h : c = true → s.loaded = true) (p : Plain i)
    (m : ∀ s, Moves i s (g s)) : Event i s (if c then settle (s.debounced cell) (g (s.debounced cell)) else s) := by
  split
  · next e =>
    exact .settles (loaded_acts (h e)) (loaded_phase (h e)) p (debounced_inputs cell s).symm ((debounced_moves cell s).trans (m _))
  · exact .stays

/-- A LATCHED input's event: the pin, and what the cell makes of it. -/
theorem latched_event {c : Bool} {u : UnitNo} {f : UnitPins → UnitPins} {g : State → State} {s : State} (h : c = true → s.active u = true)
    (p : Plain i) (m : ∀ s, Moves i s (g s)) : Event i s (if c then settle s (g (s.modPins u f)) else s.modPins u f) := by
  split
  · next e => exact .onNode (active_loaded (h e)) p ((modPins_moves u f s).trans (m _))
  · exact .pins _

theorem and_left {a b : Bool} (h : (a && b) = true) : a = true := (Bool.and_eq_true_iff.1 h).1

theorem followRaw_edge_aside (u : UnitNo) (c : Debounced) (s : State) : Aside s (s.modSu u fun x => { x with edge := c }) := by
  refine ⟨rfl, fun v => ?_, rfl, rfl, rfl, rfl, rfl, rfl⟩
  show ((s.su.units.set u _).get v).alarm = _
  rw [Quad.get_set]
  split
  · next e => subst e; rfl
  · rfl

theorem edge_summary (u : UnitNo) (c : Debounced) (p : Pins) (s : State) :
    (({ s with pins := p } : State).modSu u fun x => { x with edge := c }).summary = s.summary := by
  have flags : (({ s with pins := p } : State).modSu u fun x => { x with edge := c }).beaconFlags = s.beaconFlags := by
    have alarms : ∀ v, (((({ s with pins := p } : State).modSu u fun x => { x with edge := c }).su.units).get v).alarm =
        (s.su.units.get v).alarm := (followRaw_edge_aside u c { s with pins := p }).alarms
    unfold State.beaconFlags
    simp only [alarms]
    rfl
  unfold State.summary
  simp only [flags]
  rfl

theorem debouncedInputChange_event (input : DebouncedInput) (level : Bool) (s : State) :
    Event (.debouncedInputChange input level) s (followRaw input level (setRaw input level s)) := by
  have moves := (setRaw_moves (i := .debouncedInputChange input level) input level s).trans (followRaw_moves input level _)
  cases input with
  | edge u =>
    by_cases h : (setRaw (.edge u) level s).senses u = true
    · have l : s.loaded = true := senses_loaded (s := setRaw (.edge u) level s) h
      have e : followRaw (.edge u) level (setRaw (.edge u) level s) = (setRaw (.edge u) level s).modSu u fun x =>
          { x with edge := (s.su.units.get u).edge.follow level (s.timer 10) } := if_pos h
      have pinned : Aside s (setRaw (.edge u) level s) := ⟨rfl, fun _ => rfl, rfl, rfl, rfl, rfl, rfl, rfl⟩
      rw [e] at moves ⊢
      refine .aside (loaded_acts l) ⟨rfl, rfl, rfl⟩ moves (pinned.trans (followRaw_edge_aside u _ _))
        ⟨rfl, rfl, rfl, rfl, rfl, rfl⟩ (fun follows => follows.congr rfl rfl (edge_summary u _ _ s)) fun _ => rfl
    · have e : followRaw (.edge u) level (setRaw (.edge u) level s) = setRaw (.edge u) level s := if_neg h
      rw [e]
      exact .pins _
  | wire =>
    by_cases h : s.loaded = true
    · have e : followRaw .wire level (setRaw .wire level s) =
          (setRaw .wire level s).setWireCell (s.su.wire.follow level (s.timer 50)) := if_pos h
      rw [e] at moves ⊢
      exact .aside (loaded_acts h) ⟨rfl, rfl, rfl⟩ moves ⟨rfl, fun _ => rfl, rfl, rfl, rfl, rfl, rfl, rfl⟩
        ⟨rfl, rfl, rfl, rfl, rfl, rfl⟩ id fun _ => rfl
    · have e : followRaw .wire level (setRaw .wire level s) = setRaw .wire level s := if_neg h
      rw [e]
      exact .pins _

/-! ### Closes and windows -/

theorem closeCycleWarningEnd_event (s : State) :
    Event .closeCycleWarningEnd s
      (match s.bu.cycle with
      | none => s
      | some c =>
        match firstRunning c.warnings with
        | none => s
        | some n =>
          if s.loaded then settle (s.reach (warningAt c.warnings n).stop) (endCycleWarning c n (s.reach (warningAt c.warnings n).stop))
          else s) := by
  split
  · exact .stays
  · next c some =>
    split
    · exact .stays
    · next n _ =>
      split
      · next h =>
        refine .settles (loaded_acts h) (loaded_phase h) ⟨rfl, rfl, rfl⟩ (reach_inputs _ s).symm
          ((reach_moves _ s).trans (endCycleWarning_moves ?_))
        rw [reach_eq]
        exact some
      · exact .stays

theorem accessCloseWarningEnd_event (s : State) :
    Event .accessCloseWarningEnd s
      (match s.iu.accessClose with
      | none => s
      | some a =>
        match firstRunning a.warnings with
        | none => s
        | some n =>
          if s.loaded then settle (s.reach (warningAt a.warnings n).stop) (endAccessWarning a n (s.reach (warningAt a.warnings n).stop))
          else s) := by
  split
  · exact .stays
  · split
    · exact .stays
    · split
      · next h =>
        exact .settles (loaded_acts h) (loaded_phase h) ⟨rfl, rfl, rfl⟩ (reach_inputs _ s).symm
          ((reach_moves _ s).trans (endAccessWarning_moves _ _ _))
      · exact .stays

theorem onWindow_event {s : State} (h : s.loaded = true) (p : Plain i) : Event i s (onWindow s) := by
  unfold onWindow onExpiry
  split
  · exact .stays
  · next t open' =>
    refine .settles (loaded_acts h) (loaded_phase h) p (reach_inputs t s).symm ((reach_moves t s).trans (closeWindow_moves _ ?_))
    rw [reach_eq]
    exact Option.isSome_iff_exists.2 ⟨t, open'⟩

theorem fusionWindowExpiry_event (s : State) : Event .fusionWindowExpiry s (if s.loaded then onWindow s else s) := by
  split
  · next h => exact onWindow_event h ⟨rfl, rfl, rfl⟩
  · exact .stays

theorem heldRelease_event (s : State) :
    Event .heldRelease s
      (if s.loaded && s.bu.berth.pendingRelease then
        match s.berthState with
        | .fusing => onWindow s
        | .fixed => settle s (judgeHeld s)
        | _ => s
      else s) := by
  split
  · next h =>
    have l := and_left h
    split
    · exact onWindow_event l ⟨rfl, rfl, rfl⟩
    · next fixed => exact .onNode l ⟨rfl, rfl, rfl⟩ (judgeHeld_moves s fixed)
    · exact .stays
  · exact .stays

end Sys2Proof.Machine

/-! The event of each command. -/

namespace Sys2Proof.Machine

variable {i : Instr}

/-- A frame that passes its checks comes from a number permitted to send its kind (R41). -/
theorem frame_source {f : Frame} (h : f.ok = true) : f.kind.sourceOk f.source = true := by
  simp only [Frame.ok, Bool.and_eq_true] at h
  exact h.1.2

theorem onResetNode_moves (src : Node) (dest byte arg : Byte) (s : State) :
    Moves (.resetNode src byte arg) s (onResetNode src dest s) := by
  unfold onResetNode
  split
  · exact takeResetNode_moves s
  · exact Moves.refl s

theorem overCurrent_moves (u : UnitNo) (s : State) : Moves i s (obstacle u (s.modDc u fun d => { d with overCount := 3 })) := by
  have counted : Moves i s (s.modDc u fun d => { d with overCount := 3 }) := setDc_moves s rfl rfl rfl (.inl rfl)
  exact counted.trans (obstacle_moves u _)

theorem alignmentReading_event (u : UnitNo) (r : Reading) (s : State) :
    Event (.alignmentReading u r) s (if s.active u then finish (takeReading u (checkReading r) (restartAlign u 40 s)) else s) := by
  split
  · next h =>
    have l := active_loaded h
    exact .finished (loaded_acts l) ⟨rfl, rfl, rfl⟩ ((restartAlign_moves u 40 s).trans (takeReading_moves u _ _))
      ((restartAlign_aside u 40 s).trans (takeReading_aside u _ _)) fun e => absurd e (loaded_phase l)
  · exact .stays

theorem alignmentReadingTimeout_event (u : UnitNo) (s : State) :
    Event (.alignmentReadingTimeout u) s
      (if s.active u then
        onExpiry (s.su.units.get u).alignTimer (fun s => finish (takeReading u none (restartAlign u 20 s))) s
      else s) := by
  split
  · next h =>
    exact onExpiry_finished (active_loaded h) ⟨rfl, rfl, rfl⟩ (fun s => (restartAlign_moves u 20 s).trans (takeReading_moves u _ _))
      fun s => (restartAlign_aside u 20 s).trans (takeReading_aside u _ _)
  · exact .stays

theorem zeroKinds_aside (s : State) : Aside s (zeroKinds s) := ⟨rfl, fun _ => rfl, rfl, rfl, rfl, rfl, rfl, rfl⟩

theorem zeroNode_aside (s : State) : Aside s (zeroNode s) := ⟨rfl, fun _ => rfl, rfl, rfl, rfl, rfl, rfl, rfl⟩

theorem zeroNode_moves (s : State) : Moves i s (zeroNode s) := modNodeCounters_moves _ s

/-- A QUERY answered where its data reads the state and its clear mark touches counters alone. -/
theorem query_event {f : Frame} {src : Node} {topic : Topic} {dest arg clear : Byte} {data : State → List Byte} {zero : State → State}
    (s : State) (p : Plain i) (m : ∀ s, Moves i s (zero s)) (k : ∀ s, Aside s (zero s)) :
    Event i s (onFrame f (onQuery dest fun s => answerQuery src topic arg clear (data s) zero s) s) :=
  onFrame_event s p (fun x _ _ => onQuery_moves (fun s => answerQuery_moves m s) x) (onQuery_aside fun s => answerQuery_aside k s)

theorem takeGap_moves (u : UnitNo) (occ : Bool) (t : Option Time) (s : State) :
    Moves i s (feedGap u occ (s.modSu u fun x => { x with gapTimer := t })) := by
  have timed : Moves i s (s.modSu u fun x => { x with gapTimer := t }) := setSu_moves s (.inl rfl) (.inl rfl)
  exact timed.trans (feedGap_moves u occ _)

theorem takeZone_moves (u : UnitNo) (occ : Bool) (t : Option Time) (s : State) :
    Moves i s (feedZone u occ (s.modSu u fun x => { x with zoneTimer := t })) := by
  have timed : Moves i s (s.modSu u fun x => { x with zoneTimer := t }) := setSu_moves s (.inl rfl) (.inl rfl)
  exact timed.trans (feedZone_moves u occ _)

/-- Every command answers a next state, and its event is one of `Event`'s. -/
theorem exec_event (i : Instr) (s : State) : ∃ t, Sys2Proof.Machine.exec i s = .next t ∧ Event i s t := by
  cases i with
  | powerOnReset straps => exact ⟨_, rfl, powerOnReset_event straps s⟩
  | supplyFall => exact ⟨_, rfl, .held false s.resetLow rfl rfl⟩
  | resetPinLow => exact ⟨_, rfl, .held s.supply true (Bool.and_false _) rfl⟩
  | resetPinRelease straps => exact ⟨_, rfl, resetPinRelease_event straps s⟩
  | configReadPassComplete bytes => exact ⟨_, rfl, configReadPass_event bytes s⟩
  | configReadFail => exact ⟨_, rfl, configReadFail_event s⟩
  | listenExpiry => exact ⟨_, rfl, listenExpiry_event s⟩
  | quietPeriodEnd => exact ⟨_, rfl, quietPeriodEnd_event s⟩
  | attemptStart => exact ⟨_, rfl, attemptStart_event s⟩
  | sentInFull => exact ⟨_, rfl, sentInFull_event s⟩
  | arbitrationLost => exact ⟨_, rfl, arbitrationLost_event s⟩
  | transmitError => exact ⟨_, rfl, transmitError_event s⟩
  | lineQuietExpiry => exact ⟨_, rfl, lineQuietExpiry_event s⟩
  | discardedFrame heard framing => exact ⟨_, rfl, discardedFrame_event heard framing s⟩
  | stationEmergencyOpen src =>
    exact ⟨_, rfl, onFrameSettling_event s ⟨rfl, rfl, rfl⟩ fun x _ _ => takeOpenCall_moves x⟩
  | stationEmergencyReset src =>
    exact ⟨_, rfl, onFrameSettling_event s ⟨rfl, rfl, rfl⟩ fun x _ _ => takeResetCall_moves x⟩
  | alertHandle src unit seq =>
    exact ⟨_, rfl, onFrameSettling_event s ⟨rfl, rfl, rfl⟩ fun x ok peer => inRunning_moves x (takeAlert_moves x (frame_source ok) peer)⟩
  | alert src kind unit seq =>
    exact ⟨_, rfl, onFrameSettling_event s ⟨rfl, rfl, rfl⟩ fun x ok peer => inRunning_moves x (takeAlert_moves x (frame_source ok) peer)⟩
  | berth src seq consist s0 d1 d2 d3 =>
    exact ⟨_, rfl, onFrameSettling_event s ⟨rfl, rfl, rfl⟩ fun x _ _ => inRunning_moves x (onBerth_moves _ _ _ _ x)⟩
  | berthExt src seq d1 d2 d3 d4 d5 d6 d7 =>
    exact ⟨_, rfl, onFrame_event s ⟨rfl, rfl, rfl⟩ (fun x _ _ => inRunning_moves x (onSequence_moves x (onBerthExt_moves _ x)))
      fun x => inRunning_aside x (onSequence_aside x (onBerthExt_aside _ x))⟩
  | standstill src seq =>
    exact ⟨_, rfl, onFrameSettling_event s ⟨rfl, rfl, rfl⟩ fun x _ _ => inRunning_moves x (onSequence_moves x (onStandstill_moves x))⟩
  | release src seq =>
    exact ⟨_, rfl, onFrameSettling_event s ⟨rfl, rfl, rfl⟩ fun x _ _ => inRunning_moves x (onSequence_moves x (onRelease_moves x))⟩
  | close src seq =>
    exact ⟨_, rfl, onFrameSettling_event s ⟨rfl, rfl, rfl⟩ fun x _ _ => inRunning_moves x (onSequence_moves x (onClose_moves x))⟩
  | reopen src seq =>
    exact ⟨_, rfl, onFrameSettling_event s ⟨rfl, rfl, rfl⟩ fun x _ _ => inRunning_moves x (onSequence_moves x (onReopen_moves x))⟩
  | depart src seq =>
    exact ⟨_, rfl, onFrameSettling_event s ⟨rfl, rfl, rfl⟩ fun x _ _ => inRunning_moves x (onSequence_moves x (onDepart_moves x))⟩
  | holdStart src seq car =>
    exact ⟨_, rfl, onFrameSettling_event s ⟨rfl, rfl, rfl⟩ fun x _ _ => inRunning_moves x (onHold_moves x (holdStartList_moves _ _ x))⟩
  | holdEnd src seq car =>
    exact ⟨_, rfl, onFrameSettling_event s ⟨rfl, rfl, rfl⟩ fun x _ _ => inRunning_moves x (onHold_moves x (filterHolds_moves _ x))⟩
  | edge src seq unit quality door stop =>
    exact ⟨_, rfl, onFrame_event s ⟨rfl, rfl, rfl⟩ (fun x _ peer => inRunning_moves x (takeEdge_moves x peer))
      fun x => inRunning_aside x (takeEdge_aside _ _ _ _ _ _ x)⟩
  | beacon src content =>
    exact ⟨_, rfl, onFrameSettling_event s ⟨rfl, rfl, rfl⟩ fun x ok peer => takeBeacon_moves x (frame_source ok) peer⟩
  | result src requester sub arg outcome code =>
    exact ⟨_, rfl, onFrame_event s ⟨rfl, rfl, rfl⟩ (fun x _ _ => Moves.refl x) Aside.refl⟩
  | answer src requester topic arg part count data =>
    exact ⟨_, rfl, onFrame_event s ⟨rfl, rfl, rfl⟩ (fun x _ _ => Moves.refl x) Aside.refl⟩
  | isolate src dest arg =>
    exact ⟨_, rfl, onFrameSettling_event s ⟨rfl, rfl, rfl⟩ fun x _ _ => onCommand_moves (unitCommand_moves isolateUnit_moves) x⟩
  | restore src dest arg =>
    exact ⟨_, rfl, onFrameSettling_event s ⟨rfl, rfl, rfl⟩ fun x _ _ => onCommand_moves (unitCommand_moves restoreUnit_moves) x⟩
  | rehome src dest arg =>
    exact ⟨_, rfl, onFrameSettling_event s ⟨rfl, rfl, rfl⟩ fun x _ _ => onCommand_moves (unitCommand_moves rehomeUnit_moves) x⟩
  | ackRelease src dest arg =>
    exact ⟨_, rfl, onFrameSettling_event s ⟨rfl, rfl, rfl⟩ fun x _ _ => onCommand_moves (unitCommand_moves ackReleaseUnit_moves) x⟩
  | ackFault src dest arg =>
    exact ⟨_, rfl, onFrame_event s ⟨rfl, rfl, rfl⟩ (fun x _ _ => onCommand_moves takeAckFault_moves x)
      (onCommand_aside (takeAckFault_aside src arg))⟩
  | accessOpen src dest arg =>
    exact ⟨_, rfl, onFrameSettling_event s ⟨rfl, rfl, rfl⟩ fun x _ _ =>
      onCommand_moves (fun s => unitCommand_moves (accessOpenUnit_moves s.accessRefusal) s) x⟩
  | accessClose src dest arg =>
    exact ⟨_, rfl, onFrameSettling_event s ⟨rfl, rfl, rfl⟩ fun x _ _ => onCommand_moves (takeAccessClose_moves src arg) x⟩
  | accessLock src dest arg =>
    exact ⟨_, rfl, onFrame_event s ⟨rfl, rfl, rfl⟩ (fun x _ _ => onCommand_moves (takeAccessLock_moves src) x)
      (onCommand_aside (takeAccessLock_aside src))⟩
  | resetNode src dest arg =>
    exact ⟨_, rfl, onFrame_event s ⟨rfl, rfl, rfl⟩ (fun x _ _ => onResetNode_moves src dest dest arg x) (onResetNode_aside src dest)⟩
  | commandedReset straps => exact ⟨_, rfl, commandedReset_event straps s⟩
  | queryFaults src dest arg clear => exact ⟨_, rfl, query_event s ⟨rfl, rfl, rfl⟩ zeroKinds_moves zeroKinds_aside⟩
  | queryUnitCounters src dest arg clear =>
    exact ⟨_, rfl, onFrame_event s ⟨rfl, rfl, rfl⟩ (fun x _ _ => onQuery_moves (answerUnit_moves src arg clear) x)
      (onQuery_aside (answerUnit_aside src arg clear))⟩
  | queryNodeCounters src dest arg clear => exact ⟨_, rfl, query_event s ⟨rfl, rfl, rfl⟩ zeroNode_moves zeroNode_aside⟩
  | queryBerth src dest arg clear => exact ⟨_, rfl, query_event s ⟨rfl, rfl, rfl⟩ Moves.refl Aside.refl⟩
  | queryServiceMap src dest arg clear => exact ⟨_, rfl, query_event s ⟨rfl, rfl, rfl⟩ Moves.refl Aside.refl⟩
  | queryPeer src dest arg clear =>
    exact ⟨_, rfl, query_event s ⟨rfl, rfl, rfl⟩ (zeroSilence_moves arg) (zeroSilence_aside arg)⟩
  | controlSample u motion current =>
    refine ⟨_, rfl, onUnit_event s ⟨rfl, rfl, rfl⟩ fun s => ?_⟩
    split
    · exact takeSample_moves u motion current s
    · exact takeMissed_moves u s
  | controlPeriod u lockEngaged closed driveFault => exact ⟨_, rfl, controlPeriod_event u lockEngaged closed driveFault s⟩
  | missedControlPeriod u => exact ⟨_, rfl, onUnit_event s ⟨rfl, rfl, rfl⟩ (takeMissed_moves u)⟩
  | missedRunDriveFault u => exact ⟨_, rfl, onUnit_event s ⟨rfl, rfl, rfl⟩ fun s => setDc_moves s rfl rfl rfl (.inl rfl)⟩
  | driveFaultTaken u => exact ⟨_, rfl, closes_active ⟨rfl, rfl, rfl⟩ (takeDriveFault_moves u)⟩
  | unlockComplete u =>
    exact ⟨_, rfl, onUnitIn_event s ⟨rfl, rfl, rfl⟩ fun s => (modPins_moves u _ s).trans (enterOpening_moves u _)⟩
  | unlockTimeout u => exact ⟨_, rfl, onUnitTimer_event s ⟨rfl, rfl, rfl⟩ (failUnlock_moves u)⟩
  | lockComplete u =>
    exact ⟨_, rfl, onUnitIn_event s ⟨rfl, rfl, rfl⟩ fun s => (modPins_moves u _ s).trans (comeClosed_moves u _)⟩
  | lockingTimeout u => exact ⟨_, rfl, onUnitTimer_event s ⟨rfl, rfl, rfl⟩ (enterFault_moves _ u)⟩
  | lockWatchTimeout u => exact ⟨_, rfl, onUnitTimer_event s ⟨rfl, rfl, rfl⟩ (enterFault_moves _ u)⟩
  | openingComplete u =>
    exact ⟨_, rfl, onUnitIn_event s ⟨rfl, rfl, rfl⟩ fun s => (atFullTravel_moves u s).trans (openingDone_moves u _)⟩
  | pendingCloseTaken u =>
    exact ⟨_, rfl, guarded_unitIn ⟨rfl, rfl, rfl⟩ fun s => (atFullTravel_moves u s).trans (openingDone_moves u _)⟩
  | closingTravelEnd u =>
    exact ⟨_, rfl, onUnitIn_event s ⟨rfl, rfl, rfl⟩ fun s => (modPins_moves u _ s).trans (enterLocking_moves u _)⟩
  | reversingComplete u =>
    exact ⟨_, rfl, onUnitIn_event s ⟨rfl, rfl, rfl⟩ fun s => (atFullTravel_moves u s).trans (reverseDone_moves u _)⟩
  | obstacleCurrent u =>
    exact ⟨_, rfl, closes_active ⟨rfl, rfl, rfl⟩ (overCurrent_moves u)⟩
  | reopenPauseEnd u => exact ⟨_, rfl, onUnitTimer_event s ⟨rfl, rfl, rfl⟩ (endReopenPause_moves u)⟩
  | stallTimerExpiry u => exact ⟨_, rfl, onUnitTimer_event s ⟨rfl, rfl, rfl⟩ (takeStall_moves u)⟩
  | stallPauseEnd u => exact ⟨_, rfl, onUnitTimer_event s ⟨rfl, rfl, rfl⟩ (endStallPause_moves u)⟩
  | travelTimerExpiry u => exact ⟨_, rfl, onUnitTimer_event s ⟨rfl, rfl, rfl⟩ (enterFault_moves _ u)⟩
  | homingClosed u =>
    exact ⟨_, rfl, onUnitIn_event s ⟨rfl, rfl, rfl⟩ fun s => (modPins_moves u _ s).trans (enterLocking_moves u _)⟩
  | homingWaitEnd u => exact ⟨_, rfl, onUnitTimer_event s ⟨rfl, rfl, rfl⟩ (endHomingWait_moves u)⟩
  | homingTimerExpiry u => exact ⟨_, rfl, onUnitTimer_event s ⟨rfl, rfl, rfl⟩ (enterFault_moves _ u)⟩
  | alignmentReading u reading => exact ⟨_, rfl, alignmentReading_event u reading s⟩
  | alignmentReadingTimeout u => exact ⟨_, rfl, alignmentReadingTimeout_event u s⟩
  | fusionWindowExpiry => exact ⟨_, rfl, fusionWindowExpiry_event s⟩
  | heldRelease => exact ⟨_, rfl, heldRelease_event s⟩
  | gapSample u sample =>
    exact ⟨_, rfl, guarded_event senses_loaded ⟨rfl, rfl, rfl⟩ (takeGap_moves u _ _ s)⟩
  | gapSampleTimeout u =>
    exact ⟨_, rfl, guarded_expiry senses_loaded ⟨rfl, rfl, rfl⟩ fun s => takeGap_moves u true _ s⟩
  | gapFilterRelease u =>
    exact ⟨_, rfl, guarded_event (fun h => senses_loaded (and_left h)) ⟨rfl, rfl, rfl⟩ (releaseGap_moves u s)⟩
  | zoneSample u sample =>
    exact ⟨_, rfl, guarded_event senses_loaded ⟨rfl, rfl, rfl⟩ (takeZone_moves u _ _ s)⟩
  | zoneSampleTimeout u =>
    exact ⟨_, rfl, guarded_expiry senses_loaded ⟨rfl, rfl, rfl⟩ fun s => takeZone_moves u false _ s⟩
  | debouncedInputChange input level => exact ⟨_, rfl, debouncedInputChange_event input level s⟩
  | sensitiveEdgeChange u level =>
    exact ⟨_, rfl, debounced_event (fun h => senses_loaded (and_left h)) ⟨rfl, rfl, rfl⟩ (changeEdge_moves u level)⟩
  | emergencyWireAssert => exact ⟨_, rfl, debounced_event and_left ⟨rfl, rfl, rfl⟩ assertWire_moves⟩
  | emergencyWireClear => exact ⟨_, rfl, debounced_event and_left ⟨rfl, rfl, rfl⟩ clearWire_moves⟩
  | handleOperation u => exact ⟨_, rfl, latched_event and_left ⟨rfl, rfl, rfl⟩ (operateHandle_moves u)⟩
  | handleReturn u => exact ⟨_, rfl, latched_event and_left ⟨rfl, rfl, rfl⟩ (returnHandle_moves u)⟩
  | panelOperation u => exact ⟨_, rfl, latched_event and_left ⟨rfl, rfl, rfl⟩ (operatePanel_moves u)⟩
  | panelReturn u => exact ⟨_, rfl, latched_event and_left ⟨rfl, rfl, rfl⟩ (returnPanel_moves u)⟩
  | silenceTimerExpiry node => exact ⟨_, rfl, onExpiry_loaded_event s ⟨rfl, rfl, rfl⟩ (fallSilent_moves node)⟩
  | beaconCadenceExpiry => exact ⟨_, rfl, beaconCadenceExpiry_event s⟩
  | beaconGapTimerExpiry => exact ⟨_, rfl, beaconGapTimerExpiry_event s⟩
  | neighbourAbsenceExpiry =>
    exact ⟨_, rfl, onExpiry_loaded_finished s ⟨rfl, rfl, rfl⟩ passAbsence_moves fun s =>
      ⟨rfl, fun _ => rfl, rfl, rfl, rfl, rfl, rfl, rfl⟩⟩
  | closeCycleWarningEnd => exact ⟨_, rfl, closeCycleWarningEnd_event s⟩
  | memberRelease u => exact ⟨_, rfl, onUnit_event s ⟨rfl, rfl, rfl⟩ (judgeMember_moves u)⟩
  | memberDeadline u => exact ⟨_, rfl, onExpiry_loaded_event s ⟨rfl, rfl, rfl⟩ (judgeMember_moves u)⟩
  | ownHoldDeadline car => exact ⟨_, rfl, onExpiry_loaded_event s ⟨rfl, rfl, rfl⟩ (endHold_moves car)⟩
  | departureCloseWarningEnd => exact ⟨_, rfl, onExpiry_loaded_event s ⟨rfl, rfl, rfl⟩ endDepartureWarning_moves⟩
  | departureCloseRequest u => exact ⟨_, rfl, onUnit_event s ⟨rfl, rfl, rfl⟩ (judgeCovered_moves u)⟩
  | departureCloseDeadline => exact ⟨_, rfl, onExpiry_loaded_event s ⟨rfl, rfl, rfl⟩ (forUnits_moves judgeCovered_moves)⟩
  | emergencyCloseWarningEnd => exact ⟨_, rfl, onExpiry_loaded_event s ⟨rfl, rfl, rfl⟩ endEmergencyWarning_moves⟩
  | emergencyCloseRequest u => exact ⟨_, rfl, onUnit_event s ⟨rfl, rfl, rfl⟩ (judgeEmergencyMember_moves u)⟩
  | emergencyCloseDeadline u => exact ⟨_, rfl, onExpiry_loaded_event s ⟨rfl, rfl, rfl⟩ (judgeEmergencyMember_moves u)⟩
  | accessCloseWarningEnd => exact ⟨_, rfl, accessCloseWarningEnd_event s⟩
  | accessCloseRequest u => exact ⟨_, rfl, onUnit_event s ⟨rfl, rfl, rfl⟩ (judgeAccessMember_moves u)⟩
  | accessCloseDeadline u => exact ⟨_, rfl, onExpiry_loaded_event s ⟨rfl, rfl, rfl⟩ (judgeAccessMember_moves u)⟩
  | pulseTimerExpiry line =>
    exact ⟨_, rfl, onExpiry_loaded_finished s ⟨rfl, rfl, rfl⟩ (stopPulse_moves line) fun s =>
      ⟨rfl, fun _ => rfl, rfl, rfl, rfl, rfl, rfl, rfl⟩⟩

end Sys2Proof.Machine

/-! What every step keeps. -/

namespace Sys2Proof.Machine

variable {i : Instr}

/-! ### Events -/

/-- A property of the stores that every move keeps and a reset restores, every event keeps. -/
theorem Event.keeps {P : State → Prop} (move : ∀ i s t, Move i s t → P s → P t) (out : ∀ s o, P s → P { s with out := o })
    (held : ∀ s supply low, P s → P { holdSafe s with supply := supply, resetLow := low })
    (lifted : ∀ s, P s → P { s with resetLow := false }) (restart : ∀ i s r, Restarted i s r → P r) {s t : State} (e : Event i s t)
    (h : P s) : P t := by
  have load : ∀ {o c r}, loads i = true → P r → P (endLoad o c r) := fun l p =>
    out _ _ ((loadStarted_moves (loads_startsUp l) _ _ _).keeps (move i) p)
  cases e with
  | stays => exact h
  | pins p => exact move i s _ (.pins p s) h
  | aside _ _ m => exact m.keeps (move i) h
  | finished _ _ m => exact finish_keeps (move _) out (m.keeps (move i) h)
  | settled _ m => exact settle_keeps (move _) out (m.keeps (move i) h)
  | held supply low => exact held s supply low h
  | lifted => exact lifted s h
  | failed _ _ l => exact move i s _ (.cl _ s (loads_startsUp l) rfl) h
  | loaded o c _ _ l => exact load l h
  | restarted _ k => exact restart i s t k
  | reloaded o c l k => exact load l (restart i s _ k)

/-- A property that the queue of commands and the clock have no part in, that every command's event keeps, every step keeps. -/
theorem step_keeps_events {P : State → Prop} (queue : ∀ s q, P s → P { s with pending := q })
    (clock : ∀ s, P s → P { s with now := s.now + 1 }) (k : ∀ i s t, Event i s t → P s → P t) {s t : State} (h : P s)
    (e : Sys2Proof.Machine.step s = .next t) : P t := by
  refine step_keeps queue clock (fun i s t p e => ?_) h e
  obtain ⟨t', e', event⟩ := exec_event i s
  obtain rfl : t' = t := by
    rw [e'] at e
    injection e
  exact k i s t' event p

/-! ### The Transmit Queue and the stores -/

theorem event_queueOk {s t : State} (e : Event i s t) (h : QueueOk s.lc.queue) : QueueOk t.lc.queue :=
  e.keeps (P := fun x => QueueOk x.lc.queue) (fun _ _ _ => move_queueOk) (fun _ _ => id) (fun _ _ _ => endAttempt_queueOk)
    (fun _ => id)
    (fun _ _ r k => by
      rw [k.lc]
      exact ⟨Nat.zero_le 16, List.Pairwise.nil, Nat.zero_le 1, Nat.zero_le 1⟩) h

/-- Settles O15, by `move_queueOk`: every place at which an entry is put, changed or taken keeps the queue's order and bounds. -/
theorem queueStaysOk : Obligations.QueueStaysOk := by
  unfold Obligations.QueueStaysOk
  exact fun s t h => step_keeps_events (P := fun x => QueueOk x.lc.queue) (fun _ _ => id) (fun _ => id)
    (fun _ _ _ => event_queueOk) h

theorem Restarted.storesOk {s r : State} (k : Restarted i s r) : StoresOk r := by
  obtain ⟨lock, iu, -⟩ := k.iu
  unfold StoresOk WindowsOk OwnHoldsOk
  rw [k.ae, k.bu, iu, k.su, k.pm]
  refine ⟨⟨List.Pairwise.nil, fun _ h => (nomatch h), Nat.zero_le 60⟩, ⟨Nat.zero_le 16, List.Pairwise.nil⟩,
    ⟨List.Pairwise.nil, fun _ h => (nomatch h)⟩, fun u => ?_, rfl, ⟨Nat.zero_le 10, List.nodup_nil⟩, fun _ h => nomatch h⟩
  cases u <;> exact ⟨Nat.zero_le 5, Nat.zero_le 10, Nat.zero_le 5⟩

theorem event_storesOk {s t : State} (e : Event i s t) (h : StoresOk s) : StoresOk t :=
  e.keeps (fun _ _ _ => move_storesOk) (fun _ _ => id) (fun _ _ _ => id) (fun _ => id) (fun _ _ _ => Restarted.storesOk) h

/-- Settles O56, by `move_storesOk`. -/
theorem storesStayOk : Obligations.StoresStayOk := by
  unfold Obligations.StoresStayOk
  exact fun s t h => step_keeps_events (fun _ _ => id) (fun _ => id) (fun _ _ _ => event_storesOk) h

/-! ### The outputs of the Door Channels -/

theorem Restarted.outputsFollow {s r : State} (k : Restarted i s r) : OutputsFollow r := by
  intro u
  obtain ⟨mark, d⟩ := k.dc u
  rw [State.unit, d]
  simp [DoorChannel.reset, UnitState.driven, UnitState.energised]

theorem holdSafe_dc (s : State) (u : UnitNo) : (holdSafe s).dc.get u = (s.dc.get u).off := Quad.get_build _ u

theorem holdSafe_unit (s : State) (u : UnitNo) : (holdSafe s).unit u = s.unit u := by
  rw [State.unit, holdSafe_dc]
  rfl

theorem Drives.driveLines {s : State} (h : Drives s) : OutputsFollow (driveLines s) := h.2

theorem loadStarted_drives {r : State} (o : LoadOutcome) (c : NodeConfig) (l : loads i = true) (h : Drives r) :
    OutputsFollow (endLoad o c r) := by
  have started : Drives (loadStarted o c r) := (loadStarted_moves (loads_startsUp l) o c r).keeps (fun _ _ => move_drives) h
  rw [endLoad_lines]
  exact started.driveLines

theorem event_outputsFollow {s t : State} (e : Event i s t) (h : OutputsFollow s) : OutputsFollow t := by
  have moved : ∀ {a}, s.acts = true → Moves i s a → Drives a := fun acts m => m.keeps (fun _ _ => move_drives) ⟨acts, h⟩
  cases e with
  | stays => exact h
  | pins p => exact h
  | aside acts _ m => exact (moved acts m).2
  | finished acts _ m => exact (finish_keeps (P := Drives) (fun _ _ => move_drives) (fun _ _ => id) (moved acts m)).2
  | settled acts m => exact (settle_keeps (P := Drives) (fun _ _ => move_drives) (fun _ _ => id) (moved acts m)).2
  | held supply low off =>
    intro u
    have acts : ({ holdSafe s with supply := supply, resetLow := low } : State).acts = false := off
    rw [acts, show ({ holdSafe s with supply := supply, resetLow := low } : State).dc.get u = _ from holdSafe_dc s u]
    exact ⟨rfl, rfl, fun _ => rfl⟩
  | lifted off =>
    intro u
    have rest := h u
    have still : s.acts = false := by simp [State.acts, off]
    have acts : ({ s with resetLow := false } : State).acts = false := by simp [State.acts, off]
    rw [still] at rest
    rw [acts]
    exact rest
  | failed => exact h
  | loaded o c acts _ l => exact loadStarted_drives o c l ⟨acts, h⟩
  | restarted _ k => exact k.outputsFollow
  | reloaded o c l k acts => exact loadStarted_drives o c l ⟨acts, k.outputsFollow⟩

/-- Settles O58: a unit's outputs change with its state's row (`Entered`), and within a state the setpoint alone moves, where the
enable is on. -/
theorem outputsStayRight : Obligations.OutputsStayRight := by
  unfold Obligations.OutputsStayRight
  exact fun s t h => step_keeps_events (fun _ _ => id) (fun _ => id) (fun _ _ _ => event_outputsFollow) h

/-! ### The Secure Contact -/

theorem driveLines_contact (s : State) : (driveLines s).out.contact = s.out.contact := rfl

theorem driveLines_warning (s : State) : (driveLines s).out.warning = s.out.warning := rfl

theorem driveLines_pm (s : State) : (driveLines s).pm = s.pm := rfl

theorem loadStarted_out (o : LoadOutcome) (c : NodeConfig) (s : State) : (loadStarted o c s).out = s.out :=
  (loadStarted_moves (i := .configReadFail) rfl o c s).out rfl

theorem endLoad_contact (o : LoadOutcome) (c : NodeConfig) (s : State) : (endLoad o c s).out.contact = s.out.contact := by
  rw [endLoad_lines, driveLines_contact, loadStarted_out]

/-- A contact that stands open is true. -/
theorem contactTrue_open {s : State} (h : s.out.contact = false) : ContactTrue s := fun closed => by
  rw [h] at closed
  cases closed

theorem event_contactTrue {s t : State} (e : Event i s t) (h : ContactTrue s) : ContactTrue t := by
  have moved : ∀ {a}, Plain i → Moves i s a → Aside s a → ContactTrue a := fun p m k =>
    h.congr (by rw [m.out p.2.2]) (by rw [m.cl p.1]) (by rw [m.cl p.1]) k.contactInputs
  cases e with
  | stays => exact h
  | pins p => exact h
  | aside _ p m k => exact moved p m k
  | finished _ p m k => exact finish_contact (moved p m k)
  | settled _ _ _ k => exact k h
  | held supply low => exact contactTrue_open rfl
  | lifted => exact h
  | failed => exact h
  | loaded o c _ loading =>
    refine contactTrue_open ?_
    rw [endLoad_contact, ← Bool.not_eq_true]
    intro closed
    rw [(h closed).1] at loading
    cases loading
  | restarted _ k => exact contactTrue_open k.out.1
  | reloaded o c _ k =>
    refine contactTrue_open ?_
    rw [endLoad_contact, k.out.1]

/-- Settles O57: an event that changes what the contact reads has it evaluated at its end, and one that does not leaves it. -/
theorem contactStaysTrue : Obligations.ContactStaysTrue := by
  unfold Obligations.ContactStaysTrue
  exact fun s t h => step_keeps_events (fun _ _ => id) (fun _ => id) (fun _ _ _ => event_contactTrue) h

/-! ### The latches -/

/-- A move no command undoes a latch in, under any command. -/
theorem LatchesHeld.any {s t : State} (h : LatchesHeld .supplyFall s t) : LatchesHeld i s t where
  severe := fun _ => h.severe fun _ _ _ e => nomatch e
  minor := fun _ => h.minor fun _ _ _ e => nomatch e
  lock := h.lock
  identity := h.identity
  latch := fun _ => h.latch fun _ e => nomatch e
  reset := fun _ => h.reset fun _ _ _ e => nomatch e

theorem driveLines_latches (s : State) : LatchesHeld i s (driveLines s) := LatchesHeld.same rfl rfl rfl rfl rfl rfl rfl

theorem finish_latches (s : State) : LatchesHeld i s (finish s) := by
  exact (driveLines_latches s).trans (changeBeacon_moves (i := .supplyFall) rfl _).latches.any

theorem settle_latches (s0 s : State) : LatchesHeld i s (settle s0 s) := by
  have closed : LatchesHeld i s (settleCloses s) := (settleCloses_moves (i := .supplyFall) s).latches.any
  have driven : LatchesHeld i (settleCloses s) (driveWarning (judged s0 s)) := by
    rw [judged_eq]
    exact LatchesHeld.same rfl rfl rfl rfl rfl rfl rfl
  rw [settle_eq]
  exact (closed.trans driven).trans (finish_latches _)

theorem endLoad_latches (o : LoadOutcome) (c : NodeConfig) (s : State) (l : loads i = true) : LatchesHeld i s (endLoad o c s) := by
  rw [endLoad_lines]
  exact (loadStarted_moves (loads_startsUp l) o c s).latches.trans (driveLines_latches _)

/-- Every command but the resets holds the latches. -/
theorem Event.latches {s t : State} (e : Event i s t) (n : i.isReset = false) : LatchesHeld i s t := by
  cases e with
  | stays => exact LatchesHeld.refl s
  | aside _ _ m => exact m.latches
  | finished _ _ m => exact m.latches.trans (finish_latches _)
  | settled _ m => exact m.latches.trans (settle_latches _ _)
  | loaded o c _ _ l => exact endLoad_latches o c s l
  | restarted _ k => exact absurd k.reset (by simp [n])
  | reloaded o c _ k => exact absurd k.reset (by simp [n])
  | _ => exact LatchesHeld.same rfl rfl rfl rfl rfl rfl rfl

/-- Every command but POWER_ON_RESET keeps ACCESS_LOCK, and but for ACK_FAULT the filled slots. -/
theorem Event.slots {s t : State} (e : Event i s t) (n : ∀ straps, i ≠ .powerOnReset straps) :
    (s.iu.accessLock = true → t.iu.accessLock = true) ∧
      ((∀ src dest arg, i ≠ .ackFault src dest arg) →
        (∀ x, s.fr.severe = some x → t.fr.severe = some x) ∧ ∀ x, s.fr.minor = some x → t.fr.minor = some x) := by
  have held : ∀ {r t}, LatchesHeld i r t → (s.iu.accessLock = true → r.iu.accessLock = true) → r.fr.severe = s.fr.severe →
      r.fr.minor = s.fr.minor → _ := fun {r t} k lock severe minor =>
    (⟨k.lock ∘ lock, fun m => ⟨fun x e => k.severe m x (severe.trans e), fun x e => k.minor m x (minor.trans e)⟩⟩ :
      (s.iu.accessLock = true → t.iu.accessLock = true) ∧
      ((∀ src dest arg, i ≠ .ackFault src dest arg) →
        (∀ x, s.fr.severe = some x → t.fr.severe = some x) ∧ ∀ x, s.fr.minor = some x → t.fr.minor = some x))
  have restarted : ∀ {r}, Restarted i s r → (s.iu.accessLock = true → r.iu.accessLock = true) ∧ r.fr.severe = s.fr.severe ∧
      r.fr.minor = s.fr.minor := fun {r} k => by
    obtain ⟨lock, iu, keeps⟩ := k.iu
    exact ⟨fun l => by rw [iu]; exact keeps n l, k.slots n⟩
  cases e with
  | restarted _ k =>
    obtain ⟨lock, severe, minor⟩ := restarted k
    exact held (LatchesHeld.refl t) lock severe minor
  | reloaded o c l k =>
    obtain ⟨lock, severe, minor⟩ := restarted k
    exact held (endLoad_latches o c _ l) lock severe minor
  | stays => exact held (LatchesHeld.refl s) id rfl rfl
  | aside _ _ m => exact held m.latches id rfl rfl
  | finished _ _ m => exact held (m.latches.trans (finish_latches _)) id rfl rfl
  | settled _ m => exact held (m.latches.trans (settle_latches _ _)) id rfl rfl
  | loaded o c _ _ l => exact held (endLoad_latches o c s l) id rfl rfl
  | _ => exact held (LatchesHeld.same (s := s) rfl rfl rfl rfl rfl rfl rfl) id rfl rfl

/-- The command is one of a timer's expiry: none that undoes a latch. -/
def expires : Instr → Bool
  | .ackFault _ _ _ => false
  | .stationEmergencyReset _ => false
  | .resetNode _ _ _ => false
  | i => !i.isReset

theorem timers_expire {p : (State → Option Time) × Instr} (m : p ∈ timers) : expires p.2 = true := by
  revert p
  simp only [timers, closeTimers, silenceTimers, unitTimers, memberTimers, List.forall_mem_append, List.forall_mem_cons,
    List.forall_mem_map, List.forall_mem_flatten]
  simp [expires, Instr.isReset]

theorem debounceCommand_expires (s : State) (h : expires i = true) : expires (debounceCommand s i) = true := by
  unfold debounceCommand
  split
  · rfl
  · split <;> rfl
  · exact h

theorem expires_ne (h : expires i = true) :
    i.isReset = false ∧ (∀ src dest arg, i ≠ .ackFault src dest arg) ∧ (∀ src, i ≠ .stationEmergencyReset src) ∧
      ∀ src dest arg, i ≠ .resetNode src dest arg := by
  refine ⟨?_, ?_, ?_, ?_⟩
  · cases i <;> first | rfl | cases h
  · rintro src dest arg rfl
    cases h
  · rintro src rfl
    cases h
  · rintro src dest arg rfl
    cases h

theorem exec_next {s t : State} (e : Sys2Proof.Machine.exec i s = .next t) : Event i s t := by
  obtain ⟨t', e', event⟩ := exec_event i s
  obtain rfl : t' = t := by
    rw [e'] at e
    injection e
  exact event

/-- A timer's command holds every latch. -/
theorem timer_latches {p : (State → Option Time) × Instr} (m : p ∈ timers) {s t : State}
    (e : Sys2Proof.Machine.exec (debounceCommand s p.2) s = .next t) : LatchesHeld .supplyFall s t := by
  obtain ⟨plain, ack, reset, node⟩ := expires_ne (debounceCommand_expires s (timers_expire m))
  have held := (exec_next e).latches plain
  exact ⟨fun _ => held.severe ack, fun _ => held.minor ack, held.lock, held.identity, fun _ => held.latch reset, fun _ => held.reset node⟩

theorem clock_latches (s : State) : LatchesHeld i s { s with now := s.now + 1 } := LatchesHeld.same rfl rfl rfl rfl rfl rfl rfl

theorem passTime_latches (s : State) : LatchesHeld .supplyFall s (passTime s) :=
  passTime_keeps (P := LatchesHeld .supplyFall s) (clock_latches s) fun _ m _ _ h e => h.trans (timer_latches m e)

/-- A tick in which no commanded reset is due is the passing of time alone. -/
theorem tick_latches {s : State} (due : s.fr.resetDue = false) (reported : s.fr.resetReported = false) :
    LatchesHeld .supplyFall s (tick s) := by
  have still : ∀ x : State, x.fr.resetReported = false → resetIfDue x = x := fun x h => by simp [resetIfDue, h]
  unfold tick
  split
  · rw [still s reported]
    have held := passTime_latches s
    rw [still _ (held.reset (fun _ _ _ e => nomatch e) due reported).2]
    exact held
  · exact LatchesHeld.refl s

/-- What a tick keeps though a commanded reset come with it. -/
theorem tick_slots (s : State) :
    (s.iu.accessLock = true → (tick s).iu.accessLock = true) ∧ (∀ x, s.fr.severe = some x → (tick s).fr.severe = some x) ∧
      ∀ x, s.fr.minor = some x → (tick s).fr.minor = some x := by
  refine tick_keeps (P := fun t => (s.iu.accessLock = true → t.iu.accessLock = true) ∧
    (∀ x, s.fr.severe = some x → t.fr.severe = some x) ∧ ∀ x, s.fr.minor = some x → t.fr.minor = some x)
    (fun _ h => h) (fun straps a b h e => ?_) (fun p m a b h e => ?_) ⟨id, fun _ => id, fun _ => id⟩
  · obtain ⟨lock, slots⟩ := (exec_next e).slots fun _ e => nomatch e
    obtain ⟨severe, minor⟩ := slots fun _ _ _ e => nomatch e
    exact ⟨lock ∘ h.1, fun x => severe x ∘ h.2.1 x, fun x => minor x ∘ h.2.2 x⟩
  · have held := timer_latches m e
    exact ⟨held.lock ∘ h.1, fun x => held.severe (fun _ _ _ e => nomatch e) x ∘ h.2.1 x,
      fun x => held.minor (fun _ _ _ e => nomatch e) x ∘ h.2.2 x⟩

/-- Settles O59: no move but those of the named commands empties a slot or clears a mark or the latch, and no timer's command is one of
those. -/
theorem latchesStay : Obligations.LatchesStay := by
  unfold Obligations.LatchesStay
  intro s t e
  refine ⟨fun c rest pending => ?_, fun pending => ?_⟩
  · have event : Event c { s with pending := rest } t := exec_next (by simpa [Sys2Proof.Machine.step, pending] using e)
    refine ⟨event.slots, fun plain => ?_⟩
    have held := event.latches plain
    exact ⟨held.identity, held.latch⟩
  · obtain rfl : tick s = t := by
      simpa [Sys2Proof.Machine.step, pending] using e
    obtain ⟨lock, severe, minor⟩ := tick_slots s
    refine ⟨lock, severe, minor, fun due reported => ?_⟩
    have held := tick_latches due reported
    exact ⟨held.identity, held.latch fun _ e => nomatch e⟩

/-! ### What follows the state -/

/-- What hangs on the closes in LOADING (R20, R59). -/
def StartsClean (s : State) : Prop := s.cl.phase = .loading → s.noCloses ∧ s.pm.cadence = none

theorem closesOk_iff (s : State) : ClosesOk s ↔ NoneDone s ∧ StartsClean s := by
  unfold ClosesOk NoneDone StartsClean
  exact and_assoc.symm

theorem noneDone_of_noCloses {s : State} (h : s.noCloses) : NoneDone s := by
  obtain ⟨cycle, -, emergency, -⟩ := h
  exact ⟨fun c e => absurd (cycle.symm.trans e) (by simp), fun c e => absurd (emergency.symm.trans e) (by simp)⟩

theorem Restarted.noCloses {s r : State} (k : Restarted i s r) : r.noCloses := by
  obtain ⟨lock, iu, -⟩ := k.iu
  unfold State.noCloses
  rw [k.bu, iu]
  exact ⟨rfl, rfl, rfl, rfl⟩

theorem Aside.noCloses {s t : State} (h : Aside s t) (n : s.noCloses) : t.noCloses := by
  unfold State.noCloses
  rw [h.cycle, h.departure, h.emergency, h.access]
  exact n

theorem endLoad_noCloses (o : LoadOutcome) (c : NodeConfig) {s : State} (h : s.noCloses) : (endLoad o c s).noCloses := by
  obtain ⟨keeps, -⟩ := endLoad_keeps o c s
  generalize endLoad o c s = t at keeps ⊢
  exact keeps.toLeaves.noCloses h

theorem endLoad_phase (o : LoadOutcome) (c : NodeConfig) (s : State) : (endLoad o c s).cl.phase ≠ .loading := by
  rw [endLoad_cl]
  unfold Loader.ended
  split <;> exact fun e => nomatch e

theorem endLoad_cadence (o : LoadOutcome) (c : NodeConfig) (s : State) : (endLoad o c s).pm.cadence = s.pm.cadence := by
  rw [endLoad_lines, driveLines_pm, (loadStarted_moves (i := .configReadFail) rfl o c s).cadence rfl]

theorem endLoad_closesOk (o : LoadOutcome) (c : NodeConfig) {s : State} (h : s.noCloses) : ClosesOk (endLoad o c s) :=
  (closesOk_iff _).2 ⟨noneDone_of_noCloses (endLoad_noCloses o c h), fun e => absurd e (endLoad_phase o c s)⟩

theorem settle_cl (s0 s : State) : (settle s0 s).cl = s.cl := (settle_ends s0 s).1.cl

theorem Restarted.phase {s r : State} (k : Restarted i s r) : r.cl.phase = .loading := by
  obtain ⟨own, cl⟩ := k.cl
  rw [cl]
  rfl

theorem Restarted.cadence {s r : State} (k : Restarted i s r) : r.pm.cadence = none := by
  rw [k.pm]
  rfl

theorem Restarted.closesOk {s r : State} (k : Restarted i s r) : ClosesOk r :=
  (closesOk_iff _).2 ⟨noneDone_of_noCloses k.noCloses, fun _ => ⟨k.noCloses, k.cadence⟩⟩

theorem event_closesOk {s t : State} (e : Event i s t) (cycle : CycleOk s) (h : ClosesOk s) : ClosesOk t := by
  obtain ⟨done, clean⟩ := (closesOk_iff s).1 h
  cases e with
  | stays => exact h
  | pins p => exact h
  | aside _ p m k _ _ cadence =>
    refine (closesOk_iff _).2 ⟨k.noneDone done, fun loading => ?_⟩
    rw [m.cl p.1] at loading
    obtain ⟨none, stopped⟩ := clean loading
    exact ⟨k.noCloses none, (cadence loading).trans stopped⟩
  | finished _ p m k cadence =>
    refine (closesOk_iff _).2 ⟨finish_noneDone (k.noneDone done), fun loading => ?_⟩
    rw [(finish_sends _).cl, m.cl p.1] at loading
    obtain ⟨none, stopped⟩ := clean loading
    refine ⟨(finish_sends _).aside.noCloses (k.noCloses none), ?_⟩
    rw [finish, changeBeacon_cadence (s := driveLines _) ((cadence loading).trans stopped)]
    exact (cadence loading).trans stopped
  | settled _ m phase =>
    refine (closesOk_iff _).2 ⟨settle_noneDone (m.keeps (fun _ _ => move_cycleOk) cycle), fun loading => ?_⟩
    rw [settle_cl] at loading
    exact absurd loading phase
  | held supply low =>
    refine (closesOk_iff _).2 ⟨done.congr rfl rfl (holdSafe_unit s), clean⟩
  | lifted => exact h
  | failed => exact h
  | loaded o c _ loading => exact endLoad_closesOk o c (clean loading).1
  | restarted _ k => exact k.closesOk
  | reloaded o c _ k => exact endLoad_closesOk o c k.noCloses

theorem driveLines_follow (s : State) : LinesFollow (driveLines s) := fun _ _ => ⟨rfl, rfl⟩

theorem event_linesFollow {s t : State} (e : Event i s t) (h : LinesFollow s) : LinesFollow t := by
  cases e with
  | stays => exact h
  | pins p => exact h
  | aside _ p m _ lines =>
    intro acts loading
    rw [m.cl p.1] at loading
    exact LinesFollow.congr (fun a => h a loading) m.acts lines acts
  | finished => exact finish_lines _
  | settled => exact finish_lines _
  | held supply low off => exact fun acts => absurd acts (by simp [State.acts, off])
  | lifted off => exact fun acts => absurd acts (by simp [State.acts, off])
  | failed _ loading => exact fun _ n => absurd loading n
  | loaded => exact driveLines_follow _
  | restarted _ k => exact fun _ n => absurd k.phase n
  | reloaded => exact driveLines_follow _

theorem warningRunning_noCloses {s : State} (h : s.noCloses) : s.warningRunning = false := by
  obtain ⟨cycle, departure, emergency, access⟩ := h
  simp [State.warningRunning, cycle, departure, emergency, access]

theorem endLoad_warning (o : LoadOutcome) (c : NodeConfig) (s : State) : (endLoad o c s).out.warning = s.out.warning := by
  rw [endLoad_lines, driveLines_warning, loadStarted_out]

theorem event_warningFollows {s t : State} (e : Event i s t) (clean : StartsClean s) (h : WarningFollows s) : WarningFollows t := by
  have moved : ∀ {a}, Plain i → Moves i s a → Aside s a → WarningFollows a := fun p m k =>
    h.congr m.acts (by rw [m.out p.2.2]) k.cycle k.departure k.emergency k.access
  cases e with
  | stays => exact h
  | pins p => exact h
  | aside _ p m k => exact moved p m k
  | finished _ p m k => exact finish_warning (moved p m k)
  | settled => exact finish_warning (driveWarning_follows _)
  | held supply low off => exact fun acts => absurd acts (by simp [State.acts, off])
  | lifted off => exact fun acts => absurd acts (by simp [State.acts, off])
  | failed => exact h
  | loaded o c acts loading =>
    intro _
    rw [endLoad_warning, h acts, warningRunning_noCloses (clean loading).1, warningRunning_noCloses (endLoad_noCloses o c (clean loading).1)]
  | restarted _ k => exact fun _ => k.out.2.trans (warningRunning_noCloses k.noCloses).symm
  | reloaded o c _ k =>
    intro _
    rw [endLoad_warning, k.out.2, warningRunning_noCloses (endLoad_noCloses o c k.noCloses)]

/-- No beacon is followed where none is sent. -/
theorem beaconFollows_stopped {s : State} (h : s.pm.cadence = none) : BeaconFollows s := fun _ runs => by
  rw [h] at runs
  cases runs

theorem event_beaconFollows {s t : State} (e : Event i s t) (clean : StartsClean s) (h : BeaconFollows s) : BeaconFollows t := by
  cases e with
  | stays => exact h
  | pins p => exact h
  | aside _ _ _ _ _ k => exact k h
  | finished => exact finish_follows _
  | settled => exact finish_follows _
  | held supply low off => exact fun acts => absurd acts (by simp [State.acts, off])
  | lifted off => exact fun acts => absurd acts (by simp [State.acts, off])
  | failed _ loading => exact beaconFollows_stopped (clean loading).2
  | loaded o c _ loading => exact beaconFollows_stopped ((endLoad_cadence o c s).trans (clean loading).2)
  | restarted _ k => exact beaconFollows_stopped k.cadence
  | reloaded o c _ k => exact beaconFollows_stopped ((endLoad_cadence o c _).trans k.cadence)

theorem Restarted.cycleOk {s r : State} (k : Restarted i s r) : CycleOk r := by
  unfold CycleOk State.berthState
  rw [k.bu, k.ae]
  exact ⟨⟨fun e => (nomatch e), fun e => (nomatch e)⟩, fun e => nomatch e⟩

theorem Restarted.ownRelease {s r : State} (k : Restarted i s r) : OwnReleaseFollows r := by
  obtain ⟨lock, iu, -⟩ := k.iu
  unfold OwnReleaseFollows
  rw [iu]
  refine ⟨fun e => (nomatch e), fun ⟨_, u, st⟩ => ?_⟩
  obtain ⟨mark, d⟩ := k.dc u
  rw [State.unit, d] at st
  rcases st with st | st <;> cases st

theorem Restarted.follows {s r : State} (k : Restarted i s r) : Follows r where
  successors := by
    rw [k.lc]
    exact fun _ e => nomatch e
  cycle := k.cycleOk
  closes := k.closesOk
  lines := fun _ n => absurd k.phase n
  warning := fun _ => k.out.2.trans (warningRunning_noCloses k.noCloses).symm
  beacon := beaconFollows_stopped k.cadence
  ownRelease := k.ownRelease

theorem event_successors {s t : State} (e : Event i s t) (h : SuccessorsOk s.lc.queue) : SuccessorsOk t.lc.queue :=
  e.keeps (P := fun x => SuccessorsOk x.lc.queue) (fun _ _ _ => move_successors) (fun _ _ => id) (fun _ _ _ => endAttempt_successors)
    (fun _ => id) (fun _ _ _ k => k.follows.successors) h

theorem event_cycleOk {s t : State} (e : Event i s t) (h : CycleOk s) : CycleOk t :=
  e.keeps (fun _ _ _ => move_cycleOk) (fun _ _ => id) (fun _ _ _ => id) (fun _ => id) (fun _ _ _ => Restarted.cycleOk) h

theorem event_ownRelease {s t : State} (e : Event i s t) (h : OwnReleaseFollows s) : OwnReleaseFollows t :=
  e.keeps (fun _ _ _ => move_ownRelease) (fun _ _ => id)
    (fun s _ _ h => h.congr rfl rfl (holdSafe_unit s)) (fun _ => id)
    (fun _ _ _ => Restarted.ownRelease) h

theorem event_follows {s t : State} (e : Event i s t) (h : Follows s) : Follows t := by
  have clean := ((closesOk_iff s).1 h.closes).2
  exact ⟨event_successors e h.successors, event_cycleOk e h.cycle, event_closesOk e h.cycle h.closes, event_linesFollow e h.lines,
    event_warningFollows e clean h.warning, event_beaconFollows e clean h.beacon, event_ownRelease e h.ownRelease⟩

theorem reset_restarted : Restarted (.powerOnReset 12) State.reset State.reset := powerOnValues_restarted 12 12 State.reset

/-- Settles O60: at reset all is at rest, and every event's end judges the closes and brings lines, warning and beacon up to date. -/
theorem followsStays : Obligations.FollowsStays := by
  unfold Obligations.FollowsStays
  refine ⟨reset_restarted.follows, fun s t h => step_keeps_events (fun _ _ h => ?_) (fun _ h => ?_) (fun _ _ _ => event_follows) h⟩
  · exact ⟨h.successors, h.cycle, h.closes, h.lines, h.warning, h.beacon, h.ownRelease⟩
  · exact ⟨h.successors, h.cycle, h.closes, h.lines, h.warning, h.beacon, h.ownRelease⟩

/-! ### Every command answers -/

theorem event_pending {s t : State} (e : Event i s t) : t.pending = s.pending := by
  have load : ∀ {o c r}, loads i = true → r.pending = s.pending → (endLoad o c r).pending = s.pending := fun {o c r} l k =>
    (endLoad_keeps o c r).1.pending.trans k
  cases e with
  | aside _ _ m => exact m.pending
  | finished _ _ m => exact (finish_sends _).pending.trans m.pending
  | settled _ m => exact (settle_ends _ _).1.pending.trans m.pending
  | loaded o c _ _ l => exact load l rfl
  | restarted _ k => exact k.pending
  | reloaded o c l k => exact load l k.pending
  | _ => rfl

/-- Settles O2, by `exec_event`. -/
theorem everyCommandAnswers : Obligations.EveryCommandAnswers := by
  unfold Obligations.EveryCommandAnswers
  intro i s
  obtain ⟨t, e, event⟩ := exec_event i s
  exact ⟨t, e, event_pending event⟩

end Sys2Proof.Machine

/-! Supply, resets and the steps of the machine (chapters 1 and 2): what a command does to a part that is held, what a reset restarts, and
what a report does to its slot and its counter. -/

namespace Sys2Proof.Machine

variable {i : Instr}

/-! ### The machine's steps -/

theorem step_front (c : Instr) (rest : List Instr) (s : State) :
    Sys2Proof.Machine.step { s with pending := c :: rest } = Sys2Proof.Machine.exec c { s with pending := rest } := rfl

theorem step_idle {s : State} (h : s.pending = []) : Sys2Proof.Machine.step s = .next (tick s) := by
  unfold Sys2Proof.Machine.step
  rw [h]

theorem exec_answers (i : Instr) (s : State) : ∃ t, Sys2Proof.Machine.exec i s = .next t :=
  let ⟨t, e, _⟩ := exec_event i s
  ⟨t, e⟩

theorem exec_nextState (i : Instr) (s : State) : Sys2Proof.Machine.exec i s = .next (nextState i s) := by
  obtain ⟨t, e⟩ := exec_answers i s
  rw [nextState, e]

/-- A tick in which no reset waits is the passing of time, and the reset that comes due in it. -/
theorem tick_passes {s : State} (acts : s.acts = true) (reported : s.fr.resetReported = false) :
    tick s = resetIfDue (passTime s) := by
  have rest : resetIfDue s = s := if_neg (by simp [reported])
  rw [tick, if_pos acts, rest]

theorem passTime_ends {s t : State} (idle : s.pending = []) (acts : s.acts = true) (reported : s.fr.resetReported = false)
    (h : passTime s = t) : TickEnds s t := by
  have step := step_idle idle
  rw [tick_passes acts reported, h] at step
  refine ⟨fun none => ?_, fun due => ?_⟩
  · rw [step, resetIfDue, if_neg (by simp [none])]
  · rw [step, resetIfDue, if_pos due, exec_nextState]

/-- Settles O1: a step is `exec` of the front command or a tick, and a tick is the fold of the timers and the reset that it makes due. -/
theorem stepTakesFrontOrTicks : Obligations.StepTakesFrontOrTicks := by
  unfold Obligations.StepTakesFrontOrTicks
  refine ⟨step_front, fun s idle held => ?_, fun s idle acts reported none => ?_, fun s s' idle acts reported e => ⟨?_, ?_⟩⟩
  · rw [step_idle idle, tick, if_neg (by simp [held])]
  · refine (passTime_ends idle acts reported ?_).1 reported
    exact foldl_fireDue_rest fun p m ⟨e, timer, reached⟩ => Bool.false_ne_true ((none p m e timer).symm.trans reached)
  · subst e
    exact ⟨_, foldl_fireDue_run exec_answers _ _, passTime_ends idle acts reported rfl⟩
  · subst e
    intro l l' p split before due
    obtain ⟨t, e⟩ := exec_answers (debounceCommand _ p.2) { s with now := s.now + 1 }
    exact ⟨t, e, fun after => passTime_ends idle acts reported (foldl_fireDue_one split before due e after)⟩

/-! ### Reports (R187, R188) -/

/-- Only reports of the kinds and severities of `p` can have been made from `s` to `t`. -/
structure Spares (p : FaultKind → Severity → Bool) (s t : State) : Prop where
  kinds : ∀ k, (∀ sev, p k sev = false) →
    t.fr.kinds.getD k.index (Counter.zero 16) = s.fr.kinds.getD k.index (Counter.zero 16)
  slots : ∀ sev, (∀ k, p k sev = false) → t.fr.slot sev = s.fr.slot sev
  length : t.fr.kinds.length = s.fr.kinds.length

section Spares

variable {p q : FaultKind → Severity → Bool}

theorem Spares.refl (s : State) : Spares p s s := ⟨fun _ _ => rfl, fun _ _ => rfl, rfl⟩

theorem Spares.trans {a b c : State} (h : Spares p a b) (k : Spares p b c) : Spares p a c :=
  ⟨fun x n => (k.kinds x n).trans (h.kinds x n), fun x n => (k.slots x n).trans (h.slots x n), k.length.trans h.length⟩

theorem Spares.mono {s t : State} (h : Spares p s t) (sub : ∀ k sev, q k sev = false → p k sev = false) : Spares q s t :=
  ⟨fun k n => h.kinds k fun sev => sub k sev (n sev), fun sev n => h.slots sev fun k => sub k sev (n k), h.length⟩

theorem Spares.of_slots {s t : State} (kinds : t.fr.kinds = s.fr.kinds) (severe : t.fr.severe = s.fr.severe)
    (minor : t.fr.minor = s.fr.minor) : Spares p s t :=
  ⟨fun _ _ => by rw [kinds], fun sev _ => by cases sev <;> assumption, by rw [kinds]⟩

theorem Spares.of_fr {s t : State} (h : t.fr = s.fr) : Spares p s t := .of_slots (by rw [h]) (by rw [h]) (by rw [h])

theorem Spares.guard {a b : State} {c : Prop} [Decidable c] {f : State → State} (h : Spares p a b) (k : ∀ s, Spares p s (f s)) :
    Spares p a (if c then f b else b) := by
  split
  · exact h.trans (k b)
  · exact h

theorem forUnits_spares {f : UnitNo → State → State} (h : ∀ u s, Spares p s (f u s)) (s : State) : Spares p s (forUnits f s) :=
  (((h .u0 s).trans (h .u1 _)).trans (h .u2 _)).trans (h .u3 _)

theorem enqueue_spares (k : FrameKind) (l : List Byte) (s : State) : Spares p s (enqueue k l s) := by
  obtain ⟨drops, reported, e⟩ := enqueue_fr k l s
  exact .of_slots (by rw [e]) (by rw [e]) (by rw [e])

theorem FaultKind.index_inj {k k' : FaultKind} (h : k.index = k'.index) : k = k' := by
  have e := FaultKind.byCode_index k
  rw [h, FaultKind.byCode_index k'] at e
  exact (Option.some.inj e).symm

variable (k : FaultKind) (sev : Severity) (u : Option UnitNo) (s : State)

/-- What a report makes of the slots and the kinds' counters; its pulse is no part of either. -/
theorem report_recorded :
    (report k sev u s).fr.kinds = (match s.fr.slot sev with
      | none => s.fr.setSlot sev (some ⟨k, u, s.seq, s.now⟩)
      | some _ => countKind k s.fr).kinds ∧
    ∀ sev', (report k sev u s).fr.slot sev' = (match s.fr.slot sev with
      | none => s.fr.setSlot sev (some ⟨k, u, s.seq, s.now⟩)
      | some _ => countKind k s.fr).slot sev' := by
  unfold report
  dsimp only
  split
  · exact ⟨by cases sev <;> rfl, fun sev' => by cases sev <;> cases sev' <;> rfl⟩
  · exact ⟨rfl, fun _ => rfl⟩

variable {k sev u s}

theorem setSlot_kinds (sev : Severity) (x : Option FaultRecord) (r : FaultRecorder) : (r.setSlot sev x).kinds = r.kinds := by
  cases sev <;> rfl

theorem setSlot_slot (sev : Severity) (x : Option FaultRecord) (r : FaultRecorder) : (r.setSlot sev x).slot sev = x := by
  cases sev <;> rfl

theorem setSlot_other {sev sev' : Severity} (h : sev' ≠ sev) (x : Option FaultRecord) (r : FaultRecorder) :
    (r.setSlot sev x).slot sev' = r.slot sev' := by
  cases sev <;> cases sev' <;> first | rfl | exact absurd rfl h

theorem countKind_slot (k : FaultKind) (r : FaultRecorder) (sev : Severity) : (countKind k r).slot sev = r.slot sev := by
  cases sev <;> rfl

theorem countKind_kinds (k : FaultKind) (r : FaultRecorder) :
    (countKind k r).kinds = r.kinds.set k.index (r.kinds.getD k.index (Counter.zero 16)).bump := rfl

theorem countKind_other {k k' : FaultKind} (h : k' ≠ k) (r : FaultRecorder) :
    (countKind k r).kinds.getD k'.index (Counter.zero 16) = r.kinds.getD k'.index (Counter.zero 16) := by
  have ne : k.index ≠ k'.index := fun e => h (FaultKind.index_inj e).symm
  simp [countKind_kinds, List.getD_eq_getElem?_getD, List.getElem?_set_ne ne]

theorem report_spares (h : p k sev = true) : Spares p s (report k sev u s) := by
  obtain ⟨kinds, slots⟩ := report_recorded k sev u s
  refine ⟨fun k' n => ?_, fun sev' n => ?_, ?_⟩
  · have ne : k' ≠ k := fun e => by simp [← e, n sev] at h
    rw [kinds]
    split
    · rw [setSlot_kinds]
    · exact countKind_other ne _
  · have ne : sev' ≠ sev := fun e => by simp [← e, n k] at h
    rw [slots]
    split
    · exact setSlot_other ne _ _
    · exact countKind_slot _ _ _
  · rw [kinds]
    split
    · rw [setSlot_kinds]
    · exact List.length_set

theorem FaultKind.index_lt (k : FaultKind) : k.index < 17 := by cases k <;> decide

/-- A report fills its empty slot, or counts in its kind's counter (R187, R188). -/
theorem report_reported (k : FaultKind) (sev : Severity) (u : Option UnitNo) (s : State) :
    Reported sev ⟨k, u, s.seq, s.now⟩ s.fr (report k sev u s).fr := by
  obtain ⟨kinds, slots⟩ := report_recorded k sev u s
  refine ⟨fun empty => ?_, fun y full => ⟨?_, fun room => ?_⟩⟩
  · rw [slots, empty]
    exact setSlot_slot _ _ _
  · rw [slots, full]
    exact (countKind_slot _ _ _).trans full
  · rw [kinds, full]
    have lt : k.index < s.fr.kinds.length := by rw [room]; exact k.index_lt
    simp [countKind_kinds, List.getD_eq_getElem?_getD, lt]

/-- What follows a report leaves it made, where it makes no report of that kind. -/
theorem Reported.after {x : FaultRecord} {r : FaultRecorder} {a b : State} (h : Reported sev x r a.fr)
    (kept : ∀ y, a.fr.slot sev = some y → b.fr.slot sev = some y) (spares : Spares p a b) (n : ∀ sev, p x.kind sev = false) :
    Reported sev x r b.fr :=
  ⟨fun empty => kept _ (h.1 empty), fun y full =>
    ⟨kept y (h.2 y full).1, fun room => (spares.kinds _ n).trans ((h.2 y full).2 room)⟩⟩

/-- What goes before a report is no part of it, where it leaves slot and counter alone. -/
theorem Reported.before {x : FaultRecord} {s a : State} {r : FaultRecorder} (h : Reported sev x a.fr r) (slot : a.fr.slot sev = s.fr.slot sev)
    (kinds : a.fr.kinds = s.fr.kinds) : Reported sev x s.fr r := by
  unfold Reported at h
  rw [slot, kinds] at h
  exact h

theorem Sends.slot_kept {a b : State} (h : Sends a b) (sev : Severity) (y : FaultRecord) (k : a.fr.slot sev = some y) :
    b.fr.slot sev = some y := by
  cases sev
  · exact h.fr.severe y k
  · exact h.fr.minor y k

theorem Keeps.slot_kept {x : UnitNo → Bool} {a b : State} (h : Keeps x a b) (sev : Severity) (y : FaultRecord)
    (k : a.fr.slot sev = some y) : b.fr.slot sev = some y := by
  cases sev
  · exact h.severe y k
  · exact h.minor y k

end Spares

/-! ### Resets -/

theorem slot_empty (n : Node) : State.reset.slot n = Slot.empty := by
  rw [State.slot, show State.reset.pm.slots = List.replicate 64 Slot.empty from rfl, List.getD_eq_getElem?_getD, List.getElem?_replicate]
  split <;> rfl

/-- Settles O3: the stores' invariants hold as after any reset (`Restarted`), the rest is read off `State.reset`. -/
theorem resetLeaves : Obligations.ResetLeaves := by
  unfold Obligations.ResetLeaves
  refine ⟨rfl, rfl, rfl, rfl, rfl, slot_empty, rfl, rfl, rfl, rfl, rfl, rfl, rfl, rfl, rfl, rfl, fun u => ?_, rfl, rfl, rfl, rfl, rfl,
    rfl, rfl, ⟨Nat.zero_le 16, List.Pairwise.nil, Nat.zero_le 1, Nat.zero_le 1⟩, reset_restarted.storesOk, reset_restarted.outputsFollow, contactTrue_open rfl⟩
  cases u <;> exact ⟨rfl, rfl, rfl, rfl, rfl, rfl⟩

/-! ### A held part -/

/-- An attempt that has ended leaves nothing on the line. -/
theorem endAttempt_onLine (s : State) : (endAttempt s).onLine = none := by
  refine List.find?_eq_none.2 fun e m => ?_
  obtain ⟨x, -, rfl⟩ := List.mem_map.1 m
  by_cases h : x.onLine = true
  · simp [h, TxEntry.offLine]
  · simp [h]

theorem holdSafe_lineFrame (s : State) : (holdSafe s).lineFrame = none :=
  congrArg (Option.map _) (endAttempt_onLine s)

theorem holdSafe_safe (s : State) : HeldSafe (holdSafe s) := by
  refine ⟨rfl, rfl, fun u => ?_⟩
  rw [holdSafe_dc]
  exact ⟨rfl, rfl, rfl⟩

theorem heldLine_loaded {s : State} (h : s.cl.phase ≠ .loading) (level flag drive : Bool) :
    s.heldLine level flag drive = (level && !s.cl.config.pulseMode && flag && drive) := by
  have e : (s.cl.phase == .loading) = false := beq_eq_false_iff_ne.mpr h
  simp [State.heldLine, e, Bool.and_assoc]

/-- On a part that does not act a command that is no reset brings the levels on the pins at most. -/
theorem Event.still {s t : State} (e : Event i s t) (still : s.acts = false) (n : i.isReset = false) : t = { s with pins := t.pins } := by
  have off : ¬s.acts = true := by simp [still]
  have other : ¬i.isReset = true := by simp [n]
  cases e with
  | stays => rfl
  | pins => rfl
  | aside acts => exact absurd acts off
  | finished acts => exact absurd acts off
  | settled acts => exact absurd acts off
  | held _ _ _ r => exact absurd r other
  | lifted _ r => exact absurd r other
  | failed acts => exact absurd acts off
  | loaded _ _ acts => exact absurd acts off
  | restarted _ k => exact absurd k.reset other
  | reloaded _ _ _ k => exact absurd k.reset other

/-- Settles O4: what a held part takes by `Event.still`, and the two ways to be held by `holdSafe`. -/
theorem heldPartStaysSafe : Obligations.HeldPartStaysSafe := by
  unfold Obligations.HeldPartStaysSafe
  refine ⟨fun i s still n => ?_, fun s => ⟨⟨_, rfl, holdSafe_safe s, rfl, holdSafe_lineFrame s, rfl⟩,
    ⟨_, rfl, holdSafe_safe s, rfl, holdSafe_lineFrame s, rfl, fun loaded => ⟨?_, ?_⟩⟩⟩⟩
  · obtain ⟨t, e, event⟩ := exec_event i s
    exact ⟨t, e, event.still still n⟩
  · exact (heldLine_loaded loaded _ _ _).trans (Bool.and_true _)
  · exact heldLine_loaded loaded _ _ _

/-! ### What a reset restarts -/

theorem startLoading_bay {straps : BitVec 6} {s : State} (h : isBay straps = true) (own : s.cl.own = straps) : startLoading s = s :=
  if_pos (by rw [State.strapOk, own, h])

theorem startLoading_refused {straps : BitVec 6} {s : State} (h : isBay straps = false) (own : s.cl.own = straps) :
    startLoading s = refuseLoad .strap s :=
  if_neg (by rw [State.strapOk, own, h]; exact Bool.false_ne_true)

theorem exec_resetPinRelease {straps : BitVec 6} {s : State} (low : s.resetLow = true) (supply : s.supply = true) :
    Sys2Proof.Machine.exec (.resetPinRelease straps) s = .next (nodeReset straps s) := by
  show Host.Outcome.next _ = _
  rw [low, supply]
  rfl

theorem exec_commandedReset {straps : BitVec 6} {s : State} (acts : s.acts = true) (reported : s.fr.resetReported = true) :
    Sys2Proof.Machine.exec (.commandedReset straps) s = .next (nodeReset straps s) := by
  show Host.Outcome.next _ = _
  rw [acts, reported]
  rfl

theorem exec_powerOnReset {straps : BitVec 6} {s : State} (low : s.resetLow = false) :
    Sys2Proof.Machine.exec (.powerOnReset straps) s = .next (startLoading (powerOnValues straps s)) := by
  show Host.Outcome.next _ = _
  rw [low]
  rfl

/-- A reset pin released on a powered part, and a commanded reset that is due, are node resets. -/
theorem exec_nodeReset {straps : BitVec 6} {s : State}
    (h : (i = .resetPinRelease straps ∧ s.resetLow = true ∧ s.supply = true) ∨
      (i = .commandedReset straps ∧ s.acts = true ∧ s.fr.resetReported = true)) :
    Sys2Proof.Machine.exec i s = .next (nodeReset straps s) := by
  obtain ⟨rfl, low, supply⟩ | ⟨rfl, acts, reported⟩ := h
  · exact exec_resetPinRelease low supply
  · exact exec_commandedReset acts reported

/-- Settles O5: with straps of a bay controller no load ends at once, so that the reset is what it restarts. -/
theorem resetsRestart : Obligations.ResetsRestart := by
  unfold Obligations.ResetsRestart
  refine ⟨fun straps s h => ?powerOn, fun i straps s bay h => ⟨_, exec_nodeReset h, ?node⟩, fun straps s => ⟨fun low => ?_, fun low off => ?_, fun n => ?_⟩⟩
  case powerOn =>
    rcases hl : s.resetLow with _ | _
    · have bay : isBay straps = true := by simpa [hl] using h
      rw [exec_powerOnReset hl, startLoading_bay bay rfl, ← hl]
      rfl
    · show Host.Outcome.next _ = _
      rw [hl, if_pos rfl, ← hl]
      rfl
  case node =>
    rw [nodeReset_eq, startLoading_bay bay rfl]
    have severe : s.heldLine s.out.severeOut s.fr.severe.isSome true =
        (s.out.severeOut && (s.cl.phase == .loading || (!s.cl.config.pulseMode && s.fr.severe.isSome))) := by
      simp [State.heldLine]
    have minor : s.heldLine s.out.minorOut s.fr.minor.isSome s.cl.config.minorDrive =
        (s.out.minorOut && (s.cl.phase == .loading || (!s.cl.config.pulseMode && s.fr.minor.isSome && s.cl.config.minorDrive))) := rfl
    rw [← severe, ← minor]
    rfl
  · show Host.Outcome.next _ = _
    rw [low]
    rfl
  · show Host.Outcome.next _ = _
    rw [low, off]
    rfl
  · show Host.Outcome.next _ = _
    rw [if_neg]
    rcases n with n | n <;> simp [n]

end Sys2Proof.Machine

/-! What the end of an event reports and sends: a TRAP at most, and a change beacon at most; where no close is under way nothing but the
outputs and the beacon can move. -/

namespace Sys2Proof.Machine

/-! ### Reports of the operations on a unit -/

section Spares

variable {p : FaultKind → Severity → Bool}

theorem alert_spares (k : AlertKind) (u : Option UnitNo) (s : State) : Spares p s (alert k u s) := enqueue_spares _ _ s

theorem sendHold_spares (a : Byte) (c : Nat) (s : State) : Spares p s (sendHold a c s) := enqueue_spares _ _ s

theorem foldl_sendHold_spares (l : List OwnHold) (a : Byte) (s : State) : Spares p s (l.foldl (fun s h => sendHold a h.car s) s) := by
  induction l generalizing s with
  | nil => exact .refl s
  | cons h l ih => exact (sendHold_spares a h.car s).trans (ih _)

theorem zoneFreed_spares (u : UnitNo) (s : State) : Spares p s (zoneFreed u s) := by
  unfold zoneFreed
  split
  · exact .refl s
  · exact (Spares.of_fr (State.setCycle_fr _ _)).trans (foldl_sendHold_spares _ _ _)

theorem endCycle_spares (b : Bool) (s : State) : Spares p s (endCycle b s) := by
  unfold endCycle
  split
  · exact .refl s
  · exact (Spares.of_fr (State.setCycle_fr _ _)).trans (foldl_sendHold_spares _ _ _)

theorem raiseTrap_spares (h : p .trap .severe = true) (u : UnitNo) (s : State) : Spares p s (raiseTrap u s) :=
  (Spares.trans (a := s) (b := setAlarm u .trap s) (.of_fr (State.modSu_fr _ _ _)) (report_spares h)).trans (alert_spares _ _ _)

theorem raiseIntrusion_spares (h : p .intrusion .minor = true) (u : UnitNo) (s : State) : Spares p s (raiseIntrusion u s) :=
  (Spares.trans (a := s) (b := setAlarm u .intrusion s) (.of_fr (State.modSu_fr _ _ _)) (report_spares h)).trans (alert_spares _ _ _)

theorem checkAlarm_spares (trap : p .trap .severe = true) (intrusion : p .intrusion .minor = true) (u : UnitNo) (s : State) :
    Spares p s (checkAlarm u s) := by
  unfold checkAlarm
  split
  · split
    · exact raiseIntrusion_spares intrusion u s
    · exact raiseTrap_spares trap u s
  · exact .refl s

theorem intrusionToTrap_spares (h : p .trap .severe = true) (u : UnitNo) (s : State) : Spares p s (intrusionToTrap u s) := by
  unfold intrusionToTrap
  split
  · exact raiseTrap_spares h u s
  · exact .refl s

theorem setBerthState_spares (h : p .trap .severe = true) (b : BerthState) (s : State) : Spares p s (setBerthState b s) := by
  unfold setBerthState
  dsimp only
  split
  · exact .of_fr rfl
  · exact (Spares.of_fr (State.modBerth_fr _ _)).trans (forUnits_spares (intrusionToTrap_spares h) _)

theorem startSensing_spares (u : UnitNo) (s : State) : Spares p s (startSensing u s) := .of_fr rfl

theorem restSensing_spares (u : UnitNo) (s : State) : Spares p s (restSensing u s) := by
  unfold restSensing
  dsimp only
  exact (Spares.of_fr (State.modSu_fr _ _ _)).guard (zoneFreed_spares u)

theorem dropCovered_fr (u : UnitNo) (s : State) : (dropCovered u s).fr = s.fr := by
  unfold dropCovered
  split <;> rfl

theorem dropAccessMember_fr (u : UnitNo) (s : State) : (dropAccessMember u s).fr = s.fr := by
  unfold dropAccessMember
  split <;> rfl

theorem clearAccess_fr (u : UnitNo) (s : State) : (clearAccess u s).fr = s.fr := by
  unfold clearAccess
  split
  · exact dropAccessMember_fr u _
  · rfl

theorem emptyRun_spares (u : UnitNo) (s : State) : Spares p s (emptyRun u s) := .of_fr rfl

theorem hangs_spares (old : UnitState) (u : UnitNo) (d : DoorChannel) (s : State) : Spares p s (hangs old u d s) := by
  unfold hangs
  exact ((((Spares.refl s).guard (startSensing_spares u)).guard (restSensing_spares u)).guard (emptyRun_spares u)).guard
    (f := fun s => dropCovered u (clearAccess u s)) fun s => .of_fr ((dropCovered_fr u _).trans (clearAccess_fr u s))

theorem moveUnit_spares (trap : p .trap .severe = true) (intrusion : p .intrusion .minor = true) (u : UnitNo) (d : DoorChannel)
    (s : State) : Spares p s (moveUnit u d s) := by
  rw [moveUnit_eq]
  have sync : Spares p s (syncOwnRelease (s.setDc u d)) := .of_fr rfl
  exact (sync.trans (hangs_spares _ u d _)).trans (checkAlarm_spares trap intrusion u _)

/-! ### Requests of the closes -/

/-- A unit that leaves a state open to a state on its way to closed brings no report. -/
theorem moveUnit_quiet {u : UnitNo} {d : DoorChannel} {s : State} (h : s.unit u ≠ .isolated) (h1 : d.st.outOfHands = false) :
    (moveUnit u d s).fr = s.fr := by
  rw [moveUnit_plain h h1]
  rfl

theorem reverseDone_fr {u : UnitNo} {s : State} (h : s.unit u ≠ .isolated) : (reverseDone u s).fr = s.fr := by
  unfold reverseDone
  split <;> exact moveUnit_quiet h rfl

/-- The channel of a unit that turns in REVERSING toward the target `g` (R129). -/
def reversingTo (g : ReverseTarget) (u : UnitNo) (s : State) : DoorChannel :=
  { (s.dc.get u).into .reversing with
    phase := .accelerate, setpoint := (s.dc.get u).setpoint, target := g, stallCount := 0, stallRef := (s.dc.get u).position
    travelTimer := s.timer s.cl.config.params.travelTimeout, stallTimer := s.timer 300
    attempt := if g == .opened then 0 else (s.dc.get u).attempt }

theorem enterReversing_eq (g : ReverseTarget) (u : UnitNo) (s : State) :
    enterReversing g u s = if (moveUnit u (reversingTo g u s) s).remainingOpen u ≤ 0 then reverseDone u (moveUnit u (reversingTo g u s) s)
      else moveUnit u (reversingTo g u s) s := rfl

/-- The channel of a unit that closes in attempt `n` (R127). -/
def closingIn (n : Nat) (u : UnitNo) (s : State) : DoorChannel :=
  { (s.dc.get u).into .closing with
    phase := .accelerate, attempt := n, overCount := 0, travelTimer := s.timer s.cl.config.params.travelTimeout }

theorem enterClosing_eq (n : Nat) (u : UnitNo) (s : State) :
    enterClosing n u s = if (moveUnit u (closingIn n u s) s).obstructed u then reverseOnObstacle u (moveUnit u (closingIn n u s) s)
      else moveUnit u (closingIn n u s) s := rfl

theorem enterReversing_fr {g : ReverseTarget} {u : UnitNo} {s : State} (h : s.unit u ≠ .isolated) : (enterReversing g u s).fr = s.fr := by
  rw [enterReversing_eq]
  split
  · rw [reverseDone_fr (by simp [reversingTo]), moveUnit_quiet h rfl]
  · rw [moveUnit_quiet h rfl]

theorem reverseOnObstacle_spares {u : UnitNo} {s : State} (h : s.unit u ≠ .isolated) : Spares p s (reverseOnObstacle u s) := by
  have fr : (reverseOnObstacle u s).fr = _ := enterReversing_fr (s := s.modUnitCounters u _) h
  exact .of_slots (by rw [fr]; rfl) (by rw [fr]; rfl) (by rw [fr]; rfl)

theorem enterClosing_spares {n : Nat} {u : UnitNo} {s : State} (h : s.unit u ≠ .isolated) : Spares p s (enterClosing n u s) := by
  rw [enterClosing_eq]
  split
  · exact (Spares.of_fr (moveUnit_quiet h rfl)).trans (reverseOnObstacle_spares (by simp [closingIn]))
  · exact .of_fr (moveUnit_quiet h rfl)

theorem countIgnored_spares (u : UnitNo) (s : State) : Spares p s (countIgnored u s) := .of_slots rfl rfl rfl

theorem closeRequest_spares (u : UnitNo) (s : State) : Spares p s (closeRequest u s) := by
  unfold closeRequest
  split
  all_goals first
    | exact countIgnored_spares u s
    | exact .refl s
    | exact .of_fr rfl
    | next h => exact enterClosing_spares (by simp [h])

theorem berthCloseRequest_spares (u : UnitNo) (s : State) : Spares p s (berthCloseRequest u s) := by
  unfold berthCloseRequest
  split
  · exact .refl s
  · exact closeRequest_spares u s

/-! ### The closes -/

theorem judgeMember_spares (u : UnitNo) (s : State) : Spares p s (judgeMember u s) := by
  unfold judgeMember
  split
  · exact .refl s
  · split
    · exact .refl s
    · split
      · exact (Spares.of_fr (State.setCycle_fr _ _)).trans (berthCloseRequest_spares u _)
      · exact .refl s

theorem judgeCovered_spares (u : UnitNo) (s : State) : Spares p s (judgeCovered u s) := by
  unfold judgeCovered
  split
  · exact .refl s
  · split
    · exact (Spares.of_fr (dropCovered_fr u s)).trans (berthCloseRequest_spares u _)
    · exact .refl s

theorem judgeEmergencyMember_spares (u : UnitNo) (s : State) : Spares p s (judgeEmergencyMember u s) := by
  unfold judgeEmergencyMember
  split
  · exact .refl s
  · split
    · split
      · exact (Spares.of_fr (State.modIu_fr _ _)).trans (closeRequest_spares u _)
      · exact .refl s
    · exact .refl s

theorem judgeAccessMember_spares (u : UnitNo) (s : State) : Spares p s (judgeAccessMember u s) := by
  unfold judgeAccessMember
  split
  · exact .refl s
  · split
    · exact .refl s
    · split
      · exact (Spares.of_fr (dropAccessMember_fr u s)).trans (closeRequest_spares u _)
      · exact .refl s

theorem secure_spares (h : p .trap .severe = true) (s : State) : Spares p s (setBerthState .secured (endCycle true s)) :=
  (endCycle_spares true s).trans (setBerthState_spares h _ _)

theorem completeCycle_spares (h : p .trap .severe = true) (s : State) : Spares p s (completeCycle s) := by
  unfold completeCycle
  split
  · exact .refl s
  · split
    · exact secure_spares h s
    · exact .refl s

theorem completeEmergency_spares (h : p .trap .severe = true) (s : State) : Spares p s (completeEmergency s) := by
  unfold completeEmergency
  split
  · exact .refl s
  · split
    · refine Spares.trans (b := s.modIu fun i => { i with emergencyClose := none }) (.of_fr rfl) ?_
      unfold emergencyNotice
      split
      · exact secure_spares h _
      · exact secure_spares h _
      · exact .refl _
    · exact .refl s

/-- The judging of the closes reports a TRAP at most, as it secures the berth. -/
theorem settleCloses_spares (h : p .trap .severe = true) (s : State) : Spares p s (settleCloses s) :=
  (((((forUnits_spares judgeMember_spares s).trans (forUnits_spares judgeCovered_spares _)).trans
    (forUnits_spares judgeEmergencyMember_spares _)).trans (forUnits_spares judgeAccessMember_spares _)).trans
      (completeCycle_spares h _)).trans (completeEmergency_spares h _)

theorem sendBeacon_spares (s : State) : Spares p s (sendBeacon s) := (enqueue_spares _ _ s).trans (.of_fr rfl)

theorem finish_spares (s : State) : Spares p s (finish s) := by
  refine Spares.trans (b := driveLines s) (.of_fr rfl) ?_
  unfold finish changeBeacon
  split
  · split
    · exact sendBeacon_spares _
    · exact .of_fr rfl
  · exact .refl _

theorem settle_spares (h : p .trap .severe = true) (s0 s : State) : Spares p s (settle s0 s) := by
  rw [settle_eq]
  refine Spares.trans ?_ (finish_spares _)
  rw [judged_eq]
  exact (settleCloses_spares h s).trans (.of_fr rfl)

end Spares

/-- The one report that the end of an event can make. -/
def trapAlone (k : FaultKind) (sev : Severity) : Bool := k == .trap && sev == .severe

theorem settle_minor (s0 s : State) : (settle s0 s).fr.minor = s.fr.minor :=
  (settle_spares (p := trapAlone) rfl s0 s).slots .minor fun k => by cases k <;> rfl

theorem finish_slot (sev : Severity) (s : State) : (finish s).fr.slot sev = s.fr.slot sev :=
  (finish_spares (p := fun _ _ => false) s).slots sev fun _ => rfl

theorem finish_minor (s : State) : (finish s).fr.minor = s.fr.minor := finish_slot .minor s

/-- A report made before the end of an event stands after it. -/
theorem Reported.settled {sev : Severity} {x : FaultRecord} {r : FaultRecorder} {s0 a : State} (h : Reported sev x r a.fr)
    (n : x.kind ≠ .trap) : Reported sev x r (settle s0 a).fr :=
  h.after ((settle_ends s0 a).1.slot_kept sev) (settle_spares (p := trapAlone) rfl s0 a) fun sev => by
    have e : (x.kind == FaultKind.trap) = false := beq_eq_false_iff_ne.mpr n
    rw [trapAlone, e, Bool.false_and]

theorem Reported.finished {sev : Severity} {x : FaultRecord} {r : FaultRecorder} {a : State} (h : Reported sev x r a.fr) :
    Reported sev x r (finish a).fr :=
  h.after ((finish_sends a).slot_kept sev) (finish_spares (p := fun _ _ => false) a) fun _ => rfl

/-! ### Where no close is under way -/

theorem forUnits_still {f : UnitNo → State → State} {s : State} (h : ∀ u, f u s = s) : forUnits f s = s := by
  simp only [forUnits, h]

theorem settleCloses_still {s : State} (h : s.noCloses) : settleCloses s = s := by
  obtain ⟨cycle, departure, emergency, access⟩ := h
  have e1 : forUnits judgeMember s = s := forUnits_still fun u => by rw [judgeMember, cycle]
  have e2 : forUnits judgeCovered s = s := forUnits_still fun u => by rw [judgeCovered, departure]
  have e3 : forUnits judgeEmergencyMember s = s := forUnits_still fun u => by rw [judgeEmergencyMember, emergency]
  have e4 : forUnits judgeAccessMember s = s := forUnits_still fun u => by rw [judgeAccessMember, access]
  have e5 : completeCycle s = s := by rw [completeCycle, cycle]
  have e6 : completeEmergency s = s := by rw [completeEmergency, emergency]
  rw [settleCloses, e1, e2, e3, e4, e5, e6]

/-- Where no close is under way the end of an event brings the outputs and the beacon up to date. -/
theorem settle_still {s : State} (h : s.noCloses) (s0 : State) :
    settle s0 s = finish (driveWarning { s with out := (judged s0 s).out }) := by
  have e := judged_eq s0 s
  rw [settleCloses_still h] at e
  rw [settle_eq, ← e]

theorem settle_still_slot {s : State} (h : s.noCloses) (s0 : State) (sev : Severity) :
    (settle s0 s).fr.slot sev = s.fr.slot sev := by
  rw [settle_still h]
  exact finish_slot sev _

theorem settle_still_severe {s : State} (h : s.noCloses) (s0 : State) : (settle s0 s).fr.severe = s.fr.severe :=
  settle_still_slot h s0 .severe

theorem settle_still_iu {s : State} (h : s.noCloses) (s0 : State) : (settle s0 s).iu = s.iu := by
  rw [settle_still h]
  exact (finish_sends _).iu

end Sys2Proof.Machine

/-! What the end of a load reports, and the refusal of straps that are no bay controller's (R1, R11). -/

namespace Sys2Proof.Machine

variable {i : Instr}

/-! ### What follows the load's own report -/

/-- What the start of units and the taking of captures can report. -/
def startReports : FaultKind → Severity → Bool
  | .trap, .severe => true
  | .intrusion, .minor => true
  | .handle, .minor => true
  | .panel, .minor => true
  | _, _ => false

theorem startUnitSensing_fr (u : UnitNo) (s : State) : (startUnitSensing u s).fr = s.fr := by
  unfold startUnitSensing
  split <;> rfl

theorem startUnit_spares (u : UnitNo) (s : State) : Spares startReports s (startUnit u s) := by
  unfold startUnit
  split
  · exact moveUnit_spares rfl rfl u _ s
  · exact .of_fr rfl

/-- The handle's operation counted (R171). -/
def countHandle (u : UnitNo) (s : State) : State := s.modUnitCounters u fun c => { c with handleReleases := c.handleReleases.bump }

/-- The unit marked for its panel (R175). -/
def markPanel (u : UnitNo) (s : State) : State := s.modIu fun i => { i with panelMarks := i.panelMarks.set u true }

theorem noteHandle_eq (u : UnitNo) (s : State) :
    noteHandle u s = alert .handle (some u) (report .handle .minor (some u) (countHandle u s)) := rfl

theorem notePanel_eq (u : UnitNo) (s : State) :
    notePanel u s = alert .panel (some u) (report .panel .minor (some u) (markPanel u s)) := rfl

theorem noteHandle_spares (u : UnitNo) (s : State) : Spares startReports s (noteHandle u s) := by
  have counted : Spares startReports s (countHandle u s) := .of_slots rfl rfl rfl
  rw [noteHandle_eq]
  exact (counted.trans (report_spares rfl)).trans (alert_spares _ _ _)

theorem notePanel_spares (u : UnitNo) (s : State) : Spares startReports s (notePanel u s) := by
  have marked : Spares startReports s (markPanel u s) := .of_slots rfl rfl rfl
  rw [notePanel_eq]
  exact (marked.trans (report_spares rfl)).trans (alert_spares _ _ _)

theorem takeCaptures_spares (u : UnitNo) (s : State) : Spares startReports s (takeCaptures u s) := by
  unfold takeCaptures
  split
  · dsimp only
    exact ((Spares.refl s).guard (noteHandle_spares u)).guard (notePanel_spares u)
  · exact .refl s

theorem driveLines_fr (s : State) : (driveLines s).fr = s.fr := rfl

theorem endLoad_spares (o : LoadOutcome) (c : NodeConfig) (s : State) :
    Spares startReports (reportLoad o (s.modCl fun l => l.ended o c (s.timer 600))) (endLoad o c s) := by
  rw [endLoad_eq]
  have ended : Spares startReports (reportLoad o (s.modCl fun l => l.ended o c (s.timer 600))) (loadEnded o c s) := .of_fr rfl
  exact (((ended.trans (forUnits_spares (fun u s => .of_fr (startUnitSensing_fr u s)) _)).trans
    (forUnits_spares startUnit_spares _)).trans (forUnits_spares takeCaptures_spares _)).trans (.of_fr (driveLines_fr _))

/-- The load's report stands at its end, where it is no report of a start. -/
theorem endLoad_reported {o : LoadOutcome} {c : NodeConfig} {s : State} {sev : Severity} {x : FaultRecord} {r : FaultRecorder}
    (h : Reported sev x r (reportLoad o (s.modCl fun l => l.ended o c (s.timer 600))).fr) (n : ∀ sev, startReports x.kind sev = false) :
    Reported sev x r (endLoad o c s).fr :=
  h.after (fun y full => Keeps.slot_kept (a := withPanels _ (loadEnded o c s)) (endLoad_after o c s).1 sev y full) (endLoad_spares o c s) n

/-- A load that does not pass reports CONFIG_FAULT, with the unit of a UNIT_FIELD (R11). -/
theorem reportLoad_refused {o : LoadOutcome} (h : o.reason ≠ .ok) (s : State) :
    reportLoad o s = report .configFault .severe (if o.reason = .unitField then o.index.bind UnitNo.ofNat? else none) s := by
  unfold reportLoad
  split
  · next e => exact absurd e h
  · next e => rw [if_pos e]
  · next n => rw [if_neg n]

theorem Loader.ended_refused {o : LoadOutcome} (h : o.reason ≠ .ok) (l : Loader) (c : NodeConfig) (t : Option Time) :
    l.ended o c t =
      { l with phase := .configFault, outcome := some o, config := c, quietTimer := if isBay l.own then t else none } := if_neg h

/-- A refused load stands reported at its end (R11, R187). -/
theorem refused_reported {o : LoadOutcome} (h : o.reason ≠ .ok) (c : NodeConfig) (s : State) :
    Reported .severe ⟨.configFault, if o.reason = .unitField then o.index.bind UnitNo.ofNat? else none, s.seq, s.now⟩ s.fr
      (endLoad o c s).fr := by
  refine endLoad_reported ?_ fun sev => by cases sev <;> rfl
  rw [reportLoad_refused h]
  exact report_reported _ _ _ (s.modCl _)

/-- A report has left its slot filled. -/
theorem Reported.isSome {sev : Severity} {x : FaultRecord} {r r' : FaultRecorder} (h : Reported sev x r r') : (r'.slot sev).isSome = true := by
  rcases e : r.slot sev with _ | y
  · rw [h.1 e]
    rfl
  · rw [(h.2 y e).1]
    rfl

/-! ### A strap value of no bay controller -/

theorem silent_strap {straps : BitVec 6} {t : State} (h : isBay straps = false) (own : t.cl.own = straps)
    (fault : t.cl.phase = .configFault) : t.hears = false ∧ t.canSend = false := by
  have strap : t.strapOk = false := by rw [State.strapOk, own, h]
  simp [State.hears, State.canSend, State.running, State.faultServing, strap, fault]

/-- Settles O6: the three resets load nothing under such straps, but end the load at once by `refuseLoad`. -/
theorem invalidStrapsRefuse : Obligations.InvalidStrapsRefuse := by
  unfold Obligations.InvalidStrapsRefuse
  intro i straps s bay h
  have refused : ∀ r : State, r.cl = Loader.loading straps →
      (refuseLoad .strap r).cl = { r.cl with
        phase := .configFault, outcome := some ⟨.strap, 0, none, 0⟩, config := NodeConfig.fallback 4, quietTimer := none } :=
    fun r cl => by
      rw [refuseLoad, endLoad_cl, Loader.ended_refused (o := LoadOutcome.refused .strap 0 none) (fun e => nomatch e), cl]
      simp [Loader.loading, bay, LoadOutcome.refused]
  have silent : ∀ r : State, r.cl = Loader.loading straps → (refuseLoad .strap r).hears = false ∧ (refuseLoad .strap r).canSend = false :=
    fun r cl => silent_strap bay (by rw [refused r cl, cl]; rfl) (by rw [refused r cl])
  have reported : ∀ r : State, Reported .severe ⟨.configFault, none, r.seq, r.now⟩ r.fr (refuseLoad .strap r).fr := fun r =>
    refused_reported (o := LoadOutcome.refused .strap 0 none) (fun e => nomatch e) _ r
  rcases h with ⟨rfl, low⟩ | node
  · have cl := refused (powerOnValues straps s) rfl
    have filled := reported (powerOnValues straps s)
    refine ⟨_, (exec_powerOnReset low).trans (by rw [startLoading_refused bay rfl]), ?_⟩
    exact ⟨by rw [cl], by rw [cl]; rfl, by rw [cl], by rw [cl], by rw [cl], filled.isSome, fun _ => filled.1 rfl,
      fun n => absurd rfl (n straps), silent _ rfl⟩
  · have cl := refused (nodeRestart straps s) rfl
    have filled : Reported .severe ⟨.configFault, none, 0, 0⟩ s.fr (refuseLoad .strap (nodeRestart straps s)).fr :=
      (reported (nodeRestart straps s)).before rfl rfl
    refine ⟨_, (exec_nodeReset node).trans (by rw [nodeReset_eq, startLoading_refused bay rfl]), ?_⟩
    refine ⟨by rw [cl], by rw [cl]; rfl, by rw [cl], by rw [cl], by rw [cl], filled.isSome, fun ⟨x, e⟩ => ?_,
      fun _ => filled, silent _ rfl⟩
    rcases node with ⟨rfl, -⟩ | ⟨rfl, -⟩ <;> cases e

end Sys2Proof.Machine

/-! The Line Controller's attempts, and what becomes of a frame by its checks, its source and its addressee (chapter 3). -/

namespace Sys2Proof.Machine

variable {i : Instr}

/-! ### The end of an event -/

/-- One of the two ends of an event: `finish`, or `settle` against the state it began at. -/
def IsEnd (e : State → State) : Prop := e = finish ∨ ∃ s0, e = settle s0

theorem IsEnd.ends {e : State → State} (h : IsEnd e) (a : State) : Ends a (e a) := by
  obtain rfl | ⟨s0, rfl⟩ := h
  · exact finish_ends a
  · exact settle_ends s0 a

theorem IsEnd.reported {e : State → State} (h : IsEnd e) {sev : Severity} {x : FaultRecord} {r : FaultRecorder} {a : State}
    (k : Reported sev x r a.fr) (n : x.kind ≠ .trap) : Reported sev x r (e a).fr := by
  obtain rfl | ⟨s0, rfl⟩ := h
  · exact k.finished
  · exact k.settled n

theorem IsEnd.severe {e : State → State} (h : IsEnd e) {a : State} (n : a.noCloses) : (e a).fr.severe = a.fr.severe := by
  obtain rfl | ⟨s0, rfl⟩ := h
  · exact finish_slot .severe a
  · exact settle_still_severe n s0

/-! ### Delivery -/

/-- How the command `i` of the frame `f` is delivered: COMMANDs and QUERYs act at their own number alone, and a COMMAND but RESET_NODE is
refused in CONFIG_FAULT after the quiet period (R19, R45, R46). -/
structure Delivers (i : Instr) (f : Frame) (g : State → State) : Prop where
  elsewhere : f.kind = .command ∨ f.kind = .query → ∀ x : State, f.payload.head? ≠ some (nodeByte x.cl.own) → g x = x
  refused : f.kind = .command → ∀ x : State, f.payload.head? = some (nodeByte x.cl.own) → x.faultServing = true →
    (∀ dest arg, i ≠ .resetNode f.source dest arg) → ∃ sub arg, g x = sendResult f.source sub arg false .nodeState x

theorem Delivers.plain {f : Frame} {g : State → State} (command : f.kind ≠ .command) (query : f.kind ≠ .query) : Delivers i f g :=
  ⟨fun h => absurd h (by simp [command, query]), fun h => absurd h command⟩

theorem faultServing_running {s : State} (h : s.faultServing = true) : s.running = false := by
  simp only [State.faultServing, Bool.and_eq_true, beq_iff_eq] at h
  simp [State.running, h.1.1]

theorem Delivers.command {src : Node} {sub : SubCommand} {dest arg : Byte} {g : State → State} :
    Delivers i ⟨src, .command, commandPayload sub dest arg⟩ (onCommand src sub dest arg g) where
  elsewhere := fun _ x h => by
    have other : dest ≠ nodeByte x.cl.own := fun e => h (by rw [e]; rfl)
    simp [onCommand, other]
  refused := fun _ x h serving _ => by
    obtain rfl : dest = nodeByte x.cl.own := Option.some.inj h
    exact ⟨sub, sub.plainArg arg, by simp [onCommand, faultServing_running serving, serving]⟩

theorem Delivers.query {src : Node} {topic : Topic} {dest arg clear : Byte} {g : State → State} :
    Delivers i ⟨src, .query, queryPayload topic dest arg clear⟩ (onQuery dest g) where
  elsewhere := fun _ x h => by
    have other : dest ≠ nodeByte x.cl.own := fun e => h (by rw [e]; rfl)
    simp [onQuery, other]
  refused := fun h => nomatch h

theorem Delivers.resetNode {src : Node} {dest arg : Byte} :
    Delivers (.resetNode src dest arg) ⟨src, .command, commandPayload .resetNode dest arg⟩ (onResetNode src dest) where
  elsewhere := fun _ x h => by
    have other : dest ≠ nodeByte x.cl.own := fun e => h (by rw [e]; rfl)
    simp [onResetNode, other]
  refused := fun _ _ _ _ n => absurd rfl (n dest arg)

/-- A frame command delivers its frame, where the LC hears it, and ends. -/
theorem exec_frame {f : Frame} (h : frameOf i = some f) (s : State) :
    ∃ g e, IsEnd e ∧ Delivers i f g ∧ Sys2Proof.Machine.exec i s = .next (if s.hears then e (receive f g s) else s) := by
  have plain : ∀ {f g}, f.kind ≠ FrameKind.command → f.kind ≠ FrameKind.query → frameOf i = some f →
      (Sys2Proof.Machine.exec i s = .next (onFrame f g s) ∨ Sys2Proof.Machine.exec i s = .next (onFrameSettling f g s)) →
      ∃ g e, IsEnd e ∧ Delivers i f g ∧ Sys2Proof.Machine.exec i s = .next (if s.hears then e (receive f g s) else s) := by
    rintro f g command query - (e | e)
    · exact ⟨g, finish, .inl rfl, .plain command query, e⟩
    · exact ⟨g, settle s, .inr ⟨s, rfl⟩, .plain command query, e⟩
  cases i <;> cases h
  case isolate => exact ⟨_, settle s, .inr ⟨s, rfl⟩, .command, rfl⟩
  case restore => exact ⟨_, settle s, .inr ⟨s, rfl⟩, .command, rfl⟩
  case rehome => exact ⟨_, settle s, .inr ⟨s, rfl⟩, .command, rfl⟩
  case ackFault => exact ⟨_, finish, .inl rfl, .command, rfl⟩
  case ackRelease => exact ⟨_, settle s, .inr ⟨s, rfl⟩, .command, rfl⟩
  case accessOpen => exact ⟨_, settle s, .inr ⟨s, rfl⟩, .command, rfl⟩
  case accessClose => exact ⟨_, settle s, .inr ⟨s, rfl⟩, .command, rfl⟩
  case accessLock => exact ⟨_, finish, .inl rfl, .command, rfl⟩
  case resetNode => exact ⟨_, finish, .inl rfl, .resetNode, rfl⟩
  case queryFaults => exact ⟨_, finish, .inl rfl, .query, rfl⟩
  case queryUnitCounters => exact ⟨_, finish, .inl rfl, .query, rfl⟩
  case queryNodeCounters => exact ⟨_, finish, .inl rfl, .query, rfl⟩
  case queryBerth => exact ⟨_, finish, .inl rfl, .query, rfl⟩
  case queryServiceMap => exact ⟨_, finish, .inl rfl, .query, rfl⟩
  case queryPeer => exact ⟨_, finish, .inl rfl, .query, rfl⟩
  case berthExt => exact plain (fun e => nomatch e) (fun e => nomatch e) rfl (.inl rfl)
  case edge => exact plain (fun e => nomatch e) (fun e => nomatch e) rfl (.inl rfl)
  case result => exact plain (fun e => nomatch e) (fun e => nomatch e) rfl (.inl rfl)
  case answer => exact plain (fun e => nomatch e) (fun e => nomatch e) rfl (.inl rfl)
  all_goals exact plain (fun e => nomatch e) (fun e => nomatch e) rfl (.inr rfl)

/-- Settles O16: such a frame is counted by `countDiscard` before anything is noted or delivered. -/
theorem badFramesCount : Obligations.BadFramesCount := by
  unfold Obligations.BadFramesCount
  refine ⟨fun i f s frame bad hears => ?_, fun heard framing s hears none => ?_⟩
  · obtain ⟨g, e, isEnd, -, exec⟩ := exec_frame frame s
    have counted : receive f g s = countDiscard s := by simp [receive, bad]
    rw [if_pos hears, counted] at exec
    exact ⟨_, exec, isEnd.ends (countDiscard s)⟩
  · show Host.Outcome.next _ = _
    rw [hears, none]
    rfl

theorem ownNumberFrame_first {s : State} (h : s.pm.identityConflict = false) :
    ownNumberFrame s = report .identityConflict .severe none (s.modPm fun p => { p with identityConflict := true }) :=
  if_neg (by simp [h])

theorem ownNumberFrame_again {s : State} (h : s.pm.identityConflict = true) : ownNumberFrame s = s := if_pos h

/-- Settles O18: the frame is handed to `ownNumberFrame` and to nothing else. -/
theorem ownNumberConflicts : Obligations.OwnNumberConflicts := by
  unfold Obligations.OwnNumberConflicts
  intro i f s frame ok hears own
  obtain ⟨g, e, isEnd, -, exec⟩ := exec_frame frame s
  have taken : receive f g s = ownNumberFrame s := by simp [receive, ok, own]
  rw [if_pos hears, taken] at exec
  rcases h : s.pm.identityConflict with _ | _
  · rw [ownNumberFrame_first h] at exec
    have reported : Reported .severe ⟨.identityConflict, none, s.seq, s.now⟩ s.fr _ :=
      isEnd.reported (report_reported .identityConflict .severe none (s.modPm fun p => { p with identityConflict := true }))
        (fun e => nomatch e)
    exact ⟨_, exec, fun _ => reported.isSome, fun _ => reported, fun c => absurd c Bool.false_ne_true,
      (report_sends _ _ _ (s.modPm fun p => { p with identityConflict := true })).ends.trans (isEnd.ends _)⟩
  · rw [ownNumberFrame_again h] at exec
    have same : s = { s with pm := { s.pm with identityConflict := true } } := by rw [← h]
    refine ⟨_, exec, fun c => absurd c.symm Bool.false_ne_true, fun c => absurd c.symm Bool.false_ne_true, fun _ still => isEnd.severe still, ?_⟩
    rw [← same]
    exact isEnd.ends s

/-! ### Slots -/

theorem node_lt (n : Node) : n.toNat < 64 := n.isLt

theorem setSlot_same {s : State} (room : s.pm.slots.length = 64) (n : Node) (x : Slot) : (s.setSlot n x).slot n = x := by
  have lt : n.toNat < s.pm.slots.length := by rw [room]; exact node_lt n
  simp [State.slot, List.getD_eq_getElem?_getD, lt]

theorem setSlot_ne {n m : Node} (h : m ≠ n) (x : Slot) (s : State) : (s.setSlot n x).slot m = s.slot m := by
  have ne : n.toNat ≠ m.toNat := fun e => h (BitVec.eq_of_toNat_eq e.symm)
  simp [State.slot, List.getD_eq_getElem?_getD, List.getElem?_set_ne ne]

theorem Ends.slot {s t : State} (h : Ends s t) (n : Node) : t.slot n = s.slot n := by
  rw [State.slot, h.1.slots]
  rfl

theorem Slot.note_live {x : Slot} {bay b : Bool} {now : Time} (h : x.state ≠ .silent ∨ bay = false) :
    x.note bay b now = { x with state := .live, lastFrame := some now, silenceTimer := some (after now 1000) } := by
  unfold Slot.note
  rcases e : x.state with _ | _ | _
  · rfl
  · rfl
  · have none : bay = false := h.resolve_left fun n => n e
    simp [none]

theorem Slot.note_silent {x : Slot} {now : Time} (h : x.state = .silent) : x.note true false now = { x with lastFrame := some now } := by
  simp [Slot.note, h]

/-- Settles O19: such a frame is delivered to nothing, or to the IU, which has no part in it. -/
theorem notesOnly : Obligations.NotesOnly := by
  unfold Obligations.NotesOnly
  intro i f s which frame ok hears peer room
  have acc : Accepted f s := ⟨hears, ok, peer⟩
  obtain ⟨e, isEnd, exec⟩ : ∃ e, IsEnd e ∧ Sys2Proof.Machine.exec i s = .next (e (noteActivity f.source false s)) := by
    obtain ⟨src, requester, sub, arg, outcome, code, rfl⟩ | ⟨src, requester, topic, arg, part, count, data, rfl⟩ |
      ⟨src, kind, unit, seq, rfl, n⟩ := which
    · cases frame
      refine ⟨finish, .inl rfl, ?_⟩
      show Host.Outcome.next (onFrame _ id s) = _
      rw [onFrame, if_pos hears, receive_of_accepted acc]
      rfl
    · cases frame
      refine ⟨finish, .inl rfl, ?_⟩
      show Host.Outcome.next (onFrame _ id s) = _
      rw [onFrame, if_pos hears, receive_of_accepted acc]
      rfl
    · cases frame
      refine ⟨settle s, .inr ⟨s, rfl⟩, ?_⟩
      show Host.Outcome.next (onFrameSettling _ (inRunning (takeAlert src kind)) s) = _
      have id : ∀ x, inRunning (takeAlert src kind) x = x := fun x => by
        have other : takeAlert src kind x = x := if_neg n
        rw [inRunning, other, ite_self]
      rw [onFrameSettling, if_pos hears, receive_of_accepted acc, id]
      rfl
  have ends := isEnd.ends (noteActivity f.source false s)
  refine ⟨_, exec, ?_, fun n ne => ?_, fun live => ?_, fun silent bay => ?_⟩
  · rw [ends.1.slots]
    exact ends
  · rw [ends.slot]
    exact setSlot_ne ne _ s
  · rw [ends.slot]
    exact (setSlot_same room _ _).trans (Slot.note_live live)
  · rw [ends.slot]
    refine (setSlot_same room _ _).trans ?_
    rw [bay]
    exact Slot.note_silent silent

/-- Settles O37: elsewhere nothing is delivered; in CONFIG_FAULT the COMMAND draws its RESULT, which is a frame and the last refusal code. -/
theorem commandsElsewhere : Obligations.CommandsElsewhere := by
  unfold Obligations.CommandsElsewhere
  intro i f dest s frame kind head acc
  obtain ⟨g, e, isEnd, delivers, exec⟩ := exec_frame frame s
  have note : (f.kind == .beacon) = false := by rcases kind with k | k <;> rw [k] <;> rfl
  rw [if_pos acc.1, receive_of_accepted acc, note] at exec
  refine ⟨fun other => ?_, fun own serving command n => ?_⟩
  · rw [delivers.elsewhere kind (noteActivity f.source false s) (by rw [head]; exact fun e => other (Option.some.inj e))] at exec
    exact ⟨_, exec, isEnd.ends _⟩
  · obtain ⟨sub, arg, result⟩ := delivers.refused command (noteActivity f.source false s) (by rw [head, own]; rfl) serving
      fun dest' arg e => by
        have same : dest' = dest := by
          rw [e] at frame
          injection frame with frame
          rw [← frame] at head
          exact Option.some.inj head
        exact n arg (same ▸ e)
    rw [result] at exec
    refine ⟨_, exec, Ends.trans ?_ (isEnd.ends _)⟩
    have sent := enqueue_sends .result [nodeByte f.source, sub.code, arg, 2, RefusalCode.nodeState.code] (noteActivity f.source false s)
    exact Sends.ends { sent with lastRefusal := rfl }

/-! ### Berth frames of another sequence (R71) -/

/-- Settles O26: the six frames act by `onSequence`, which counts one of another sequence. -/
theorem otherSequencesDiscarded : Obligations.OtherSequencesDiscarded := by
  unfold Obligations.OtherSequencesDiscarded
  intro i f seq s which frame acc other
  have settled : ∀ g : State → State, f.kind ≠ .beacon →
      Sys2Proof.Machine.exec i s = .next (onFrameSettling f (inRunning (onSequence seq g)) s) →
      ∃ t, Sys2Proof.Machine.exec i s = .next t ∧ Ends (countDiscard (noteActivity f.source false s)) t := fun g k exec => by
    rw [onFrameSettling_of_acceptedRunning acc, beq_eq_false_iff_ne.mpr k, onSequence_other (by simpa using other)] at exec
    exact ⟨_, exec, settle_ends s _⟩
  obtain ⟨src, d1, d2, d3, d4, d5, d6, d7, rfl⟩ | ⟨src, rfl⟩ | ⟨src, rfl⟩ | ⟨src, rfl⟩ | ⟨src, rfl⟩ | ⟨src, rfl⟩ := which
  · cases frame
    refine ⟨_, rfl, ?_⟩
    rw [onFrame_of_acceptedRunning acc, onSequence_other (by simpa using other)]
    exact finish_ends _
  all_goals
    cases frame
    exact settled _ (fun e => nomatch e) rfl

end Sys2Proof.Machine

/-! The Transmit Queue's places, the attempts and their ends, and LINE_QUIET (sections 3.4 and 3.5). -/

namespace Sys2Proof.Machine

variable {i : Instr}

/-! ### The place of an entry (R47, R49) -/

/-- In a queue in class order an entry joins between those of its own or a lower class and those of a higher class. -/
theorem insertByClass_split (e : TxEntry) {q : List TxEntry} (h : q.Pairwise fun a b => a.kind.cls ≤ b.kind.cls) :
    ∃ l r, q = l ++ r ∧ (∀ x ∈ l, x.kind.cls ≤ e.kind.cls) ∧ (∀ x ∈ r, e.kind.cls < x.kind.cls) ∧ insertByClass e q = l ++ e :: r := by
  induction q with
  | nil => exact ⟨[], [], rfl, by simp, by simp, rfl⟩
  | cons x q ih =>
    obtain ⟨first, rest⟩ := List.pairwise_cons.1 h
    unfold insertByClass
    split
    · next le =>
      obtain ⟨l, r, rfl, below, above, place⟩ := ih rest
      exact ⟨x :: l, r, rfl, by simpa using ⟨le, below⟩, above, by rw [place]; rfl⟩
    · next gt =>
      refine ⟨[], x :: q, rfl, by simp, fun y m => ?_, rfl⟩
      rcases List.mem_cons.1 m with rfl | m
      · omega
      · exact lt_of_lt_of_le (by omega) (first y m)

theorem topClass_le (q : List TxEntry) (n : Nat) : topClass q ≤ n ↔ ∀ x ∈ q, x.onLine = false → x.kind.cls ≤ n := by
  have fold : ∀ (q : List TxEntry) (a : Nat),
      q.foldl (fun m e => if e.onLine then m else max m e.kind.cls) a ≤ n ↔ a ≤ n ∧ ∀ x ∈ q, x.onLine = false → x.kind.cls ≤ n := by
    intro q
    induction q with
    | nil => simp
    | cons x q ih =>
      intro a
      rw [List.foldl_cons, ih, List.forall_mem_cons]
      by_cases on : x.onLine = true
      · simp [on]
      · simp [on, and_assoc]
  simp [topClass, fold]

theorem lt_topClass (q : List TxEntry) (n : Nat) : n < topClass q ↔ ∃ x ∈ q, x.onLine = false ∧ n < x.kind.cls := by
  rw [← not_le, topClass_le]
  simp only [not_forall, not_le, exists_prop]

theorem removeLast_split {p : TxEntry → Bool} {l l' : List TxEntry} {y : TxEntry} (h : removeLast p l = (l', some y)) :
    ∃ a b, l = a ++ y :: b ∧ l' = a ++ b ∧ p y = true ∧ ∀ x ∈ b, p x = false := by
  have none : ∀ (l l' : List TxEntry), removeLast p l = (l', none) → ∀ x ∈ l, p x = false := by
    intro l
    induction l with
    | nil => simp
    | cons x l ih =>
      intro l' h
      unfold removeLast at h
      split at h
      · cases h
      · next l'' e =>
        split at h
        · cases h
        · next off => exact List.forall_mem_cons.2 ⟨by simpa using off, ih _ e⟩
  induction l generalizing l' y with
  | nil => cases h
  | cons x l ih =>
    unfold removeLast at h
    split at h
    · next l'' z e =>
      cases h
      obtain ⟨a, b, rfl, rfl, holds, rest⟩ := ih e
      exact ⟨x :: a, b, rfl, rfl, holds, rest⟩
    · next l'' e =>
      split at h
      · next holds =>
        cases h
        exact ⟨[], _, rfl, rfl, holds, none _ _ e⟩
      · cases h

theorem removeLast_isSome {p : TxEntry → Bool} {l : List TxEntry} (h : ∃ x ∈ l, p x = true) :
    ∃ l' y, removeLast p l = (l', some y) := by
  induction l with
  | nil => simp at h
  | cons x l ih =>
    unfold removeLast
    split
    · exact ⟨_, _, rfl⟩
    · next e =>
      by_cases here : p x = true
      · exact ⟨_, _, if_pos here⟩
      · obtain ⟨y, m, holds⟩ := h
        rcases List.mem_cons.1 m with rfl | m
        · exact absurd holds here
        · obtain ⟨l', y, e'⟩ := ih ⟨y, m, holds⟩
          rw [e'] at e
          cases e

/-! ### Enqueuing (R47 to R49) -/

section Enqueue

variable {k : FrameKind} {p : List Byte} {s : State}

/-- An entry as enqueued. -/
def newEntry (k : FrameKind) (p : List Byte) : TxEntry := ⟨k, p, none, false⟩

theorem hasBeacon_iff (q : List TxEntry) : (q.any fun e => e.kind == .beacon) = true ↔ ∃ x ∈ q, x.kind = .beacon := by simp

theorem enqueue_meets (h : ∃ x ∈ s.lc.queue, x.kind = .beacon) : enqueue .beacon p s = s.setQueue (replaceBeacon p s.lc.queue) :=
  if_pos (by rw [(hasBeacon_iff _).2 h]; rfl)

/-- The frame is no beacon that meets one. -/
theorem enqueue_fresh (h : k ≠ .beacon ∨ ∀ x ∈ s.lc.queue, x.kind ≠ .beacon) :
    ¬(k == .beacon && s.lc.queue.any fun e => e.kind == .beacon) = true := by
  rw [Bool.and_eq_true, hasBeacon_iff, beq_iff_eq]
  rintro ⟨rfl, x, m, e⟩
  rcases h with h | h
  · exact h rfl
  · exact h x m e

theorem enqueue_joins (h : k ≠ .beacon ∨ ∀ x ∈ s.lc.queue, x.kind ≠ .beacon) (room : s.lc.queue.length < 16) :
    enqueue k p s = s.setQueue (insertByClass (newEntry k p) s.lc.queue) := by
  unfold enqueue
  dsimp only
  rw [if_neg (enqueue_fresh h), if_pos (show s.lc.queue.length < queueRoom from room)]
  rfl

/-- A dropped or removed entry is counted, and a due RESET_NODE's RESULT among it is reported (R49, R195). -/
theorem reportGone_dropped (e : TxEntry) (s : State) :
    reportGone e (countDrop s) =
      { s with
        fr :=
          { s.fr with
            nodeCounters := { s.fr.nodeCounters with txDrops := s.fr.nodeCounters.txDrops.bump }
            resetReported := s.fr.resetReported || (e.kind == .result && e.payload.getD 1 0 == 9 && s.fr.resetDue) } } := by
  have due : (countDrop s).fr.resetDue = s.fr.resetDue := rfl
  unfold reportGone TxEntry.isResetResult
  rw [due, show SubCommand.resetNode.code = 9 from rfl]
  cases h : (e.kind == .result && e.payload.getD 1 0 == 9 && s.fr.resetDue)
  · rw [if_neg Bool.false_ne_true, Bool.or_false]
    rfl
  · rw [if_pos rfl, Bool.or_true]
    rfl

theorem enqueue_dropped (h : k ≠ .beacon ∨ ∀ x ∈ s.lc.queue, x.kind ≠ .beacon) (full : s.lc.queue.length = 16)
    (low : k = .edge ∨ ∀ x ∈ s.lc.queue, x.onLine = false → x.kind.cls ≤ k.cls) :
    enqueue k p s = reportGone (newEntry k p) (countDrop s) := by
  unfold enqueue
  dsimp only
  rw [if_neg (enqueue_fresh h), if_neg (by rw [full]; decide)]
  split
  · next edge =>
    obtain rfl := beq_iff_eq.1 edge
    rfl
  · next other =>
    have le : ¬k.cls < topClass s.lc.queue := not_lt.2 ((topClass_le _ _).2 (low.resolve_left (by simpa using other)))
    rw [if_neg le]
    rfl

theorem enqueue_evicts (h : k ≠ .beacon ∨ ∀ x ∈ s.lc.queue, x.kind ≠ .beacon) (full : s.lc.queue.length = 16) (edge : k ≠ .edge)
    (high : ∃ x ∈ s.lc.queue, x.onLine = false ∧ k.cls < x.kind.cls) :
    ∃ l gone r, s.lc.queue = l ++ gone :: r ∧ gone.onLine = false ∧
      (∀ x ∈ s.lc.queue, x.onLine = false → x.kind.cls ≤ gone.kind.cls) ∧ (∀ x ∈ r, x.onLine = true ∨ x.kind.cls ≠ gone.kind.cls) ∧
      enqueue k p s = reportGone gone (countDrop (s.setQueue (insertByClass (newEntry k p) (l ++ r)))) := by
  have top := (lt_topClass _ _).2 high
  obtain ⟨x, m, off, eq⟩ : ∃ x ∈ s.lc.queue, x.onLine = false ∧ x.kind.cls = topClass s.lc.queue := by
    obtain ⟨x, m, off, le⟩ := (lt_topClass s.lc.queue (topClass s.lc.queue - 1)).1 (by omega)
    have ge := (topClass_le s.lc.queue _).1 le_rfl x m off
    exact ⟨x, m, off, by omega⟩
  obtain ⟨q', gone, e⟩ := removeLast_isSome (p := fun e => !e.onLine && e.kind.cls == topClass s.lc.queue) ⟨x, m, by simp [off, eq]⟩
  obtain ⟨l, r, split, rest, holds, none⟩ := removeLast_split e
  simp only [Bool.and_eq_true, Bool.not_eq_true', beq_iff_eq] at holds
  refine ⟨l, gone, r, split, holds.1, ?_, fun x m => ?_, ?_⟩
  · rw [holds.2]
    exact (topClass_le _ _).1 le_rfl
  · have other := none x m
    rw [holds.2]
    by_cases on : x.onLine = true
    · exact .inl on
    · exact .inr (by simpa [on] using other)
  · unfold enqueue
    dsimp only
    rw [if_neg (enqueue_fresh h), if_neg (by rw [full]; decide), if_neg (by simpa using edge), if_pos top, e, rest]
    rfl

/-- A beacon that finds room, or a beacon to meet, moves nothing but the queue. -/
theorem enqueue_beacon_fr (room : s.lc.queue.length < 16 ∨ ∃ x ∈ s.lc.queue, x.kind = .beacon) : (enqueue .beacon p s).fr = s.fr := by
  by_cases h : ∃ x ∈ s.lc.queue, x.kind = .beacon
  · rw [enqueue_meets h]
    rfl
  · rw [enqueue_joins (.inr fun x m e => h ⟨x, m, e⟩) (room.resolve_right h)]
    rfl

/-- The queue after a frame is enqueued is read off the queue before it. -/
theorem enqueue_queue_congr {a b : State} (h : a.lc.queue = b.lc.queue) (k : FrameKind) (p : List Byte) :
    (enqueue k p a).lc.queue = (enqueue k p b).lc.queue := by
  unfold enqueue
  dsimp only
  rw [h]
  split
  · rfl
  · split
    · rfl
    · split
      · exact h
      · split
        · split
          · rw [reportGone_lc, reportGone_lc]
            rfl
          · rw [reportGone_lc, reportGone_lc]
            exact h
        · rw [reportGone_lc, reportGone_lc]
          exact h

end Enqueue

/-! ### The change beacon (R59) -/

theorem driveLines_summary (s : State) : (driveLines s).summary = s.summary := rfl

/-- The queue at the end of an event: as the event left it, or with the change beacon placed in it. -/
theorem finish_queue (s : State) : QueueOrBeacon s s.lc.queue (finish s).lc.queue := by
  unfold finish changeBeacon
  split
  · split
    · refine .inr ⟨(driveLines s).summary, ?_⟩
      exact enqueue_queue_congr (a := driveLines s) (b := s.setQueue s.lc.queue) rfl _ _
    · exact .inl rfl
  · exact .inl rfl

theorem QueueOrBeacon.congr {a b : State} {q q' : List TxEntry} (h : QueueOrBeacon a q q') : QueueOrBeacon b q q' := by
  obtain rfl | ⟨beacon, e⟩ := h
  · exact .inl rfl
  · exact .inr ⟨beacon, e.trans (enqueue_queue_congr (a := a.setQueue q) (b := b.setQueue q) rfl _ _)⟩

/-- No beacon is due where none was ever sent or the last one holds the summary as it stands. -/
theorem finish_rests {s : State} (h : s.pm.cadence = none ∨ s.pm.lastBeacon = some s.summary) : finish s = driveLines s := by
  refine if_neg fun due => ?_
  simp only [Bool.and_eq_true, bne_iff_ne, ne_eq] at due
  rcases h with h | h
  · have none : (driveLines s).pm.cadence = none := h
    simp [none] at due
  · exact due.2 (h.trans (congrArg some (driveLines_summary s).symm))

theorem finish_fr {s : State} (room : s.lc.queue.length < 16 ∨ ∃ x ∈ s.lc.queue, x.kind = .beacon) : (finish s).fr = s.fr := by
  unfold finish changeBeacon
  split
  · split
    · exact enqueue_beacon_fr (s := driveLines s) room
    · rfl
  · rfl

/-! ### Attempts -/

theorem exec_attemptStart (s : State) :
    Sys2Proof.Machine.exec .attemptStart s = .next (if s.canSend && s.onLine.isNone then beginAttempt s else s) := rfl

theorem attemptStart_begins {s : State} {e : TxEntry} {q : List TxEntry} (send : s.canSend = true) (idle : s.onLine = none)
    (queue : s.lc.queue = e :: q) :
    Sys2Proof.Machine.exec .attemptStart s = .next { s with lc := { s.lc with queue := { e with onLine := true } :: q } } := by
  rw [exec_attemptStart, send, idle, beginAttempt, queue]
  rfl

/-- Settles O13: an attempt begins with the head by `beginAttempt`, and `endAttempt` takes the entry off the line. -/
theorem attemptsStartAndLose : Obligations.AttemptsStartAndLose := by
  unfold Obligations.AttemptsStartAndLose
  refine fun s => ⟨fun e q send idle queue => attemptStart_begins send idle queue, fun rests => ?_, fun acts on => ?_⟩
  · rw [exec_attemptStart]
    rcases rests with send | busy | empty
    · rw [send]
      rfl
    · have none : s.onLine.isNone = false := by simpa [Option.isNone_iff_eq_none, Option.isSome_iff_ne_none] using busy
      rw [none, Bool.and_false]
      rfl
    · rw [beginAttempt, empty, ite_self]
  · show Host.Outcome.next _ = _
    rw [acts, on]
    rfl

/-- Of the entries that at most one of a list can be, any two are one. -/
theorem countP_le_one {α : Type} {p : α → Bool} {l : List α} (h : l.countP p ≤ 1) {x y : α} (hx : x ∈ l) (hy : y ∈ l) (px : p x = true)
    (py : p y = true) : x = y := by
  rw [List.countP_eq_length_filter] at h
  have mx : x ∈ l.filter p := List.mem_filter.2 ⟨hx, px⟩
  have my : y ∈ l.filter p := List.mem_filter.2 ⟨hy, py⟩
  match e : l.filter p, h with
  | [], _ => simp [e] at mx
  | [z], _ =>
    rw [e] at mx my
    exact (List.mem_singleton.1 mx).trans (List.mem_singleton.1 my).symm

theorem takeSent_queue (s : State) : (takeSent s).lc.queue = s.lc.queue.filterMap fun x =>
    if x.onLine then x.successor.map fun p => { x with onLine := false, payload := p, successor := none } else some x := by
  refine List.filterMap_congr fun x _ => ?_
  by_cases on : x.onLine = true
  · rw [if_pos on, if_pos on]
    rcases h : x.successor with _ | p
    · rfl
    · simp [TxEntry.offLine, h]
  · rw [if_neg on, if_neg on]

/-- An entry on the line that is no beacon with a successor leaves the queue. -/
theorem takeSent_leaves {s : State} {e : TxEntry} (ok : QueueOk s.lc.queue) (successors : SuccessorsOk s.lc.queue)
    (on : s.onLine = some e) (h : e.kind ≠ .beacon ∨ e.successor = none) :
    (takeSent s).lc.queue = s.lc.queue.filter fun x => !x.onLine := by
  have member := List.mem_of_find?_eq_some on
  have here : e.onLine = true := by simpa using List.find?_some on
  have none : e.successor = none := h.elim (fun k => Option.not_isSome_iff_eq_none.1 fun some => k (successors e member some).1) id
  rw [takeSent_queue, ← List.filterMap_eq_filter]
  refine List.filterMap_congr fun x m => ?_
  by_cases line : x.onLine = true
  · obtain rfl : x = e := countP_le_one ok.2.2.2 m member line here
    simp [line, none, Option.guard]
  · simp [line, Option.guard]

/-- Once an entry has been sent there is room for a beacon, or one to meet. -/
theorem takeSent_room {s : State} {e : TxEntry} (ok : QueueOk s.lc.queue) (successors : SuccessorsOk s.lc.queue) (on : s.onLine = some e) :
    (takeSent s).lc.queue.length < 16 ∨ ∃ x ∈ (takeSent s).lc.queue, x.kind = .beacon := by
  have member := List.mem_of_find?_eq_some on
  have here : e.onLine = true := by simpa using List.find?_some on
  rcases h : e.successor with _ | p
  · left
    rw [takeSent_leaves ok successors on (.inr h)]
    refine lt_of_lt_of_le (List.length_filter_lt_length_iff_exists.2 ⟨e, member, by simp [here]⟩) ok.1
  · right
    refine ⟨{ e with onLine := false, payload := p, successor := none }, ?_, (successors e member (by rw [h]; rfl)).1⟩
    rw [takeSent_queue]
    exact List.mem_filterMap.2 ⟨e, member, by simp [here, h]⟩

theorem reportGone_pm_fields (e : TxEntry) (s : State) : (reportGone e s).pm = s.pm ∧ (reportGone e s).summary = s.summary := by
  refine ⟨reportGone_pm e s, ?_⟩
  unfold reportGone
  split <;> rfl

/-- The RESULT of a due RESET_NODE that has left the queue is reported (R195). -/
theorem reportGone_reported {s : State} (h : s.fr.resetReported = false) (e : TxEntry) :
    (reportGone e s).fr.resetReported = (e.kind == .result && e.payload.getD 1 0 == 9 && s.fr.resetDue) := by
  unfold reportGone TxEntry.isResetResult
  rw [show SubCommand.resetNode.code = 9 from rfl]
  cases k : (e.kind == .result && e.payload.getD 1 0 == 9 && s.fr.resetDue)
  · rw [if_neg Bool.false_ne_true]
    exact h
  · rw [if_pos rfl]
    rfl

theorem exec_sentInFull {s : State} {e : TxEntry} (takes : s.takes = true) (on : s.onLine = some e) :
    Sys2Proof.Machine.exec .sentInFull s = .next (finish (reportGone e (takeSent s))) := by
  show Host.Outcome.next _ = _
  rw [on, takes]
  rfl

theorem exec_transmitError {s : State} (takes : s.takes = true) (on : s.onLine.isSome = true) :
    Sys2Proof.Machine.exec .transmitError s = .next (finish (countError (endAttempt s))) := by
  show Host.Outcome.next _ = _
  rw [takes, on]
  rfl

theorem takes_reported {s : State} (h : s.takes = true) : s.fr.resetReported = false := by
  simpa [State.takes] using (Bool.and_eq_true_iff.1 h).2

/-- The clause of O14 on an entry sent in full (R46, R48, R50). -/
theorem sentInFull_clause {s : State} {e : TxEntry} {q : List TxEntry} (takes : s.takes = true) (on : s.onLine = some e)
    (ok : QueueOk s.lc.queue) (successors : SuccessorsOk s.lc.queue) (rest : q = (takeSent s).lc.queue) :
    (e.kind ≠ .beacon ∨ e.successor = none → q = s.lc.queue.filter fun x => !x.onLine) ∧
      QueueOrBeacon s q (finish (reportGone e (takeSent s))).lc.queue ∧
      (s.pm.cadence = none ∨ s.pm.lastBeacon = some s.summary → (finish (reportGone e (takeSent s))).lc.queue = q) ∧
      (finish (reportGone e (takeSent s))).fr.resetReported = (e.kind == .result && e.payload.getD 1 0 == 9 && s.fr.resetDue) ∧
      Ends { s with lc := { s.lc with errors := 0 } } (finish (reportGone e (takeSent s))) := by
  subst rest
  have queue : (reportGone e (takeSent s)).lc.queue = (takeSent s).lc.queue := by rw [reportGone_lc]
  obtain ⟨pm, summary⟩ := reportGone_pm_fields e (takeSent s)
  refine ⟨takeSent_leaves ok successors on, ?_, fun h => ?_, ?_, ?_⟩
  · have placed := finish_queue (reportGone e (takeSent s))
    rw [queue] at placed
    exact placed.congr
  · rw [finish_rests (by rw [pm, summary]; exact h)]
    exact queue
  · rw [finish_fr (by rw [queue]; exact takeSent_room ok successors on)]
    exact reportGone_reported (s := takeSent s) (takes_reported takes) e
  · have sent : Sends { s with lc := { s.lc with errors := 0 } } (takeSent s) := Sends.upd _ _ _ _ _ _ _ _ (FaultsKept.refl _)
    exact ((sent.trans (reportGone_sends _ _)).trans (finish_sends _)).ends

theorem countError_below {s : State} (h : s.lc.errors < 31) : countError s = s.modLc fun l => { l with errors := s.lc.errors + 1 } := by
  have le : min 32 (s.lc.errors + 1) = s.lc.errors + 1 := by omega
  unfold countError
  dsimp only [State.modLc]
  rw [le, if_neg (by omega)]

/-- The LC in LINE_QUIET after the 32nd error, the event counted (R52). -/
def quieted (s : State) : State :=
  { s with
    lc := { s.lc with errors := 32, line := .lineQuiet, quietTimer := some (after s.now 2000) }
    fr :=
      { s.fr with
        nodeCounters := { s.fr.nodeCounters with lineQuietEvents := s.fr.nodeCounters.lineQuietEvents.bump } } }

theorem countError_last {s : State} (h : 31 ≤ s.lc.errors) : countError s = report .lineQuiet .minor none (quieted s) := by
  have top : min 32 (s.lc.errors + 1) = 32 := by omega
  unfold countError
  dsimp only [State.modLc]
  rw [top, if_pos le_rfl]
  rfl

theorem report_lc (k : FaultKind) (sev : Severity) (u : Option UnitNo) (s : State) : (report k sev u s).lc = s.lc := by
  unfold report
  dsimp only
  split <;> rfl

/-- A report that finds its slot filled shows nothing of itself in the summary (R61). -/
theorem report_summary {k : FaultKind} {s : State} (u : Option UnitNo) (full : s.fr.minor.isSome = true) :
    (report k .minor u s).summary = s.summary := by
  have severe : (report k .minor u s).fr.severe = s.fr.severe := by
    have h := (report_recorded k .minor u s).2 .severe
    rw [FaultRecorder.slot] at h
    rw [h]
    split <;> rfl
  have minor : (report k .minor u s).fr.minor.isSome = s.fr.minor.isSome := by
    rw [full]
    exact report_fills k .minor u s
  have e : report k .minor u s = { s with fr := (report k .minor u s).fr } := by
    unfold report
    dsimp only
    split <;> rfl
  rw [e]
  simp only [State.summary, State.beaconFlags, severe, minor]
  rfl

/-- The clause of O14 on a transmit error (R51, R52). -/
theorem transmitError_clause (s : State) :
    QueueOrBeacon s (endAttempt s).lc.queue (finish (countError (endAttempt s))).lc.queue ∧
      (s.pm.cadence = none ∨ (s.pm.lastBeacon = some s.summary ∧ (s.lc.errors < 31 ∨ s.fr.minor.isSome = true)) →
        (finish (countError (endAttempt s))).lc.queue = (endAttempt s).lc.queue) ∧
      (s.lc.errors < 31 → (finish (countError (endAttempt s))).fr.minor = s.fr.minor ∧
        Ends { s with lc := { s.lc with errors := s.lc.errors + 1 } } (finish (countError (endAttempt s)))) ∧
      (31 ≤ s.lc.errors → Reported .minor ⟨.lineQuiet, none, s.seq, s.now⟩ s.fr (finish (countError (endAttempt s))).fr ∧
        Ends (quieted s) (finish (countError (endAttempt s)))) := by
  have queue : (countError (endAttempt s)).lc.queue = (endAttempt s).lc.queue := by
    rcases Nat.lt_or_ge s.lc.errors 31 with h | h
    · rw [countError_below (s := endAttempt s) h]
      rfl
    · rw [countError_last (s := endAttempt s) h, report_lc]
      rfl
  refine ⟨?_, fun h => ?_, fun h => ?_, fun h => ?_⟩
  · have placed := finish_queue (countError (endAttempt s))
    rw [queue] at placed
    exact placed.congr
  · rw [finish_rests]
    · exact queue
    · rw [countError_pm]
      refine h.imp id fun ⟨last, quiet⟩ => last.trans (congrArg some ?_)
      rcases Nat.lt_or_ge s.lc.errors 31 with below | above
      · rw [countError_below (s := endAttempt s) below]
        rfl
      · rw [countError_last (s := endAttempt s) above]
        exact (report_summary (s := quieted (endAttempt s)) none (quiet.resolve_left (by omega))).symm
  · rw [countError_below (s := endAttempt s) h]
    refine ⟨finish_minor _, Ends.trans ?_ (finish_ends _)⟩
    exact (Sends.upd { s with lc := { s.lc with errors := s.lc.errors + 1 } } _ _ _ _ _ _ _ (FaultsKept.refl _)).ends
  · rw [countError_last (s := endAttempt s) h]
    refine ⟨Reported.finished (report_reported .lineQuiet .minor none (quieted (endAttempt s))), Ends.trans ?_ (finish_ends _)⟩
    have line : Sends (quieted s) (quieted (endAttempt s)) := Sends.upd (quieted s) _ _ _ _ _ _ _ (FaultsKept.refl _)
    exact (line.trans (report_sends _ _ _ _)).ends

theorem exec_lineQuietExpiry {s : State} {e : Time} (takes : s.takes = true) (timer : s.lc.quietTimer = some e) :
    Sys2Proof.Machine.exec .lineQuietExpiry s =
      .next { s.reach e with lc := { s.lc with line := .active, errors := 0, quietTimer := none } } := by
  show Host.Outcome.next _ = _
  rw [takes, timer, if_pos rfl, onExpiry, leaveLineQuiet, reach_eq]
  rfl

/-- Settles O14, clause by clause: the attempt's start and two ends, the timer, and the enqueuing by the queue's room. -/
theorem attemptsAndQueue : Obligations.AttemptsAndQueue := by
  unfold Obligations.AttemptsAndQueue
  refine ⟨fun s e q send idle queue => ⟨_, attemptStart_begins send idle queue, ?_, ?_⟩, fun s e q takes on ok successors rest => ?_,
    fun s q takes on rest => ?_, fun s e takes timer => exec_lineQuietExpiry takes timer, fun s kind payload new e ok => ?_⟩
  · simp [State.lineFrame, State.onLine]
  · simp [State.lineBytes, State.lineFrame, State.onLine]
  · exact ⟨_, exec_sentInFull takes on, sentInFull_clause takes on ok successors (rest.trans (takeSent_queue s).symm)⟩
  · subst rest
    exact ⟨_, exec_transmitError takes on, transmitError_clause s⟩
  · subst e
    refine ⟨fun beacon meets => ?_, fun fresh => ⟨fun room => ?_, fun full low => ?_, fun full edge high => ?_⟩⟩
    · subst beacon
      rw [enqueue_meets meets]
      simp [replaceBeacon, State.setQueue, State.modLc]
    · obtain ⟨l, r, split, below, above, place⟩ := insertByClass_split (newEntry kind payload) ok.2.1
      exact ⟨l, r, split, below, above, by rw [enqueue_joins fresh room, place]; rfl⟩
    · rw [enqueue_dropped fresh full low, reportGone_dropped]
      rfl
    · obtain ⟨l, gone, r, split, off, highest, newest, e⟩ := enqueue_evicts (p := payload) fresh full edge high
      have rest : (l ++ r).Pairwise fun a b => a.kind.cls ≤ b.kind.cls := by
        have sorted := ok.2.1
        rw [split] at sorted
        exact sorted.sublist ((List.Sublist.refl l).append (List.sublist_cons_self gone r))
      obtain ⟨m, n, split', below, above, place⟩ := insertByClass_split (newEntry kind payload) rest
      refine ⟨l, gone, r, m, n, split, off, highest, newest, split', below, above, ?_⟩
      rw [e, reportGone_dropped, place]
      rfl

end Sys2Proof.Machine

/-! A frame heard from its own bytes (section 3.6): header, payload and check give back what they were built of. -/

namespace Sys2Proof.Machine

theorem header_class (c : BitVec 3) (n : Node) : (c ++ n.extractLsb' 1 5).extractLsb' 5 3 = c := BitVec.extractLsb'_append_eq_left

theorem header_kind (k : BitVec 5) (n : Node) : ((n.extractLsb' 0 1 ++ k) ++ (0 : BitVec 2)).extractLsb' 2 5 = k := by
  rw [BitVec.extractLsb'_append_eq_of_le le_rfl]
  exact BitVec.extractLsb'_append_eq_right

theorem header_fill (k : BitVec 5) (n : Node) : ((n.extractLsb' 0 1 ++ k) ++ (0 : BitVec 2)).extractLsb' 0 2 = 0 :=
  BitVec.extractLsb'_append_eq_right

theorem header_source (c : BitVec 3) (k : BitVec 5) (n : Node) :
    (c ++ n.extractLsb' 1 5).extractLsb' 0 5 ++ ((n.extractLsb' 0 1 ++ k) ++ (0 : BitVec 2)).extractLsb' 7 1 = n := by
  have upper : (c ++ n.extractLsb' 1 5).extractLsb' 0 5 = n.extractLsb' 1 5 := BitVec.extractLsb'_append_eq_right
  have lower : ((n.extractLsb' 0 1 ++ k) ++ (0 : BitVec 2)).extractLsb' 7 1 = n.extractLsb' 0 1 := by
    rw [BitVec.extractLsb'_append_eq_of_le (by decide)]
    exact BitVec.extractLsb'_append_eq_left
  rw [upper, lower]
  exact (BitVec.extractLsb'_append_extractLsb'_eq_extractLsb' (x := n) (start₁ := 0) (len₁ := 1) rfl).trans BitVec.extractLsb'_eq_self

/-- A kind is told by its number in five bits (section 3.2). -/
theorem FrameKind.ofNumber_number (k : FrameKind) : FrameKind.ofNumber? (BitVec.ofNat 5 k.number).toNat = some k := by
  cases k <;> rfl

theorem FrameKind.cls_bits (k : FrameKind) : (BitVec.ofNat 3 k.cls).toNat = k.cls := by cases k <;> rfl

/-- No kind's payload is longer than eight bytes (R41). -/
theorem FrameKind.lengthOk_le {k : FrameKind} {n : Nat} (h : k.lengthOk n = true) : n ≤ 8 := by
  cases k <;> simp [FrameKind.lengthOk] at h <;> omega

/-- Settles O17: the header's fields are read back by the four lemmas above, and the check is that of the same bytes. -/
theorem framesRoundTrip : Obligations.FramesRoundTrip := by
  unfold Obligations.FramesRoundTrip
  rintro ⟨source, kind, payload⟩ ok
  have short : payload.length ≤ 8 := by
    have lengths := ok
    simp only [Frame.ok, Bool.and_eq_true] at lengths
    exact FrameKind.lengthOk_le lengths.1.1.2
  have length : (byte payload.length).toNat = payload.length := by
    simp only [byte, BitVec.toNat_ofNat]
    omega
  have check : ∀ x : BitVec 16, (bytes2 x).length = 2 := fun _ => rfl
  unfold acceptBytes Frame.bytes headerBytes
  simp only [List.cons_append, List.nil_append, length, List.take_left, List.drop_left, List.length_append, check, header_class,
    header_kind, header_fill, header_source, FrameKind.ofNumber_number, FrameKind.cls_bits]
  simp [ok, short]

end Sys2Proof.Machine

/-! The Peer Monitor (chapter 4): the beacon timers, silences, beacons and HANDLE alerts. -/

namespace Sys2Proof.Machine

variable {i : Instr}

/-! ### Expiries -/

@[simp] theorem reach_supply (t : Time) (s : State) : (s.reach t).supply = s.supply := by rw [reach_eq]
@[simp] theorem reach_pins (t : Time) (s : State) : (s.reach t).pins = s.pins := by rw [reach_eq]
@[simp] theorem reach_cl (t : Time) (s : State) : (s.reach t).cl = s.cl := by rw [reach_eq]
@[simp] theorem reach_lc (t : Time) (s : State) : (s.reach t).lc = s.lc := by rw [reach_eq]
@[simp] theorem reach_pm (t : Time) (s : State) : (s.reach t).pm = s.pm := by rw [reach_eq]
@[simp] theorem reach_bu (t : Time) (s : State) : (s.reach t).bu = s.bu := by rw [reach_eq]
@[simp] theorem reach_ae (t : Time) (s : State) : (s.reach t).ae = s.ae := by rw [reach_eq]
@[simp] theorem reach_dc (t : Time) (s : State) : (s.reach t).dc = s.dc := by rw [reach_eq]
@[simp] theorem reach_su (t : Time) (s : State) : (s.reach t).su = s.su := by rw [reach_eq]
@[simp] theorem reach_iu (t : Time) (s : State) : (s.reach t).iu = s.iu := by rw [reach_eq]
@[simp] theorem reach_fr (t : Time) (s : State) : (s.reach t).fr = s.fr := by rw [reach_eq]
@[simp] theorem reach_out (t : Time) (s : State) : (s.reach t).out = s.out := by rw [reach_eq]
@[simp] theorem reach_slot (t : Time) (s : State) (n : Node) : (s.reach t).slot n = s.slot n := by rw [reach_eq]; rfl
@[simp] theorem reach_neighbours (t : Time) (s : State) : (s.reach t).neighbours = s.neighbours := by rw [reach_eq]; rfl
@[simp] theorem reach_seq (t : Time) (s : State) : (s.reach t).seq = s.seq := by rw [reach_eq]; rfl

/-- What a running timer's expiry comes to, on a part whose load has ended. -/
theorem expiry_loaded {s : State} {timer : Option Time} {e : Time} (l : s.loaded = true) (h : timer = some e) (g : State → State) :
    (if s.loaded then onExpiry timer g s else s) = g (s.reach e) := by rw [if_pos l, h, onExpiry]

/-! ### The beacon timers (R59, R63) -/

theorem sendBeacon_eq (s : State) :
    sendBeacon s =
      { enqueue .beacon (beaconBytes s.summary) s with
        pm :=
          { s.pm with
            lastBeacon := some s.summary, changePending := false, cadence := some (after s.now 200)
            gap := some (after s.now 50) } } := by
  have pm : (enqueue .beacon (beaconBytes s.summary) s).pm = s.pm := by rw [enqueue_eq]
  rw [sendBeacon, State.modPm, pm]
  rfl

/-- A beacon with room, or one to meet, stands in the queue with its payload, or as the successor of the one on the line (R48). -/
theorem enqueue_beacon_queued {s : State} {p : List Byte} (room : s.lc.queue.length < 16 ∨ ∃ x ∈ s.lc.queue, x.kind = .beacon) :
    (∃ x ∈ (enqueue .beacon p s).lc.queue, x.kind = .beacon) ∧
      ∀ x ∈ (enqueue .beacon p s).lc.queue, x.kind = .beacon → if x.onLine then x.successor = some p else x.payload = p := by
  by_cases h : ∃ x ∈ s.lc.queue, x.kind = .beacon
  · rw [enqueue_meets h]
    have met : ∀ x : TxEntry, x.kind = .beacon →
        let y := if x.kind == .beacon then if x.onLine then { x with successor := some p } else { x with payload := p } else x
        y.kind = .beacon ∧ if y.onLine then y.successor = some p else y.payload = p := by
      intro x k
      by_cases on : x.onLine = true <;> simp [on, k]
    refine ⟨?_, fun y m k => ?_⟩
    · obtain ⟨x, m, k⟩ := h
      exact ⟨_, List.mem_map.2 ⟨x, m, rfl⟩, (met x k).1⟩
    · obtain ⟨x, -, rfl⟩ := List.mem_map.1 m
      refine (met x ?_).2
      by_contra other
      rw [if_neg (by simpa using other)] at k
      exact other k
  · rw [enqueue_joins (.inr fun x m k => h ⟨x, m, k⟩) (room.resolve_right h)]
    have perm := insertByClass_perm (newEntry .beacon p) s.lc.queue
    refine ⟨⟨_, perm.symm.subset (List.mem_cons_self ..), rfl⟩, fun x m k => ?_⟩
    rcases List.mem_cons.1 (perm.subset m) with rfl | m
    · simp [newEntry]
    · exact absurd ⟨x, m, k⟩ h

theorem sendBeacon_queued {s : State} (room : s.lc.queue.length < 16 ∨ ∃ x ∈ s.lc.queue, x.kind = .beacon) :
    (∃ x ∈ (sendBeacon s).lc.queue, x.kind = .beacon) ∧
      ∀ x ∈ (sendBeacon s).lc.queue, x.kind = .beacon →
        if x.onLine then x.successor = some (beaconBytes s.summary) else x.payload = beaconBytes s.summary :=
  enqueue_beacon_queued room

theorem endGap_quiet {s : State} (h : s.pm.changePending = false) : endGap s = s.modPm fun p => { p with gap := none } :=
  if_neg (by rw [State.modPm_pm, h]; exact Bool.false_ne_true)

/-- A pending change whose summary differs from the last beacon is sent; the summary has no part in the gap timer. -/
theorem endGap_changed {s : State} (pending : s.pm.changePending = true) (differs : s.pm.lastBeacon ≠ some s.summary) :
    endGap s = sendBeacon (s.modPm fun p => { p with gap := none }) := by
  have e : (s.modPm fun p => { p with gap := none }).summary = s.summary := rfl
  unfold endGap
  dsimp only
  rw [State.modPm_pm, if_pos pending, e, if_neg differs]

theorem endGap_same {s : State} (pending : s.pm.changePending = true) (same : s.pm.lastBeacon = some s.summary) :
    endGap s = s.modPm fun p => { p with gap := none, changePending := false } := by
  have e : (s.modPm fun p => { p with gap := none }).summary = s.summary := rfl
  unfold endGap
  dsimp only
  rw [State.modPm_pm, if_pos pending, e, if_pos same]
  rfl

/-- The beacon built over a state whose gap timer has been stopped is the one of the state itself. -/
theorem sendBeacon_gap (s : State) : sendBeacon (s.modPm fun p => { p with gap := none }) = sendBeacon s := by
  let u := s.modPm fun p => { p with gap := none }
  have queued : enqueue .beacon (beaconBytes s.summary) u =
      { u with lc := (enqueue .beacon (beaconBytes s.summary) s).lc, fr := (enqueue .beacon (beaconBytes s.summary) s).fr } :=
    enqueue_aside .beacon (beaconBytes s.summary) s u
  have own := enqueue_eq .beacon (beaconBytes s.summary) s
  have summary : u.summary = s.summary := rfl
  show sendBeacon u = sendBeacon s
  rw [sendBeacon_eq, sendBeacon_eq, summary, queued, own]
  rfl

/-- Settles O22, by what each timer's expiry comes to. -/
theorem beaconTimers : Obligations.BeaconTimers := by
  rintro s s' e p loaded rfl rfl
  have sent : ∀ (j : Instr), Sys2Proof.Machine.exec j s = .next (sendBeacon (s.reach e)) →
      ∃ t, Sys2Proof.Machine.exec j s = .next t ∧
        t = { enqueue .beacon (beaconBytes (s.reach e).summary) (s.reach e) with
          pm :=
            { s.pm with
              lastBeacon := some (s.reach e).summary, changePending := false, cadence := some (after (s.reach e).now 200)
              gap := some (after (s.reach e).now 50) } } ∧
        (s.lc.queue.length < 16 ∨ (∃ x ∈ s.lc.queue, x.kind = .beacon) →
          (∃ x ∈ t.lc.queue, x.kind = .beacon) ∧
            ∀ x ∈ t.lc.queue, x.kind = .beacon →
              if x.onLine then x.successor = some (beaconBytes (s.reach e).summary)
              else x.payload = beaconBytes (s.reach e).summary) ∧
        Ends (s.reach e) t := by
    intro j taken
    refine ⟨_, taken, by rw [sendBeacon_eq, reach_pm], fun room => ?_, (sendBeacon_sends _).ends⟩
    exact sendBeacon_queued (by rw [reach_lc]; exact room)
  refine ⟨?_, fun gap => ⟨fun quiet => ?_, fun pending same => ?_⟩, fun absence => ?_⟩
  · rintro j (⟨rfl, cadence⟩ | ⟨rfl, gap, pending, differs⟩)
    · exact sent _ (congrArg Host.Outcome.next (expiry_loaded loaded cadence sendBeacon))
    · refine sent _ (congrArg Host.Outcome.next ((expiry_loaded loaded gap endGap).trans ?_))
      rw [endGap_changed (by rwa [reach_pm]) (by rwa [reach_pm]), sendBeacon_gap]
  · refine congrArg Host.Outcome.next ((expiry_loaded loaded gap endGap).trans ?_)
    rw [endGap_quiet (by rwa [reach_pm]), State.modPm, reach_pm]
  · refine congrArg Host.Outcome.next ((expiry_loaded loaded gap endGap).trans ?_)
    rw [endGap_same (by rwa [reach_pm]) (by rwa [reach_pm]), State.modPm, reach_pm]
  · refine ⟨_, congrArg Host.Outcome.next (expiry_loaded loaded absence endAbsence), ?_⟩
    have stopped : ((s.reach e).modPm fun p => { p with absenceTimer := none, absenceOver := true }) =
        { s.reach e with pm := { s.pm with absenceTimer := none, absenceOver := true } } := by
      rw [State.modPm, reach_pm]
    rw [← stopped]
    exact finish_ends _

/-! ### NOT_HEARD and the slots (R57, R64, R65) -/

theorem unheard_congr {s t : State} (slots : t.pm.slots = s.pm.slots) (cl : t.cl = s.cl) : Unheard t ↔ Unheard s := by
  unfold Unheard State.neighbours State.slot
  rw [slots, cl]

/-- The test moves NOT_HEARD alone, but for the report of it. -/
theorem testNotHeard_sends (s : State) :
    Sends (s.modPm fun p => { p with notHeard := (testNotHeard s).pm.notHeard }) (testNotHeard s) := by
  rcases testNotHeard_cases s with ⟨-, -, e⟩ | ⟨-, e⟩
  · have set : (testNotHeard s).pm.notHeard = true := by rw [e, (report_sends _ _ _ _).notHeard]; rfl
    rw [set, e]
    exact report_sends _ _ _ _
  · rw [e]
    exact Sends.refl s

theorem testNotHeard_reported (s : State) : NotHeardReported s (testNotHeard s) := by
  rcases testNotHeard_cases s with ⟨clear, -, e⟩ | ⟨stands, e⟩
  · refine ⟨fun _ _ => ?_, fun kept => ?_⟩
    · rw [e, (report_sends _ _ _ _).now]
      exact report_reported .notHeard .minor none (s.modPm fun p => { p with notHeard := true })
    · rw [e, (report_sends _ _ _ _).notHeard] at kept
      rcases kept with set | set
      · exact absurd (clear.symm.trans set) Bool.false_ne_true
      · exact absurd set.symm Bool.false_ne_true
  · rw [e]
    exact ⟨fun clear set => absurd (clear.symm.trans set) Bool.false_ne_true, fun _ => rfl⟩

theorem testNotHeard_severe (s : State) : (testNotHeard s).fr.severe = s.fr.severe := by
  rcases testNotHeard_cases s with ⟨-, -, e⟩ | ⟨-, e⟩
  · rw [e]
    exact (report_spares (p := fun _ sev => sev == Severity.minor) rfl).slots .severe fun _ => rfl
  · rw [e]

/-- The report of NOT_HEARD stands through the end of its event. -/
theorem NotHeardReported.settled {s s0 t : State} (h : NotHeardReported s t) : NotHeardReported s (settle s0 t) := by
  obtain ⟨set, kept⟩ := h
  have ends := settle_ends s0 t
  refine ⟨fun clear now => ?_, fun stands => ?_⟩
  · rw [ends.2.1]
    exact (set clear (ends.1.notHeard.symm.trans now)).settled fun e => nomatch e
  · rw [settle_minor]
    exact kept (stands.imp_right fun e => ends.1.notHeard.symm.trans e)

theorem NotHeardReported.before {s x t : State} (h : NotHeardReported x t) (fr : x.fr = s.fr) (notHeard : x.pm.notHeard = s.pm.notHeard)
    (seq : x.seq = s.seq) : NotHeardReported s t := by
  unfold NotHeardReported at h ⊢
  rw [← fr, ← notHeard, ← seq]
  exact h

/-! ### A slot that falls silent (R57, R162) -/

/-- A slot that has fallen silent, its holds purged, before NOT_HEARD is tested. -/
def silenced (n : Node) (s : State) : State :=
  { s.setSlot n (s.slot n).fallSilent with
    bu := { s.bu with holdList := if isBay n then s.bu.holdList.filter fun h => h.source != n else s.bu.holdList } }

theorem fallSilent_eq (n : Node) (s : State) :
    fallSilent n s = if n ∈ s.neighbours then testNotHeard (silenced n s) else silenced n s := by
  have purged : (if isBay n then purgeHolds n (s.setSlot n (s.slot n).fallSilent) else s.setSlot n (s.slot n).fallSilent) = silenced n s := by
    unfold silenced
    split <;> rfl
  have same : (silenced n s).neighbours = s.neighbours := rfl
  unfold fallSilent
  dsimp only
  rw [purged, same]
  simp only [List.contains_iff_mem]

theorem fallSilent_sends (n : Node) (s : State) :
    Sends ((silenced n s).modPm fun p => { p with notHeard := (fallSilent n s).pm.notHeard }) (fallSilent n s) := by
  rw [fallSilent_eq]
  split
  · exact testNotHeard_sends _
  · exact Sends.refl _

theorem silence_expires {s : State} {n : Node} {e : Time} (loaded : s.loaded = true) (h : (s.slot n).silenceTimer = some e) :
    Sys2Proof.Machine.exec (.silenceTimerExpiry n) s = .next (settle (s.reach e) (fallSilent n (s.reach e))) :=
  congrArg Host.Outcome.next (expiry_loaded loaded h fun s' => settle s' (fallSilent n s'))

/-- Settles O21: what has fallen silent stands through the test of NOT_HEARD and the end of the event. -/
theorem silenceFalls : Obligations.SilenceFalls := by
  intro s n e loaded room timer
  have sends := fallSilent_sends n (s.reach e)
  have ends := settle_ends (s.reach e) (fallSilent n (s.reach e))
  have slots := ends.1.slots.trans sends.slots
  have holdList := ends.1.holdList.trans (congrArg BerthUnit.holdList sends.bu)
  have room' : (s.reach e).pm.slots.length = 64 := by rwa [reach_pm]
  have slot : ∀ m, (settle (s.reach e) (fallSilent n (s.reach e))).slot m = ((s.reach e).setSlot n ((s.reach e).slot n).fallSilent).slot m :=
    fun m => by rw [State.slot, slots]; rfl
  refine ⟨_, silence_expires loaded timer, fun m ne => ?_, ?_, ?_, ?_⟩
  · rw [slot, setSlot_ne ne, reach_slot]
  · rw [slot, setSlot_same room', reach_slot]
    rfl
  · rw [holdList]
    exact congrArg (fun b : BerthUnit => if isBay n then b.holdList.filter fun h => h.source != n else b.holdList) (reach_bu e s)
  · refine Ends.trans ?_ ends
    rw [← reach_pm e s, ← reach_bu e s, slots, holdList, ends.1.notHeard]
    exact sends.ends

/-! ### Beacons and HANDLE alerts (R56, R58, R64, R65, R173) -/

theorem namesOwn_iff (b : Beacon) (own : Node) : namesOwn b own = true ↔ b.up = nodeByte own ∨ b.down = nodeByte own := by
  simp [namesOwn]

/-- What the examination of a beacon's names comes to in its sender's slot. -/
theorem takeNaming_slot {src : Node} {b : Beacon} {s : State} (room : s.pm.slots.length = 64) :
    (∀ n, n ≠ src → (takeNaming src b s).slot n = s.slot n) ∧
      (takeNaming src b s).slot src =
        { s.slot src with
          naming :=
            if src ∉ s.neighbours then (s.slot src).naming
            else if b.up = nodeByte s.cl.own ∨ b.down = nodeByte s.cl.own then min 3 ((s.slot src).naming + 1) else 0 } := by
  have named : ∀ t : State, src ∈ s.neighbours → t.pm.slots = (withNaming src b s).pm.slots →
      (∀ n, n ≠ src → t.slot n = s.slot n) ∧ t.slot src =
        { s.slot src with
          naming :=
            if src ∉ s.neighbours then (s.slot src).naming
            else if b.up = nodeByte s.cl.own ∨ b.down = nodeByte s.cl.own then min 3 ((s.slot src).naming + 1) else 0 } := by
    intro t mem slots
    have same : ∀ n, t.slot n = (withNaming src b s).slot n := fun n => by rw [State.slot, slots]; rfl
    refine ⟨fun n ne => (same n).trans (setSlot_ne ne _ s), ?_⟩
    rw [same, withNaming, setSlot_same room, if_neg (not_not_intro mem)]
    simp only [nextNaming, namesOwn_iff]
  rcases takeNaming_cases src b s with ⟨other, e⟩ | ⟨mem, -, -, e⟩ | ⟨mem, -, e⟩
  · rw [e, if_pos other]
    exact ⟨fun _ _ => rfl, rfl⟩
  · rw [e]
    exact named _ mem rfl
  · rw [e]
    exact named _ mem (testNotHeard_sends _).slots

theorem takeNaming_sends (src : Node) (b : Beacon) (s : State) :
    Sends
      { s with pm := { s.pm with slots := (takeNaming src b s).pm.slots, notHeard := (takeNaming src b s).pm.notHeard } }
      (takeNaming src b s) := by
  rcases takeNaming_cases src b s with ⟨-, e⟩ | ⟨-, -, -, e⟩ | ⟨-, -, e⟩
  · rw [e]
    exact Sends.refl _
  · rw [e]
    exact Sends.refl _
  · rw [e, (testNotHeard_sends _).slots]
    exact testNotHeard_sends (withNaming src b s)

theorem takeNaming_severe (src : Node) (b : Beacon) (s : State) : (takeNaming src b s).fr.severe = s.fr.severe := by
  rcases takeNaming_cases src b s with ⟨-, e⟩ | ⟨-, -, -, e⟩ | ⟨-, -, e⟩
  · rw [e]
  · rw [e]
    rfl
  · rw [e, testNotHeard_severe]
    rfl

theorem takeNaming_reported (src : Node) (b : Beacon) (s : State) : NotHeardReported s (takeNaming src b s) := by
  have quiet : ∀ t : State, t.fr = s.fr → (s.pm.notHeard = false → t.pm.notHeard = true → False) → NotHeardReported s t :=
    fun t fr n => ⟨fun clear set => absurd set (n clear), fun _ => congrArg FaultRecorder.minor fr⟩
  rcases takeNaming_cases src b s with ⟨-, e⟩ | ⟨-, -, -, e⟩ | ⟨-, -, e⟩
  · rw [e]
    exact quiet s rfl fun clear set => absurd (clear.symm.trans set) Bool.false_ne_true
  · rw [e]
    exact quiet _ rfl fun _ set => absurd set Bool.false_ne_true
  · rw [e]
    exact (testNotHeard_reported _).before rfl rfl rfl

/-- NOT_HEARD after a beacon's names: cleared by one that does not name this node, tested at every other (R65). -/
theorem takeNaming_notHeard (src : Node) (b : Beacon) (s : State) :
    (src ∉ s.neighbours → (takeNaming src b s).pm.notHeard = s.pm.notHeard) ∧
      (src ∈ s.neighbours → namesOwn b s.cl.own = false →
        ((takeNaming src b s).pm.notHeard = true ↔ s.pm.notHeard = false ∧ Unheard (takeNaming src b s))) ∧
      (src ∈ s.neighbours → namesOwn b s.cl.own = true →
        ((takeNaming src b s).pm.notHeard = true ↔ s.pm.notHeard = true ∨ Unheard (takeNaming src b s))) := by
  rcases takeNaming_cases src b s with ⟨other, e⟩ | ⟨mem, set, names, e⟩ | ⟨mem, tests, e⟩
  · rw [e]
    exact ⟨fun _ => rfl, fun mem => absurd mem other, fun mem => absurd mem other⟩
  · refine ⟨fun other => absurd mem other, fun _ _ => ?_, fun _ n => absurd (names.symm.trans n) Bool.false_ne_true⟩
    rw [e, set]
    exact ⟨fun n => absurd n Bool.false_ne_true, fun n => absurd n.1.symm Bool.false_ne_true⟩
  · have test := testNotHeard_notHeard (withNaming src b s)
    have sends := testNotHeard_sends (withNaming src b s)
    rw [← unheard_congr (s := withNaming src b s) (sends.slots.trans rfl) sends.cl, ← e] at test
    refine ⟨fun other => absurd mem other, fun _ n => ?_, fun _ _ => test⟩
    have clear : s.pm.notHeard = false := tests.resolve_right fun t => absurd (n.symm.trans t) Bool.false_ne_true
    refine test.trans ⟨fun h => ⟨clear, h.resolve_left fun t => absurd (clear.symm.trans t) Bool.false_ne_true⟩, fun h => .inr h.2⟩

/-- The Release Set as an event leaves it, the own number among it, stands at its end. -/
theorem Ends.withReleases {s t : State} (h : Ends s t) : Ends { s with iu := { s.iu with releaseSet := t.iu.releaseSet } } t :=
  ⟨{ h.1 with releases := fun _ _ => Iff.rfl }, h.2⟩

theorem settle_releases (s0 : State) {s : State} {n : Node} (h : n ≠ s.cl.own ∨ s.noCloses) :
    n ∈ (settle s0 s).iu.releaseSet ↔ n ∈ s.iu.releaseSet := by
  rcases h with peer | still
  · exact (settle_ends s0 s).1.releases n peer
  · rw [settle_still_iu still]

theorem Slot.note_naming (x : Slot) (bay b : Bool) (now : Time) : (x.note bay b now).naming = x.naming := by
  unfold Slot.note
  dsimp only
  repeat' split
  all_goals rfl

theorem Slot.note_lastFrame (x : Slot) (bay b : Bool) (now : Time) : (x.note bay b now).lastFrame = some now := by
  unfold Slot.note
  dsimp only
  repeat' split
  all_goals rfl

/-- A second beacon within 600 ms brings a SILENT slot back to LIVE; one that finds none waits for the next (R57). -/
theorem Slot.note_beacon {x : Slot} {now : Time} (silent : x.state = .silent) :
    x.note true true now =
      if x.paired now then { x with state := .live, lastFrame := some now, silenceTimer := some (after now 1000), pairing := none }
      else { x with lastFrame := some now, pairing := some now } := by
  unfold Slot.note
  rw [silent]
  rfl

/-- The slot of a beacon's sender before its names are examined. -/
def beaconNoted (src : Node) (b : Beacon) (s : State) : State :=
  (noteActivity src true s).setSlot src { (noteActivity src true s).slot src with lastBeacon := some b }

/-- What a beacon's slot is after its event, by the activity noted in it (R56, R57). -/
theorem beacon_slot {src : Node} {b : Beacon} {s : State} (room : s.pm.slots.length = 64) :
    (∀ n, n ≠ src → (takeNaming src b (beaconNoted src b s)).slot n = s.slot n) ∧
      (takeNaming src b (beaconNoted src b s)).slot src =
        { (s.slot src).note (isBay src) true s.now with
          lastBeacon := some b
          naming :=
            if src ∉ s.neighbours then (s.slot src).naming
            else if b.up = nodeByte s.cl.own ∨ b.down = nodeByte s.cl.own then min 3 ((s.slot src).naming + 1) else 0 } := by
  have noted : (noteActivity src true s).pm.slots.length = 64 := (List.length_set ..).trans room
  have room' : (beaconNoted src b s).pm.slots.length = 64 := (List.length_set ..).trans noted
  obtain ⟨others, own⟩ := takeNaming_slot (src := src) (b := b) room'
  refine ⟨fun n ne => ?_, ?_⟩
  · rw [others n ne, beaconNoted, setSlot_ne ne, noteActivity, setSlot_ne ne]
  · have slot : (beaconNoted src b s).slot src = { (s.slot src).note (isBay src) true s.now with lastBeacon := some b } := by
      rw [beaconNoted, setSlot_same noted, noteActivity, setSlot_same room]
    have neighbours : (beaconNoted src b s).neighbours = s.neighbours := rfl
    have cl : (beaconNoted src b s).cl = s.cl := rfl
    rw [own, slot, neighbours, cl]
    simp only [Slot.note_naming]

/-- Settles O20: the names of a beacon over the slot that its activity leaves, then the test's report through the end of the event. -/
theorem beaconsTaken : Obligations.BeaconsTaken := by
  intro s room
  refine ⟨fun src b acc => ?_, fun src unit seq acc => ?_, fun n e loaded timer => ?_⟩
  · let y := beaconNoted src b s
    let z := takeNaming src b y
    let t := settle s (takeReleaseFlag src (releaseActive b) z)
    have exec : Sys2Proof.Machine.exec (.beacon src b) s = .next t := by
      show Host.Outcome.next (onFrameSettling _ (takeBeacon src b) s) = _
      rw [onFrameSettling, if_pos acc.1, receive_of_accepted acc]
      rfl
    have bay : isBay src = true := (Bool.and_eq_true_iff.1 (Bool.and_eq_true_iff.1 acc.2.1).1).2
    have sends : Sends { y with pm := { y.pm with slots := z.pm.slots, notHeard := z.pm.notHeard } } z := takeNaming_sends src b y
    have ends : Ends (takeReleaseFlag src (releaseActive b) z) t := settle_ends s _
    have slots : t.pm.slots = z.pm.slots := ends.1.slots
    have notHeard : t.pm.notHeard = z.pm.notHeard := ends.1.notHeard
    have unheard : Unheard t ↔ Unheard z := unheard_congr slots ends.1.cl
    have still : s.noCloses → (takeReleaseFlag src (releaseActive b) z).noCloses := fun n =>
      sends.ends.1.noCloses (s := { y with pm := { y.pm with slots := z.pm.slots, notHeard := z.pm.notHeard } }) n
    have zcl : z.cl = s.cl := sends.cl
    have zset : z.iu.releaseSet = s.iu.releaseSet := congrArg InterlockUnit.releaseSet sends.iu
    obtain ⟨others, own⟩ := beacon_slot (src := src) (b := b) room
    have slot : ∀ n, t.slot n = z.slot n := fun n => by rw [State.slot, slots]; rfl
    obtain ⟨apart, unnamed, named⟩ := takeNaming_notHeard src b y
    have own : t.slot src = _ := (slot src).trans own
    have noted : (noteActivity src true s).slot src = (s.slot src).note (isBay src) true s.now := setSlot_same room ..
    have flag : releaseActive b = b.flags.getLsbD 6 := rfl
    have members : ∀ n, n ∈ (takeReleaseFlag src (releaseActive b) z).iu.releaseSet ↔
        if n = src then b.flags.getLsbD 6 = true else n ∈ s.iu.releaseSet := fun n => by
      rw [takeReleaseFlag, State.modIu_iu, zset, flag]
      cases b.flags.getLsbD 6 <;> by_cases h : n = src <;> simp [mem_insertNode, mem_eraseNode, h]
    refine ⟨t, exec, fun n ne => (slot n).trans (others n ne), by rw [noted]; exact own, ?_, fun awake => ?_,
      fun silent p paired near => ?_, fun silent far => ?_, fun other => ?_, fun mem up down => ?_, fun mem names => ?_,
      NotHeardReported.settled (t := takeReleaseFlag src (releaseActive b) z) ((takeNaming_reported src b y).before rfl rfl rfl),
      fun n => ?_, ?_, fun n ne h => ?_, ?_⟩
    · rw [own]
      exact Slot.note_lastFrame ..
    · rw [own, Slot.note_live (.inl awake)]
      exact ⟨rfl, rfl⟩
    · have met : (s.slot src).paired s.now = true := by rw [Slot.paired, paired]; exact decide_eq_true near
      rw [own, bay, Slot.note_beacon silent, if_pos met]
      exact ⟨rfl, rfl, rfl⟩
    · have late : (s.slot src).paired s.now = false := by
        unfold Slot.paired
        split
        · next p e => exact decide_eq_false (Nat.not_le.2 (far p e))
        · rfl
      rw [own, bay, Slot.note_beacon silent, if_neg (by rw [late]; exact Bool.false_ne_true)]
      exact ⟨silent, rfl⟩
    · exact notHeard.trans (apart other)
    · rw [notHeard, unheard]
      refine unnamed mem (Bool.eq_false_iff.2 fun names => ?_)
      exact ((namesOwn_iff b _).1 names).elim up down
    · rw [notHeard, unheard]
      exact named mem ((namesOwn_iff b _).2 names)
    · exact (settle_still_severe (still n) s).trans (takeNaming_severe src b y)
    · rw [settle_releases s (.inl (by rw [show (takeReleaseFlag src (releaseActive b) z).cl = s.cl from zcl]; exact acc.2.2)), members,
        if_pos rfl]
    · rw [settle_releases s (h.imp (fun e => by rw [show (takeReleaseFlag src (releaseActive b) z).cl = s.cl from zcl]; exact e) still),
        members, if_neg ne]
    · have flagged : Sends (takeReleaseFlag src (releaseActive b) { y with pm := { y.pm with slots := z.pm.slots, notHeard := z.pm.notHeard } })
          (takeReleaseFlag src (releaseActive b) z) :=
        { sends with
          iu := congrArg (fun i : InterlockUnit =>
            { i with releaseSet := if releaseActive b then insertNode src i.releaseSet else eraseNode src i.releaseSet }) sends.iu }
      rw [slots, notHeard]
      exact (flagged.ends.trans ends).withReleases
  · let a := (noteActivity src false s).modIu fun i => { i with releaseSet := insertNode src i.releaseSet }
    have exec : Sys2Proof.Machine.exec (.alertHandle src unit seq) s = .next (settle s a) :=
      congrArg Host.Outcome.next (onFrameSettling_of_acceptedRunning acc (takeAlert src 1))
    refine ⟨_, exec, fun n h => ?_, settle_minor .., fun n => settle_still_severe (s := a) n s, (settle_ends s a).withReleases⟩
    rw [settle_releases s (s := a) h]
    exact mem_insertNode src n _
  · have exec := silence_expires loaded timer
    have sends := fallSilent_sends n (s.reach e)
    have ends := settle_ends (s.reach e) (fallSilent n (s.reach e))
    have unheard := unheard_congr (s := silenced n (s.reach e)) (ends.1.slots.trans sends.slots) (ends.1.cl.trans sends.cl)
    have neighbours : n ∈ (s.reach e).neighbours ↔ n ∈ s.neighbours := by rw [reach_neighbours]
    have before : (silenced n (s.reach e)).pm.notHeard = s.pm.notHeard :=
      (congrArg PeerMonitor.notHeard (reach_pm e s) : (s.reach e).pm.notHeard = s.pm.notHeard)
    refine ⟨_, exec, ends.2.1.trans (sends.now.trans rfl), fun other => ?_, fun mem => ?_, ?_⟩
    · rw [ends.1.notHeard, fallSilent_eq, if_neg (mt neighbours.1 other), before]
    · rw [ends.1.notHeard, unheard, fallSilent_eq, if_pos (neighbours.2 mem), testNotHeard_notHeard, before]
    · refine NotHeardReported.settled ?_
      have x : NotHeardReported (silenced n (s.reach e)) (fallSilent n (s.reach e)) := by
        rw [fallSilent_eq]
        split
        · exact testNotHeard_reported _
        · exact ⟨fun clear set => absurd (clear.symm.trans set) Bool.false_ne_true, fun _ => rfl⟩
      exact x.before (reach_fr e s) before (reach_seq e s)

end Sys2Proof.Machine

/-! The frames that an event enqueues, counted by kind and payload (R47, R49), and the Fault Recorder's own commands (chapter 11). -/

namespace Sys2Proof.Machine

variable {i : Instr}

/-! ### What enqueuing does to the frames that stand in the queue -/

section Frames

variable {k k' : FrameKind} {p p' : List Byte} {s t : State}

/-- The entries of a kind with a payload. -/
def isFrame (k : FrameKind) (p : List Byte) (x : TxEntry) : Bool := x.kind == k && x.payload == p

theorem frames_eq (s : State) (k : FrameKind) (p : List Byte) : s.frames k p = s.lc.queue.countP (isFrame k p) := rfl

theorem isFrame_newEntry (k k' : FrameKind) (p p' : List Byte) : isFrame k' p' (newEntry k p) = true ↔ (k, p) = (k', p') := by
  simp [isFrame, newEntry]

theorem countP_insertByClass (f : TxEntry → Bool) (e : TxEntry) (q : List TxEntry) :
    (insertByClass e q).countP f = q.countP f + if f e then 1 else 0 := by
  rw [(insertByClass_perm e q).countP_eq, List.countP_cons]

/-- Only beacons are met in their place. -/
theorem countP_replaceBeacon (h : k ≠ .beacon) (p p' : List Byte) (q : List TxEntry) :
    (replaceBeacon p' q).countP (isFrame k p) = q.countP (isFrame k p) := by
  rw [replaceBeacon, List.countP_map]
  refine List.countP_congr fun x _ => ?_
  by_cases b : x.kind = .beacon
  · have other : (FrameKind.beacon == k) = false := beq_eq_false_iff_ne.mpr (Ne.symm h)
    by_cases on : x.onLine = true <;> simp [isFrame, b, on, other]
  · simp [isFrame, b]

theorem fresh_iff : ¬(k = .beacon ∧ ∃ x ∈ s.lc.queue, x.kind = .beacon) ↔ k ≠ .beacon ∨ ∀ x ∈ s.lc.queue, x.kind ≠ .beacon := by
  rw [not_and_or, not_exists]
  simp only [not_and, ne_eq]

/-- A frame that is no beacon joins a queue with room (R47). -/
theorem frames_enqueue_room (h : k' ≠ .beacon) (room : s.lc.queue.length < 16) :
    (enqueue k p s).frames k' p' = s.frames k' p' + if (k, p) = (k', p') then 1 else 0 := by
  rw [frames_eq, frames_eq]
  by_cases meets : k = .beacon ∧ ∃ x ∈ s.lc.queue, x.kind = .beacon
  · obtain ⟨rfl, meets⟩ := meets
    rw [enqueue_meets meets, State.setQueue_lc, countP_replaceBeacon h, if_neg (fun e => h (congrArg Prod.fst e).symm), Nat.add_zero]
  · rw [enqueue_joins (fresh_iff.1 meets) room, State.setQueue_lc, countP_insertByClass]
    simp only [isFrame_newEntry]

/-- An enqueued frame moves none of another payload or kind whose class is no higher than its own (R49). -/
theorem frames_enqueue_other (h : k' ≠ .beacon) (ne : (k, p) ≠ (k', p')) (le : k'.cls ≤ k.cls) :
    (enqueue k p s).frames k' p' = s.frames k' p' := by
  rw [frames_eq, frames_eq]
  have new : ¬isFrame k' p' (newEntry k p) = true := mt (isFrame_newEntry ..).1 ne
  by_cases meets : k = .beacon ∧ ∃ x ∈ s.lc.queue, x.kind = .beacon
  · obtain ⟨rfl, meets⟩ := meets
    rw [enqueue_meets meets, State.setQueue_lc, countP_replaceBeacon h]
  · unfold enqueue
    dsimp only
    rw [if_neg (enqueue_fresh (fresh_iff.1 meets))]
    split
    · rw [State.setQueue_lc]
      exact (countP_insertByClass _ (newEntry k p) _).trans (by rw [if_neg new, Nat.add_zero])
    · split
      · rfl
      · split
        · next high =>
          split
          · next q' gone e =>
            obtain ⟨l, r, split, rfl, holds, -⟩ := removeLast_split e
            have above : isFrame k' p' gone = false := by
              simp only [Bool.and_eq_true, beq_iff_eq] at holds
              have ne : gone.kind ≠ k' := fun e => by
                rw [e] at holds
                omega
              simp [isFrame, ne]
            rw [reportGone_lc]
            refine (countP_insertByClass _ (newEntry k p) (l ++ r)).trans ?_
            rw [if_neg new, split]
            simp [above]
          · rw [reportGone_lc]
            rfl
        · rw [reportGone_lc]
          rfl

theorem length_enqueue_le (k : FrameKind) (p : List Byte) (s : State) : (enqueue k p s).lc.queue.length ≤ s.lc.queue.length + 1 := by
  unfold enqueue
  dsimp only
  split
  · rw [State.setQueue_lc]
    exact (List.length_map ..).le.trans (Nat.le_succ _)
  · split
    · rw [State.setQueue_lc]
      exact ((insertByClass_perm _ _).length_eq).le
    · split
      · exact Nat.le_succ _
      · split
        · split
          · next q' gone e =>
            obtain ⟨l, r, split, rfl, -, -⟩ := removeLast_split e
            rw [reportGone_lc]
            refine ((insertByClass_perm _ _).length_eq).le.trans ?_
            rw [split]
            simp
          · rw [reportGone_lc]
            exact Nat.le_succ _
        · rw [reportGone_lc]
          exact Nat.le_succ _

end Frames

/-! ### The frames of an event, in order -/

/-- The queue of `t` is that of `s` with the frames of `l` enqueued, in order. -/
def Enqueued (l : List (FrameKind × List Byte)) (s t : State) : Prop :=
  t.lc.queue = (l.foldl (fun a f => enqueue f.1 f.2 a) s).lc.queue

section Enqueued

variable {k : FrameKind} {p : List Byte} {l l' : List (FrameKind × List Byte)} {a s t u : State}

theorem foldl_enqueue_congr (l : List (FrameKind × List Byte)) {s t : State} (h : s.lc.queue = t.lc.queue) :
    (l.foldl (fun a f => enqueue f.1 f.2 a) s).lc.queue = (l.foldl (fun a f => enqueue f.1 f.2 a) t).lc.queue := by
  induction l generalizing s t with
  | nil => exact h
  | cons f l ih => exact ih (enqueue_queue_congr h f.1 f.2)

theorem Enqueued.of_queue (h : t.lc.queue = s.lc.queue) : Enqueued [] s t := h

theorem Enqueued.refl (s : State) : Enqueued [] s s := rfl

theorem Enqueued.trans (h : Enqueued l s t) (k : Enqueued l' t u) : Enqueued (l ++ l') s u := by
  rw [Enqueued, k, List.foldl_append]
  exact foldl_enqueue_congr l' h

theorem Enqueued.before (h : Enqueued l a t) (q : a.lc.queue = s.lc.queue) : Enqueued l s t := (Enqueued.of_queue q).trans h

theorem Enqueued.after (h : Enqueued l s t) (q : u.lc.queue = t.lc.queue) : Enqueued l s u := q.trans h

theorem enqueue_enqueued (k : FrameKind) (p : List Byte) (s : State) : Enqueued [(k, p)] s (enqueue k p s) := rfl

theorem Enqueued.length_le (h : Enqueued l s t) : t.lc.queue.length ≤ s.lc.queue.length + l.length := by
  rw [h]
  clear h
  induction l generalizing s with
  | nil => exact le_rfl
  | cons f l ih =>
    refine (ih (s := enqueue f.1 f.2 s)).trans ?_
    have one := length_enqueue_le f.1 f.2 s
    rw [List.length_cons]
    omega

/-- In a queue with room for all of them every frame but a beacon joins. -/
theorem Enqueued.frames_room (h : Enqueued l s t) (room : s.lc.queue.length + l.length ≤ 16) (other : k ≠ .beacon) :
    t.frames k p = s.frames k p + l.count (k, p) := by
  rw [frames_eq, h, ← frames_eq]
  clear h
  induction l generalizing s with
  | nil => rfl
  | cons f l ih =>
    rw [List.length_cons] at room
    have one := length_enqueue_le f.1 f.2 s
    rw [List.foldl_cons, ih (by omega), frames_enqueue_room other (by omega), List.count_cons]
    simp only [beq_iff_eq, Prod.mk.eta]
    omega

/-- Frames of classes no lower move none of another payload or kind. -/
theorem Enqueued.frames_other (h : Enqueued l s t) (other : k ≠ .beacon) (n : ∀ f ∈ l, f ≠ (k, p) ∧ k.cls ≤ f.1.cls) :
    t.frames k p = s.frames k p := by
  rw [frames_eq, h, ← frames_eq]
  clear h
  induction l generalizing s with
  | nil => rfl
  | cons f l ih =>
    obtain ⟨first, rest⟩ := List.forall_mem_cons.1 n
    rw [List.foldl_cons, ih rest, frames_enqueue_other other first.1 first.2]

end Enqueued

theorem finish_enqueued (s : State) : ∃ l, Enqueued l s (finish s) ∧ l.length ≤ 1 ∧ ∀ f ∈ l, f.1 = .beacon := by
  rcases finish_queue s with h | ⟨b, h⟩
  · exact ⟨[], h, by simp, by simp⟩
  · exact ⟨[(.beacon, beaconBytes b)], h, le_rfl, by simp⟩

/-- The end of an event moves no frame but a beacon where the queue has room for it. -/
theorem finish_frames {s : State} {k : FrameKind} {p : List Byte} (room : s.lc.queue.length < 16) (other : k ≠ .beacon) :
    (finish s).frames k p = s.frames k p := by
  obtain ⟨l, frames, len, beacons⟩ := finish_enqueued s
  rw [frames.frames_room (by omega) other, List.count_eq_zero.2 fun m => other (beacons _ m), Nat.add_zero]

/-- No class-0 to class-3 frame is moved by the change beacon. -/
theorem finish_frames_low {s : State} {k : FrameKind} {p : List Byte} (other : k ≠ .beacon) (low : k.cls ≤ 4) :
    (finish s).frames k p = s.frames k p := by
  obtain ⟨l, frames, -, beacons⟩ := finish_enqueued s
  refine frames.frames_other other fun f m => ⟨fun e => other ?_, ?_⟩
  · rw [← beacons f m, e]
  · rw [beacons f m]
    exact low

/-! ### Reports and counters (R187, R188, R191, R192) -/

/-- The Fault Recorder once a report is made in its slot or its kind's counter. -/
def recorded (k : FaultKind) (sev : Severity) (u : Option UnitNo) (s : State) : FaultRecorder :=
  match s.fr.slot sev with
  | none => s.fr.setSlot sev (some ⟨k, u, s.seq, s.now⟩)
  | some _ => countKind k s.fr

theorem recorded_eq (k : FaultKind) (sev : Severity) (u : Option UnitNo) (s : State) :
    recorded k sev u s =
      { s.fr with
        severe := (recorded k sev u s).severe, minor := (recorded k sev u s).minor, kinds := (recorded k sev u s).kinds } := by
  unfold recorded
  split
  · cases sev <;> rfl
  · rfl

/-- A report moves its slot or its kind's counter, and in PULSE mode its line's pulse timer. -/
theorem report_eq (k : FaultKind) (sev : Severity) (u : Option UnitNo) (s : State) :
    report k sev u s =
      { s with
        fr :=
          { s.fr with
            severe := (report k sev u s).fr.severe, minor := (report k sev u s).fr.minor, kinds := (report k sev u s).fr.kinds
            severePulse := if sev = .severe ∧ s.cl.config.pulseMode = true then some (after s.now 500) else s.fr.severePulse
            minorPulse :=
              if sev = .minor ∧ s.cl.config.pulseMode = true ∧ s.cl.config.minorDrive = true then some (after s.now 500)
              else s.fr.minorPulse } } := by
  let r := recorded k sev u s
  have only : r = { s.fr with severe := r.severe, minor := r.minor, kinds := r.kinds } := recorded_eq k sev u s
  have e : report k sev u s = if reportPulses sev s then startPulse sev { s with fr := r } else { s with fr := r } := rfl
  rw [e]
  clear_value r
  rw [only]
  unfold reportPulses
  cases sev <;> cases s.cl.config.pulseMode <;> cases s.cl.config.minorDrive <;> rfl

theorem Counter.bump_toNat {w : Nat} (c : Counter w) : c.bump.count.toNat = (c.count.toNat + 1) % 2 ^ w := by
  simp [Counter.bump, BitVec.toNat_add]

theorem Counter.bump_latch {w : Nat} (c : Counter w) : c.bump.latch = true ↔ c.latch = true ∨ 2 ^ w ≤ c.count.toNat + 1 := by
  have top : c.count = BitVec.allOnes w ↔ 2 ^ w ≤ c.count.toNat + 1 := by
    rw [BitVec.toNat_eq, BitVec.toNat_allOnes]
    have lt := c.count.isLt
    omega
  rw [Counter.bump, Bool.or_eq_true, beq_iff_eq, top]

/-- Settles O42: the report field by field, the counters by induction on the bumps. -/
theorem reportsCount : Obligations.ReportsCount := by
  refine ⟨?_, fun w c n => ?_⟩
  · rintro kind k sev u s t room rfl
    have eq := report_eq kind sev u s
    obtain ⟨kinds, slots⟩ := report_recorded kind sev u s
    refine ⟨?_, fun sev' ne => ?_, ?_, by rw [eq], by rw [eq], ?_⟩
    · rw [slots]
      rcases full : s.fr.slot sev with _ | y
      · exact (setSlot_slot _ _ _).trans (if_pos rfl).symm
      · exact (countKind_slot _ _ _).trans (full.trans (if_neg (by simp)).symm)
    · rw [slots]
      split
      · exact setSlot_other ne _ _
      · exact countKind_slot _ _ _
    · rw [kinds]
      rcases full : s.fr.slot sev with _ | y
      · rw [if_neg (fun h => h.1 rfl)]
        exact congrArg (·.getD k.index (Counter.zero 16)) (setSlot_kinds ..)
      · by_cases same : k = kind
        · obtain rfl := same
          have lt : k.index < s.fr.kinds.length := by rw [room]; exact k.index_lt
          rw [if_pos ⟨by simp, rfl⟩]
          simp [countKind_kinds, List.getD_eq_getElem?_getD, lt]
        · rw [if_neg (fun h => same h.2)]
          exact countKind_other same _
    · rw [eq]
  · induction n with
    | zero =>
      have lt := c.count.isLt
      rw [Function.iterate_zero, id_eq, Nat.add_zero, Nat.mod_eq_of_lt lt]
      exact ⟨rfl, ⟨.inl, fun h => h.resolve_right (by omega)⟩⟩
    | succ n ih =>
      obtain ⟨count, latch⟩ := ih
      rw [Function.iterate_succ_apply', Counter.bump_toNat, Counter.bump_latch, latch, count]
      refine ⟨by rw [Nat.mod_add_mod, Nat.add_assoc], ?_⟩
      by_cases passed : 2 ^ w ≤ c.count.toNat + n
      · exact iff_of_true (.inl (.inr passed)) (.inr (by omega))
      · rw [Nat.mod_eq_of_lt (by omega), Nat.add_assoc]
        tauto

/-! ### ACK_FAULT, RESET_NODE and the pulses (R189 to R191, R195) -/

theorem sendBeacon_fr (s : State) : ∃ n r, (sendBeacon s).fr = { s.fr with nodeCounters := n, resetReported := r } := by
  rw [sendBeacon_eq]
  exact enqueue_fr ..

/-- The end of an event moves no more of the Fault Recorder than the drop of a frame does. -/
theorem finish_recorder (s : State) : ∃ n r, (finish s).fr = { s.fr with nodeCounters := n, resetReported := r } := by
  unfold finish changeBeacon
  split
  · split
    · exact sendBeacon_fr (driveLines s)
    · exact ⟨_, _, rfl⟩
  · exact ⟨_, _, rfl⟩

/-- A RESULT and the end of its event, over a state whose Fault Recorder the COMMAND has moved. -/
theorem result_finishes {requester : Node} {sub : SubCommand} {arg : Byte} (done : Bool) (s : State) :
    let t := finish (sendResult requester sub arg done .none s)
    (∃ n r, t.fr = { s.fr with nodeCounters := n, resetReported := r }) ∧
      t.out = { s.out with severeOut := s.severeLine, minorOut := s.minorLine } ∧ Ends s t ∧
      (s.lc.queue.length < 15 →
        t.frames .result [nodeByte requester, sub.code, arg, if done then 1 else 2, 0] =
          s.frames .result [nodeByte requester, sub.code, arg, if done then 1 else 2, 0] + 1) := by
  let p := [nodeByte requester, sub.code, arg, if done then 1 else 2, 0]
  have sent : sendResult requester sub arg done .none s = enqueue .result p s := rfl
  dsimp only
  rw [sent]
  obtain ⟨n, r, fr⟩ := enqueue_fr .result p s
  obtain ⟨n', r', fr'⟩ := finish_recorder (enqueue .result p s)
  have sends := enqueue_sends .result p s
  refine ⟨⟨n', r', by rw [fr', fr]⟩, ?_, sends.ends.trans (finish_ends _), fun room => ?_⟩
  · rw [finish_out]
    unfold driveLines State.severeLine State.minorLine
    rw [enqueue_out, fr, sends.cl]
  · have len := length_enqueue_le .result p s
    rw [finish_frames (by omega) (by decide), frames_enqueue_room (by decide) (by omega), if_pos rfl]

theorem onFrame_of_accepted {f : Frame} {s : State} (h : Accepted f s) (g : State → State) :
    onFrame f g s = finish (g (noteActivity f.source (f.kind == .beacon) s)) := by
  rw [onFrame, if_pos h.1, receive_of_accepted h]

theorem onFrameSettling_of_accepted {f : Frame} {s : State} (h : Accepted f s) (g : State → State) :
    onFrameSettling f g s = settle s (g (noteActivity f.source (f.kind == .beacon) s)) := by
  rw [onFrameSettling, if_pos h.1, receive_of_accepted h]

theorem onCommand_running {src : Node} {sub : SubCommand} {dest arg : Byte} {x : State} (own : dest = nodeByte x.cl.own)
    (run : x.cl.phase = .running) (g : State → State) : onCommand src sub dest arg g x = g x := by
  have run : x.running = true := beq_iff_eq.2 run
  rw [onCommand, if_neg (by rw [own]; simp), if_pos run]

theorem takeAckFault_filled {src : Node} {arg : Byte} {x : State} (h : (x.fr.slot (severityOf arg)).isSome = true) :
    takeAckFault src arg x = sendResult src .ackFault arg true .none (x.modFr fun r => r.setSlot (severityOf arg) none) := by
  unfold takeAckFault
  dsimp only
  rw [if_pos h]

theorem takeAckFault_empty {src : Node} {arg : Byte} {x : State} (h : x.fr.slot (severityOf arg) = none) :
    takeAckFault src arg x = sendResult src .ackFault arg true .none (startPulse (severityOf arg) x) := by
  unfold takeAckFault
  dsimp only
  rw [h, if_neg (by simp)]

theorem endPulse_eq (line : FaultLine) (s : State) :
    endPulse line s = finish (match line with
      | .severe => s.modFr fun r => { r with severePulse := none }
      | .minor => s.modFr fun r => { r with minorPulse := none }) := by cases line <;> rfl

theorem takeAckFault_result (src : Node) (arg : Byte) (x : State) (room : x.lc.queue.length < 15) :
    (finish (takeAckFault src arg x)).frames .result [nodeByte src, 4, arg, 1, 0] = x.frames .result [nodeByte src, 4, arg, 1, 0] + 1 := by
  have sent : ∀ y : State, y.lc = x.lc → takeAckFault src arg x = sendResult src .ackFault arg true .none y →
      (finish (takeAckFault src arg x)).frames .result [nodeByte src, 4, arg, 1, 0] =
        x.frames .result [nodeByte src, 4, arg, 1, 0] + 1 := fun y lc e => by
    have result := (result_finishes (requester := src) (sub := .ackFault) (arg := arg) true y).2.2.2
    rw [frames_eq y, lc, ← e] at result
    exact result room
  rcases h : x.fr.slot (severityOf arg) with _ | y
  · exact sent _ (by cases severityOf arg <;> rfl) (takeAckFault_empty h)
  · exact sent (x.modFr fun r => r.setSlot (severityOf arg) none) rfl (takeAckFault_filled (by rw [h]; rfl))

/-- The pulse timers are no part of what an event keeps. -/
theorem withoutPulse_sends (s : State) (a b : Option Time) :
    Sends s (s.modFr fun r => { r with severePulse := a, minorPulse := b }) :=
  Sends.upd s _ _ _ _ _ _ _ ⟨fun _ h => h, fun _ h => h, rfl, rfl, fun _ => rfl⟩

/-- Settles O41: each is the RESULT and the end of its event over the recorder that the command has moved. -/
theorem faultCommands : Obligations.FaultCommands := by
  intro s
  refine ⟨fun src dest arg running ⟨acc, own⟩ => ?_, fun src dest arg serves ⟨acc, own⟩ => ?_, fun e loaded => ⟨fun pulse => ?_, fun pulse => ?_⟩⟩
  · let x := noteActivity src false s
    have exec : Sys2Proof.Machine.exec (.ackFault src dest arg) s = .next (finish (takeAckFault src arg x)) := by
      show Host.Outcome.next (onFrame _ (onCommand src .ackFault dest arg (takeAckFault src arg)) s) = _
      rw [onFrame_of_accepted acc]
      exact congrArg (fun x => Host.Outcome.next (finish x)) (onCommand_running (x := x) own running _)
    refine ⟨_, exec, ?_, ?_, ?_, ?_, ?_⟩
    · exact takeAckFault_result src arg x
    · rintro rfl full
      rw [takeAckFault_filled (src := src) (arg := 1) (x := x) full]
      obtain ⟨⟨n, r, fr⟩, -, ends, -⟩ := result_finishes (requester := src) (sub := .ackFault) (arg := 1) true
        (x.modFr fun r => r.setSlot .severe none)
      exact ⟨(congrArg FaultRecorder.severe fr).trans rfl, (congrArg FaultRecorder.severePulse fr).trans rfl, ends⟩
    · rintro rfl empty
      rw [takeAckFault_empty (src := src) (arg := 1) (x := x) empty]
      obtain ⟨⟨n, r, fr⟩, out, ends, -⟩ := result_finishes (requester := src) (sub := .ackFault) (arg := 1) true (startPulse .severe x)
      have line : (startPulse .severe x).severeLine = true := by
        cases h : x.cl.config.pulseMode <;> simp [State.severeLine, startPulse, h, State.timer]
      exact ⟨(congrArg FaultRecorder.severe fr).trans empty, congrArg FaultRecorder.severePulse fr,
        (congrArg Outputs.severeOut out).trans line, (startPulse_sends .severe x).ends.trans ends⟩
    · rintro rfl full
      rw [takeAckFault_filled (src := src) (arg := 2) (x := x) full]
      obtain ⟨⟨n, r, fr⟩, -, ends, -⟩ := result_finishes (requester := src) (sub := .ackFault) (arg := 2) true
        (x.modFr fun r => r.setSlot .minor none)
      exact ⟨(congrArg FaultRecorder.minor fr).trans rfl, (congrArg FaultRecorder.minorPulse fr).trans rfl, ends⟩
    · rintro rfl empty
      rw [takeAckFault_empty (src := src) (arg := 2) (x := x) empty]
      obtain ⟨⟨n, r, fr⟩, out, ends, -⟩ := result_finishes (requester := src) (sub := .ackFault) (arg := 2) true (startPulse .minor x)
      have line : (startPulse .minor x).minorLine = true := by
        cases h : x.cl.config.pulseMode <;> simp [State.minorLine, startPulse, h, State.timer]
      exact ⟨(congrArg FaultRecorder.minor fr).trans empty, congrArg FaultRecorder.minorPulse fr,
        (congrArg Outputs.minorOut out).trans line, (startPulse_sends .minor x).ends.trans ends⟩
  · let x := noteActivity src false s
    have reaches : onResetNode src dest x = takeResetNode src x := by
      have serving : (x.running || x.faultServing) = true := by rw [Bool.or_eq_true]; exact serves.imp_left beq_iff_eq.2
      have own : (dest == nodeByte x.cl.own) = true := beq_iff_eq.2 own
      rw [onResetNode, own, serving]
      rfl
    have exec : Sys2Proof.Machine.exec (.resetNode src dest arg) s = .next (finish (takeResetNode src x)) := by
      show Host.Outcome.next (onFrame _ (onResetNode src dest) s) = _
      rw [onFrame_of_accepted acc]
      exact congrArg (fun x => Host.Outcome.next (finish x)) reaches
    obtain ⟨-, -, ends, result⟩ :=
      result_finishes (requester := src) (sub := .resetNode) (arg := 0) true (x.modFr fun r => { r with resetDue := true })
    exact ⟨_, exec, result, ends⟩
  · refine ⟨_, congrArg Host.Outcome.next ((expiry_loaded loaded pulse (endPulse .severe)).trans (endPulse_eq ..)), ?_⟩
    obtain ⟨n, r, fr⟩ := finish_recorder ((s.reach e).modFr fun r => { r with severePulse := none })
    refine ⟨congrArg FaultRecorder.severePulse fr, ?_, (withoutPulse_sends (s.reach e) _ _).ends.trans (finish_ends _)⟩
    have line : ((s.reach e).modFr fun r => { r with severePulse := none }).severeLine =
        (!s.cl.config.pulseMode && s.fr.severe.isSome) := by
      simp only [State.severeLine, State.modFr_fr, State.modFr_cl, reach_fr, reach_cl]
      cases s.cl.config.pulseMode <;> simp
    exact (congrArg Outputs.severeOut (finish_out _)).trans line
  · refine ⟨_, congrArg Host.Outcome.next ((expiry_loaded loaded pulse (endPulse .minor)).trans (endPulse_eq ..)), ?_⟩
    obtain ⟨n, r, fr⟩ := finish_recorder ((s.reach e).modFr fun r => { r with minorPulse := none })
    refine ⟨congrArg FaultRecorder.minorPulse fr, ?_, (withoutPulse_sends (s.reach e) _ _).ends.trans (finish_ends _)⟩
    have line : ((s.reach e).modFr fun r => { r with minorPulse := none }).minorLine =
        (!s.cl.config.pulseMode && s.fr.minor.isSome && s.cl.config.minorDrive) := by
      simp only [State.minorLine, State.modFr_fr, State.modFr_cl, reach_fr, reach_cl]
      cases s.cl.config.pulseMode <;> simp
    exact (congrArg Outputs.minorOut (finish_out _)).trans line

end Sys2Proof.Machine

/-! The answers to the QUERY frames: their entries in the queue, the clear mark, and what they leave (R193, R194). -/

namespace Sys2Proof.Machine

variable {i : Instr}

/-! ### The entries of an answer -/

section Answers

variable {src : Node} {topic : Topic} {arg clear : Byte} {data : List Byte} {s : State}

/-- The entries of a class above which there is none join at the end. -/
theorem insertByClass_last {e : TxEntry} {q : List TxEntry} (h : ∀ x ∈ q, x.kind.cls ≤ e.kind.cls) : insertByClass e q = q ++ [e] := by
  induction q with
  | nil => rfl
  | cons x q ih =>
    obtain ⟨first, rest⟩ := List.forall_mem_cons.1 h
    rw [insertByClass, if_pos first, ih rest]
    rfl

theorem FrameKind.cls_le_answer (k : FrameKind) : k.cls ≤ FrameKind.answer.cls := by cases k <;> decide

/-- An entry that a filter leaves out moves nothing in it. -/
theorem filter_insertByClass {f : TxEntry → Bool} {e : TxEntry} (h : f e = false) (q : List TxEntry) :
    (insertByClass e q).filter f = q.filter f := by
  induction q with
  | nil => simp [insertByClass, h]
  | cons x q ih =>
    unfold insertByClass
    split
    · rw [List.filter_cons, List.filter_cons, ih]
    · exact List.filter_cons_of_neg (by simp [h])

theorem filter_replaceBeacon {k : FrameKind} (h : k ≠ .beacon) (p : List Byte) (q : List TxEntry) :
    (replaceBeacon p q).filter (fun x => x.kind == k) = q.filter fun x => x.kind == k := by
  have other : (FrameKind.beacon == k) = false := beq_eq_false_iff_ne.mpr (Ne.symm h)
  induction q with
  | nil => rfl
  | cons x q ih =>
    rw [replaceBeacon, List.map_cons, List.filter_cons, List.filter_cons, ← ih]
    by_cases b : x.kind = .beacon
    · by_cases on : x.onLine = true <;> simp [b, on, other, replaceBeacon]
    · simp [b, replaceBeacon]

/-- The change beacon moves no entry of another kind where the queue has room for it. -/
theorem finish_filter {k : FrameKind} (h : k ≠ .beacon) (room : s.lc.queue.length < 16) :
    (finish s).lc.queue.filter (fun x => x.kind == k) = s.lc.queue.filter fun x => x.kind == k := by
  have other : (FrameKind.beacon == k) = false := beq_eq_false_iff_ne.mpr (Ne.symm h)
  rcases finish_queue s with e | ⟨b, e⟩
  · rw [e]
  · rw [e]
    by_cases meets : ∃ x ∈ (s.setQueue s.lc.queue).lc.queue, x.kind = .beacon
    · rw [enqueue_meets meets, State.setQueue_lc]
      exact filter_replaceBeacon h _ _
    · rw [enqueue_joins (.inr fun x m e => meets ⟨x, m, e⟩) room, State.setQueue_lc]
      exact filter_insertByClass other _

/-- A part of an answer as an entry. -/
def answerEntry (src : Node) (topic : Topic) (arg : Byte) (count n : Nat) (p : List Byte) : TxEntry :=
  newEntry .answer ([nodeByte src, topic.code, arg, nibbles (BitVec.ofNat 4 n) (BitVec.ofNat 4 count)] ++ p)

/-- The parts join at the end of a queue with room for them, in order (R193). -/
theorem sendParts_queue {count : Nat} (l : List (List Byte)) : ∀ (n : Nat) (s : State), s.lc.queue.length + l.length ≤ 16 →
    (sendParts src topic arg count n l s).lc.queue =
      s.lc.queue ++ l.mapIdx fun i p => answerEntry src topic arg count (n + i) p := by
  induction l with
  | nil => intro n s _; simp [sendParts]
  | cons p l ih =>
    intro n s room
    rw [List.length_cons] at room
    have joined : (enqueue .answer ([nodeByte src, topic.code, arg, nibbles (BitVec.ofNat 4 n) (BitVec.ofNat 4 count)] ++ p) s).lc.queue =
        s.lc.queue ++ [answerEntry src topic arg count n p] := by
      rw [enqueue_joins (.inl (by decide)) (by omega), State.setQueue_lc]
      exact insertByClass_last fun x _ => x.kind.cls_le_answer
    rw [sendParts, ih (n + 1) _ (by rw [joined]; simp; omega), joined, List.mapIdx_cons]
    simp [Nat.add_assoc, Nat.add_comm 1]

theorem answerEntries_eq (src : Node) (topic : Topic) (arg : Byte) (data : List Byte) :
    (parts data).mapIdx (fun i p => answerEntry src topic arg (partCount data) (1 + i) p) = answerEntries src topic arg data := by
  rw [parts_eq, List.mapIdx_eq_ofFn]
  refine List.ext_getElem ?_ fun n _ _ => ?_
  · simp [answerEntries]
  · simp [answerEntries, answerEntry, newEntry, Nat.add_comm 1]

theorem sendParts_sends {count : Nat} (l : List (List Byte)) : ∀ (n : Nat) (s : State), Sends s (sendParts src topic arg count n l s) := by
  induction l with
  | nil => exact fun _ s => Sends.refl s
  | cons p l ih => exact fun n s => (enqueue_sends _ _ s).trans (ih _ _)

theorem sendParts_fr {count : Nat} (l : List (List Byte)) : ∀ (n : Nat) (s : State),
    ∃ c r, (sendParts src topic arg count n l s).fr = { s.fr with nodeCounters := c, resetReported := r } := by
  induction l with
  | nil => exact fun _ s => ⟨_, _, rfl⟩
  | cons p l ih =>
    intro n s
    obtain ⟨c, r, sent⟩ := enqueue_fr .answer ([nodeByte src, topic.code, arg, nibbles (BitVec.ofNat 4 n) (BitVec.ofNat 4 count)] ++ p) s
    obtain ⟨c', r', rest⟩ := ih (n + 1) (enqueue .answer ([nodeByte src, topic.code, arg, nibbles (BitVec.ofNat 4 n) (BitVec.ofNat 4 count)] ++ p) s)
    exact ⟨c', r', by rw [sendParts, rest, sent]⟩

theorem sendParts_summary {count : Nat} (l : List (List Byte)) : ∀ (n : Nat) (s : State),
    (sendParts src topic arg count n l s).summary = s.summary := by
  induction l with
  | nil => exact fun _ s => rfl
  | cons p l ih => exact fun n s => (ih _ _).trans (enqueue_summary _ _ s)

theorem sendParts_pm {count : Nat} (l : List (List Byte)) : ∀ (n : Nat) (s : State), (sendParts src topic arg count n l s).pm = s.pm := by
  induction l with
  | nil => exact fun _ s => rfl
  | cons p l ih => exact fun n s => (ih _ _).trans (by rw [enqueue_eq])

end Answers

/-! ### The clear mark (R194) -/

/-- The Fault Recorder with the counters that the topic carries at 0, where the clear mark is set. -/
def cleared (topic : Topic) (arg clear : Byte) (r : FaultRecorder) : FaultRecorder :=
  { r with
    kinds := if clear = 1 ∧ topic = .faults then List.replicate 17 (Counter.zero 16) else r.kinds
    unitCounters := Quad.build fun u =>
      if clear = 1 ∧ topic = .unitCounters ∧ arg.toNat = u.val then UnitCounters.zero else r.unitCounters.get u
    nodeCounters := if clear = 1 ∧ topic = .nodeCounters then NodeCounters.zero else r.nodeCounters }

/-- What the clear mark of a topic zeros. -/
structure Clears (topic : Topic) (arg : Byte) (zero : State → State) : Prop where
  only : ∀ s, zero s = { s with fr := cleared topic arg 1 s.fr, pm := { s.pm with slots := (zero s).pm.slots } }
  others : topic ≠ .peer → ∀ s, (zero s).pm = s.pm
  slots : ∀ s : State, s.pm.slots.length = 64 → ∀ n, (zero s).slot n =
    if topic = .peer ∧ nodeByte n = arg ∧ n ≠ s.cl.own then { s.slot n with silence := Counter.zero 16 } else s.slot n

theorem build_get {α : Type} (q : Quad α) : (Quad.build fun u => q.get u) = q := Quad.ext_get fun u => by rw [Quad.get_build]

theorem cleared_unmarked {topic : Topic} {arg clear : Byte} {r : FaultRecorder} (h : clear ≠ 1) : cleared topic arg clear r = r := by
  simp only [cleared, eq_false h, false_and, if_false, build_get]

/-- A topic without counters of the Fault Recorder clears none of them. -/
theorem cleared_other {topic : Topic} {arg clear : Byte} {r : FaultRecorder} (faults : topic ≠ .faults) (unit : topic ≠ .unitCounters)
    (node : topic ≠ .nodeCounters) : cleared topic arg clear r = r := by
  simp [cleared, faults, unit, node, build_get]

theorem Clears.faults (arg : Byte) : Clears .faults arg zeroKinds where
  only := fun s => by simp [zeroKinds, State.modFr, cleared, build_get]
  others := fun _ _ => rfl
  slots := fun s _ n => (if_neg fun h => nomatch h.1).symm

theorem Clears.nodeCounters (arg : Byte) : Clears .nodeCounters arg zeroNode where
  only := fun s => by simp [zeroNode, State.modNodeCounters, State.modFr, cleared, build_get]
  others := fun _ _ => rfl
  slots := fun s _ n => (if_neg fun h => nomatch h.1).symm

theorem UnitNo.val_inj {u v : UnitNo} (h : u.val = v.val) : u = v := by
  revert h
  cases u <;> cases v <;> decide

theorem Clears.unitCounters {arg : Byte} {u : UnitNo} (h : arg.toNat = u.val) : Clears .unitCounters arg (zeroUnit u) where
  only := fun s => by
    have zeroed : (Quad.build fun v => if arg.toNat = v.val then UnitCounters.zero else s.fr.unitCounters.get v) =
        s.fr.unitCounters.set u UnitCounters.zero := Quad.ext_get fun v => by
      rw [Quad.get_build, h]
      by_cases e : v = u
      · rw [e, if_pos rfl, Quad.get_set, if_pos rfl]
      · rw [Quad.get_set_ne _ _ (Ne.symm e), if_neg fun same => e (UnitNo.val_inj same).symm]
    simp [zeroUnit, State.modUnitCounters, State.modFr, cleared, zeroed]
  others := fun _ _ => rfl
  slots := fun s _ n => (if_neg fun h => nomatch h.1).symm

theorem Clears.none {topic : Topic} {arg : Byte} (h : topic = .berth ∨ topic = .serviceMap) : Clears topic arg id where
  only := fun s => by rcases h with rfl | rfl <;> simp [cleared, build_get]
  others := fun _ _ => rfl
  slots := fun s _ n => (if_neg fun e => by rcases h with rfl | rfl <;> exact nomatch e.1).symm

theorem nodeByte_inj {n m : Node} (h : nodeByte n = nodeByte m) : n = m := by
  have e := congrArg BitVec.toNat h
  rw [nodeByte, nodeByte, BitVec.toNat_setWidth, BitVec.toNat_setWidth] at e
  have := n.isLt
  have := m.isLt
  exact BitVec.eq_of_toNat_eq (by omega)

theorem nodeByte_setWidth {arg : Byte} (h : arg.toNat < 64) : nodeByte (arg.setWidth 6) = arg := by
  refine BitVec.eq_of_toNat_eq ?_
  rw [nodeByte, BitVec.toNat_setWidth, BitVec.toNat_setWidth]
  omega

theorem Clears.peer {n : Node} : Clears .peer (nodeByte n) (zeroSilence (nodeByte n)) where
  only := fun s => by
    rw [cleared_other (topic := .peer) (by decide) (by decide) (by decide)]
    unfold zeroSilence
    split <;> rfl
  others := fun h => absurd rfl h
  slots := fun s room m => by
    have back : (nodeByte n).setWidth 6 = n := by simp [nodeByte]
    unfold zeroSilence
    rw [back]
    by_cases own : n = s.cl.own
    · rw [if_pos (by rw [own]), if_neg fun h => h.2.2 ((nodeByte_inj h.2.1).trans own)]
    · rw [if_neg fun e => own (nodeByte_inj e)]
      by_cases same : m = n
      · rw [same, setSlot_same room, if_pos ⟨rfl, rfl, own⟩]
      · rw [setSlot_ne same, if_neg fun h => same (nodeByte_inj h.2.1)]

/-! ### The answer and the end of its event -/

/-- What follows the arrival of a QUERY to this node. -/
theorem exec_query {src : Node} {topic : Topic} {dest arg clear : Byte} {s : State} {g : State → State}
    (serves : s.cl.phase = .running ∨ s.faultServing = true) (h : Addressed ⟨src, .query, queryPayload topic dest arg clear⟩ dest s) :
    onFrame ⟨src, .query, queryPayload topic dest arg clear⟩ (onQuery dest g) s = finish (g (noteActivity src false s)) := by
  obtain ⟨acc, own⟩ := h
  rw [onFrame_of_accepted acc]
  refine congrArg finish ?_
  have serving : ((noteActivity src false s).running || (noteActivity src false s).faultServing) = true := by
    rw [Bool.or_eq_true]
    exact serves.imp_left beq_iff_eq.2
  have own : (dest == nodeByte (noteActivity src false s).cl.own) = true := beq_iff_eq.2 own
  show onQuery dest g (noteActivity src false s) = _
  rw [onQuery, own, serving]
  rfl

/-- An answer sends its parts from the queue's end, clears what the clear mark names, and leaves the rest to the end of its event. -/
theorem answerQuery_finishes {src : Node} {topic : Topic} {arg clear : Byte} {data : List Byte} {zero : State → State} {x t : State}
    (clears : Clears topic arg zero) (room : x.pm.slots.length = 64) (e : t = finish (answerQuery src topic arg clear data zero x)) :
    (x.lc.queue.length + partCount data < 16 →
        (t.lc.queue.filter fun e => e.kind == .answer) =
          (x.lc.queue.filter fun e => e.kind == .answer) ++ answerEntries src topic arg data) ∧
      t.fr = { cleared topic arg clear x.fr with nodeCounters := t.fr.nodeCounters, resetReported := t.fr.resetReported } ∧
      { t.fr.nodeCounters with txDrops := Counter.zero 16 } =
        { (cleared topic arg clear x.fr).nodeCounters with txDrops := Counter.zero 16 } ∧
      (clear = 1 → topic = .nodeCounters → x.pm.lastBeacon = some x.summary → t.fr.nodeCounters = NodeCounters.zero) ∧
      (∀ n, t.slot n =
        if clear = 1 ∧ topic = .peer ∧ nodeByte n = arg ∧ n ≠ x.cl.own then { x.slot n with silence := Counter.zero 16 } else x.slot n) ∧
      Sends { x with freeCount := x.freeCount + 4, fr := t.fr, pm := { x.pm with slots := t.pm.slots } } t := by
  let a := sendParts src topic arg (parts data).length 1 (parts data) { x with freeCount := x.freeCount + drawsPerAnswer }
  let y := if clear = 1 then zero a else a
  have sends : Sends { x with freeCount := x.freeCount + drawsPerAnswer } a := sendParts_sends ..
  obtain ⟨c, r, sent⟩ : ∃ c r, a.fr = { x.fr with nodeCounters := c, resetReported := r } := sendParts_fr ..
  have counts : { a.fr.nodeCounters with txDrops := Counter.zero 16 } = { x.fr.nodeCounters with txDrops := Counter.zero 16 } :=
    congrArg (fun n : NodeCounters => { n with txDrops := Counter.zero 16 }) sends.fr.nodeCounters
  have moved : y = { a with fr := cleared topic arg clear a.fr, pm := { a.pm with slots := y.pm.slots } } := by
    by_cases marked : clear = 1
    · have e : y = zero a := if_pos marked
      rw [e, marked]
      exact clears.only a
    · have e : y = a := if_neg marked
      rw [e, cleared_unmarked marked]
  have queue : y.lc = a.lc := (congrArg State.lc moved).trans rfl
  have fr : y.fr = cleared topic arg clear a.fr := (congrArg State.fr moved).trans rfl
  have finished : t = finish y := e
  have ends : Sends y t := finished ▸ finish_sends y
  obtain ⟨c', r', last⟩ := finish_recorder y
  rw [← finished] at last
  refine ⟨fun free => ?_, ?_, ?_, fun marked node rests => ?_, fun n => ?_, ?_⟩
  · have len : (parts data).length = partCount data := parts_length data
    have placed : a.lc.queue = x.lc.queue ++ answerEntries src topic arg data := by
      rw [← answerEntries_eq, ← len]
      exact sendParts_queue (parts data) 1 _ (by rw [len]; exact free.le)
    have all : (answerEntries src topic arg data).filter (fun e => e.kind == .answer) = answerEntries src topic arg data := by
      rw [List.filter_eq_self]
      intro e m
      obtain ⟨n, -, rfl⟩ := List.mem_map.1 m
      rfl
    have short : y.lc.queue.length < 16 := by
      rw [queue, placed, List.length_append]
      simpa [answerEntries] using free
    rw [finished, finish_filter (by decide) short, queue, placed, List.filter_append, all]
  · rw [last, fr, sent]
    rfl
  · have kept : { t.fr.nodeCounters with txDrops := Counter.zero 16 } = { y.fr.nodeCounters with txDrops := Counter.zero 16 } :=
      congrArg (fun n : NodeCounters => { n with txDrops := Counter.zero 16 }) ends.fr.nodeCounters
    rw [kept, fr]
    unfold cleared
    dsimp only
    split
    · rfl
    · exact counts
  · have zeroed : y = zero a := if_pos marked
    have pm : y.pm = a.pm := zeroed ▸ clears.others (by rw [node]; decide) a
    have still : y.summary = x.summary := by
      have e : y.summary = a.summary := by
        rw [moved, pm]
        rfl
      exact e.trans (sendParts_summary ..)
    have rest : t = driveLines y := by
      rw [finished]
      refine finish_rests (.inr ?_)
      rw [still, ← rests, pm]
      exact congrArg PeerMonitor.lastBeacon (show a.pm = x.pm from sendParts_pm ..)
    rw [rest]
    show y.fr.nodeCounters = _
    rw [fr]
    exact if_pos ⟨marked, node⟩
  · have slot : a.slot n = x.slot n := by
      rw [State.slot, show a.pm = x.pm from sendParts_pm ..]
      rfl
    have same : t.slot n = y.slot n := by
      rw [State.slot, ends.slots]
      rfl
    have own : a.cl.own = x.cl.own := congrArg Loader.own sends.cl
    rw [same, ← slot, ← own]
    by_cases marked : clear = 1
    · rw [show y = zero a from if_pos marked, clears.slots a (by rw [sends.slots]; exact room) n]
      simp only [marked, true_and]
    · rw [show y = a from if_neg marked, if_neg fun h => marked h.1]
  · have base : Sends { x with freeCount := x.freeCount + 4, fr := y.fr, pm := { x.pm with slots := y.pm.slots } }
        { a with fr := y.fr, pm := { a.pm with slots := y.pm.slots } } :=
      { sends with fr := FaultsKept.refl _, slots := rfl }
    have whole : Sends { x with freeCount := x.freeCount + 4, fr := y.fr, pm := { x.pm with slots := y.pm.slots } } t := by
      rw [fr] at base ⊢
      rw [← moved] at base
      exact base.trans ends
    rw [ends.slots]
    exact { whole with fr := FaultsKept.refl _ }

theorem peer_query_lt {src : Node} {dest arg clear : Byte} (h : (⟨src, .query, queryPayload .peer dest arg clear⟩ : Frame).ok = true) :
    arg.toNat < 64 := by
  have payload : (within 1 40 dest && within 1 6 Topic.peer.code && queryArgOk Topic.peer.code arg && within 0 1 clear) = true :=
    (Bool.and_eq_true_iff.1 h).2
  rw [Bool.and_eq_true, Bool.and_eq_true] at payload
  have range : within 1 47 arg = true := payload.1.2
  simp only [within, Bool.and_eq_true, decide_eq_true_eq] at range
  omega

/-- Settles O43: each topic's data has its layout, and its answer ends as `answerQuery_finishes` says. -/
theorem queriesAnswered : Obligations.QueriesAnswered := by
  rintro i src topic dest arg clear data s s' serves room addressed rfl which
  have slots : (noteActivity src false s).pm.slots.length = 64 := (List.length_set ..).trans room
  obtain ⟨zero, clears, layout, exec⟩ : ∃ zero, Clears topic arg zero ∧ AnswerLayout topic arg (noteActivity src false s) data ∧
      Sys2Proof.Machine.exec i s = .next (finish (answerQuery src topic arg clear data zero (noteActivity src false s))) := by
    obtain ⟨rfl, rfl, rfl⟩ | ⟨u, rfl, rfl, unit, rfl⟩ | ⟨rfl, rfl, rfl⟩ | ⟨rfl, rfl, rfl⟩ | ⟨rfl, rfl, rfl⟩ | ⟨rfl, rfl, rfl⟩ := which
    · exact ⟨_, .faults arg, faultsData_layout _, congrArg Host.Outcome.next (exec_query serves addressed)⟩
    · refine ⟨_, .unitCounters unit, ⟨u, unit, unitData_layout _ u⟩, ?_⟩
      have named : answerUnit src arg clear (noteActivity src false s) =
          answerQuery src .unitCounters arg clear (unitData (noteActivity src false s) u) (zeroUnit u) (noteActivity src false s) := by
        rw [answerUnit, unit, show UnitNo.ofNat? u.val = some u by cases u <;> rfl]
      rw [← named]
      exact congrArg Host.Outcome.next (exec_query serves addressed)
    · exact ⟨_, .nodeCounters arg, nodeData_layout _, congrArg Host.Outcome.next (exec_query serves addressed)⟩
    · exact ⟨_, .none (.inl rfl), berthData_layout _, congrArg Host.Outcome.next (exec_query serves addressed)⟩
    · exact ⟨_, .none (.inr rfl), serviceMapData_layout _, congrArg Host.Outcome.next (exec_query serves addressed)⟩
    · obtain ⟨n, rfl⟩ : ∃ n : Node, nodeByte n = arg := ⟨_, nodeByte_setWidth (peer_query_lt addressed.1.2.1)⟩
      refine ⟨_, .peer, ⟨n, rfl, ?_⟩, congrArg Host.Outcome.next (exec_query serves addressed)⟩
      have slot : (noteActivity src false s).peerSlot (nodeByte n) =
          if n = (noteActivity src false s).cl.own then Slot.empty else (noteActivity src false s).slot n := by
        have back : (nodeByte n).setWidth 6 = n := by simp [nodeByte]
        rw [State.peerSlot, back]
        by_cases own : n = (noteActivity src false s).cl.own
        · rw [if_pos own, if_pos (congrArg nodeByte own)]
        · rw [if_neg own, if_neg fun e => own (nodeByte_inj e)]
      rw [slot]
      exact peerData_layout _ _
  obtain ⟨queue, fr, counts, zeroed, slot, sends⟩ := answerQuery_finishes (clear := clear) (data := data) (src := src) clears slots rfl
  refine ⟨_, exec, layout, queue, ?_, ?_, zeroed, slot, sends.ends, sends.bu, sends.ae, sends.dc, sends.su, sends.iu, sends.cl,
    sends.pending⟩
  · rw [fr]
    rfl
  · rw [counts]
    unfold cleared
    dsimp only
    split <;> rfl

end Sys2Proof.Machine

/-! The checks of the configuration record: each finds the first field that its rule makes fail (R3 to R8). -/

namespace Sys2Proof.Machine

variable {i : Instr}

/-! ### The first failure -/

/-- A search answers the first offset at which `p` holds, and nothing where it holds nowhere. -/
def Finds (f : Option Nat) (p : Nat → Prop) : Prop :=
  match f with
  | none => ∀ k, ¬p k
  | some k => FirstAt p k

section Finds

variable {f g : Option Nat} {p q : Nat → Prop} {k : Nat}

theorem Finds.some_of (h : Finds f p) (first : FirstAt p k) : f = some k := by
  cases f with
  | none => exact absurd first.1 (h k)
  | some j =>
    have h : FirstAt p j := h
    rcases lt_trichotomy j k with lt | rfl | lt
    · exact absurd h.1 (first.2 j lt)
    · rfl
    · exact absurd first.1 (h.2 k lt)

theorem Finds.none_of (h : Finds f p) (n : ∀ k, ¬p k) : f = none := by
  cases f with
  | none => rfl
  | some j => exact absurd (show FirstAt p j from h).1 (n j)

theorem Finds.none_iff (h : Finds f p) : f = none ↔ ∀ k, ¬p k := by
  refine ⟨fun e => ?_, h.none_of⟩
  rw [e] at h
  exact h

theorem Finds.congr (h : Finds f p) (e : ∀ k, p k ↔ q k) : Finds f q := by
  obtain rfl : p = q := funext fun k => propext (e k)
  exact h

theorem Finds.nothing (n : ∀ k, ¬p k) : Finds none p := n

/-- A search that goes on to another where the first finds nothing. -/
theorem Finds.before (h : Finds f p) (h' : Finds g q) (apart : ∀ j k, FirstAt p j → q k → j < k) :
    Finds (f.or g) fun k => p k ∨ q k := by
  cases f with
  | none =>
    have none : ∀ k, ¬p k := h
    cases g with
    | none => exact fun k e => e.elim (none k) (h' k)
    | some k =>
      obtain ⟨holds, least⟩ : FirstAt q k := h'
      exact ⟨.inr holds, fun j lt e => e.elim (none j) (least j lt)⟩
  | some k =>
    obtain ⟨holds, least⟩ : FirstAt p k := h
    exact ⟨.inl holds, fun j lt e => e.elim (least j lt) fun e => absurd (apart k j ⟨holds, least⟩ e) (by omega)⟩

/-- A search whose offsets stand at `lo` or behind it. -/
def FindsFrom (lo : Nat) (f : Option Nat) (p : Nat → Prop) : Prop := Finds f p ∧ ∀ j, p j → lo ≤ j

theorem FindsFrom.nothing {lo : Nat} : FindsFrom lo none fun _ => False := ⟨fun _ => id, fun _ e => e.elim⟩

theorem FindsFrom.congr {lo : Nat} (h : FindsFrom lo f p) (e : ∀ k, p k ↔ q k) : FindsFrom lo f q := by
  obtain rfl : p = q := funext fun k => propext (e k)
  exact h

/-- A field examined before those behind it. -/
theorem FindsFrom.field {lo k : Nat} {c : Prop} [Decidable c] (h : FindsFrom lo f p) (lt : k < lo) :
    FindsFrom k (if c then some k else f) fun j => (j = k ∧ c) ∨ p j := by
  obtain ⟨finds, behind⟩ := h
  refine ⟨?_, fun j e => e.elim (fun e => e.1.ge) fun e => lt.le.trans (behind j e)⟩
  split
  · next holds => exact ⟨.inl ⟨rfl, holds⟩, fun j lt' e => e.elim (fun e => by omega) fun e => absurd (behind j e) (by omega)⟩
  · next fails => exact finds.congr fun j => by simp [fails]

/-- A search through a list, each of whose places finds its own offsets in the list's order. -/
theorem Finds.list {α : Type} {l : List α} {s : α → Option Nat} {p : α → Nat → Prop} (each : ∀ a ∈ l, Finds (s a) (p a))
    (apart : l.Pairwise fun a b => ∀ j k, FirstAt (p a) j → p b k → j < k) : Finds (l.findSome? s) fun k => ∃ a ∈ l, p a k := by
  induction l with
  | nil => exact fun k ⟨a, m, _⟩ => absurd m (by simp)
  | cons a l ih =>
    obtain ⟨first, rest⟩ := List.forall_mem_cons.1 each
    obtain ⟨below, apart⟩ := List.pairwise_cons.1 apart
    have both := first.before (ih rest apart) fun j k h ⟨b, m, h'⟩ => below b m j k h h'
    have split : (a :: l).findSome? s = (s a).or (l.findSome? s) := by
      rw [List.findSome?_cons]
      cases s a <;> rfl
    rw [split]
    exact both.congr fun k => by simp

end Finds

/-! ### The node fields and the unit entries (R6, R7) -/

theorem inRange_iff {lo hi n : Nat} : inRange lo hi n = true ↔ lo ≤ n ∧ n ≤ hi := by simp [inRange]

theorem not_inRange {lo hi n : Nat} : (!inRange lo hi n) = true ↔ n < lo ∨ hi < n := by
  rw [Bool.not_eq_true', ← Bool.not_eq_true, inRange_iff]
  omega

theorem nodeFieldFails_finds (r : List Byte) (own : Node) : Finds (nodeFieldFails r own) (NodeFieldFails r own) := by
  have chain := FindsFrom.field (k := 3) (c := (!inRange 0 7 (field1 r 3)) = true)
    (.field (k := 4) (c := (!inRange 0 40 (field1 r 4) || field1 r 4 == own.toNat) = true)
    (.field (k := 5) (c := (!inRange 0 40 (field1 r 5) || field1 r 5 == own.toNat || (field1 r 5 != 0 && field1 r 5 == field1 r 4)) = true)
    (.field (k := 6) (c := (!inRange 1 4 (field1 r 6)) = true)
    (.field (k := 7) (c := (!inRange 0 1 (field1 r 7)) = true)
    (.field (k := 8) (c := (!inRange 0 1 (field1 r 8)) = true) (.nothing (lo := 9)) (by decide)) (by decide)) (by decide)) (by decide))
      (by decide)) (by decide)
  refine Finds.congr (f := nodeFieldFails r own) chain.1 fun k => ?_
  simp only [NodeFieldFails, inRange, Bool.not_eq_true', Bool.and_eq_false_iff, Bool.or_eq_true, Bool.and_eq_true, decide_eq_false_iff_not,
    beq_iff_eq, bne_iff_ne, or_false, not_le, Nat.not_lt_zero, false_or, ne_eq, or_assoc, Nat.lt_one_iff]

/-- A unit entry whose opening fits fails at its first field that is out of range (R7). -/
theorem unitEntryFails_finds {r : List Byte} {u : UnitNo} (fits : OpeningFits r (unitEntry u)) :
    Finds (unitEntryFails r u) (UnitFieldFails r (unitEntry u)) := by
  have inside : openingOutside (unitGeometry r u) = false := by
    obtain ⟨low, high⟩ := fits
    simp only [openingOutside, Bool.or_eq_false_iff, decide_eq_false_iff_not]
    exact ⟨Nat.not_lt.2 low, Nat.not_lt.2 high⟩
  have plain : unitEntryFails r u =
      if 400000 < (unitGeometry r u).centre then some 0
      else if !inRange 400 1500 (unitGeometry r u).halfWidth then some 3
      else if !inRange 0 200 (unitGeometry r u).skew then some 5
      else if !inRange 600 1600 (unitGeometry r u).travel then some 6
      else if !inRange 20 200 (unitGeometry r u).mass then some 8
      else if !inRange 0 4 (field1 r (unitEntry u + 9)) then some 9
      else none := by
    unfold unitEntryFails
    dsimp only
    rw [inside]
    simp only [Bool.false_and, Bool.false_eq_true, if_false]
  have chain := FindsFrom.field (k := 0) (c := 400000 < (unitGeometry r u).centre)
    (.field (k := 3) (c := (!inRange 400 1500 (unitGeometry r u).halfWidth) = true)
    (.field (k := 5) (c := (!inRange 0 200 (unitGeometry r u).skew) = true)
    (.field (k := 6) (c := (!inRange 600 1600 (unitGeometry r u).travel) = true)
    (.field (k := 8) (c := (!inRange 20 200 (unitGeometry r u).mass) = true)
    (.field (k := 9) (c := (!inRange 0 4 (field1 r (unitEntry u + 9))) = true) (.nothing (lo := 10)) (by decide)) (by decide)) (by decide))
      (by decide)) (by decide)) (by decide)
  rw [plain]
  refine Finds.congr chain.1 fun k => ?_
  simp only [not_inRange, or_false, Nat.not_lt_zero, false_or]
  exact Iff.rfl

/-! ### The consist entries (R8) -/

/-- Of `n` door slots from `pos` on, behind a door at `last`, a field at offset `k` fails. -/
def DoorFails (r : List Byte) (length n pos last k : Nat) : Prop :=
  ∃ i, i < n ∧
    ((k = pos + 4 * i ∧ (field2 r k < 1 ∨ length ≤ field2 r k ∨ field2 r k ≤ if i = 0 then last else field2 r (k - 4))) ∨
      (k = pos + 2 + 4 * i ∧ (field2 r k < 300 ∨ 900 < field2 r k)))

theorem doorFails_succ (r : List Byte) (length n pos last k : Nat) :
    DoorFails r length (n + 1) pos last k ↔
      (k = pos ∧ (field2 r pos < 1 ∨ length ≤ field2 r pos ∨ field2 r pos ≤ last)) ∨
        (k = pos + 2 ∧ (field2 r (pos + 2) < 300 ∨ 900 < field2 r (pos + 2))) ∨ DoorFails r length n (pos + 4) (field2 r pos) k := by
  constructor
  · rintro ⟨i, lt, h⟩
    rcases i with _ | i
    · rcases h with ⟨rfl, h⟩ | ⟨rfl, h⟩
      · exact .inl ⟨rfl, h⟩
      · exact .inr (.inl ⟨rfl, h⟩)
    · refine .inr (.inr ⟨i, by omega, ?_⟩)
      rcases h with ⟨rfl, h⟩ | ⟨rfl, h⟩
      · refine .inl ⟨by omega, ?_⟩
        rw [if_neg (Nat.succ_ne_zero i)] at h
        by_cases first : i = 0
        · subst first
          exact h
        · rw [if_neg first]
          exact h
      · exact .inr ⟨by omega, h⟩
  · rintro (⟨rfl, h⟩ | ⟨rfl, h⟩ | ⟨i, lt, h⟩)
    · exact ⟨0, by omega, .inl ⟨rfl, h⟩⟩
    · exact ⟨0, by omega, .inr ⟨rfl, h⟩⟩
    · refine ⟨i + 1, by omega, ?_⟩
      rcases h with ⟨rfl, h⟩ | ⟨rfl, h⟩
      · refine .inl ⟨by omega, ?_⟩
        rw [if_neg (Nat.succ_ne_zero i)]
        by_cases first : i = 0
        · subst first
          exact h
        · rw [if_neg first] at h
          exact h
      · exact .inr ⟨by omega, h⟩

theorem doorsFail_finds (r : List Byte) (length : Nat) : ∀ n pos last,
    FindsFrom pos (doorsFail r length n pos last) (DoorFails r length n pos last) := by
  intro n
  induction n with
  | zero => exact fun pos last => FindsFrom.nothing.congr fun k => by simp [DoorFails]
  | succ n ih =>
    intro pos last
    have chain := FindsFrom.field (k := pos) (c := (!inRange 1 (length - 1) (field2 r pos) || decide (field2 r pos ≤ last)) = true)
      (.field (k := pos + 2) (c := (!inRange 300 900 (field2 r (pos + 2))) = true) (ih (pos + 4) (field2 r pos)) (by omega)) (by omega)
    refine FindsFrom.congr (f := doorsFail r length (n + 1) pos last) chain fun k => ?_
    rw [doorFails_succ, Bool.or_eq_true, not_inRange, not_inRange, decide_eq_true_eq]
    have same : ((field2 r pos < 1 ∨ length - 1 < field2 r pos) ∨ field2 r pos ≤ last) ↔
        (field2 r pos < 1 ∨ length ≤ field2 r pos ∨ field2 r pos ≤ last) := by omega
    rw [same]

theorem carFails_finds (r : List Byte) (c : Nat) : FindsFrom c (carFails r c) (CarFieldFails r c) := by
  have chain := FindsFrom.field (k := c) (c := (!inRange 8000 26000 (field2 r c)) = true)
    (.field (k := c + 2) (c := (!inRange 0 5 (field1 r (c + 2))) = true)
      (doorsFail_finds r (field2 r c) (field1 r (c + 2)) (c + 3) 0) (by omega)) (by omega)
  refine FindsFrom.congr (f := carFails r c) chain fun k => ?_
  rw [not_inRange, not_inRange]
  unfold CarFieldFails DoorFails
  refine or_congr Iff.rfl (or_congr (by simp) (exists_congr fun i => and_congr_right fun _ => or_congr (and_congr_right fun _ => ?_) ?_))
  · by_cases first : i = 0
    · simp [first]
      omega
    · simp [first, Nat.pos_of_ne_zero first]
  · rw [show c + 3 + 2 + 4 * i = c + 5 + 4 * i by omega]

/-- The first failing field of a car entry stands inside it. -/
theorem carFails_inside {r : List Byte} {c k : Nat} (h : FirstAt (CarFieldFails r c) k) : k ≤ c + 22 := by
  obtain ⟨fails, least⟩ := h
  by_cases many : 5 < field1 r (c + 2)
  · by_contra far
    exact least (c + 2) (by omega) (.inr (.inl ⟨rfl, many⟩))
  · obtain ⟨rfl, -⟩ | ⟨rfl, -⟩ | ⟨i, lt, ⟨rfl, -⟩ | ⟨rfl, -⟩⟩ := fails <;> omega

theorem consistFails_finds (r : List Byte) (p : Nat) : Finds (consistFails r p) (ConsistFieldFails r p) := by
  have cars : Finds ((carOffsets r p).findSome? (carFails r)) fun k => ∃ c ∈ carOffsets r p, CarFieldFails r c k := by
    refine Finds.list (fun c _ => (carFails_finds r c).1) ?_
    rw [carOffsets, List.pairwise_map]
    refine List.pairwise_lt_range.imp fun {a b} lt j k first fails => ?_
    have inside := carFails_inside first
    have behind := (carFails_finds r _).2 k fails
    omega
  have behind : FindsFrom (p + 1) ((carOffsets r p).findSome? (carFails r)) fun k => ∃ c ∈ carOffsets r p, CarFieldFails r c k := by
    refine ⟨cars, ?_⟩
    rintro k ⟨c, m, fails⟩
    obtain ⟨j, -, rfl⟩ := List.mem_map.1 m
    have behind := (carFails_finds r _).2 k fails
    omega
  have chain := FindsFrom.field (k := p) (c := ((carOffsets r p).all fun c => field1 r (c + 2) == 0) = true) behind (by omega)
  refine Finds.congr (f := consistFails r p) chain.1 fun k => ?_
  simp [ConsistFieldFails, carOffsets]

/-! ### The structure (R5) -/

/-- The walk over `n` consist entries from `pos` fails with offset `k`. -/
def WalkFails (r : List Byte) (length n pos k : Nat) : Prop :=
  (∃ l p l', consistOffsets r n pos = l ++ p :: l' ∧ (∀ q ∈ l, CarCountOk r length q) ∧
      ((length ≤ p + 2 ∧ k = 0) ∨ (p + 2 < length ∧ (field1 r p < 1 ∨ 10 < field1 r p) ∧ k = p))) ∨
    ((∀ q ∈ consistOffsets r n pos, CarCountOk r length q) ∧
      pos + ((consistOffsets r n pos).map fun p => 1 + 23 * field1 r p).sum + 2 ≠ length ∧ k = 0)

theorem walkFails_succ (r : List Byte) (length n pos k : Nat) :
    WalkFails r length (n + 1) pos k ↔
      (length ≤ pos + 2 ∧ k = 0) ∨ (pos + 2 < length ∧ (field1 r pos < 1 ∨ 10 < field1 r pos) ∧ k = pos) ∨
        (CarCountOk r length pos ∧ WalkFails r length n (pos + 1 + 23 * field1 r pos) k) := by
  have sum : pos + (1 + 23 * field1 r pos + ((consistOffsets r n (pos + 1 + 23 * field1 r pos)).map fun p => 1 + 23 * field1 r p).sum) + 2 =
      pos + 1 + 23 * field1 r pos + ((consistOffsets r n (pos + 1 + 23 * field1 r pos)).map fun p => 1 + 23 * field1 r p).sum + 2 := by
    omega
  unfold WalkFails
  simp only [consistOffsets, List.map_cons, List.sum_cons, sum, List.forall_mem_cons]
  constructor
  · rintro (⟨l, p, l', e, before, fails⟩ | ⟨⟨first, rest⟩, wrong, rfl⟩)
    · rcases l with _ | ⟨q, l⟩
      · obtain ⟨rfl, rfl⟩ := List.cons.inj e
        rcases fails with fails | fails
        · exact .inl fails
        · exact .inr (.inl fails)
      · obtain ⟨here, behind⟩ := List.cons.inj e
        obtain ⟨first, rest⟩ := List.forall_mem_cons.1 before
        exact .inr (.inr ⟨here ▸ first, .inl ⟨l, p, l', behind, rest, fails⟩⟩)
    · exact .inr (.inr ⟨first, .inr ⟨rest, wrong, rfl⟩⟩)
  · rintro (fails | fails | ⟨first, ⟨l, p, l', e, before, fails⟩ | ⟨rest, wrong, rfl⟩⟩)
    · exact .inl ⟨[], pos, _, rfl, by simp, .inl fails⟩
    · exact .inl ⟨[], pos, _, rfl, by simp, .inr fails⟩
    · exact .inl ⟨pos :: l, p, l', by rw [e]; rfl, List.forall_mem_cons.2 ⟨first, before⟩, fails⟩
    · exact .inr ⟨⟨first, rest⟩, wrong, rfl⟩

theorem walkConsists_iff (r : List Byte) (length : Nat) : ∀ n pos k, walkConsists r length n pos = some k ↔ WalkFails r length n pos k := by
  intro n
  induction n with
  | zero =>
    intro pos k
    unfold walkConsists WalkFails
    simp only [consistOffsets]
    by_cases e : pos + 2 = length <;> simp [e, eq_comm]
  | succ n ih =>
    intro pos k
    rw [walkFails_succ, ← ih, CarCountOk, walkConsists]
    by_cases unread : length ≤ pos + 2
    · rw [if_pos unread]
      simp [unread, Nat.not_lt.2 unread, eq_comm]
    · by_cases range : inRange 1 10 (field1 r pos) = true
      · have ⟨low, high⟩ := inRange_iff.1 range
        rw [if_neg unread, if_pos range]
        simp [unread, Nat.not_le.1 unread, low, high, Nat.not_lt.2 low, Nat.not_lt.2 high]
      · have out : field1 r pos < 1 ∨ 10 < field1 r pos := by
          rw [inRange_iff] at range
          omega
        rw [if_neg unread, if_neg range]
        constructor
        · intro e
          exact .inr (.inl ⟨by omega, out, (Option.some.inj e).symm⟩)
        · rintro (⟨short, -⟩ | ⟨-, -, rfl⟩ | ⟨⟨-, low, high⟩, -⟩)
          · omega
          · rfl
          · omega

theorem structureFails_iff (r : List Byte) (length k : Nat) : structureFails r length = some k ↔ StructureFails r length k := by
  unfold structureFails StructureFails
  by_cases range : inRange 1 6 (field1 r 25) = true
  · have ⟨low, high⟩ := inRange_iff.1 range
    rw [if_pos range, walkConsists_iff]
    simp [low, high, Nat.not_lt.2 low, Nat.not_lt.2 high, WalkFails]
  · have out : field1 r 25 < 1 ∨ 6 < field1 r 25 := by
      rw [inRange_iff] at range
      omega
    rw [if_neg range]
    constructor
    · intro e
      exact .inl ⟨out, (Option.some.inj e).symm⟩
    · rintro (⟨-, rfl⟩ | ⟨low, high, -⟩)
      · rfl
      · omega

/-! ### The check field (R3) -/

theorem bytes2_eq_iff (x : BitVec 16) (a b : Byte) : bytes2 x = [a, b] ↔ x = BitVec.ofNat 16 (a.toNat * 256 + b.toNat) := by
  have ha := a.isLt
  have hb := b.isLt
  have hx := x.isLt
  have fields : bytes2 x = [x.extractLsb' 8 8, x.extractLsb' 0 8] := rfl
  simp only [fields, List.cons.injEq, and_true, ← BitVec.toNat_inj, BitVec.extractLsb'_toNat, BitVec.toNat_ofNat, Nat.shiftRight_eq_div_pow]
  omega

theorem checkPasses_iff {r : List Byte} {length : Nat} (low : 2 ≤ length) (whole : length ≤ r.length) :
    checkPasses r length = true ↔ CheckOk r length := by
  have last : (r.take length).drop (length - 2) = [r.getD (length - 2) 0, r.getD (length - 2 + 1) 0] := by
    refine List.ext_getElem (by simp; omega) fun n h _ => ?_
    have lt : n < 2 := by simpa [show length - (length - 2) = 2 by omega, whole] using h
    interval_cases n <;> simp [List.getD_eq_getElem?_getD] <;> rw [List.getElem?_eq_getElem (by omega)] <;> rfl
  rw [checkPasses, last, beq_iff_eq, bytes2_eq_iff]
  rfl

/-! ### The unit entries and the consist entries in order (R7, R8) -/

theorem mem_recordUnits {r : List Byte} {u : UnitNo} : u ∈ recordUnits r ↔ u.val < field1 r 6 := by
  cases u <;> simp [recordUnits, UnitNo.all]

theorem recordUnits_sorted (r : List Byte) : (recordUnits r).Pairwise fun u v => u.val < v.val :=
  List.Pairwise.filter _ (by decide : UnitNo.all.Pairwise fun u v => u.val < v.val)

/-- The units below the count, split at one of them. -/
theorem recordUnits_split {r : List Byte} {u : UnitNo} (h : u.val < field1 r 6) :
    ∃ l l', recordUnits r = l ++ u :: l' ∧ ∀ v ∈ l, v.val < u.val := by
  obtain ⟨l, l', e⟩ := List.append_of_mem (mem_recordUnits.2 h)
  have sorted := recordUnits_sorted r
  rw [e, List.pairwise_append] at sorted
  exact ⟨l, l', e, fun v m => sorted.2.2 v m u (List.mem_cons_self ..)⟩

/-- A search that finds nothing before the place where it finds `b`. -/
theorem findSome_split {α β : Type} {f : α → Option β} {l l' : List α} {a : α} {b : β} (before : ∀ x ∈ l, f x = none) (at_ : f a = some b) :
    (l ++ a :: l').findSome? f = some b := by
  rw [List.findSome?_append, List.findSome?_eq_none_iff.2 before, Option.none_or, List.findSome?_cons, at_]

/-- The first unit entry with a failing field gives the outcome (R7). -/
theorem unitsFail_field {r : List Byte} {u : UnitNo} {k : Nat} (below : u.val < field1 r 6) (fails : unitEntryFails r u = some k)
    (before : ∀ v : UnitNo, v.val < u.val → unitEntryFails r v = none) :
    unitsFail r = some (LoadOutcome.refused .unitField (unitEntry u + k) (some u.val)) := by
  obtain ⟨l, l', e, least⟩ := recordUnits_split below
  have found : ((recordUnits r).findSome? fun u => (unitEntryFails r u).map fun o => (u, o)) = some (u, k) := by
    rw [e]
    exact findSome_split (fun v m => congrArg (Option.map _) (before v (least v m))) (congrArg (Option.map _) fails)
  rw [unitsFail, found]

/-- With no failing field a pair of openings gives the outcome, charged to the higher unit; the lowest such unit's (R7). -/
theorem unitsFail_pairs {r : List Byte} (fields : ∀ u : UnitNo, u.val < field1 r 6 → unitEntryFails r u = none) :
    unitsFail r = ((recordUnits r).find? fun u =>
      (recordUnits r).any fun v => decide (v.val < u.val) && openingsShare (unitGeometry r u) (unitGeometry r v)).map
      fun u => LoadOutcome.refused .unitField (unitEntry u) (some u.val) := by
  have found : ((recordUnits r).findSome? fun u => (unitEntryFails r u).map fun o => (u, o)) = none :=
    List.findSome?_eq_none_iff.2 fun v m => by rw [fields v (mem_recordUnits.1 m)]; rfl
  rw [unitsFail, found]

/-- Openings of right entries share a stretch where they are not apart (R7). -/
theorem openingsShare_iff {r : List Byte} {u v : UnitNo} (hu : 0 < field2 r (unitEntry u + 3)) (hv : 0 < field2 r (unitEntry v + 3)) :
    openingsShare (unitGeometry r u) (unitGeometry r v) = true ↔ ¬OpeningsApart r (unitEntry u) (unitEntry v) := by
  rw [openingsShare, decide_eq_true_eq]
  simp only [unitGeometry, OpeningsApart]
  omega

theorem unitEntryOk_fits {r : List Byte} {u : UnitNo} (h : UnitEntryOk r (unitEntry u)) :
    unitEntryFails r u = none ∧ 0 < field2 r (unitEntry u + 3) := by
  obtain ⟨fits, fine⟩ := h
  refine ⟨(unitEntryFails_finds fits).none_of fine, ?_⟩
  by_contra narrow
  exact fine 3 (.inr (.inl ⟨rfl, .inl (by omega)⟩))

/-- Whether an entry fails beyond the opening's charge: an opening off the platform fails at p_u or H_u (R7). -/
theorem unitEntryFails_outside {r : List Byte} {u : UnitNo} (off : ¬OpeningFits r (unitEntry u)) :
    unitEntryFails r u = some 0 ∨ unitEntryFails r u = some 3 := by
  have outside : openingOutside (unitGeometry r u) = true := by
    rw [openingOutside, Bool.or_eq_true, decide_eq_true_eq, decide_eq_true_eq]
    simp only [unitGeometry]
    unfold OpeningFits at off
    omega
  unfold unitEntryFails
  dsimp only
  rw [outside]
  split
  · exact .inl rfl
  · split
    · exact .inl rfl
    · split
      · exact .inr rfl
      · exact .inr (if_pos rfl)

/-- The first consist entry that fails gives the outcome (R8). -/
theorem consistsFail_first {r : List Byte} {l l' : List Nat} {p k : Nat} (e : consistOffsets r (field1 r 25) 106 = l ++ p :: l')
    (before : ∀ q ∈ l, consistFails r q = none) (fails : consistFails r p = some k) :
    consistsFail r = some (LoadOutcome.refused .consistField k (some l.length)) := by
  have none : (l.zipIdx.findSome? fun x => (consistFails r x.1).map fun o => (x.2, o)) = none :=
    List.findSome?_eq_none_iff.2 fun x m => by
      rw [before x.1 (List.fst_mem_of_mem_zipIdx m)]
      rfl
  have found : ((consistOffsets r (field1 r 25) 106).zipIdx.findSome? fun (pos, i) => (consistFails r pos).map fun o => (i, o)) =
      some (l.length, k) := by
    rw [e, List.zipIdx_append, List.findSome?_append]
    refine (congrArg (fun x : Option (Nat × Nat) => x.or _) none).trans ?_
    rw [List.zipIdx_cons, List.findSome?_cons]
    simp [fails]
  rw [consistsFail, found]
  rfl

theorem consistsFail_none_iff (r : List Byte) :
    consistsFail r = none ↔ ∀ p ∈ consistOffsets r (field1 r 25) 106, consistFails r p = none := by
  rw [consistsFail, Option.map_eq_none_iff, List.findSome?_eq_none_iff]
  refine ⟨fun h p m => ?_, fun h x m => ?_⟩
  · obtain ⟨n, lt, rfl⟩ := List.getElem_of_mem m
    have here := h ((consistOffsets r (field1 r 25) 106)[n], n) (by simp [List.mem_zipIdx_iff_getElem?, lt])
    exact Option.map_eq_none_iff.1 here
  · exact Option.map_eq_none_iff.2 (h x.1 (List.fst_mem_of_mem_zipIdx m))

/-! ### The judgement in order (R3 to R8) -/

section Judge

variable {r : List Byte} {length : Nat} {own : Node}

theorem judgeRecord_unchecked (h : checkPasses r length = false) : judgeRecord r length own = LoadOutcome.refused .check 0 none := by
  rw [judgeRecord, h]
  rfl

theorem judgeRecord_strap (h : checkPasses r length = true) (n : field1 r 2 ≠ own.toNat) :
    judgeRecord r length own = LoadOutcome.refused .strap 0 none := by
  rw [judgeRecord_passed _ _ _ h, if_pos (by simpa using n)]

theorem judgeRecord_structure (h : checkPasses r length = true) (n : field1 r 2 = own.toNat) {k : Nat} (f : structureFails r length = some k) :
    judgeRecord r length own = LoadOutcome.refused .structural k none := by
  rw [judgeRecord_passed _ _ _ h, if_neg (by simpa using n), f]

theorem judgeRecord_node (h : checkPasses r length = true) (n : field1 r 2 = own.toNat) (s : structureFails r length = none) {k : Nat}
    (f : nodeFieldFails r own = some k) : judgeRecord r length own = LoadOutcome.refused .nodeField k none := by
  rw [judgeRecord_passed _ _ _ h, if_neg (by simpa using n), s]
  dsimp only
  rw [f]

theorem judgeRecord_rest (h : checkPasses r length = true) (n : field1 r 2 = own.toNat) (s : structureFails r length = none)
    (f : nodeFieldFails r own = none) :
    judgeRecord r length own = ((unitsFail r).or (consistsFail r)).getD ⟨.ok, 0, none, clampTally r⟩ := by
  rw [judgeRecord_passed _ _ _ h, if_neg (by simpa using n), s]
  dsimp only
  rw [f]
  cases unitsFail r <;> cases consistsFail r <;> rfl

end Judge

/-- Settles O9, check by check. -/
theorem recordsJudged : Obligations.RecordsJudged := by
  rintro r length own o e ps low whole rfl entries rfl
  obtain rfl : e = unitEntry := funext entries
  refine ⟨fun fails => ?_, fun check => ?_⟩
  · exact judgeRecord_unchecked (Bool.eq_false_iff.2 (mt (checkPasses_iff (by omega) whole).1 fails))
  have passes := (checkPasses_iff (by omega) whole).2 check
  refine ⟨judgeRecord_strap passes, fun number => ⟨fun k f => judgeRecord_structure passes number ((structureFails_iff ..).2 f), fun s => ?_⟩⟩
  have structure' : structureFails r length = none := by
    rcases h : structureFails r length with _ | k
    · rfl
    · exact absurd ((structureFails_iff ..).1 h) (s k)
  refine ⟨fun k f => judgeRecord_node passes number structure' ((nodeFieldFails_finds r own).some_of f), fun n => ?_⟩
  rw [judgeRecord_rest passes number structure' ((nodeFieldFails_finds r own).none_of n)]
  refine ⟨fun u below before => ?_, fun entriesOk => ?_⟩
  · have charged : ∀ k, unitEntryFails r u = some k →
        ((unitsFail r).or (consistsFail r)).getD ⟨.ok, 0, none, clampTally r⟩ = ⟨.unitField, unitEntry u + k, some u.val, 0⟩ := fun k f => by
      rw [unitsFail_field below f fun v lt => (unitEntryOk_fits (before v lt)).1]
      rfl
    exact ⟨fun k fits f => charged k ((unitEntryFails_finds fits).some_of f),
      fun off => (unitEntryFails_outside off).imp (charged 0) (charged 3)⟩
  · rw [unitsFail_pairs fun u below => (unitEntryOk_fits (entriesOk u below)).1]
    have wide : ∀ u : UnitNo, u.val < field1 r 6 → 0 < field2 r (unitEntry u + 3) := fun u below => (unitEntryOk_fits (entriesOk u below)).2
    have shares : ∀ u : UnitNo, u.val < field1 r 6 →
        (((recordUnits r).any fun v => decide (v.val < u.val) && openingsShare (unitGeometry r u) (unitGeometry r v)) = true ↔
          ∃ v : UnitNo, v.val < u.val ∧ ¬OpeningsApart r (unitEntry u) (unitEntry v)) := fun u below => by
      rw [List.any_eq_true]
      refine exists_congr fun v => ?_
      rw [Bool.and_eq_true, decide_eq_true_eq, mem_recordUnits]
      exact ⟨fun ⟨m, lt, share⟩ => ⟨lt, (openingsShare_iff (wide u below) (wide v m)).1 share⟩,
        fun ⟨lt, near⟩ => ⟨by omega, lt, (openingsShare_iff (wide u below) (wide v (by omega))).2 near⟩⟩
    refine ⟨fun u v below lt near least => ?_, fun apart => ?_⟩
    · obtain ⟨l, l', e, before⟩ := recordUnits_split below
      have found : ((recordUnits r).find? fun u => (recordUnits r).any fun v =>
          decide (v.val < u.val) && openingsShare (unitGeometry r u) (unitGeometry r v)) = some u := by
        refine List.find?_eq_some_iff_append.2 ⟨(shares u below).2 ⟨v, lt, near⟩, l, l', e, fun u' m => ?_⟩
        have lt' := before u' m
        rw [Bool.not_eq_true', ← Bool.not_eq_true, shares u' (by omega)]
        exact fun ⟨v', lt'', near'⟩ => near' (least u' v' lt' lt'')
      rw [found]
      rfl
    · have found : ((recordUnits r).find? fun u => (recordUnits r).any fun v =>
          decide (v.val < u.val) && openingsShare (unitGeometry r u) (unitGeometry r v)) = none := by
        refine List.find?_eq_none.2 fun u m => ?_
        rw [shares u (mem_recordUnits.1 m)]
        exact fun ⟨v, lt, near⟩ => near (apart u v (mem_recordUnits.1 m) lt)
      rw [found]
      refine ⟨fun l p l' k e before first => ?_, fun fine => ?_⟩
      · rw [consistsFail_first e (fun q m => (consistFails_finds r q).none_of (before q m)) ((consistFails_finds r p).some_of first)]
        rfl
      · rw [(consistsFail_none_iff r).2 fun p m => (consistFails_finds r p).none_of (fine p m)]
        rfl

end Sys2Proof.Machine

/-! The end of a load: what refuses it, and the configuration that a passing record gives (R2, R9 to R13, R18). -/

namespace Sys2Proof.Machine

variable {i : Instr}

/-! ### A record that passes -/

theorem unitsFail_reason {r : List Byte} {x : LoadOutcome} (h : unitsFail r = some x) : x.reason = .unitField := by
  unfold unitsFail at h
  split at h
  · rw [← Option.some.inj h]
    rfl
  · obtain ⟨u, -, rfl⟩ := Option.map_eq_some_iff.1 h
    rfl

theorem consistsFail_reason {r : List Byte} {x : LoadOutcome} (h : consistsFail r = some x) : x.reason = .consistField := by
  unfold consistsFail at h
  obtain ⟨y, -, rfl⟩ := Option.map_eq_some_iff.1 h
  rfl

/-- A record passes where none of its checks fails. -/
structure RecordPasses (r : List Byte) (own : Node) : Prop where
  structured : ∃ length, structureFails r length = none
  nodeFields : nodeFieldFails r own = none
  units : unitsFail r = none
  consists : consistsFail r = none

theorem judgeRecord_ok {r : List Byte} {length : Nat} {own : Node} (h : (judgeRecord r length own).reason = .ok) : RecordPasses r own := by
  have check : checkPasses r length = true := by
    by_contra fails
    rw [judgeRecord_unchecked (Bool.eq_false_iff.2 fails)] at h
    cases h
  have number : field1 r 2 = own.toNat := by
    by_contra other
    rw [judgeRecord_strap check other] at h
    cases h
  rcases s : structureFails r length with _ | k
  · rcases n : nodeFieldFails r own with _ | k
    · rw [judgeRecord_rest check number s n] at h
      rcases u : unitsFail r with _ | x
      · rcases c : consistsFail r with _ | x
        · exact ⟨⟨length, s⟩, n, u, c⟩
        · rw [u, c] at h
          exact absurd ((consistsFail_reason c).symm.trans h) (by decide)
      · rw [u] at h
        exact absurd ((unitsFail_reason u).symm.trans h) (by decide)
    · rw [judgeRecord_node check number s n] at h
      cases h
  · rw [judgeRecord_structure check number s] at h
    cases h

theorem RecordPasses.entry {r : List Byte} {own : Node} (h : RecordPasses r own) {u : UnitNo} (below : u.val < field1 r 6) :
    UnitEntryOk r (unitEntry u) := by
  have fine : ∀ u : UnitNo, u.val < field1 r 6 → unitEntryFails r u = none := by
    intro u below
    have units := h.units
    unfold unitsFail at units
    split at units
    · cases units
    · next none => exact Option.map_eq_none_iff.1 (List.findSome?_eq_none_iff.1 none u (mem_recordUnits.2 below))
  have fits : OpeningFits r (unitEntry u) := by
    by_contra off
    rcases unitEntryFails_outside off with e | e <;> exact absurd ((fine u below).symm.trans e) (by simp)
  exact ⟨fits, (unitEntryFails_finds fits).none_iff.1 (fine u below)⟩

theorem RecordPasses.nodeField {r : List Byte} {own : Node} (h : RecordPasses r own) (k : Nat) : ¬NodeFieldFails r own k :=
  (nodeFieldFails_finds r own).none_iff.1 h.nodeFields k

theorem RecordPasses.consist {r : List Byte} {own : Node} (h : RecordPasses r own) {p : Nat} (m : p ∈ consistOffsets r (field1 r 25) 106)
    (k : Nat) : ¬ConsistFieldFails r p k :=
  (consistFails_finds r p).none_iff.1 ((consistsFail_none_iff r).1 h.consists p m) k

theorem consistOffsets_length (r : List Byte) : ∀ n pos, (consistOffsets r n pos).length = n := by
  intro n
  induction n with
  | zero => exact fun _ => rfl
  | succ n ih => exact fun pos => congrArg (· + 1) (ih _)

theorem walkConsists_counts {r : List Byte} {length : Nat} : ∀ {n pos : Nat}, walkConsists r length n pos = none →
    ∀ p ∈ consistOffsets r n pos, 1 ≤ field1 r p ∧ field1 r p ≤ 10 := by
  intro n
  induction n with
  | zero => exact fun _ p m => absurd m (by simp [consistOffsets])
  | succ n ih =>
    intro pos h
    unfold walkConsists at h
    split at h
    · cases h
    · split at h
      · next range => exact List.forall_mem_cons.2 ⟨inRange_iff.1 range, ih h⟩
      · cases h

theorem RecordPasses.carCount {r : List Byte} {own : Node} (h : RecordPasses r own) {p : Nat} (m : p ∈ consistOffsets r (field1 r 25) 106) :
    1 ≤ field1 r p ∧ field1 r p ≤ 10 := by
  obtain ⟨length, s⟩ := h.structured
  unfold structureFails at s
  split at s
  · exact walkConsists_counts s p m
  · cases s

/-! ### The consists (R13) -/

/-- The lengths of the first `j` cars of the consist entry at `p`, added. -/
def carsBefore (r : List Byte) (p j : Nat) : Nat := ((List.range j).map fun j => field2 r (p + 1 + 23 * j)).sum

theorem carsBefore_succ (r : List Byte) (p j : Nat) : carsBefore r p (j + 1) = carsBefore r p j + field2 r (p + 1 + 23 * j) := by
  simp [carsBefore, List.range_succ]

theorem cumulate_eq (r : List Byte) : ∀ (l : List Nat) (sum : Nat),
    cumulate r l sum = (List.range (l.length + 1)).map fun j => sum + ((l.take j).map (field2 r)).sum := by
  intro l
  induction l with
  | nil => intro sum; simp [cumulate]
  | cons c l ih =>
    intro sum
    rw [cumulate, ih, List.length_cons, List.range_succ_eq_map (n := l.length + 1), List.map_cons, List.map_map]
    simp [Function.comp_def, Nat.add_assoc]

theorem carDoors_eq (r : List Byte) (car front : Nat) : ∀ n pos,
    carDoors r car front n pos =
      (List.range n).map fun i => ⟨front + field2 r (pos + 4 * i), car, field2 r (pos + 2 + 4 * i)⟩ := by
  intro n
  induction n with
  | zero => exact fun _ => rfl
  | succ n ih =>
    intro pos
    rw [carDoors, ih, List.range_succ_eq_map, List.map_cons, List.map_map]
    refine congrArg₂ List.cons rfl (List.map_congr_left fun i _ => ?_)
    simp only [Function.comp_apply, Nat.succ_eq_add_one]
    rw [show pos + 4 + 4 * i = pos + 4 * (i + 1) by omega, show pos + 4 + 2 + 4 * i = pos + 2 + 4 * (i + 1) by omega]

theorem buildConsist_lengths (r : List Byte) (p : Nat) :
    (buildConsist r p).lengths = (List.range (field1 r p + 1)).map (carsBefore r p) := by
  have cut : ∀ j ≤ field1 r p, ((carOffsets r p).take j).map (field2 r) = (List.range j).map fun j => field2 r (p + 1 + 23 * j) := by
    intro j le
    rw [carOffsets, ← List.map_take, List.take_range, min_eq_left le, List.map_map]
    rfl
  have cars : (carOffsets r p).length = field1 r p := by simp [carOffsets]
  show cumulate r (carOffsets r p) 0 = _
  rw [cumulate_eq, cars]
  refine List.map_congr_left fun j m => ?_
  rw [Nat.zero_add, cut j (by simpa [Nat.lt_succ_iff] using m)]
  rfl

theorem buildConsist_front {r : List Byte} {p j : Nat} (h : j ≤ field1 r p) : (buildConsist r p).lengths.getD j 0 = carsBefore r p j := by
  rw [buildConsist_lengths, List.getD_eq_getElem?_getD, List.getElem?_map, List.getElem?_range (by omega)]
  rfl

theorem zipIdx_map_range {α : Type} (f : Nat → α) (n : Nat) : ((List.range n).map f).zipIdx = (List.range n).map fun j => (f j, j) :=
  List.ext_getElem (by simp) fun k _ _ => by simp

theorem buildConsist_built (r : List Byte) (p : Nat) : ConsistBuilt r p (buildConsist r p) where
  cars := by simp [buildConsist_lengths]
  front := by
    rw [buildConsist_lengths, List.getElem?_map, List.getElem?_range (by omega)]
    rfl
  sums := fun j lt => by
    refine ⟨carsBefore r p j, ?_, ?_⟩
    · rw [buildConsist_lengths, List.getElem?_map, List.getElem?_range (by omega)]
      rfl
    · rw [buildConsist_lengths, List.getElem?_map, List.getElem?_range (by omega), ← carsBefore_succ]
      rfl
  doors := by
    show (((carOffsets r p).zipIdx.map fun (c, j) =>
      carDoors r (j + 1) ((buildConsist r p).lengths.getD j 0) (field1 r (c + 2)) (c + 3)).flatten) = _
    rw [carOffsets, zipIdx_map_range, List.map_map, List.flatMap_def]
    refine congrArg List.flatten (List.map_congr_left fun j _ => ?_)
    simp only [Function.comp_apply, carDoors_eq]

/-! ### The doors of a consist that passes (R8, R13) -/

theorem carsBefore_mono (r : List Byte) (p : Nat) {j k : Nat} (h : j ≤ k) : carsBefore r p j ≤ carsBefore r p k := by
  induction k, h using Nat.le_induction with
  | base => exact le_rfl
  | succ k _ ih =>
    rw [carsBefore_succ]
    omega

/-- The car entry at `c` has at most five doors, each inside it, at ascending offsets. -/
structure CarFits (r : List Byte) (c : Nat) : Prop where
  few : field1 r (c + 2) ≤ 5
  inside : ∀ i < field1 r (c + 2), 1 ≤ field2 r (c + 3 + 4 * i) ∧ field2 r (c + 3 + 4 * i) < field2 r c
  ascend : ∀ i j, i < j → j < field1 r (c + 2) → field2 r (c + 3 + 4 * i) < field2 r (c + 3 + 4 * j)

theorem carFits_of {r : List Byte} {c : Nat} (h : ∀ k, ¬CarFieldFails r c k) : CarFits r c := by
  have door : ∀ i < field1 r (c + 2), 1 ≤ field2 r (c + 3 + 4 * i) ∧ field2 r (c + 3 + 4 * i) < field2 r c ∧
      (0 < i → field2 r (c + 3 + 4 * i - 4) < field2 r (c + 3 + 4 * i)) := fun i lt => by
    have fine := h (c + 3 + 4 * i)
    by_contra wrong
    exact fine (.inr (.inr ⟨i, lt, .inl ⟨rfl, by omega⟩⟩))
  refine ⟨Nat.not_lt.1 fun many => h _ (.inr (.inl ⟨rfl, many⟩)), fun i lt => ⟨(door i lt).1, (door i lt).2.1⟩, fun i j lt => ?_⟩
  induction j, lt using Nat.le_induction with
  | base =>
    intro last
    exact (door (i + 1) last).2.2 (Nat.succ_pos i)
  | succ j le ih =>
    intro last
    exact (ih (by omega)).trans ((door (j + 1) last).2.2 (Nat.succ_pos j))

theorem RecordPasses.car {r : List Byte} {own : Node} (h : RecordPasses r own) {p j : Nat} (m : p ∈ consistOffsets r (field1 r 25) 106)
    (lt : j < field1 r p) : CarFits r (p + 1 + 23 * j) :=
  carFits_of fun k f => h.consist m k (.inr ⟨j, lt, f⟩)

theorem RecordPasses.doored {r : List Byte} {own : Node} (h : RecordPasses r own) {p : Nat} (m : p ∈ consistOffsets r (field1 r 25) 106) :
    ∃ j < field1 r p, field1 r (p + 1 + 23 * j + 2) ≠ 0 := by
  by_contra none
  push Not at none
  exact h.consist m p (.inl ⟨rfl, none⟩)

/-- A door of the consist, by its car and its place in it. -/
theorem mem_doors {r : List Byte} {p : Nat} {d : TrainDoor} (h : d ∈ (buildConsist r p).doors) :
    ∃ j < field1 r p, ∃ i < field1 r (p + 1 + 23 * j + 2), d.distance = carsBefore r p j + field2 r (p + 1 + 23 * j + 3 + 4 * i) := by
  rw [(buildConsist_built r p).doors, List.mem_flatMap] at h
  obtain ⟨j, mj, h⟩ := h
  obtain ⟨i, mi, rfl⟩ := List.mem_map.1 h
  have lt := List.mem_range.1 mj
  exact ⟨j, lt, i, List.mem_range.1 mi, by rw [buildConsist_front lt.le]⟩

/-- Settles O11: doors ascend within their car, and each car's stand before the next one's front. -/
theorem trainDoorsAscend : Obligations.TrainDoorsAscend := by
  intro r length own ok c mem
  have passes := judgeRecord_ok ok
  obtain ⟨p, m, rfl⟩ := List.mem_map.1 mem
  obtain ⟨-, tenCars⟩ := passes.carCount m
  have built := (buildConsist_built r p).doors
  have count : (buildConsist r p).doors.length = ((List.range (field1 r p)).map fun j => field1 r (p + 1 + 23 * j + 2)).sum := by
    rw [built, List.length_flatMap]
    simp
  have inside : ∀ d ∈ (buildConsist r p).doors, 1 ≤ d.distance ∧ ∃ j < field1 r p, d.distance < carsBefore r p (j + 1) := fun d md => by
    obtain ⟨j, lj, i, li, e⟩ := mem_doors md
    have := (passes.car m lj).inside i li
    refine ⟨by omega, j, lj, ?_⟩
    rw [carsBefore_succ]
    omega
  refine ⟨?_, ?_, ?_, fun d md => ⟨(inside d md).1, fun l last => ?_⟩⟩
  · obtain ⟨j, lj, doors⟩ := passes.doored m
    rw [count]
    have le := List.single_le_sum (l := (List.range (field1 r p)).map fun j => field1 r (p + 1 + 23 * j + 2)) (by simp) _
      (List.mem_map.2 ⟨j, List.mem_range.2 lj, rfl⟩)
    omega
  · rw [count]
    have le := List.sum_le_card_nsmul ((List.range (field1 r p)).map fun j => field1 r (p + 1 + 23 * j + 2)) 5 fun n mn => by
      obtain ⟨j, mj, rfl⟩ := List.mem_map.1 mn
      exact (passes.car m (List.mem_range.1 mj)).few
    simp only [List.length_map, List.length_range, smul_eq_mul] at le
    omega
  · rw [built, List.pairwise_flatMap]
    refine ⟨fun j mj => ?_, ?_⟩
    · rw [List.pairwise_map]
      refine List.Pairwise.imp_of_mem (R := (· < ·)) (fun {a b} _ mb lt => ?_) List.pairwise_lt_range
      exact Nat.add_lt_add_left ((passes.car m (List.mem_range.1 mj)).ascend a b lt (List.mem_range.1 mb)) _
    · refine List.Pairwise.imp_of_mem (R := (· < ·)) (fun {a b} ma mb lt x mx y my => ?_) List.pairwise_lt_range
      have la := List.mem_range.1 ma
      have lb := List.mem_range.1 mb
      obtain ⟨i, mi, rfl⟩ := List.mem_map.1 mx
      obtain ⟨k, mk, rfl⟩ := List.mem_map.1 my
      have := (passes.car m la).inside i (List.mem_range.1 mi)
      have := (passes.car m lb).inside k (List.mem_range.1 mk)
      have := carsBefore_mono r p (Nat.succ_le_of_lt lt)
      rw [Nat.succ_eq_add_one, carsBefore_succ] at this
      rw [buildConsist_front la.le, buildConsist_front lb.le]
      dsimp only
      omega
  · obtain ⟨j, lj, lt⟩ := (inside d md).2
    rw [buildConsist_lengths, List.range_succ, List.map_append, List.map_singleton, List.getLast?_append, List.getLast?_singleton] at last
    obtain rfl : carsBefore r p (field1 r p) = l := Option.some.inj last
    exact lt.trans_le (carsBefore_mono r p lj)

end Sys2Proof.Machine

/-! The end of a load, by a record or without one (R2, R9 to R12, R15, R18). -/

namespace Sys2Proof.Machine

variable {i : Instr}

/-! ### The passes (R2) -/

theorem reading_of {s : State} (acts : s.acts = true) (loading : s.cl.phase = .loading) : s.reading = true := by
  rw [State.reading, acts, loading]
  rfl

/-- A whole record ends the load by its judgement. -/
theorem exec_record {bytes : List Byte} {s : State} (reading : s.reading = true) (low : 132 ≤ field2 bytes 0) (high : field2 bytes 0 ≤ 1494)
    (whole : field2 bytes 0 ≤ bytes.length) :
    Sys2Proof.Machine.exec (.configReadPassComplete bytes) s =
      .next (takeRecord (bytes.take (field2 bytes 0)) (field2 bytes 0) s) := by
  show Host.Outcome.next (if s.reading then takePass bytes s else s) = _
  rw [if_pos reading, takePass, if_neg (by omega), inRange_iff.2 ⟨low, high⟩, if_neg (by simp), if_neg (by omega)]

theorem exec_length {bytes : List Byte} {s : State} (reading : s.reading = true) (two : 2 ≤ bytes.length)
    (range : field2 bytes 0 < 132 ∨ 1494 < field2 bytes 0) :
    Sys2Proof.Machine.exec (.configReadPassComplete bytes) s = .next (refuseLoad .length s) := by
  show Host.Outcome.next (if s.reading then takePass bytes s else s) = _
  rw [if_pos reading, takePass, if_neg (by omega), if_pos (not_inRange.2 range)]

theorem exec_readFail {s : State} (reading : s.reading = true) : Sys2Proof.Machine.exec .configReadFail s = .next (failPass s) := by
  show Host.Outcome.next (if s.reading then failPass s else s) = _
  rw [if_pos reading]

theorem takeRecord_refused {r : List Byte} {length : Nat} {s : State} (h : (judgeRecord r length s.cl.own).reason ≠ .ok) :
    takeRecord r length s = endLoad (judgeRecord r length s.cl.own) (NodeConfig.fallback (fallbackCount r length)) s := by
  unfold takeRecord
  dsimp only
  rw [if_neg h]

theorem takeRecord_passes {r : List Byte} {length : Nat} {s : State} (h : (judgeRecord r length s.cl.own).reason = .ok) :
    takeRecord r length s = endLoad (judgeRecord r length s.cl.own) (buildConfig r) s := by
  unfold takeRecord
  dsimp only
  rw [if_pos h]

theorem refuseLoad_eq (reason : LoadReason) (s : State) :
    refuseLoad reason s = endLoad ⟨reason, 0, none, 0⟩ (NodeConfig.fallback 4) s := rfl

theorem failPass_third {s : State} (h : 2 ≤ s.cl.failures) : failPass s = endLoad ⟨.link, 0, none, 0⟩ (NodeConfig.fallback 4) s :=
  (if_neg (Nat.not_lt.2 h)).trans (refuseLoad_eq ..)

theorem failPass_again {s : State} (h : s.cl.failures < 2) :
    failPass s = { s with cl := { s.cl with failures := s.cl.failures + 1 } } := if_pos h

/-- Settles O8: each way to refuse a load is an end of it with an outcome and a fallback configuration. -/
theorem refusedLoads : Obligations.RefusedLoads := by
  intro s acts loading
  have reading := reading_of acts loading
  refine ⟨fun i o count which => ?_, fun first => ?_⟩
  · obtain ⟨refused, exec⟩ : o.reason ≠ .ok ∧ Sys2Proof.Machine.exec i s = .next (endLoad o (NodeConfig.fallback count) s) := by
      rcases which with ⟨bytes, rfl, two, range, rfl, rfl⟩ | ⟨bytes, rfl, low, high, whole, rfl, fails, rfl⟩ | ⟨rfl, third, rfl, rfl⟩
      · exact ⟨(fun e => nomatch e), (exec_length reading two range).trans (congrArg Host.Outcome.next (refuseLoad_eq ..))⟩
      · exact ⟨fails, (exec_record reading low high whole).trans (congrArg Host.Outcome.next (takeRecord_refused fails))⟩
      · exact ⟨(fun e => nomatch e), (exec_readFail reading).trans (congrArg Host.Outcome.next (failPass_third third))⟩
    have reported := refused_reported refused (NodeConfig.fallback count) s
    have kept := (endLoad_keeps o (NodeConfig.fallback count) s).1
    have cl := (endLoad_cl o (NodeConfig.fallback count) s).trans (Loader.ended_refused refused _ _ _)
    generalize endLoad o (NodeConfig.fallback count) s = t at exec reported kept cl
    exact ⟨t, exec, cl, reported.isSome, reported, kept.accessLock, kept.pending⟩
  · exact (exec_readFail reading).trans (congrArg Host.Outcome.next (failPass_again first))

/-! ### What a passing record loads -/

theorem Loader.ended_ok {o : LoadOutcome} (h : o.reason = .ok) (l : Loader) (c : NodeConfig) (t : Option Time) :
    l.ended o c t = { l with phase := .listen, outcome := some o, config := c, listenTimer := t } := if_pos h

theorem reportLoad_clamped {o : LoadOutcome} (h : o.reason = .ok) (tally : 0 < o.clamps) (s : State) :
    reportLoad o s = report .configClamped .minor none s := by
  unfold reportLoad
  rw [h]
  exact if_pos tally

/-- A clamp tally above 0 stands reported as CONFIG_CLAMPED at the load's end (R9). -/
theorem clamped_reported {o : LoadOutcome} (h : o.reason = .ok) (tally : 0 < o.clamps) (c : NodeConfig) (s : State) :
    Reported .minor ⟨.configClamped, none, s.seq, s.now⟩ s.fr (endLoad o c s).fr := by
  have made := report_reported .configClamped .minor none (s.modCl fun l => l.ended o c (s.timer 600))
  rw [← reportLoad_clamped h tally] at made
  exact endLoad_reported (o := o) (c := c) made fun sev => by cases sev <;> rfl

theorem RecordPasses.node {r : List Byte} {own : Node} (h : RecordPasses r own) :
    field1 r 3 ≤ 7 ∧ field1 r 4 ≤ 40 ∧ field1 r 5 ≤ 40 ∧ field1 r 7 ≤ 1 ∧ field1 r 8 ≤ 1 := by
  refine ⟨Nat.not_lt.1 fun e => h.nodeField 3 (.inl ⟨rfl, e⟩), Nat.not_lt.1 fun e => h.nodeField 4 (.inr (.inl ⟨rfl, .inl e⟩)),
    Nat.not_lt.1 fun e => h.nodeField 5 (.inr (.inr (.inl ⟨rfl, .inl e⟩))), Nat.not_lt.1 fun e => h.nodeField 7 ?_,
    Nat.not_lt.1 fun e => h.nodeField 8 ?_⟩
  · exact .inr (.inr (.inr (.inr (.inl ⟨rfl, e⟩))))
  · exact .inr (.inr (.inr (.inr (.inr ⟨rfl, e⟩))))

/-- A configured unit's geometry is its entry's. -/
theorem buildConfig_unit {r : List Byte} {u : UnitNo} (h : u.val < field1 r 6) : (buildConfig r).units.get u = unitGeometry r u := by
  show (Quad.build fun u : UnitNo => if u.val < field1 r 6 then unitGeometry r u else UnitGeometry.none).get u = _
  rw [Quad.get_build, if_pos h]

theorem buildConfig_consist {r : List Byte} {i p : Nat} (h : (consistOffsets r (field1 r 25) 106)[i]? = some p) :
    (buildConfig r).consists[i]? = some (buildConsist r p) := by
  show ((consistOffsets r (field1 r 25) 106).map (buildConsist r))[i]? = _
  rw [List.getElem?_map, h]
  rfl

/-- The load of a passing record, with the record itself a variable. -/
theorem passes_loads {r : List Byte} {s : State} {o : LoadOutcome} (passes : RecordPasses r s.cl.own) (ok : o.reason = .ok) :
    let t := endLoad o (buildConfig r) s
    t.cl = { s.cl with phase := .listen, outcome := some o, config := buildConfig r, listenTimer := some (after s.now 600) } ∧
      (∀ u, t.configured u = true → UnitClamped r (26 + 20 * u.val) (t.cl.config.units.get u)) ∧
      (∀ u, t.configured u = true → UnitPlaced r (26 + 20 * u.val) (t.cl.config.units.get u)) := by
  intro t
  have cl : t.cl = _ := (endLoad_cl o (buildConfig r) s).trans (Loader.ended_ok ok ..)
  have config : t.cl.config = buildConfig r := congrArg Loader.config cl
  clear_value t
  have below : ∀ u, t.configured u = true → u.val < field1 r 6 := fun u h => by
    rw [State.configured, config] at h
    exact of_decide_eq_true h
  refine ⟨cl, fun u h => ?_, fun u h => ?_⟩
  · rw [config, buildConfig_unit (below u h)]
    refine unitGeometry_clamped r u (Nat.not_lt.1 fun high => ?_)
    exact (passes.entry (below u h)).2 9 (.inr (.inr (.inr (.inr (.inr ⟨rfl, high⟩)))))
  · rw [config, buildConfig_unit (below u h)]
    exact ⟨rfl, rfl, rfl, rfl, rfl⟩

theorem Clamped.value_brought {c : Clamped} (h : c.lo ≤ c.hi) (r : List Byte) (base : Nat) : Brought c.lo c.hi (c.raw r base) (c.value r base) :=
  clamp_brought h _

/-- The node's fields as the record gives them, under R6's ranges. -/
theorem buildConfig_node {r : List Byte} {own : Node} (passes : RecordPasses r own) :
    (buildConfig r).faceId.toNat = field1 r 3 ∧ (buildConfig r).up.toNat = field1 r 4 ∧ (buildConfig r).down.toNat = field1 r 5 ∧
      ((buildConfig r).pulseMode = true ↔ field1 r 7 = 1) ∧ ((buildConfig r).minorDrive = true ↔ field1 r 8 = 1) := by
  obtain ⟨face, up, down, -, -⟩ := passes.node
  have face' : (byte (field1 r 3)).toNat = field1 r 3 := by rw [byte, BitVec.toNat_ofNat]; omega
  have up' : (BitVec.ofNat 6 (field1 r 4)).toNat = field1 r 4 := by rw [BitVec.toNat_ofNat]; omega
  have down' : (BitVec.ofNat 6 (field1 r 5)).toNat = field1 r 5 := by rw [BitVec.toNat_ofNat]; omega
  exact ⟨face', up', down', beq_iff_eq, beq_iff_eq⟩

/-- Settles O7: the load ends with the configuration that the record builds. -/
theorem passingRecordLoads : Obligations.PassingRecordLoads := by
  rintro bytes r s o acts loading low high whole rfl rfl ok
  have passes := judgeRecord_ok ok
  have exec := (exec_record (reading_of acts loading) low high whole).trans (congrArg Host.Outcome.next (takeRecord_passes ok))
  obtain ⟨cl, units, placed⟩ := passes_loads (s := s) passes ok
  have clamps := clamped_reported ok (c := buildConfig (bytes.take (field2 bytes 0))) (s := s)
  have keeps := endLoad_keeps (judgeRecord (bytes.take (field2 bytes 0)) (field2 bytes 0) s.cl.own)
    (buildConfig (bytes.take (field2 bytes 0))) s
  obtain ⟨face, up, down, mode, drive⟩ := buildConfig_node passes
  generalize bytes.take (field2 bytes 0) = r at *
  generalize judgeRecord r (field2 bytes 0) s.cl.own = o at *
  generalize endLoad o (buildConfig r) s = t at *
  have config : t.cl.config = buildConfig r := congrArg Loader.config cl
  obtain ⟨kept, now, pins⟩ := keeps
  have samples := congrArg AlignEngine.samples kept.align
  refine ⟨t, exec, cl, ?_⟩
  rw [config] at units placed ⊢
  exact ⟨Clamped.value_brought (c := .minClear) (by decide) r 0, Clamped.value_brought (c := .stopTol) (by decide) r 0,
    Clamped.value_brought (c := .fusionWindow) (by decide) r 0, Clamped.value_brought (c := .warnTime) (by decide) r 0,
    Clamped.value_brought (c := .holdMax) (by decide) r 0, Clamped.value_brought (c := .reopenPause) (by decide) r 0,
    Clamped.value_brought (c := .maxAttempts) (by decide) r 0, Clamped.value_brought (c := .travelTimeout) (by decide) r 0,
    ⟨_, rfl, Clamped.value_brought (c := .energy) (by decide) r 0⟩, units, placed, face, up, down, rfl, mode, drive,
    (List.length_map ..).trans (consistOffsets_length ..), fun i p e => ⟨_, buildConfig_consist e, buildConsist_built r p⟩,
    fun tally => ⟨(clamps tally).isSome, clamps tally⟩, now, pins, kept.pending, kept.holdList, samples,
    kept.slots, kept.latch, kept.accessLock⟩

end Sys2Proof.Machine

/-! What a unit's change of state moves exactly: its own sensing by the entry to or the exit from ISOLATED, its gap alarm, and no
unit's counters (chapters 7 and 8). -/

namespace Sys2Proof.Machine

variable {i : Instr}

/-! ### The unit counters through frames and reports -/

theorem enqueue_unitCounters (k : FrameKind) (p : List Byte) (s : State) : (enqueue k p s).fr.unitCounters = s.fr.unitCounters := by
  obtain ⟨n, r, e⟩ := enqueue_fr k p s
  rw [e]

theorem report_unitCounters (k : FaultKind) (sev : Severity) (u : Option UnitNo) (s : State) :
    (report k sev u s).fr.unitCounters = s.fr.unitCounters := by rw [report_eq]

theorem raiseTrap_unitCounters (u : UnitNo) (s : State) : (raiseTrap u s).fr.unitCounters = s.fr.unitCounters :=
  (enqueue_unitCounters _ _ _).trans (report_unitCounters _ _ _ _)

theorem raiseIntrusion_unitCounters (u : UnitNo) (s : State) : (raiseIntrusion u s).fr.unitCounters = s.fr.unitCounters :=
  (enqueue_unitCounters _ _ _).trans (report_unitCounters _ _ _ _)

theorem checkAlarm_unitCounters (u : UnitNo) (s : State) : (checkAlarm u s).fr.unitCounters = s.fr.unitCounters := by
  unfold checkAlarm
  split
  · split
    · exact raiseIntrusion_unitCounters u s
    · exact raiseTrap_unitCounters u s
  · rfl

theorem foldl_sendHold_unitCounters (l : List OwnHold) (a : Byte) (s : State) :
    (l.foldl (fun s h => sendHold a h.car s) s).fr.unitCounters = s.fr.unitCounters := by
  induction l generalizing s with
  | nil => rfl
  | cons h l ih => exact (ih _).trans (enqueue_unitCounters _ _ s)

theorem zoneFreed_unitCounters (u : UnitNo) (s : State) : (zoneFreed u s).fr.unitCounters = s.fr.unitCounters := by
  unfold zoneFreed
  split
  · rfl
  · exact foldl_sendHold_unitCounters _ _ _

theorem restSensing_unitCounters (u : UnitNo) (s : State) : (restSensing u s).fr.unitCounters = s.fr.unitCounters := by
  unfold restSensing
  dsimp only
  split
  · exact zoneFreed_unitCounters u _
  · rfl

/-- An operation that may be left out keeps what it keeps. -/
theorem guard_keeps {α : Type} (view : State → α) {b : Bool} {f : State → State} {x : State} (h : view (f x) = view x) :
    view (if b then f x else x) = view x := by
  cases b
  · rfl
  · exact h

theorem hangs_unitCounters (old : UnitState) (u : UnitNo) (d : DoorChannel) (s : State) :
    (hangs old u d s).fr.unitCounters = s.fr.unitCounters := by
  have last : ∀ x, (dropCovered u (clearAccess u x)).fr.unitCounters = x.fr.unitCounters := fun x => by
    rw [dropCovered_fr, clearAccess_fr]
  unfold hangs
  dsimp only
  rw [guard_keeps (fun x => x.fr.unitCounters) (f := fun x => dropCovered u (clearAccess u x)) (last _),
    guard_keeps (fun x => x.fr.unitCounters) (f := emptyRun u) rfl,
    guard_keeps (fun x => x.fr.unitCounters) (f := restSensing u) (restSensing_unitCounters u _),
    guard_keeps (fun x => x.fr.unitCounters) (f := startSensing u) rfl]

theorem moveUnit_unitCounters (u : UnitNo) (d : DoorChannel) (s : State) : (moveUnit u d s).fr.unitCounters = s.fr.unitCounters := by
  rw [moveUnit_eq, checkAlarm_unitCounters, hangs_unitCounters]
  rfl

/-! ### The sensing -/

theorem dropCovered_su (u : UnitNo) (s : State) : (dropCovered u s).su = s.su := by
  unfold dropCovered
  split <;> rfl

theorem dropAccessMember_su (u : UnitNo) (s : State) : (dropAccessMember u s).su = s.su := by
  unfold dropAccessMember
  split <;> rfl

theorem clearAccess_su (u : UnitNo) (s : State) : (clearAccess u s).su = s.su := by
  unfold clearAccess
  split
  · exact dropAccessMember_su u _
  · rfl

/-- A unit's sensing by the state it leaves and the state it enters: started at the exit from ISOLATED, at rest at the entry to it
(R152, R154). -/
def enteredSensing (old new : UnitState) (raw : Bool) (now : Time) (x : UnitSensing) : UnitSensing :=
  if old = .isolated ∧ new ≠ .isolated then x.begun raw now
  else if old ≠ .isolated ∧ new = .isolated then x.rested
  else x

theorem hangs_unit (old : UnitState) (u v : UnitNo) (d : DoorChannel) (s : State) :
    (hangs old u d s).su.units.get v =
      if u = v then enteredSensing old d.st (s.pins.units.get u).edge s.now (s.su.units.get u) else s.su.units.get v := by
  have last : ∀ x, (dropCovered u (clearAccess u x)).su.units.get v = x.su.units.get v := fun x => by
    rw [dropCovered_su, clearAccess_su]
  unfold hangs
  dsimp only
  rw [guard_keeps (fun x => x.su.units.get v) (f := fun x => dropCovered u (clearAccess u x)) (last _),
    guard_keeps (fun x => x.su.units.get v) (f := emptyRun u) rfl]
  unfold enteredSensing
  by_cases out : old = .isolated
  · by_cases into : d.st = .isolated
    · simp [out, into]
      exact fun e => e ▸ rfl
    · simp [out, into, startSensing_unit]
  · by_cases into : d.st = .isolated
    · simp [out, into, restSensing_unit]
    · simp [out, into]
      exact fun e => e ▸ rfl

theorem raiseIntrusion_sensing (u v : UnitNo) (s : State) :
    (raiseIntrusion u s).su.units.get v = if u = v then { s.su.units.get v with alarm := .intrusion } else s.su.units.get v := by
  have h : (raiseIntrusion u s).su = (setAlarm u .intrusion s).su := (alert_sends _ _ _).su.trans (report_sends _ _ _ _).su
  rw [h]
  simp only [setAlarm, State.modSu_su, Quad.get_set]
  split
  · next e =>
    subst e
    rfl
  · rfl

theorem checkAlarm_other {u v : UnitNo} (h : v ≠ u) (s : State) : (checkAlarm u s).su.units.get v = s.su.units.get v := by
  unfold checkAlarm
  split
  · split
    · rw [raiseIntrusion_sensing, if_neg (Ne.symm h)]
    · rw [raiseTrap_sensing, if_neg (Ne.symm h)]
  · rfl

/-- No alarm is raised where the filter stands released or the unit elsewhere than in CLOSED_LOCKED (R148). -/
theorem checkAlarm_quiet {u : UnitNo} {s : State} (h : s.gapAsserted u = false ∨ s.unit u ≠ .closedLocked ∨ (s.su.units.get u).alarm ≠ .none) :
    checkAlarm u s = s := by
  refine if_neg fun c => ?_
  simp only [Bool.and_eq_true, beq_iff_eq] at c
  rcases h with h | h | h
  · exact absurd (h.symm.trans c.1.2) Bool.false_ne_true
  · exact h c.2
  · exact h c.1.1

theorem moveUnit_sensing_other {u v : UnitNo} (h : v ≠ u) (d : DoorChannel) (s : State) :
    (moveUnit u d s).su.units.get v = s.su.units.get v := by
  rw [moveUnit_eq, checkAlarm_other h, hangs_unit, if_neg (Ne.symm h)]
  rfl

/-- What hangs on a change of state leaves the unit's channel and its filter as the change and the sensing have them. -/
theorem hangs_dc (old : UnitState) (u : UnitNo) (d : DoorChannel) (s : State) : (hangs old u d s).dc = s.dc := by
  have last : ∀ x, (dropCovered u (clearAccess u x)).dc = x.dc := fun x => by rw [dropCovered_dc, clearAccess_dc]
  unfold hangs
  dsimp only
  rw [guard_keeps State.dc (f := fun x => dropCovered u (clearAccess u x)) (last _), guard_keeps State.dc (f := emptyRun u) rfl,
    guard_keeps State.dc (f := restSensing u) (restSensing_dc u _), guard_keeps State.dc (f := startSensing u) rfl]

theorem hangs_moved (u : UnitNo) (d : DoorChannel) (s : State) (old : UnitState) :
    (hangs old u d (syncOwnRelease (s.setDc u d))).unit u = d.st := by
  rw [State.unit, hangs_dc]
  exact congrArg DoorChannel.st (Quad.get_set_self ..)

/-- No alarm is raised by an entry to a state other than CLOSED_LOCKED, nor with the filter released. -/
theorem moveUnit_noAlarm {u : UnitNo} {d : DoorChannel} {s : State}
    (h : d.st ≠ .closedLocked ∨ (s.unit u ≠ .isolated ∧ s.gapAsserted u = false) ∨ s.unit u = .isolated) :
    moveUnit u d s = hangs (s.unit u) u d (syncOwnRelease (s.setDc u d)) := by
  rw [moveUnit_eq]
  refine checkAlarm_quiet ?_
  by_cases locked : d.st = .closedLocked
  · refine .inl ?_
    rw [State.gapAsserted, hangs_unit, if_pos rfl, enteredSensing, locked]
    rcases h.resolve_left (not_not_intro locked) with ⟨out, released⟩ | out
    · rw [if_neg fun c => out c.1, if_neg fun c => UnitState.noConfusion c.2]
      exact released
    · rw [if_pos ⟨out, fun e => UnitState.noConfusion e⟩]
      rfl
  · exact .inr (.inl (by rwa [hangs_moved]))

theorem moveUnit_sensing {u : UnitNo} {d : DoorChannel} {s : State}
    (h : d.st ≠ .closedLocked ∨ (s.unit u ≠ .isolated ∧ s.gapAsserted u = false) ∨ s.unit u = .isolated) :
    (moveUnit u d s).su.units.get u = enteredSensing (s.unit u) d.st (s.pins.units.get u).edge s.now (s.su.units.get u) := by
  rw [moveUnit_noAlarm h, hangs_unit, if_pos rfl]
  rfl

end Sys2Proof.Machine

/-! The end of a load: start states, sensing and captures (R15, R32, R118, R171, R173, R175). -/

namespace Sys2Proof.Machine

variable {i : Instr}

/-! ### One unit among the four -/

/-- What the operation on the other units keeps, as unit `u` sees it. -/
theorem forUnits_at {f : UnitNo → State → State} {Q : State → State → Prop} (refl : ∀ s, Q s s) (trans : ∀ {a b c}, Q a b → Q b c → Q a c)
    (u : UnitNo) (others : ∀ v s, v ≠ u → Q s (f v s)) (s : State) : ∃ m, Q s m ∧ Q (f u m) (forUnits f s) := by
  unfold forUnits
  cases u
  · exact ⟨_, refl _, trans (trans (others .u1 _ (by decide)) (others .u2 _ (by decide))) (others .u3 _ (by decide))⟩
  · exact ⟨_, others .u0 _ (by decide), trans (others .u2 _ (by decide)) (others .u3 _ (by decide))⟩
  · exact ⟨_, trans (others .u0 _ (by decide)) (others .u1 _ (by decide)), others .u3 _ (by decide)⟩
  · exact ⟨_, trans (trans (others .u0 _ (by decide)) (others .u1 _ (by decide))) (others .u2 _ (by decide)), refl _⟩

/-- Unit `u`'s channel and sensing stand, and with them what they are judged by. -/
structure SameUnit (u : UnitNo) (a b : State) : Prop where
  dc : b.dc.get u = a.dc.get u
  su : b.su.units.get u = a.su.units.get u
  cl : b.cl = a.cl
  pins : b.pins = a.pins
  now : b.now = a.now

theorem SameUnit.refl (u : UnitNo) (s : State) : SameUnit u s s := ⟨rfl, rfl, rfl, rfl, rfl⟩

theorem SameUnit.trans {u : UnitNo} {a b c : State} (h : SameUnit u a b) (k : SameUnit u b c) : SameUnit u a c :=
  ⟨k.dc.trans h.dc, k.su.trans h.su, k.cl.trans h.cl, k.pins.trans h.pins, k.now.trans h.now⟩

theorem moveUnit_sameUnit {u v : UnitNo} (h : v ≠ u) (d : DoorChannel) (s : State) : SameUnit u s (moveUnit v d s) := by
  obtain ⟨keeps, now, pins⟩ := moveUnit_holds v d s
  refine ⟨?_, moveUnit_sensing_other (Ne.symm h) d s, keeps.cl, pins, now⟩
  rw [moveUnit_dc, Quad.get_set_ne _ _ h]

/-! ### The sensing starts (R32) -/

/-- A configured unit's sensing as the load's end starts it. -/
def startedSensing (pins : UnitPins) (now : Time) (x : UnitSensing) : UnitSensing :=
  { x.begun pins.edge now with
    handle := ⟨pins.handle, pins.handle⟩, panel := ⟨pins.panel, pins.panel⟩, alignTimer := some (after now 40) }

theorem startUnitSensing_eq (u : UnitNo) (s : State) :
    startUnitSensing u s =
      if s.configured u then
        { s with su := { s.su with units := s.su.units.set u (startedSensing (s.pins.units.get u) s.now (s.su.units.get u)) } }
      else s := by
  unfold startUnitSensing
  split
  · have own : (startSensing u s).su.units.get u = (s.su.units.get u).begun (s.pins.units.get u).edge s.now := by
      rw [startSensing_unit, if_pos rfl]
    unfold State.modSu
    rw [own]
    refine congrArg (fun q : Quad UnitSensing => { s with su := { s.su with units := q } }) (Quad.ext_get fun v => ?_)
    by_cases e : u = v
    · subst e
      simp [Quad.get_set_self, startedSensing, startLatched]
      rfl
    · have other : (startSensing u s).su.units.get v = s.su.units.get v := by rw [startSensing_unit, if_neg e]
      rw [Quad.get_set_ne _ _ e, Quad.get_set_ne _ _ e]
      exact other
  · rfl

/-- Only sensing starts. -/
theorem forStartUnitSensing_eq (s : State) :
    forUnits startUnitSensing s =
      { s with
        su :=
          { s.su with
            units := Quad.build fun u =>
              if s.configured u then startedSensing (s.pins.units.get u) s.now (s.su.units.get u) else s.su.units.get u } } := by
  have only : forUnits startUnitSensing s = { s with su := { s.su with units := (forUnits startUnitSensing s).su.units } } := by
    have one : ∀ u a, startUnitSensing u { s with su := { s.su with units := a } } =
        { s with su := { s.su with units := (startUnitSensing u { s with su := { s.su with units := a } }).su.units } } := fun u a => by
      rw [startUnitSensing_eq]
      split <;> rfl
    unfold forUnits
    rw [show startUnitSensing .u0 s = _ from one .u0 s.su.units, one .u1, one .u2, one .u3]
  rw [only]
  refine congrArg (fun q : Quad UnitSensing => { s with su := { s.su with units := q } }) (Quad.ext_get fun u => ?_)
  rw [Quad.get_build]
  obtain ⟨m, before, behind⟩ := forUnits_at (f := startUnitSensing) (SameUnit.refl u) SameUnit.trans u (fun v s ne => by
    rw [startUnitSensing_eq]
    split
    · exact ⟨rfl, Quad.get_set_ne _ _ ne, rfl, rfl, rfl⟩
    · exact SameUnit.refl u s) s
  rw [behind.su, startUnitSensing_eq]
  have conf : m.configured u = s.configured u := by rw [State.configured, before.cl]; rfl
  rw [conf]
  split
  · rw [← before.su, ← before.pins, ← before.now]
    exact Quad.get_set_self ..
  · exact before.su

/-! ### The start states (R118) -/

/-- The channel a configured unit starts with. -/
def startChannel (u : UnitNo) (s : State) : DoorChannel :=
  if s.startState u == .closedLocked then { (s.dc.get u).into (s.startState u) with position := 0 }
  else (s.dc.get u).into (s.startState u)

theorem startUnit_configured {u : UnitNo} {s : State} (h : s.configured u = true) : startUnit u s = moveUnit u (startChannel u s) s :=
  if_pos h

theorem startUnit_other {u : UnitNo} {s : State} (h : s.configured u = false) :
    startUnit u s = s.modDc u fun d => { d with isolationMark := false } := by
  unfold startUnit
  rw [h, if_neg Bool.false_ne_true]

theorem startChannel_st (u : UnitNo) (s : State) : (startChannel u s).st = s.startState u := by
  unfold startChannel
  split <;> rfl

theorem startUnit_sameUnit {u v : UnitNo} (h : v ≠ u) (s : State) : SameUnit u s (startUnit v s) := by
  cases c : s.configured v
  · rw [startUnit_other c]
    exact ⟨Quad.get_set_ne _ _ h, rfl, rfl, rfl, rfl⟩
  · rw [startUnit_configured c]
    exact moveUnit_sameUnit h _ s

/-- No configured unit's filters stand asserted, as their start leaves them. -/
def FiltersEmpty (s : State) : Prop :=
  ∀ u, s.configured u = true → (s.su.units.get u).zoneBusy = false ∧ (s.su.units.get u).gapAsserted = false

/-- What the start of units leaves, with the filters empty: frames, reports, marks and the berth. -/
structure StartQuiet (s t : State) : Prop where
  lc : t.lc = s.lc
  fr : t.fr = s.fr
  cl : t.cl = s.cl
  berth : t.bu.berth = s.bu.berth
  now : t.now = s.now
  panelMarks : t.iu.panelMarks = s.iu.panelMarks
  filters : FiltersEmpty t

theorem StartQuiet.trans {a b c : State} (h : StartQuiet a b) (k : StartQuiet b c) : StartQuiet a c :=
  ⟨k.lc.trans h.lc, k.fr.trans h.fr, k.cl.trans h.cl, k.berth.trans h.berth, k.now.trans h.now, k.panelMarks.trans h.panelMarks, k.filters⟩

theorem enteredSensing_filters {old new : UnitState} {raw : Bool} {now : Time} {x : UnitSensing} (h : x.zoneBusy = false ∧ x.gapAsserted = false) :
    (enteredSensing old new raw now x).zoneBusy = false ∧ (enteredSensing old new raw now x).gapAsserted = false := by
  unfold enteredSensing
  split
  · exact ⟨rfl, rfl⟩
  · split
    · exact ⟨rfl, rfl⟩
    · exact h

/-- What hangs on a change of state sends nothing where the zone stands FREE. -/
theorem hangs_still {old : UnitState} {u : UnitNo} {d : DoorChannel} {s : State} (h : (s.su.units.get u).zoneBusy = false) :
    (hangs old u d s).lc = s.lc ∧ (hangs old u d s).fr = s.fr ∧ (hangs old u d s).bu.berth = s.bu.berth := by
  have guard : ∀ (b : Bool) (f : State → State) (x : State), ((f x).lc = x.lc ∧ (f x).fr = x.fr ∧ (f x).bu.berth = x.bu.berth) →
      (if b then f x else x).lc = x.lc ∧ (if b then f x else x).fr = x.fr ∧ (if b then f x else x).bu.berth = x.bu.berth := fun b f x e => by
    cases b
    · exact ⟨rfl, rfl, rfl⟩
    · exact e
  have started := guard (old == .isolated && d.st != .isolated) (startSensing u) s ⟨rfl, rfl, rfl⟩
  have free : ((if old == .isolated && d.st != .isolated then startSensing u s else s).su.units.get u).zoneBusy = false := by
    split
    · rw [startSensing_unit, if_pos rfl]
      rfl
    · exact h
  generalize e1 : (if old == .isolated && d.st != .isolated then startSensing u s else s) = s1 at started free
  have rest : (restSensing u s1).lc = s1.lc ∧ (restSensing u s1).fr = s1.fr ∧ (restSensing u s1).bu.berth = s1.bu.berth := by
    unfold restSensing
    dsimp only
    rw [free, if_neg Bool.false_ne_true]
    exact ⟨rfl, rfl, rfl⟩
  have rested := guard (old != .isolated && d.st == .isolated) (restSensing u) s1 rest
  generalize e2 : (if old != .isolated && d.st == .isolated then restSensing u s1 else s1) = s2 at rested
  have emptied := guard (d.st == .isolated || d.st == .fault) (emptyRun u) s2 ⟨rfl, rfl, rfl⟩
  generalize e3 : (if d.st == .isolated || d.st == .fault then emptyRun u s2 else s2) = s3 at emptied
  have last : (dropCovered u (clearAccess u s3)).lc = s3.lc ∧ (dropCovered u (clearAccess u s3)).fr = s3.fr ∧
      (dropCovered u (clearAccess u s3)).bu.berth = s3.bu.berth := by
    have dropped : ∀ x, (dropAccessMember u x).lc = x.lc ∧ (dropAccessMember u x).bu.berth = x.bu.berth := fun x => by
      unfold dropAccessMember
      split <;> exact ⟨rfl, rfl⟩
    have cleared : (clearAccess u s3).lc = s3.lc ∧ (clearAccess u s3).bu.berth = s3.bu.berth := by
      unfold clearAccess
      split
      · exact dropped _
      · exact ⟨rfl, rfl⟩
    have covered : ∀ x, (dropCovered u x).lc = x.lc ∧ (dropCovered u x).bu.berth = x.bu.berth := fun x => by
      unfold dropCovered
      split <;> exact ⟨rfl, rfl⟩
    exact ⟨(covered _).1.trans cleared.1, by rw [dropCovered_fr, clearAccess_fr], (covered _).2.trans cleared.2⟩
  have done := guard d.st.outOfHands (fun x => dropCovered u (clearAccess u x)) s3 last
  have whole : hangs old u d s = if d.st.outOfHands then dropCovered u (clearAccess u s3) else s3 := by
    rw [← e3, ← e2, ← e1]
    rfl
  rw [whole]
  exact ⟨done.1.trans (emptied.1.trans (rested.1.trans started.1)), done.2.1.trans (emptied.2.1.trans (rested.2.1.trans started.2.1)),
    done.2.2.trans (emptied.2.2.trans (rested.2.2.trans started.2.2))⟩

theorem startUnit_quiet {u : UnitNo} {s : State} (h : FiltersEmpty s) : StartQuiet s (startUnit u s) := by
  cases c : s.configured u
  · rw [startUnit_other c]
    exact ⟨rfl, rfl, rfl, rfl, rfl, rfl, h⟩
  · rw [startUnit_configured c]
    obtain ⟨zone, gap⟩ := h u c
    have plain : (startChannel u s).st ≠ .closedLocked ∨ (s.unit u ≠ .isolated ∧ s.gapAsserted u = false) ∨ s.unit u = .isolated := by
      by_cases out : s.unit u = .isolated
      · exact .inr (.inr out)
      · exact .inr (.inl ⟨out, gap⟩)
    obtain ⟨keeps, now, -⟩ := moveUnit_holds u (startChannel u s) s
    have still := hangs_still (old := s.unit u) (d := startChannel u s) (s := syncOwnRelease (s.setDc u (startChannel u s))) zone
    rw [← moveUnit_noAlarm plain] at still
    refine ⟨still.1, still.2.1, keeps.cl, still.2.2, now, keeps.panelMarks, fun v cv => ?_⟩
    have conf : s.configured v = true := by
      rw [State.configured, keeps.cl] at cv
      exact cv
    by_cases e : v = u
    · subst e
      rw [moveUnit_sensing plain]
      exact enteredSensing_filters (h v conf)
    · rw [moveUnit_sensing_other e]
      exact h v conf

theorem forStartUnit_quiet {s : State} (h : FiltersEmpty s) : StartQuiet s (forUnits startUnit s) := by
  have one := startUnit_quiet (u := .u0) h
  have two := startUnit_quiet (u := .u1) one.filters
  have three := startUnit_quiet (u := .u2) two.filters
  exact ((one.trans two).trans three).trans (startUnit_quiet three.filters)

/-! ### The captures (R171, R175) -/

/-- A slot and the kinds' counters once a report of its severity is made. -/
def slotRecorded (seq : Byte) (now : Time) (p : Option FaultRecord × List (Counter 16)) (r : FaultKind × UnitNo) :
    Option FaultRecord × List (Counter 16) :=
  match p.1 with
  | none => (some ⟨r.1, some r.2, seq, now⟩, p.2)
  | some x => (some x, p.2.set r.1.index (p.2.getD r.1.index (Counter.zero 16)).bump)

/-- The ALERT kind of a capture. -/
def captureCode (k : FaultKind) : Byte := if k = .handle then 1 else 2

/-- `l` names the captures taken: each is reported, draws its ALERT, and counts or marks its unit. -/
structure Captured (l : List (FaultKind × UnitNo)) (s t : State) : Prop where
  sent : Enqueued (l.map fun c => (.alert, [captureCode c.1, byte c.2.val, s.seq])) s t
  recorded : (t.fr.minor, t.fr.kinds) = l.foldl (slotRecorded s.seq s.now) (s.fr.minor, s.fr.kinds)
  counted : ∀ u, t.fr.unitCounters.get u =
    { s.fr.unitCounters.get u with
      handleReleases := Counter.bump^[l.count (.handle, u)] (s.fr.unitCounters.get u).handleReleases }
  marked : ∀ u, t.iu.panelMarks.get u = (s.iu.panelMarks.get u || decide ((.panel, u) ∈ l))
  seq : t.seq = s.seq
  now : t.now = s.now
  cl : t.cl = s.cl
  su : t.su = s.su
  dc : t.dc = s.dc

theorem Captured.refl (s : State) : Captured [] s s := ⟨rfl, rfl, fun _ => rfl, fun _ => by simp, rfl, rfl, rfl, rfl, rfl⟩

theorem Captured.trans {l l' : List (FaultKind × UnitNo)} {a b c : State} (h : Captured l a b) (k : Captured l' b c) :
    Captured (l ++ l') a c := by
  refine ⟨?_, ?_, fun u => ?_, fun u => ?_, k.seq.trans h.seq, k.now.trans h.now, k.cl.trans h.cl, k.su.trans h.su, k.dc.trans h.dc⟩
  · have sent := k.sent
    rw [h.seq] at sent
    rw [List.map_append]
    exact h.sent.trans sent
  · rw [k.recorded, List.foldl_append, ← h.recorded, h.seq, h.now]
  · rw [k.counted, h.counted, List.count_append, Nat.add_comm, Function.iterate_add_apply]
  · rw [k.marked, h.marked, Bool.or_assoc]
    simp [List.mem_append]

theorem report_slotRecorded (k : FaultKind) (u : UnitNo) (s : State) :
    ((report k .minor (some u) s).fr.minor, (report k .minor (some u) s).fr.kinds) =
      slotRecorded s.seq s.now (s.fr.minor, s.fr.kinds) (k, u) := by
  obtain ⟨kinds, slots⟩ := report_recorded k .minor (some u) s
  have minor := slots .minor
  rw [kinds, show (report k .minor (some u) s).fr.minor = _ from minor]
  unfold slotRecorded
  rcases e : s.fr.minor with _ | x
  · rw [show s.fr.slot .minor = none from e]
    rfl
  · rw [show s.fr.slot .minor = some x from e]
    exact Prod.ext e rfl

/-- A report and the ALERT of it, over a state that a capture has counted or marked. -/
theorem captured_of {k : FaultKind} {kind : AlertKind} {u : UnitNo} {s x : State} (code : kind.code = captureCode k) (lc : x.lc = s.lc)
    (fr : (x.fr.minor, x.fr.kinds) = (s.fr.minor, s.fr.kinds)) (bu : x.bu = s.bu) (now : x.now = s.now) (cl : x.cl = s.cl) (su : x.su = s.su)
    (dc : x.dc = s.dc)
    (counted : ∀ v, x.fr.unitCounters.get v =
      { s.fr.unitCounters.get v with
        handleReleases := Counter.bump^[[(k, u)].count (.handle, v)] (s.fr.unitCounters.get v).handleReleases })
    (marked : ∀ v, x.iu.panelMarks.get v = (s.iu.panelMarks.get v || decide ((.panel, v) ∈ [(k, u)]))) :
    Captured [(k, u)] s (alert kind (some u) (report k .minor (some u) x)) := by
  have reported := report_sends k .minor (some u) x
  have sends := reported.trans (alert_sends kind (some u) _)
  have seq : (report k .minor (some u) x).seq = s.seq := by rw [State.seq, reported.bu, bu]; rfl
  obtain ⟨n, r, frame⟩ := enqueue_fr .alert [kind.code, unitByte (some u), (report k .minor (some u) x).seq] (report k .minor (some u) x)
  refine ⟨?_, ?_, fun v => ?_, fun v => ?_, ?_, sends.now.trans now, sends.cl.trans cl, sends.su.trans su, sends.dc.trans dc⟩
  · have sent := enqueue_enqueued .alert [kind.code, unitByte (some u), (report k .minor (some u) x).seq] (report k .minor (some u) x)
    rw [seq, code] at sent
    have queue : (report k .minor (some u) x).lc.queue = s.lc.queue := by rw [report_lc, lc]
    rw [alert, seq, code]
    exact sent.before queue
  · rw [alert, frame]
    show ((report k .minor (some u) x).fr.minor, (report k .minor (some u) x).fr.kinds) = _
    have xseq : x.seq = s.seq := by rw [State.seq, bu]; rfl
    rw [report_slotRecorded, fr, xseq, now]
    rfl
  · rw [alert, enqueue_unitCounters, report_unitCounters]
    exact counted v
  · rw [sends.iu]
    exact marked v
  · rw [State.seq, sends.bu, bu]
    rfl

theorem noteHandle_captured (u : UnitNo) (s : State) : Captured [(.handle, u)] s (noteHandle u s) := by
  rw [noteHandle_eq]
  refine captured_of rfl rfl rfl rfl rfl rfl rfl rfl (fun v => ?_) (fun v => by simp [countHandle, State.modUnitCounters])
  show (s.fr.unitCounters.set u _).get v = _
  by_cases e : u = v
  · subst e
    simp
  · rw [Quad.get_set_ne _ _ e]
    simp [e]

theorem notePanel_captured (u : UnitNo) (s : State) : Captured [(.panel, u)] s (notePanel u s) := by
  rw [notePanel_eq]
  refine captured_of rfl rfl rfl rfl rfl rfl rfl rfl (fun v => by simp [markPanel]) (fun v => ?_)
  show (s.iu.panelMarks.set u true).get v = _
  by_cases e : u = v
  · subst e
    simp
  · rw [Quad.get_set_ne _ _ e]
    simp [Ne.symm e]

/-- The captures that unit `u` was found with. -/
def capturesOf (s : State) (u : UnitNo) : List (FaultKind × UnitNo) :=
  (if s.configured u && (s.su.units.get u).handle.held then [(.handle, u)] else []) ++
    if s.configured u && (s.su.units.get u).panel.held then [(.panel, u)] else []

theorem takeCaptures_captured (u : UnitNo) (s : State) : Captured (capturesOf s u) s (takeCaptures u s) := by
  unfold takeCaptures capturesOf
  cases s.configured u
  · exact Captured.refl s
  · dsimp only
    rw [if_pos rfl, Bool.true_and, Bool.true_and]
    have first : Captured (if (s.su.units.get u).handle.held then [(.handle, u)] else []) s
        (if (s.su.units.get u).handle.held then noteHandle u s else s) := by
      split
      · exact noteHandle_captured u s
      · exact Captured.refl s
    refine first.trans ?_
    rw [first.su]
    split
    · exact notePanel_captured u _
    · exact Captured.refl _

theorem Captured.capturesOf {l : List (FaultKind × UnitNo)} {s t : State} (h : Captured l s t) (u : UnitNo) :
    Machine.capturesOf t u = Machine.capturesOf s u := by
  unfold Machine.capturesOf State.configured
  rw [h.cl, h.su]

/-- All captures found at the load's end, unit by unit. -/
def capturesFound (s : State) : List (FaultKind × UnitNo) :=
  capturesOf s .u0 ++ capturesOf s .u1 ++ capturesOf s .u2 ++ capturesOf s .u3

theorem forTakeCaptures_captured (s : State) : Captured (capturesFound s) s (forUnits takeCaptures s) := by
  have one := takeCaptures_captured .u0 s
  have two := one.trans (one.capturesOf .u1 ▸ takeCaptures_captured .u1 _)
  have three := two.trans (two.capturesOf .u2 ▸ takeCaptures_captured .u2 _)
  exact three.trans (three.capturesOf .u3 ▸ takeCaptures_captured .u3 _)

end Sys2Proof.Machine

/-! What the end of a load leaves of each unit, of the minor slot and of the queue, and the start states' obligation. -/

namespace Sys2Proof.Machine

variable {i : Instr}

/-! ### The units started -/

/-- A start comes to no alarm: the filter's start has released it. -/
theorem startUnit_plain {u : UnitNo} {s : State} (gap : s.gapAsserted u = false) :
    (startChannel u s).st ≠ .closedLocked ∨ (s.unit u ≠ .isolated ∧ s.gapAsserted u = false) ∨ s.unit u = .isolated := by
  by_cases out : s.unit u = .isolated
  · exact .inr (.inr out)
  · exact .inr (.inl ⟨out, gap⟩)

theorem SameUnit.startState {u : UnitNo} {a b : State} (h : SameUnit u a b) : b.startState u = a.startState u := by
  unfold State.startState State.closedAndEngaged
  rw [h.su, h.dc, h.pins]

theorem SameUnit.startChannel {u : UnitNo} {a b : State} (h : SameUnit u a b) : startChannel u b = Machine.startChannel u a := by
  unfold Machine.startChannel
  rw [h.startState, h.dc]

/-- A configured unit's channel and sensing, once every unit has started. -/
theorem forStartUnit_configured {u : UnitNo} {s : State} (h : s.configured u = true) (gap : s.gapAsserted u = false) :
    (forUnits startUnit s).dc.get u = startChannel u s ∧
      (forUnits startUnit s).su.units.get u =
        enteredSensing (s.unit u) (s.startState u) (s.pins.units.get u).edge s.now (s.su.units.get u) := by
  obtain ⟨m, before, behind⟩ := forUnits_at (f := startUnit) (SameUnit.refl u) SameUnit.trans u (fun v x ne => startUnit_sameUnit ne x) s
  have conf : m.configured u = true := by rw [State.configured, before.cl]; exact h
  have released : m.gapAsserted u = false := by rw [State.gapAsserted, before.su]; exact gap
  rw [behind.dc, behind.su, startUnit_configured conf, moveUnit_sensing (startUnit_plain released), moveUnit_dc, Quad.get_set_self,
    before.startChannel, State.unit, startChannel_st, before.dc, before.pins, before.now, before.su]
  exact ⟨rfl, rfl⟩

theorem forStartUnit_other {u : UnitNo} {s : State} (h : s.configured u = false) :
    (forUnits startUnit s).dc.get u = { s.dc.get u with isolationMark := false } ∧
      (forUnits startUnit s).su.units.get u = s.su.units.get u := by
  obtain ⟨m, before, behind⟩ := forUnits_at (f := startUnit) (SameUnit.refl u) SameUnit.trans u (fun v x ne => startUnit_sameUnit ne x) s
  have conf : m.configured u = false := by rw [State.configured, before.cl]; exact h
  rw [behind.dc, behind.su, startUnit_other conf, ← before.dc, ← before.su]
  exact ⟨Quad.get_set_self .., rfl⟩

theorem moves_ownRelease {s t : State} (m : Moves i s t) (h : OwnReleaseFollows s) : OwnReleaseFollows t :=
  m.keeps (fun _ _ => move_ownRelease) h

/-- The own number follows the units started, one of them at least being configured. -/
theorem forStartUnit_ownRelease {s : State} (h : s.configured .u0 = true) : OwnReleaseFollows (forUnits startUnit s) := by
  have first : OwnReleaseFollows (startUnit .u0 s) := by
    rw [startUnit_configured h, moveUnit_eq]
    exact moves_ownRelease ((hangs_moves (i := .configReadFail) _ _ _ _).trans (checkAlarm_moves _ _)) (syncOwnRelease_follows _)
  exact moves_ownRelease (((startUnit_moves (i := .configReadFail) .u1 _).trans (startUnit_moves .u2 _)).trans (startUnit_moves .u3 _)) first

/-! ### The captures in the minor slot and the counters (R187, R188) -/

theorem slotRecorded_full (seq : Byte) (now : Time) (x : FaultRecord) (l : List (FaultKind × UnitNo)) (kinds : List (Counter 16)) :
    ((l.foldl (slotRecorded seq now) (some x, kinds)).1 = some x) ∧
      ∀ k, kinds.length = 17 →
        (l.foldl (slotRecorded seq now) (some x, kinds)).2.getD k.index (Counter.zero 16) =
          Counter.bump^[(l.map Prod.fst).count k] (kinds.getD k.index (Counter.zero 16)) := by
  induction l generalizing kinds with
  | nil => exact ⟨rfl, fun _ _ => rfl⟩
  | cons r l ih =>
    obtain ⟨slot, counters⟩ := ih (kinds.set r.1.index (kinds.getD r.1.index (Counter.zero 16)).bump)
    refine ⟨slot, fun k len => (counters k (by rw [List.length_set, len])).trans ?_⟩
    rw [List.map_cons, List.count_cons]
    by_cases e : r.1 = k
    · subst e
      have inside : r.1.index < kinds.length := len ▸ r.1.index_lt
      rw [if_pos (beq_self_eq_true _), Function.iterate_succ_apply, List.getD_eq_getElem?_getD, List.getElem?_set_self inside]
      rfl
    · have other : r.1.index ≠ k.index := fun same => e (FaultKind.index_inj same)
      rw [if_neg (by simpa using e), List.getD_eq_getElem?_getD, List.getElem?_set_ne other, ← List.getD_eq_getElem?_getD]
      rfl

/-- Captures from an empty slot: the first fills it, and each other counts. -/
theorem slotRecorded_fold (seq : Byte) (now : Time) (slot : Option FaultRecord) (l : List (FaultKind × UnitNo)) (kinds : List (Counter 16)) :
    ((l.foldl (slotRecorded seq now) (slot, kinds)).1 =
      match slot, l with
      | some x, _ => some x
      | none, [] => none
      | none, r :: _ => some ⟨r.1, some r.2, seq, now⟩) ∧
      ∀ k, kinds.length = 17 →
        (l.foldl (slotRecorded seq now) (slot, kinds)).2.getD k.index (Counter.zero 16) =
          Counter.bump^[if slot = none ∧ (l.foldl (slotRecorded seq now) (slot, kinds)).1.map FaultRecord.kind = some k then
            (l.map Prod.fst).count k - 1 else (l.map Prod.fst).count k] (kinds.getD k.index (Counter.zero 16)) := by
  rcases slot with _ | x
  · rcases l with _ | ⟨r, l⟩
    · exact ⟨rfl, fun _ _ => by simp⟩
    · obtain ⟨first, counters⟩ := slotRecorded_full seq now ⟨r.1, some r.2, seq, now⟩ l kinds
      refine ⟨first, fun k len => (counters k len).trans ?_⟩
      have filled : ((r :: l).foldl (slotRecorded seq now) (none, kinds)).1 = some ⟨r.1, some r.2, seq, now⟩ := first
      rw [filled, List.map_cons, List.count_cons]
      by_cases e : r.1 = k
      · simp [e]
      · simp [e]
  · obtain ⟨full, counters⟩ := slotRecorded_full seq now x l kinds
    exact ⟨full, fun k len => (counters k len).trans (by rw [if_neg fun c => Option.some_ne_none _ c.1])⟩

/-! ### The captures found -/

/-- Unit `u`'s handle or panel is found HELD. -/
def foundHeld (s : State) (k : FaultKind) (u : UnitNo) : Bool :=
  s.configured u && if k = .handle then (s.su.units.get u).handle.held else (s.su.units.get u).panel.held

theorem capturesOf_eq (s : State) (u : UnitNo) :
    capturesOf s u = (if foundHeld s .handle u then [(.handle, u)] else []) ++ if foundHeld s .panel u then [(.panel, u)] else [] := rfl

theorem countP_guarded {α : Type} (p : α → Bool) (b : Bool) (x : α) : (if b then [x] else []).countP p = if b && p x then 1 else 0 := by
  cases b
  · rfl
  · simp [List.countP_cons]

theorem countP_capturesOf (p : FaultKind × UnitNo → Bool) (s : State) (u : UnitNo) :
    (capturesOf s u).countP p =
      (if foundHeld s .handle u && p (.handle, u) then 1 else 0) + if foundHeld s .panel u && p (.panel, u) then 1 else 0 := by
  rw [capturesOf_eq, List.countP_append, countP_guarded, countP_guarded]

/-- A test that one unit's handle or panel alone passes counts that capture. -/
theorem countP_capturesFound {p : FaultKind × UnitNo → Bool} {k : FaultKind} {u : UnitNo} (capture : k = .handle ∨ k = .panel)
    (alone : ∀ k' v, (k' = .handle ∨ k' = .panel) → p (k', v) = decide (k' = k ∧ v = u)) (s : State) :
    (capturesFound s).countP p = if foundHeld s k u then 1 else 0 := by
  unfold capturesFound
  simp only [List.countP_append, countP_capturesOf, alone _ _ (.inl rfl), alone _ _ (.inr rfl)]
  rcases capture with rfl | rfl <;> cases u <;> simp

/-- A test that every handle alone, or every panel alone, passes counts the units. -/
theorem countP_capturesFound_kind {k : FaultKind} (capture : k = .handle ∨ k = .panel) (s : State) :
    ((capturesFound s).map Prod.fst).count k = (UnitNo.all.filter (foundHeld s k)).length := by
  rw [List.count, List.countP_map, ← List.countP_eq_length_filter]
  unfold capturesFound UnitNo.all
  simp only [List.countP_append, countP_capturesOf, List.countP_cons, List.countP_nil]
  rcases capture with rfl | rfl
  · simp
    omega
  · simp
    omega

theorem capturesFound_length (s : State) : (capturesFound s).length ≤ 8 := by
  have one : ∀ u, (capturesOf s u).length ≤ 2 := fun u => by
    rw [capturesOf_eq, List.length_append]
    split <;> split <;> simp
  unfold capturesFound
  simp only [List.length_append]
  have := one .u0
  have := one .u1
  have := one .u2
  have := one .u3
  omega

theorem mem_capturesFound {s : State} {c : FaultKind × UnitNo} (h : c ∈ capturesFound s) :
    (c.1 = .handle ∨ c.1 = .panel) ∧ foundHeld s c.1 c.2 = true := by
  have one : ∀ u, c ∈ capturesOf s u → (c.1 = .handle ∨ c.1 = .panel) ∧ foundHeld s c.1 c.2 = true := fun u m => by
    rw [capturesOf_eq, List.mem_append] at m
    rcases m with m | m
    · split at m
      · next held =>
        obtain rfl := List.mem_singleton.1 m
        exact ⟨.inl rfl, held⟩
      · cases m
    · split at m
      · next held =>
        obtain rfl := List.mem_singleton.1 m
        exact ⟨.inr rfl, held⟩
      · cases m
  unfold capturesFound at h
  simp only [List.mem_append] at h
  rcases h with ((h | h) | h) | h
  · exact one _ h
  · exact one _ h
  · exact one _ h
  · exact one _ h

theorem capturesFound_mem {s : State} {k : FaultKind} {u : UnitNo} (capture : k = .handle ∨ k = .panel) :
    (k, u) ∈ capturesFound s ↔ foundHeld s k u = true := by
  refine ⟨fun m => (mem_capturesFound m).2, fun held => ?_⟩
  have own : (k, u) ∈ capturesOf s u := by
    rw [capturesOf_eq, List.mem_append]
    rcases capture with rfl | rfl
    · exact .inl (by rw [if_pos held]; exact List.mem_singleton_self _)
    · exact .inr (by rw [if_pos held]; exact List.mem_singleton_self _)
  unfold capturesFound
  simp only [List.mem_append]
  cases u
  · exact .inl (.inl (.inl own))
  · exact .inl (.inl (.inr own))
  · exact .inl (.inr own)
  · exact .inr own

theorem byte_unit_inj {u v : UnitNo} (h : byte v.val = byte u.val) : v = u := by
  have small : ∀ w : UnitNo, (byte w.val).toNat = w.val := fun w => by cases w <;> rfl
  exact UnitNo.val_inj ((small v).symm.trans ((congrArg BitVec.toNat h).trans (small u)))

/-- The ALERTs of captures are told apart by kind and unit. -/
theorem captureAlert_inj (seq : Byte) {k k' : FaultKind} (h : k = .handle ∨ k = .panel) (h' : k' = .handle ∨ k' = .panel) (u v : UnitNo) :
    ((FrameKind.alert, [captureCode k', byte v.val, seq]) == (FrameKind.alert, [captureCode k, byte u.val, seq])) =
      decide (k' = k ∧ v = u) := by
  rw [Bool.eq_iff_iff, beq_iff_eq, decide_eq_true_iff]
  constructor
  · intro e
    simp only [Prod.mk.injEq, List.cons.injEq, true_and, and_true] at e
    obtain ⟨code, number⟩ := e
    exact ⟨by rcases h with rfl | rfl <;> rcases h' with rfl | rfl <;> first | rfl | exact absurd code (by decide),
      byte_unit_inj number⟩
  · rintro ⟨rfl, rfl⟩
    rfl

/-! ### The load's own report -/

/-- What the load's report leaves the captures: the minor slot as it stood or filled by a clamp tally, and their counters. -/
structure LoadReported (o : LoadOutcome) (s t : State) : Prop where
  lc : t.lc = s.lc
  unitCounters : t.fr.unitCounters = s.fr.unitCounters
  full : ∀ r, s.fr.minor = some r → t.fr.minor = some r
  empty : s.fr.minor = none → t.fr.minor = none ∨ (o.reason = .ok ∧ 0 < o.clamps ∧ t.fr.minor.map FaultRecord.kind = some .configClamped)
  kinds : ∀ k : FaultKind, k = .handle ∨ k = .panel → t.fr.kinds.getD k.index (Counter.zero 16) = s.fr.kinds.getD k.index (Counter.zero 16)
  room : t.fr.kinds.length = s.fr.kinds.length

theorem report_room (k : FaultKind) (sev : Severity) (u : Option UnitNo) (s : State) :
    (report k sev u s).fr.kinds.length = s.fr.kinds.length ∧
      ∀ k', k' ≠ k → (report k sev u s).fr.kinds.getD k'.index (Counter.zero 16) = s.fr.kinds.getD k'.index (Counter.zero 16) := by
  rw [(report_recorded k sev u s).1]
  split
  · cases sev <;> exact ⟨rfl, fun _ _ => rfl⟩
  · refine ⟨List.length_set .., fun k' other => ?_⟩
    show (s.fr.kinds.set k.index _).getD k'.index _ = _
    rw [List.getD_eq_getElem?_getD, List.getElem?_set_ne fun e => other (FaultKind.index_inj e).symm, ← List.getD_eq_getElem?_getD]

theorem reportLoad_reported (o : LoadOutcome) (s : State) : LoadReported o s (reportLoad o s) := by
  by_cases ok : o.reason = .ok
  · by_cases tally : 0 < o.clamps
    · rw [reportLoad_clamped ok tally]
      have slot := (report_recorded .configClamped .minor none s).2 .minor
      obtain ⟨room, kinds⟩ := report_room .configClamped .minor none s
      refine ⟨report_lc .., report_unitCounters .., fun r e => ?_, fun e => .inr ⟨ok, tally, ?_⟩, fun k c => kinds k ?_, room⟩
      · rw [show s.fr.slot .minor = some r from e] at slot
        exact slot.trans e
      · rw [show s.fr.slot .minor = none from e] at slot
        exact congrArg (Option.map FaultRecord.kind) slot
      · rcases c with rfl | rfl <;> exact fun e => nomatch e
    · have silent : reportLoad o s = s := by
        unfold reportLoad
        rw [ok]
        exact if_neg tally
      rw [silent]
      exact ⟨rfl, rfl, fun _ => id, .inl, fun _ _ => rfl, rfl⟩
  · rw [reportLoad_refused ok]
    generalize (if o.reason = .unitField then o.index.bind UnitNo.ofNat? else none) = u
    have slot : (report .configFault .severe u s).fr.minor = s.fr.minor := by
      have slot := (report_recorded .configFault .severe u s).2 .minor
      refine (show (report .configFault .severe u s).fr.minor = _ from slot).trans ?_
      split <;> rfl
    obtain ⟨room, kinds⟩ := report_room .configFault .severe u s
    refine ⟨report_lc .., report_unitCounters .., fun r e => slot.trans e, fun e => .inl (slot.trans e), fun k c => kinds k ?_, room⟩
    rcases c with rfl | rfl <;> exact fun e => nomatch e

/-! ### The end of a load in its stages -/

/-- The load's end up to the start of the sensing. -/
def loadSensed (o : LoadOutcome) (c : NodeConfig) (s : State) : State := forUnits startUnitSensing (loadEnded o c s)

/-- What the load's end is judged by, before the units start. -/
structure LoadSensed (o : LoadOutcome) (c : NodeConfig) (s x : State) : Prop where
  now : x.now = s.now
  pins : x.pins = s.pins
  cl : x.cl = s.cl.ended o c (s.timer 600)
  berth : x.bu.berth = s.bu.berth
  dc : x.dc = s.dc
  marks : x.iu.panelMarks = s.iu.panelMarks
  wire : x.su.wire = freshCell s.pins.wire 50 s
  sensing : ∀ u, x.su.units.get u = if x.configured u then startedSensing (s.pins.units.get u) s.now (s.su.units.get u) else s.su.units.get u
  reported : LoadReported o s x

theorem LoadReported.of_same {o : LoadOutcome} {s t a b : State} (h : LoadReported o s t) (lc : a.lc = s.lc) (fr : a.fr = s.fr)
    (lc' : b.lc = t.lc) (fr' : b.fr = t.fr) : LoadReported o a b := by
  obtain ⟨h1, h2, h3, h4, h5, h6⟩ := h
  refine ⟨?_, ?_, ?_, ?_, ?_, ?_⟩
  · rw [lc', lc, h1]
  · rw [fr', fr, h2]
  · rw [fr', fr]
    exact h3
  · rw [fr', fr]
    exact h4
  · rw [fr', fr]
    exact h5
  · rw [fr', fr]
    exact h6

theorem freshCell_congr {raw raw' : Bool} {ms : Nat} {a b : State} (h : raw = raw') (now : a.now = b.now) :
    freshCell raw ms a = freshCell raw' ms b := by
  rw [freshCell, freshCell, State.timer, State.timer, h, now]

theorem loadSensed_of (o : LoadOutcome) (c : NodeConfig) (s : State) : LoadSensed o c s (loadSensed o c s) := by
  have sends := reportLoad_sends o (s.modCl fun l => l.ended o c (s.timer 600))
  have reported := reportLoad_reported o (s.modCl fun l => l.ended o c (s.timer 600))
  unfold loadSensed loadEnded
  rw [forStartUnitSensing_eq]
  refine ⟨sends.now, sends.pins, sends.cl, congrArg BerthUnit.berth sends.bu, sends.dc, congrArg InterlockUnit.panelMarks sends.iu, ?_,
    fun u => ?_, reported.of_same rfl rfl rfl rfl⟩
  · exact freshCell_congr (congrArg Pins.wire sends.pins) sends.now
  · dsimp only
    rw [Quad.get_build, sends.su, sends.pins, sends.now]
    rfl

/-- The filters of the sensing just started are empty. -/
theorem LoadSensed.filters {o : LoadOutcome} {c : NodeConfig} {s x : State} (h : LoadSensed o c s x) : FiltersEmpty x := fun u conf => by
  rw [h.sensing u, if_pos conf]
  exact ⟨rfl, rfl⟩

/-- A configured unit takes its start state by the first test that holds (R118). -/
theorem LoadSensed.startState {o : LoadOutcome} {c : NodeConfig} {s x : State} (h : LoadSensed o c s x) {u : UnitNo} (conf : x.configured u = true) :
    x.startState u =
      if (s.pins.units.get u).handle then .manualReleased
      else if (s.dc.get u).isolationMark then .isolated
      else if (s.pins.units.get u).closed && (s.pins.units.get u).lockEngaged then .closedLocked
      else .unknown := by
  unfold State.startState State.closedAndEngaged
  rw [h.sensing u, if_pos conf, h.dc, h.pins]
  rfl

theorem startState_idle (s : State) (u : UnitNo) : (s.startState u).driven = false ∧ (s.startState u).energised = false := by
  unfold State.startState
  split
  · exact ⟨rfl, rfl⟩
  · split
    · exact ⟨rfl, rfl⟩
    · split <;> exact ⟨rfl, rfl⟩

theorem startChannel_mark (u : UnitNo) (s : State) : (startChannel u s).isolationMark = (s.dc.get u).isolationMark := by
  unfold startChannel
  split <;> rfl

/-- A channel as its reset left it only takes its start state. -/
theorem startChannel_reset {u : UnitNo} {s : State} {mark : Bool} (h : s.dc.get u = DoorChannel.reset mark) :
    startChannel u s = { s.dc.get u with st := s.startState u } := by
  obtain ⟨driven, energised⟩ := startState_idle s u
  unfold startChannel DoorChannel.into
  rw [h, driven, energised]
  split <;> rfl

theorem startedSensing_begun (pins : UnitPins) (now : Time) (x : UnitSensing) :
    (startedSensing pins now x).begun pins.edge now = startedSensing pins now x := rfl

/-- The units started, the captures not yet taken. -/
def loadUnits (o : LoadOutcome) (c : NodeConfig) (s : State) : State := forUnits startUnit (loadSensed o c s)

theorem driveLines_pins (s : State) : (driveLines s).pins = s.pins := rfl

theorem endLoad_units (o : LoadOutcome) (c : NodeConfig) (s : State) :
    endLoad o c s = driveLines (forUnits takeCaptures (loadUnits o c s)) := rfl

theorem enteredSensing_handles (old new : UnitState) (raw : Bool) (now : Time) (x : UnitSensing) :
    (enteredSensing old new raw now x).handle = x.handle ∧ (enteredSensing old new raw now x).panel = x.panel := by
  unfold enteredSensing
  split
  · exact ⟨rfl, rfl⟩
  · split <;> exact ⟨rfl, rfl⟩

/-- The units have started, each by itself. -/
structure UnitsStarted (x y : State) : Prop where
  quiet : StartQuiet x y
  wire : y.su.wire = x.su.wire
  units : ∀ u, x.configured u = true →
    y.dc.get u = startChannel u x ∧
      y.su.units.get u = enteredSensing (x.unit u) (x.startState u) (x.pins.units.get u).edge x.now (x.su.units.get u)
  others : ∀ u, x.configured u = false →
    y.dc.get u = { x.dc.get u with isolationMark := false } ∧ y.su.units.get u = x.su.units.get u

theorem forStartUnit_started {x : State} (h : FiltersEmpty x) : UnitsStarted x (forUnits startUnit x) where
  quiet := forStartUnit_quiet h
  wire := (forUnits_any startUnit_any x).1.wire
  units u conf := forStartUnit_configured conf (h u conf).2
  others _ conf := forStartUnit_other conf

theorem UnitsStarted.unit {x y : State} (h : UnitsStarted x y) {u : UnitNo} (conf : x.configured u = true) : y.unit u = x.startState u := by
  rw [State.unit, (h.units u conf).1, startChannel_st]

section

variable {o : LoadOutcome} {c : NodeConfig} {s x y z : State}

/-- The captures are what the handles and panels of configured units show. -/
theorem captures_shown (sensed : LoadSensed o c s x) (started : UnitsStarted x y) (k : FaultKind) (u : UnitNo) :
    foundHeld y k u = (x.configured u && if k = .handle then (s.pins.units.get u).handle else (s.pins.units.get u).panel) := by
  have conf : y.configured u = x.configured u := by rw [State.configured, started.quiet.cl]; rfl
  unfold foundHeld
  rw [conf]
  rcases e : x.configured u with _ | _
  · rfl
  · rw [(started.units u e).2, (enteredSensing_handles ..).1, (enteredSensing_handles ..).2, sensed.sensing u, if_pos e]
    rfl

theorem load_channels (sensed : LoadSensed o c s x) (started : UnitsStarted x y) {u : UnitNo} (conf : x.configured u = true) :
    (y.dc.get u).isolationMark = (s.dc.get u).isolationMark ∧
      (s.dc.get u = DoorChannel.reset (s.dc.get u).isolationMark → y.dc.get u = { s.dc.get u with st := y.unit u }) := by
  rw [started.unit conf, (started.units u conf).1, startChannel_mark, ← sensed.dc]
  exact ⟨rfl, startChannel_reset⟩

theorem load_runs (sensed : LoadSensed o c s x) (started : UnitsStarted x y) {u : UnitNo} (conf : x.configured u = true)
    (away : y.unit u ≠ .isolated) : y.su.units.get u = startedSensing (s.pins.units.get u) s.now (s.su.units.get u) := by
  rw [started.unit conf] at away
  rw [(started.units u conf).2, sensed.pins, sensed.now, sensed.sensing u, if_pos conf, enteredSensing]
  split
  · exact startedSensing_begun ..
  · rw [if_neg fun e => away e.2]

theorem load_rests (sensed : LoadSensed o c s x) (started : UnitsStarted x y) {u : UnitNo} (conf : x.configured u = true)
    (isolated : y.unit u = .isolated) (away : s.unit u ≠ .isolated) :
    y.su.units.get u = (startedSensing (s.pins.units.get u) s.now (s.su.units.get u)).rested := by
  rw [started.unit conf] at isolated
  have old : x.unit u ≠ .isolated := by rw [State.unit, sensed.dc]; exact away
  rw [(started.units u conf).2, sensed.sensing u, if_pos conf, enteredSensing, if_neg fun e => old e.1, if_pos ⟨old, isolated⟩]

theorem load_alerts (sensed : LoadSensed o c s x) (started : UnitsStarted x y) (captured : Captured (capturesFound y) y z)
    (room : s.lc.queue.length ≤ 8) {k : FaultKind} (capture : k = .handle ∨ k = .panel) (u : UnitNo) :
    z.frames .alert [captureCode k, byte u.val, s.seq] =
      s.frames .alert [captureCode k, byte u.val, s.seq] +
        if x.configured u && (if k = .handle then (s.pins.units.get u).handle else (s.pins.units.get u).panel) then 1 else 0 := by
  have queue : y.lc.queue = s.lc.queue := congrArg LineController.queue (started.quiet.lc.trans sensed.reported.lc)
  have seq : y.seq = s.seq := by rw [State.seq, State.seq, started.quiet.berth, sensed.berth]
  have sent := captured.sent.frames_room (k := .alert) (p := [captureCode k, byte u.val, s.seq])
    (by rw [queue, List.length_map]; have := capturesFound_length y; omega) (fun e => nomatch e)
  have before : y.frames .alert [captureCode k, byte u.val, s.seq] = s.frames .alert [captureCode k, byte u.val, s.seq] := by
    rw [frames_eq, frames_eq, queue]
  rw [sent, before, ← captures_shown sensed started, List.count, List.countP_map, seq]
  exact congrArg (_ + ·) (countP_capturesFound capture (fun k' v capture' => captureAlert_inj s.seq capture capture' u v) y)

theorem load_counter (sensed : LoadSensed o c s x) (started : UnitsStarted x y) (captured : Captured (capturesFound y) y z) (u : UnitNo) :
    z.fr.unitCounters.get u =
      if x.configured u && (s.pins.units.get u).handle then
        { s.fr.unitCounters.get u with handleReleases := (s.fr.unitCounters.get u).handleReleases.bump }
      else s.fr.unitCounters.get u := by
  have same : y.fr.unitCounters = s.fr.unitCounters := by rw [started.quiet.fr, sensed.reported.unitCounters]
  have count : (capturesFound y).count (.handle, u) = if foundHeld y .handle u then 1 else 0 :=
    countP_capturesFound (.inl rfl) (fun k' v _ => by rw [Bool.eq_iff_iff, beq_iff_eq, decide_eq_true_iff, Prod.mk.injEq]) y
  rw [captured.counted, same, count, captures_shown sensed started, if_pos rfl]
  split <;> rfl

theorem load_panels (sensed : LoadSensed o c s x) (started : UnitsStarted x y) (captured : Captured (capturesFound y) y z) (u : UnitNo) :
    z.iu.panelMarks.get u = (s.iu.panelMarks.get u || (x.configured u && (s.pins.units.get u).panel)) := by
  rw [captured.marked, started.quiet.panelMarks, sensed.marks]
  congr 1
  rw [Bool.eq_iff_iff, decide_eq_true_iff, capturesFound_mem (.inr rfl), captures_shown sensed started, if_neg (fun e => nomatch e)]

theorem load_minor (started : UnitsStarted x y) (captured : Captured (capturesFound y) y z) :
    z.fr.minor =
      match x.fr.minor, capturesFound y with
      | some r, _ => some r
      | none, [] => none
      | none, r :: _ => some ⟨r.1, some r.2, y.seq, y.now⟩ := by
  have fold := (slotRecorded_fold y.seq y.now y.fr.minor (capturesFound y) y.fr.kinds).1
  rw [← captured.recorded, started.quiet.fr] at fold
  exact fold

/-- Captures count where they do not fill the slot (R188). -/
theorem load_counted (sensed : LoadSensed o c s x) (started : UnitsStarted x y) (captured : Captured (capturesFound y) y z)
    (room : s.fr.kinds.length = 17) {k : FaultKind} (capture : k = .handle ∨ k = .panel) {n : Nat}
    (count : n = (UnitNo.all.filter (foundHeld y k)).length) :
    z.fr.kinds.getD k.index (Counter.zero 16) =
      Counter.bump^[if s.fr.minor = none ∧ z.fr.minor.map FaultRecord.kind = some k then n - 1 else n]
        (s.fr.kinds.getD k.index (Counter.zero 16)) := by
  have fold := (slotRecorded_fold y.seq y.now y.fr.minor (capturesFound y) y.fr.kinds).2 k (by rw [started.quiet.fr, sensed.reported.room, room])
  rw [← captured.recorded, started.quiet.fr, sensed.reported.kinds k capture, countP_capturesFound_kind capture, ← count] at fold
  refine fold.trans (congrArg (fun n => Counter.bump^[n] _) ?_)
  rcases e : s.fr.minor with _ | r
  · rcases sensed.reported.empty e with none | ⟨-, -, clamped⟩
    · rw [none]
    · have full : x.fr.minor ≠ Option.none := fun e => by rw [e] at clamped; cases clamped
      have kept : z.fr.minor = x.fr.minor := by
        rw [load_minor started captured]
        rcases e : x.fr.minor with _ | r
        · exact absurd e full
        · rfl
      have other : ¬ z.fr.minor.map FaultRecord.kind = some k := by
        rw [kept, clamped]
        rcases capture with rfl | rfl <;> exact fun e => nomatch e
      rw [if_neg fun c => full c.1, if_neg fun c => other c.2]
  · rw [sensed.reported.full r e]

/-- The stages of a load's end, put together. -/
theorem load_ended (sensed : LoadSensed o c s x) (started : UnitsStarted x y) (captured : Captured (capturesFound y) y z)
    (pins : z.pins = s.pins) (own : OwnReleaseFollows z) : LoadEnded s (driveLines z) := by
  have cl : z.cl = x.cl := captured.cl.trans started.quiet.cl
  have conf : ∀ u, (driveLines z).configured u = x.configured u := fun u => congrArg (fun l : Loader => decide (u.val < l.config.unitCount)) cl
  have unit : ∀ u, (driveLines z).unit u = y.unit u := fun u => congrArg (fun q => (Quad.get q u).st) captured.dc
  have shown := captures_shown sensed started
  have sensing : ∀ u, (driveLines z).su.units.get u = y.su.units.get u := fun u => congrArg (fun q : SensingUnit => q.units.get u) captured.su
  have channel : ∀ u, (driveLines z).dc.get u = y.dc.get u := fun u => congrArg (fun q => Quad.get q u) captured.dc
  have minor := load_minor started captured
  have seq : y.seq = s.seq := by rw [State.seq, State.seq, started.quiet.berth, sensed.berth]
  have now : y.now = s.now := started.quiet.now.trans sensed.now
  rw [seq, now] at minor
  refine ⟨captured.now.trans now, pins, fun u h => ?_, fun u h => ?_, fun u h => ?_, ?_, fun u h away => ?_, fun u h isolated away => ?_,
    fun u h => ?_, fun u => ?_, fun room u => ?_, fun empty unclamped => ?_, fun r full => ?_, fun room k held n which count => ?_, own⟩
  · rw [conf] at h
    rw [unit, started.unit h, sensed.startState h]
  · rw [conf] at h
    rw [unit, channel]
    exact load_channels sensed started h
  · rw [conf] at h
    obtain ⟨dc, su⟩ := started.others u h
    have counter := load_counter sensed started captured u
    rw [h] at counter
    refine ⟨by rw [channel, dc], by rw [sensing, su, sensed.sensing u, h]; rfl, counter⟩
  · exact (congrArg SensingUnit.wire captured.su).trans (started.wire.trans sensed.wire)
  · rw [conf] at h
    rw [unit] at away
    exact (sensing u).trans (load_runs sensed started h away)
  · rw [conf] at h
    rw [unit] at isolated
    exact (sensing u).trans (load_rests sensed started h isolated away)
  · rw [conf] at h
    have counter := load_counter sensed started captured u
    rw [h] at counter
    exact counter
  · rw [conf]
    exact load_panels sensed started captured u
  · rw [conf]
    exact ⟨load_alerts sensed started captured room (.inl rfl) u, load_alerts sensed started captured room (.inr rfl) u⟩
  · have none : x.fr.minor = none := by
      refine (sensed.reported.empty empty).resolve_right fun ⟨ok, tally, _⟩ => ?_
      have outcome : (driveLines z).cl.outcome = some o := by
        refine (congrArg Loader.outcome (cl.trans sensed.cl)).trans ?_
        unfold Loader.ended
        split <;> rfl
      exact absurd (unclamped o outcome ok) (by omega)
    rw [none] at minor
    refine ⟨fun quiet => ?_, fun ⟨u, h, held⟩ => ?_⟩
    · rcases e : capturesFound y with _ | ⟨r, l⟩
      · rw [e] at minor
        exact minor
      · have found := (mem_capturesFound (e ▸ List.mem_cons_self : r ∈ capturesFound y)).2
        rw [shown, Bool.and_eq_true] at found
        obtain ⟨handle, panel⟩ := quiet r.2 ((conf _).trans found.1)
        rw [handle, panel, ite_self] at found
        exact absurd found.2 Bool.false_ne_true
    · obtain ⟨k, m⟩ : ∃ k, (k, u) ∈ capturesFound y := by
        rw [conf] at h
        rcases held with held | held
        · exact ⟨.handle, (capturesFound_mem (.inl rfl)).2 (by rw [shown, h, if_pos rfl, held]; rfl)⟩
        · exact ⟨.panel, (capturesFound_mem (.inr rfl)).2 (by rw [shown, h, if_neg (fun e => nomatch e), held]; rfl)⟩
      rcases e : capturesFound y with _ | ⟨r, l⟩
      · rw [e] at m
        cases m
      · rw [e] at minor
        obtain ⟨capture, found⟩ := mem_capturesFound (e ▸ List.mem_cons_self : r ∈ capturesFound y)
        rw [shown, Bool.and_eq_true] at found
        obtain ⟨k, v⟩ := r
        refine ⟨v, (conf v).trans found.1, ?_⟩
        rcases capture with rfl | rfl
        · exact .inl ⟨found.2, minor⟩
        · exact .inr ⟨found.2, minor⟩
  · rw [sensed.reported.full r full] at minor
    exact minor
  · refine load_counted sensed started captured room (k := k) ?_ ?_
    · exact which.imp And.left And.left
    · rw [count]
      refine congrArg List.length (List.filter_congr fun u _ => ?_)
      rw [shown, conf]
      rcases which with ⟨rfl, rfl⟩ | ⟨rfl, rfl⟩ <;> rfl

end

/-- The end of a load whose configuration has a unit. -/
theorem endLoad_ended (o : LoadOutcome) {c : NodeConfig} (s : State) (count : 1 ≤ c.unitCount) : LoadEnded s (endLoad o c s) := by
  have sensed := loadSensed_of o c s
  have started := forStartUnit_started sensed.filters
  have first : (loadSensed o c s).configured .u0 = true := by
    have config : (loadSensed o c s).cl.config = c := by
      rw [sensed.cl, Loader.ended]
      split <;> rfl
    rw [State.configured, config]
    exact decide_eq_true count
  have own := forStartUnit_ownRelease first
  have pins : (endLoad o c s).pins = s.pins := (endLoad_keeps o c s).2.2
  rw [endLoad_units, driveLines_pins] at pins
  rw [endLoad_units]
  exact load_ended sensed started (forTakeCaptures_captured _) pins
    (moves_ownRelease (forUnits_moves (i := .configReadFail) takeCaptures_moves _) own)

/-! ### The ways a load ends (R2, R18) -/

theorem fallbackCount_pos (r : List Byte) (length : Nat) : 1 ≤ fallbackCount r length := by
  unfold fallbackCount
  split
  · next h =>
    rw [Bool.and_eq_true] at h
    exact (inRange_iff.1 h.2).1
  · decide

theorem RecordPasses.units_pos {r : List Byte} {own : Node} (h : RecordPasses r own) : 1 ≤ field1 r 6 :=
  Nat.not_lt.1 fun few => h.nodeField 6 (.inr (.inr (.inr (.inl ⟨rfl, .inl few⟩))))

theorem refuseLoad_ended (reason : LoadReason) (s : State) : LoadEnded s (refuseLoad reason s) := endLoad_ended _ s (by decide)

theorem takeRecord_ended (record : List Byte) (length : Nat) (s : State) : LoadEnded s (takeRecord record length s) := by
  by_cases ok : (judgeRecord record length s.cl.own).reason = .ok
  · rw [takeRecord_passes ok]
    exact endLoad_ended _ s (judgeRecord_ok ok).units_pos
  · rw [takeRecord_refused ok]
    exact endLoad_ended _ s (fallbackCount_pos record length)

/-- A failed read either ends the load or leaves it going on. -/
theorem failPass_ended {s : State} (loading : s.cl.phase = .loading) (ended : (failPass s).cl.phase ≠ .loading) : LoadEnded s (failPass s) := by
  rcases Nat.lt_or_ge s.cl.failures 2 with again | third
  · rw [failPass_again again] at ended
    exact absurd loading ended
  · rw [failPass_third third, ← refuseLoad_eq]
    exact refuseLoad_ended .link s

theorem takePass_ended {bytes : List Byte} {s : State} (loading : s.cl.phase = .loading) (ended : (takePass bytes s).cl.phase ≠ .loading) :
    LoadEnded s (takePass bytes s) := by
  unfold takePass at ended ⊢
  split
  · next short =>
    rw [if_pos short] at ended
    exact failPass_ended loading ended
  · next two =>
    rw [if_neg two] at ended
    split
    · exact refuseLoad_ended .length s
    · next range =>
      rw [if_neg range] at ended
      split
      · next short =>
        rw [if_pos short] at ended
        exact failPass_ended loading ended
      · exact takeRecord_ended ..

/-- Settles O10: every way to end a load goes through its end, whose stages are the units' sensing, their start states and the captures. -/
theorem startStates : Obligations.StartStates := by
  refine ⟨fun i s t which acts loading exec ended => ?_, fun i straps s bay => ⟨fun ⟨e, low⟩ => ?_, fun node => ?_⟩⟩
  · have reading := reading_of acts loading
    rcases which with ⟨bytes, rfl⟩ | rfl
    · have taken : Sys2Proof.Machine.exec (.configReadPassComplete bytes) s = .next (takePass bytes s) :=
        congrArg Host.Outcome.next (if_pos reading)
      obtain rfl := Host.Outcome.next.inj (exec.symm.trans taken)
      exact takePass_ended loading ended
    · obtain rfl := Host.Outcome.next.inj (exec.symm.trans (exec_readFail reading))
      exact failPass_ended loading ended
  · subst e
    refine ⟨_, (exec_powerOnReset low).trans (by rw [startLoading_refused bay rfl]), ?_⟩
    have ended := refuseLoad_ended .strap (powerOnValues straps s)
    unfold powerOnValues at ended
    rw [low] at ended
    unfold powerOnValues
    rw [low]
    exact ended
  · refine ⟨_, (exec_nodeReset node).trans (by rw [nodeReset_eq, startLoading_refused bay rfl]), ?_⟩
    have ended := refuseLoad_ended .strap (nodeRestart straps s)
    generalize refuseLoad .strap (nodeRestart straps s) = t at ended
    obtain ⟨h1, h2, h3, h4, h5, h6, h7, h8, h9, h10, h11, h12, h13, h14, h15⟩ := ended
    exact ⟨h1, h2, h3, h4, h5, h6, h7, h8, h9, h10, h11, h12, h13, h14, h15⟩

end Sys2Proof.Machine

/-! What a request to one unit leaves of another, and what the end of an event leaves of a unit that no close asks (chapters 7 and 9). -/

namespace Sys2Proof.Machine

variable {i : Instr}

/-! ### A unit beside the one that acts -/

/-- Unit `u` stands as the closes see it: channel, counters and sensing, and what its requests are judged by. -/
structure UnitStands (u : UnitNo) (a b : State) : Prop extends SameUnit u a b where
  counters : b.fr.unitCounters.get u = a.fr.unitCounters.get u
  latch : b.iu.latch = a.iu.latch

theorem UnitStands.refl (u : UnitNo) (s : State) : UnitStands u s s := ⟨.refl u s, rfl, rfl⟩

theorem UnitStands.trans {u : UnitNo} {a b c : State} (h : UnitStands u a b) (k : UnitStands u b c) : UnitStands u a c :=
  ⟨h.toSameUnit.trans k.toSameUnit, k.counters.trans h.counters, k.latch.trans h.latch⟩

theorem UnitStands.guard {u : UnitNo} {a b : State} {c : Prop} [Decidable c] {f : State → State} (h : UnitStands u a b)
    (k : UnitStands u b (f b)) : UnitStands u a (if c then f b else b) := by
  split
  · exact h.trans k
  · exact h

theorem UnitStands.unit {u : UnitNo} {a b : State} (h : UnitStands u a b) : b.unit u = a.unit u := congrArg DoorChannel.st h.dc

section

variable {u v : UnitNo} (h : v ≠ u)
include h

theorem moveUnit_stands (d : DoorChannel) (s : State) : UnitStands u s (moveUnit v d s) :=
  ⟨moveUnit_sameUnit h d s, by rw [moveUnit_unitCounters], (moveUnit_holds v d s).1.latch⟩

theorem setDc_stands (d : DoorChannel) (s : State) : UnitStands u s (s.setDc v d) :=
  ⟨⟨Quad.get_set_ne _ _ h, rfl, rfl, rfl, rfl⟩, rfl, rfl⟩

theorem modUnitCounters_stands (f : UnitCounters → UnitCounters) (s : State) : UnitStands u s (s.modUnitCounters v f) :=
  ⟨⟨rfl, rfl, rfl, rfl, rfl⟩, Quad.get_set_ne _ _ h, rfl⟩

omit h in
theorem report_stands (k : FaultKind) (sev : Severity) (w : Option UnitNo) (s : State) : UnitStands u s (report k sev w s) := by
  have e := report_sends k sev w s
  exact ⟨⟨by rw [e.dc], by rw [e.su], e.cl, e.pins, e.now⟩, by rw [report_unitCounters], by rw [e.iu]⟩

theorem enterFault_stands (k : FaultKind) (s : State) : UnitStands u s (enterFault k v s) :=
  (moveUnit_stands h _ s).trans (report_stands _ _ _ _)

theorem takeHeldDriveFault_stands (s : State) : UnitStands u s (takeHeldDriveFault v s) := by
  unfold takeHeldDriveFault
  exact (UnitStands.refl u s).guard (enterFault_stands h _ s)

theorem enterUnlocking_stands (s : State) : UnitStands u s (enterUnlocking v s) :=
  (moveUnit_stands h _ s).trans (takeHeldDriveFault_stands h _)

theorem reverseDone_stands (s : State) : UnitStands u s (reverseDone v s) := by
  unfold reverseDone
  split <;> exact moveUnit_stands h _ s

theorem enterReversing_stands (g : ReverseTarget) (s : State) : UnitStands u s (enterReversing g v s) := by
  rw [enterReversing_eq]
  exact (moveUnit_stands h _ s).guard (reverseDone_stands h _)

theorem reverseOnObstacle_stands (s : State) : UnitStands u s (reverseOnObstacle v s) :=
  (modUnitCounters_stands h _ s).trans (enterReversing_stands h _ _)

theorem enterClosing_stands (n : Nat) (s : State) : UnitStands u s (enterClosing n v s) := by
  rw [enterClosing_eq]
  exact (moveUnit_stands h _ s).guard (reverseOnObstacle_stands h _)

theorem countIgnored_stands (s : State) : UnitStands u s (countIgnored v s) := modUnitCounters_stands h _ s

theorem closeRequest_stands (s : State) : UnitStands u s (closeRequest v s) := by
  unfold closeRequest
  split
  case h_3 => exact setDc_stands h _ s
  case h_4 | h_8 => exact enterClosing_stands h 1 s
  case h_7 | h_16 => exact .refl u s
  all_goals exact countIgnored_stands h s

theorem openRequest_stands (s : State) : UnitStands u s (openRequest v s) := by
  unfold openRequest
  split
  case h_1 =>
    split
    · exact enterUnlocking_stands h s
    · exact countIgnored_stands h s
  case h_3 | h_6 => exact setDc_stands h _ s
  case h_5 => exact enterReversing_stands h _ s
  case h_7 => exact moveUnit_stands h _ s
  case h_4 | h_16 => exact .refl u s
  all_goals exact countIgnored_stands h s

theorem berthCloseRequest_stands (s : State) : UnitStands u s (berthCloseRequest v s) := by
  unfold berthCloseRequest
  split
  · exact .refl u s
  · exact closeRequest_stands h s

omit h in
theorem dropCovered_stands (w : UnitNo) (s : State) : UnitStands u s (dropCovered w s) := by
  unfold dropCovered
  split <;> exact ⟨⟨rfl, rfl, rfl, rfl, rfl⟩, rfl, rfl⟩

omit h in
theorem dropAccessMember_stands (w : UnitNo) (s : State) : UnitStands u s (dropAccessMember w s) := by
  unfold dropAccessMember
  split <;> exact ⟨⟨rfl, rfl, rfl, rfl, rfl⟩, rfl, rfl⟩

omit h in
theorem setCycle_stands (c : Option CloseCycle) (s : State) : UnitStands u s (s.setCycle c) := ⟨⟨rfl, rfl, rfl, rfl, rfl⟩, rfl, rfl⟩

omit h in
theorem modIu_stands {f : InterlockUnit → InterlockUnit} {s : State} (h : (f s.iu).latch = s.iu.latch) : UnitStands u s (s.modIu f) :=
  ⟨⟨rfl, rfl, rfl, rfl, rfl⟩, rfl, h⟩

theorem judgeMember_stands (s : State) : UnitStands u s (judgeMember v s) := by
  unfold judgeMember
  split
  · exact .refl u s
  · split
    · exact .refl u s
    · split
      · exact (setCycle_stands _ s).trans (berthCloseRequest_stands h _)
      · exact .refl u s

theorem judgeCovered_stands (s : State) : UnitStands u s (judgeCovered v s) := by
  unfold judgeCovered
  split
  · exact .refl u s
  · exact (UnitStands.refl u s).guard (f := fun s => berthCloseRequest v (dropCovered v s))
      ((dropCovered_stands v s).trans (berthCloseRequest_stands h _))

theorem judgeEmergencyMember_stands (s : State) : UnitStands u s (judgeEmergencyMember v s) := by
  unfold judgeEmergencyMember
  split
  · exact .refl u s
  · split
    · split
      · exact (modIu_stands (s := s) rfl).trans (closeRequest_stands h _)
      · exact .refl u s
    · exact .refl u s

theorem judgeAccessMember_stands (s : State) : UnitStands u s (judgeAccessMember v s) := by
  unfold judgeAccessMember
  split
  · exact .refl u s
  · split
    · exact .refl u s
    · exact (UnitStands.refl u s).guard (f := fun s => closeRequest v (dropAccessMember v s))
        ((dropAccessMember_stands v s).trans (closeRequest_stands h _))

end

/-! ### The end of an event -/

/-- A unit's channel and counters, which the completion of a close leaves. -/
structure ChannelStands (u : UnitNo) (a b : State) : Prop where
  dc : b.dc.get u = a.dc.get u
  counters : b.fr.unitCounters.get u = a.fr.unitCounters.get u

theorem UnitStands.channel {u : UnitNo} {a b : State} (h : UnitStands u a b) : ChannelStands u a b := ⟨h.dc, h.counters⟩

theorem ChannelStands.refl (u : UnitNo) (s : State) : ChannelStands u s s := ⟨rfl, rfl⟩

theorem ChannelStands.trans {u : UnitNo} {a b c : State} (h : ChannelStands u a b) (k : ChannelStands u b c) : ChannelStands u a c :=
  ⟨k.dc.trans h.dc, k.counters.trans h.counters⟩

theorem ChannelStands.unit {u : UnitNo} {a b : State} (h : ChannelStands u a b) : b.unit u = a.unit u := congrArg DoorChannel.st h.dc

theorem intrusionToTrap_unitCounters (u : UnitNo) (s : State) : (intrusionToTrap u s).fr.unitCounters = s.fr.unitCounters := by
  unfold intrusionToTrap
  split
  · exact raiseTrap_unitCounters u s
  · rfl

theorem forUnits_keeps {α : Type} (view : State → α) {f : UnitNo → State → State} (h : ∀ u s, view (f u s) = view s) (s : State) :
    view (forUnits f s) = view s := (h .u3 _).trans ((h .u2 _).trans ((h .u1 _).trans (h .u0 s)))

theorem setBerthState_unitCounters (b : BerthState) (s : State) : (setBerthState b s).fr.unitCounters = s.fr.unitCounters := by
  unfold setBerthState
  dsimp only
  split
  · rfl
  · exact forUnits_keeps (fun s => s.fr.unitCounters) intrusionToTrap_unitCounters _

theorem endCycle_unitCounters (ends : Bool) (s : State) : (endCycle ends s).fr.unitCounters = s.fr.unitCounters := by
  unfold endCycle
  split
  · rfl
  · exact foldl_sendHold_unitCounters _ 2 _

theorem secure_channel (u : UnitNo) (s : State) : ChannelStands u s (setBerthState .secured (endCycle true s)) :=
  ⟨by rw [setBerthState_dc, endCycle_dc], by rw [setBerthState_unitCounters, endCycle_unitCounters]⟩

theorem completeCycle_channel (u : UnitNo) (s : State) : ChannelStands u s (completeCycle s) := by
  unfold completeCycle
  split
  · exact .refl u s
  · split
    · exact secure_channel u s
    · exact .refl u s

theorem completeEmergency_channel (u : UnitNo) (s : State) : ChannelStands u s (completeEmergency s) := by
  unfold completeEmergency
  split
  · exact .refl u s
  · split
    · refine ChannelStands.trans (b := s.modIu fun i => { i with emergencyClose := none }) ⟨rfl, rfl⟩ ?_
      unfold emergencyNotice
      split
      · exact secure_channel u _
      · exact secure_channel u _
      · exact .refl u _
    · exact .refl u s

theorem sendBeacon_channel (u : UnitNo) (s : State) : ChannelStands u s (sendBeacon s) :=
  ⟨by rw [(sendBeacon_sends s).dc], by
    show (enqueue .beacon (beaconBytes s.summary) s).fr.unitCounters.get u = _
    rw [enqueue_unitCounters]⟩

theorem finish_channel (u : UnitNo) (s : State) : ChannelStands u s (finish s) := by
  refine ChannelStands.trans (b := driveLines s) ⟨rfl, rfl⟩ ?_
  unfold finish changeBeacon
  split
  · split
    · exact sendBeacon_channel u _
    · exact ⟨rfl, rfl⟩
  · exact .refl u _

/-- What follows the judging leaves every unit's channel and counters. -/
theorem settle_channel (u : UnitNo) (s0 s : State) :
    ChannelStands u (forUnits judgeAccessMember (forUnits judgeEmergencyMember (forUnits judgeCovered (forUnits judgeMember s))))
      (settle s0 s) := by
  have completed := (completeCycle_channel u _).trans (completeEmergency_channel u (completeCycle
    (forUnits judgeAccessMember (forUnits judgeEmergencyMember (forUnits judgeCovered (forUnits judgeMember s))))))
  rw [settle_eq]
  refine ChannelStands.trans (b := settleCloses s) completed (ChannelStands.trans ?_ (finish_channel u _))
  rw [judged_eq]
  exact ⟨rfl, rfl⟩

/-! ### A unit that no close asks -/

/-- A judge that leaves unit `u` alone where it stands in a state of `st` leaves it among the four. -/
theorem forUnits_stands {f : UnitNo → State → State} {u : UnitNo} (others : ∀ v s, v ≠ u → UnitStands u s (f v s)) {p : UnitState → Prop}
    (rests : ∀ s, p (s.unit u) → f u s = s) {s : State} (h : p (s.unit u)) : UnitStands u s (forUnits f s) := by
  obtain ⟨m, before, behind⟩ := forUnits_at (UnitStands.refl u) UnitStands.trans u others s
  rw [rests m (before.unit.symm ▸ h)] at behind
  exact before.trans behind

theorem judgeMember_rests {u : UnitNo} {s : State} (h : s.unit u ≠ .opened ∧ s.unit u ≠ .heldOpen) : judgeMember u s = s := by
  have bound : ∀ c w, s.memberFree c u w = false := fun c w => by
    rw [State.memberFree, beq_eq_false_iff_ne.2 h.1, beq_eq_false_iff_ne.2 h.2]
    rfl
  unfold judgeMember
  split
  · rfl
  · split
    · rfl
    · rw [bound, Bool.and_false, if_neg Bool.false_ne_true]

theorem judgeCovered_rests {u : UnitNo} {s : State} (h : (s.unit u).closable = false) : judgeCovered u s = s := by
  unfold judgeCovered
  split
  · rfl
  · rw [h, Bool.and_false, Bool.false_and, if_neg Bool.false_ne_true]

theorem judgeEmergencyMember_rests {u : UnitNo} {s : State} (h : (s.unit u).turning = true) : judgeEmergencyMember u s = s := by
  unfold judgeEmergencyMember
  split
  · rfl
  · split
    · rw [h, Bool.not_true, Bool.false_and, if_neg Bool.false_ne_true]
    · rfl

theorem judgeAccessMember_rests {u : UnitNo} {s : State} (h : (s.unit u).closable = false) : judgeAccessMember u s = s := by
  unfold judgeAccessMember
  split
  · rfl
  · split
    · rfl
    · rw [h, Bool.and_false, Bool.false_and, if_neg Bool.false_ne_true]

theorem UnitState.turning_rests {st : UnitState} (h : st.turning = true) : (st ≠ .opened ∧ st ≠ .heldOpen) ∧ st.closable = false := by
  cases st <;> first | exact absurd h Bool.false_ne_true | exact ⟨⟨(fun e => nomatch e), fun e => nomatch e⟩, rfl⟩

/-- A unit that unlocks, reverses or waits to close again is asked by no close as an event ends. -/
theorem settle_turning {u : UnitNo} (s0 : State) {s : State} (h : (s.unit u).turning = true) : ChannelStands u s (settle s0 s) := by
  have one := forUnits_stands (p := fun st => st.turning = true) (fun v s ne => judgeMember_stands ne s)
    (fun s t => judgeMember_rests (UnitState.turning_rests t).1) h
  have two := one.trans (forUnits_stands (p := fun st => st.turning = true) (fun v s ne => judgeCovered_stands ne s)
    (fun s t => judgeCovered_rests (UnitState.turning_rests t).2) (one.unit.symm ▸ h))
  have three := two.trans (forUnits_stands (p := fun st => st.turning = true) (fun v s ne => judgeEmergencyMember_stands ne s)
    (fun s t => judgeEmergencyMember_rests t) (two.unit.symm ▸ h))
  have four := three.trans (forUnits_stands (p := fun st => st.turning = true) (fun v s ne => judgeAccessMember_stands ne s)
    (fun s t => judgeAccessMember_rests (UnitState.turning_rests t).2) (three.unit.symm ▸ h))
  exact four.channel.trans (settle_channel u s0 s)

/-- A unit in a state that no close request moves keeps its channel as an event ends. -/
theorem settle_unmoved {u : UnitNo} (s0 : State) {s : State} (h : (s.unit u).closable = false) : (settle s0 s).dc.get u = s.dc.get u := by
  rcases (settle_ends s0 s).1.doors u rfl with same | ⟨opening, -⟩ | ⟨standing, -⟩
  · exact same
  · rw [State.unit, opening] at h
    cases h
  · rcases standing with e | e <;> (rw [State.unit, e] at h; cases h)

end Sys2Proof.Machine

/-! The Door Channels' entries as an event leaves them, and the faults, pauses, samples and periods (chapter 7). -/

namespace Sys2Proof.Machine

variable {i : Instr} {u : UnitNo} {s : State}

/-! ### Delivery -/

theorem onUnit_active (h : s.active u = true) (g : State → State) : onUnit u g s = settle s (g s) := if_pos h

theorem onUnitIn_at {st : UnitState} (h : s.active u = true) (at_ : s.unit u = st) (g : State → State) : onUnitIn u st g s = settle s (g s) :=
  if_pos (by rw [h, at_, beq_self_eq_true]; rfl)

theorem onUnitTimer_at {runs : UnitState → Bool} {timer : DoorChannel → Option Time} {e : Time} (h : s.active u = true)
    (at_ : runs (s.unit u) = true) (runs' : timer (s.dc.get u) = some e) (g : State → State) :
    onUnitTimer u runs timer g s = settle (s.reach e) (g (s.reach e)) := by
  unfold onUnitTimer onExpiry
  rw [h, at_, runs']
  rfl

theorem Ends.settled {a b : State} (h : Ends a b) (s0 : State) : Ends a (settle s0 b) := h.trans (settle_ends s0 b)

theorem settled_keeps {a b : State} (h : Holds (only u) a b) (s0 : State) : Holds (only u) a (settle s0 b) :=
  h.trans ⟨(settle_ends s0 b).1.weaken, (settle_ends s0 b).2⟩

/-- The frame looks neither at outputs nor at anything the contact's evaluation moves. -/
theorem evalContact_ends (s : State) : Ends s (evalContact s) :=
  ⟨⟨{ Leaves.refl noUnit s with }, fun _ _ _ => rfl⟩, rfl, rfl⟩

theorem Quad.set_set {α : Type} (q : Quad α) (u : UnitNo) (x y : α) : (q.set u x).set u y = q.set u y := by
  cases u <;> rfl

theorem setDc_setDc (u : UnitNo) (d e : DoorChannel) (s : State) : (s.setDc u d).setDc u e = s.setDc u e := by
  unfold State.setDc
  dsimp only
  rw [Quad.set_set]

theorem setDc_channel (u : UnitNo) (d : DoorChannel) (s : State) : (s.setDc u d).dc.get u = d := Quad.get_set_self ..

theorem setDc_sensed (u v : UnitNo) (d : DoorChannel) (s : State) : (s.setDc u d).obstructed v = s.obstructed v := rfl

theorem moveUnit_channel (u : UnitNo) (d : DoorChannel) (s : State) : (moveUnit u d s).dc.get u = d := by
  rw [moveUnit_dc]
  exact Quad.get_set_self ..

/-! ### What hangs on the entry to a state out of hands -/

theorem dropCovered_iu (u : UnitNo) (s : State) : (dropCovered u s).iu = s.iu := by
  unfold dropCovered
  split <;> rfl

theorem clearAccess_mark (u : UnitNo) (s : State) : (clearAccess u s).iu.accessMarks.get u = false := by
  have dropped : ∀ x, (dropAccessMember u x).iu.accessMarks = x.iu.accessMarks := fun x => by
    unfold dropAccessMember
    split <;> rfl
  unfold clearAccess
  split
  · rw [dropped]
    exact Quad.get_set_self ..
  · next h => exact Bool.eq_false_iff.2 h

theorem dropped_ae (u : UnitNo) (s : State) : (dropCovered u (clearAccess u s)).ae = s.ae := by
  have dropped : ∀ x, (dropAccessMember u x).ae = x.ae := fun x => by
    unfold dropAccessMember
    split <;> rfl
  have cleared : (clearAccess u s).ae = s.ae := by
    unfold clearAccess
    split
    · exact dropped _
    · rfl
  unfold dropCovered
  split
  · exact cleared
  · exact cleared

theorem checkAlarm_iu_ae (u : UnitNo) (s : State) : (checkAlarm u s).iu = s.iu ∧ (checkAlarm u s).ae = s.ae := by
  have raised : ∀ (k : AlertKind) (r : FaultKind) (sev : Severity) (x : State),
      (alert k (some u) (report r sev (some u) x)).iu = x.iu ∧ (alert k (some u) (report r sev (some u) x)).ae = x.ae := fun k r sev x =>
    ⟨(alert_sends ..).iu.trans (report_sends ..).iu, (alert_sends ..).ae.trans (report_sends ..).ae⟩
  unfold checkAlarm
  split
  · split
    · exact raised _ _ _ (setAlarm u .intrusion s)
    · exact raised _ _ _ (setAlarm u .trap s)
  · exact ⟨rfl, rfl⟩

/-- The entry to a state out of hands clears the access-open mark (R183). -/
theorem moveUnit_mark {d : DoorChannel} (h : d.st.outOfHands = true) (s : State) : (moveUnit u d s).iu.accessMarks.get u = false := by
  rw [moveUnit_eq, (checkAlarm_iu_ae u _).1]
  unfold hangs
  dsimp only
  rw [if_pos h, dropCovered_iu]
  exact clearAccess_mark u _

/-- The entry to ISOLATED or FAULT empties the reading run (R105). -/
theorem moveUnit_run {d : DoorChannel} (h : d.st = .isolated ∨ d.st = .fault) (s : State) : ((moveUnit u d s).ae.searches.get u).run = [] := by
  have out : d.st.outOfHands = true := by rcases h with e | e <;> rw [e] <;> rfl
  have empties : (d.st == .isolated || d.st == .fault) = true := by rcases h with e | e <;> rw [e] <;> rfl
  rw [moveUnit_eq, (checkAlarm_iu_ae u _).2]
  unfold hangs
  dsimp only
  rw [if_pos out, dropped_ae, if_pos empties]
  exact congrArg Search.run (Quad.get_set_self ..)

/-- An entry that brings no sensing to rest and raises no alarm sends and reports nothing. -/
theorem moveUnit_silent {d : DoorChannel} (h : d.st ≠ .isolated) (h1 : d.st ≠ .closedLocked) (s : State) :
    (moveUnit u d s).fr = s.fr ∧ (moveUnit u d s).lc = s.lc ∧ (moveUnit u d s).bu.berth = s.bu.berth := by
  have view : ∀ x : State, x.fr = s.fr ∧ x.lc = s.lc ∧ x.bu.berth = s.bu.berth → (x.fr, x.lc, x.bu.berth) = (s.fr, s.lc, s.bu.berth) :=
    fun x e => by rw [e.1, e.2.1, e.2.2]
  have last : ∀ x, ((dropCovered u (clearAccess u x)).fr, (dropCovered u (clearAccess u x)).lc, (dropCovered u (clearAccess u x)).bu.berth) =
      (x.fr, x.lc, x.bu.berth) := fun x => by
    have dropped : ∀ x, (dropAccessMember u x).lc = x.lc ∧ (dropAccessMember u x).bu.berth = x.bu.berth := fun x => by
      unfold dropAccessMember
      split <;> exact ⟨rfl, rfl⟩
    have cleared : (clearAccess u x).lc = x.lc ∧ (clearAccess u x).bu.berth = x.bu.berth := by
      unfold clearAccess
      split
      · exact dropped _
      · exact ⟨rfl, rfl⟩
    have covered : ∀ x, (dropCovered u x).lc = x.lc ∧ (dropCovered u x).bu.berth = x.bu.berth := fun x => by
      unfold dropCovered
      split <;> exact ⟨rfl, rfl⟩
    rw [dropCovered_fr, clearAccess_fr, (covered _).1, (covered _).2, cleared.1, cleared.2]
  have whole : ((moveUnit u d s).fr, (moveUnit u d s).lc, (moveUnit u d s).bu.berth) = (s.fr, s.lc, s.bu.berth) := by
    rw [moveUnit_noAlarm (.inl h1)]
    unfold hangs
    dsimp only
    rw [beq_eq_false_iff_ne.2 h, Bool.and_false, if_neg Bool.false_ne_true]
    refine (guard_keeps (fun x => (x.fr, x.lc, x.bu.berth)) (f := fun x => dropCovered u (clearAccess u x)) (last _)).trans
      ((guard_keeps (fun x => (x.fr, x.lc, x.bu.berth)) (f := emptyRun u) rfl).trans
        ((guard_keeps (fun x => (x.fr, x.lc, x.bu.berth)) (f := startSensing u) rfl).trans rfl))
  simpa only [Prod.mk.injEq] using whole

/-! ### The entry to FAULT (R116, R133, R134) -/

/-- Unit `u` has come to FAULT for `kind` out of `x`: outputs off, timers stopped, reported with the severity its switches give. -/
structure FaultEntered (kind : FaultKind) (u : UnitNo) (x t : State) : Prop where
  channel : t.dc.get u = { (x.dc.get u).into .fault with attempt := 0 }
  mark : t.iu.accessMarks.get u = false
  run : (t.ae.searches.get u).run = []
  reported : Reported (kind.unitSeverity (x.closedAndEngaged u)) ⟨kind, some u, x.seq, x.now⟩ x.fr t.fr
  now : t.now = x.now
  pins : t.pins = x.pins
  keeps : Keeps (only u) x t

theorem enterFault_entered {kind : FaultKind} (h : kind ≠ .trap) (u : UnitNo) (x s0 : State) :
    FaultEntered kind u x (settle s0 (enterFault kind u x)) := by
  have ends := settle_ends s0 (enterFault kind u x)
  have sends := report_sends kind (kind.unitSeverity (x.closedAndEngaged u)) (some u) (moveUnit u { (x.dc.get u).into .fault with attempt := 0 } x)
  have whole := settled_keeps (enterFault_holds kind u x) s0
  have silent := moveUnit_silent (u := u) (d := { (x.dc.get u).into .fault with attempt := 0 }) (fun e => nomatch e) (fun e => nomatch e) x
  have channel : (enterFault kind u x).dc.get u = { (x.dc.get u).into .fault with attempt := 0 } := by
    rw [enterFault, sends.dc, moveUnit_channel]
  refine ⟨?_, ?_, ?_, ?_, whole.2.1, whole.2.2, whole.1⟩
  · rw [settle_unmoved s0 (by rw [State.unit, channel]; rfl), channel]
  · rw [ends.1.accessMarks u rfl, enterFault, sends.iu]
    exact moveUnit_mark rfl x
  · rw [ends.1.runs u rfl, enterFault, sends.ae]
    exact moveUnit_run (.inr rfl) x
  · have made := report_reported kind (kind.unitSeverity (x.closedAndEngaged u)) (some u) (moveUnit u { (x.dc.get u).into .fault with attempt := 0 } x)
    have seq : (moveUnit u { (x.dc.get u).into .fault with attempt := 0 } x).seq = x.seq := by rw [State.seq, silent.2.2]; rfl
    rw [seq, (moveUnit_holds u _ x).2.1, silent.1] at made
    exact made.settled h

/-! ### The turn on an obstacle (R128, R129) -/

theorem moveUnit_remaining (u : UnitNo) (d : DoorChannel) (s : State) :
    (moveUnit u d s).remainingOpen u = ((s.cl.config.units.get u).travel : Int) - d.position := by
  rw [State.remainingOpen, moveUnit_channel, (moveUnit_holds u d s).1.cl]

theorem enterReversing_short {g : ReverseTarget} {y : State} (h : 0 < y.remainingOpen u) :
    enterReversing g u y = moveUnit u (reversingTo g u y) y := by
  rw [enterReversing_eq, if_neg]
  rw [moveUnit_remaining]
  exact not_le.2 h

theorem enterReversing_full {g : ReverseTarget} {y : State} (h : y.remainingOpen u ≤ 0) :
    enterReversing g u y = reverseDone u (moveUnit u (reversingTo g u y) y) := by
  rw [enterReversing_eq, if_pos]
  rw [moveUnit_remaining]
  exact h

theorem enterReopenWait_channel (u : UnitNo) (y : State) :
    (enterReopenWait u y).dc.get u =
      { (y.dc.get u).into .reopenWait with pauseTimer := some (after y.now y.cl.config.params.reopenPause) } :=
  moveUnit_channel u _ y

/-- A unit that has passed straight through REVERSING waits to close again. -/
theorem reverseDone_wait {y : State} (h : (y.dc.get u).target = .reopenWait) : reverseDone u y = enterReopenWait u y := by
  rw [reverseDone, h]

theorem reverseDone_open {y : State} (h : (y.dc.get u).target = .opened) : reverseDone u y = standOpen u y := by
  rw [reverseDone, h]

/-- The channel of a unit that turns in REVERSING toward REOPEN_WAIT, or at full travel already waits there. -/
theorem enterReversing_wait (u : UnitNo) (y : State) :
    ((y.dc.get u).position < (y.cl.config.units.get u).travel → (enterReversing .reopenWait u y).dc.get u = reversingTo .reopenWait u y) ∧
    (((y.cl.config.units.get u).travel : Int) ≤ (y.dc.get u).position →
      (enterReversing .reopenWait u y).dc.get u =
        { (y.dc.get u).into .reopenWait with
          target := .reopenWait, stallCount := 0, stallRef := (y.dc.get u).position
          pauseTimer := some (after y.now y.cl.config.params.reopenPause) }) := by
  refine ⟨fun short => ?_, fun full => ?_⟩
  · rw [enterReversing_short (by rw [State.remainingOpen]; omega), moveUnit_channel]
  · have moved := moveUnit_holds u (reversingTo .reopenWait u y) y
    rw [enterReversing_full (by rw [State.remainingOpen]; omega), reverseDone_wait (by rw [moveUnit_channel]; rfl), enterReopenWait_channel,
      moveUnit_channel, moved.2.1, moved.1.cl]
    rfl

/-- The channel that an obstacle in CLOSING leaves, before the event ends. -/
theorem reverseOnObstacle_channel (u : UnitNo) (x : State) :
    ((x.dc.get u).position < (x.cl.config.units.get u).travel →
      (reverseOnObstacle u x).dc.get u =
        { (x.dc.get u).into .reversing with
          phase := .accelerate, setpoint := (x.dc.get u).setpoint, target := .reopenWait, stallCount := 0
          stallRef := (x.dc.get u).position, travelTimer := some (after x.now x.cl.config.params.travelTimeout)
          stallTimer := some (after x.now 300) }) ∧
    (((x.cl.config.units.get u).travel : Int) ≤ (x.dc.get u).position →
      (reverseOnObstacle u x).dc.get u =
        { (x.dc.get u).into .reopenWait with
          target := .reopenWait, stallCount := 0, stallRef := (x.dc.get u).position
          pauseTimer := some (after x.now x.cl.config.params.reopenPause) }) :=
  enterReversing_wait u (x.modUnitCounters u fun c => { c with reversals := c.reversals.bump })

theorem reverseOnObstacle_counted (u : UnitNo) (x : State) :
    (reverseOnObstacle u x).fr.unitCounters.get u =
      { x.fr.unitCounters.get u with reversals := (x.fr.unitCounters.get u).reversals.bump } := by
  have done : ∀ y, (reverseDone u y).fr.unitCounters = y.fr.unitCounters := fun y => by
    unfold reverseDone
    split <;> exact moveUnit_unitCounters ..
  unfold reverseOnObstacle
  rw [enterReversing_eq]
  split
  · rw [done, moveUnit_unitCounters]
    exact Quad.get_set_self ..
  · rw [moveUnit_unitCounters]
    exact Quad.get_set_self ..

/-- A unit in CLOSING with the channel `x` holds has turned by the end of the event. -/
theorem obstacle_reversed {x : State} (s0 : State) (cl : x.cl = s.cl) (counters : x.fr.unitCounters.get u = s.fr.unitCounters.get u) :
    Reversed (x.dc.get u) s (settle s0 (reverseOnObstacle u x)) u := by
  obtain ⟨turns, passes⟩ := reverseOnObstacle_channel u x
  have turned : ((reverseOnObstacle u x).unit u).turning = true := by
    rw [State.unit]
    rcases lt_or_ge (x.dc.get u).position ((x.cl.config.units.get u).travel : Int) with short | full
    · rw [turns short]
      rfl
    · rw [passes full]
      rfl
  have stands := settle_turning s0 turned
  have now : (settle s0 (reverseOnObstacle u x)).now = x.now := (settled_keeps (reverseOnObstacle_holds u x) s0).2.1
  refine ⟨?_, fun short => ?_, fun full => ?_⟩
  · rw [stands.counters, reverseOnObstacle_counted, counters]
  · rw [stands.dc, now, ← cl, turns (by rw [cl]; exact short)]
  · rw [stands.dc, now, ← cl, passes (by rw [cl]; exact full)]

/-! ### The entry to CLOSING (R127, R128) -/

theorem moveUnit_obstructed {d : DoorChannel} (h : s.unit u ≠ .isolated) (h1 : d.st.outOfHands = false) :
    (moveUnit u d s).obstructed u = s.obstructed u := by
  rw [moveUnit_plain h h1]
  rfl

theorem enterClosing_clear {n : Nat} (h : s.unit u ≠ .isolated) (free : s.obstructed u = false) :
    enterClosing n u s = moveUnit u (closingIn n u s) s := by
  rw [enterClosing_eq, moveUnit_obstructed h rfl, free, if_neg Bool.false_ne_true]

theorem enterClosing_obstructed {n : Nat} (h : s.unit u ≠ .isolated) (obstructed : s.obstructed u = true) :
    enterClosing n u s = reverseOnObstacle u (moveUnit u (closingIn n u s) s) := by
  rw [enterClosing_eq, moveUnit_obstructed h rfl, obstructed, if_pos rfl]

/-- A unit that meets the obstacle as it enters CLOSING has turned by the end of the event. -/
theorem enterClosing_reversed {n : Nat} {x : State} (s0 : State) (h : x.unit u ≠ .isolated) (obstructed : x.obstructed u = true) (cl : x.cl = s.cl)
    (counters : x.fr.unitCounters.get u = s.fr.unitCounters.get u) :
    Reversed (closingIn n u x) s (settle s0 (enterClosing n u x)) u := by
  rw [enterClosing_obstructed h obstructed]
  have turned := obstacle_reversed (s := s) (u := u) (x := moveUnit u (closingIn n u x) x) s0 ((moveUnit_holds u _ x).1.cl.trans cl)
    (by rw [moveUnit_unitCounters, counters])
  rw [moveUnit_channel] at turned
  exact turned

end Sys2Proof.Machine

/-! Faults of the Door Channels, pauses, stalls and obstacles, and control samples (sections 7.5 to 7.8). -/

namespace Sys2Proof.Machine

variable {i : Instr} {u : UnitNo} {s : State}

/-! ### The entry to FAULT -/

theorem reach_closedAndEngaged (e : Time) (u : UnitNo) (s : State) : (s.reach e).closedAndEngaged u = s.closedAndEngaged u := by
  rw [State.closedAndEngaged, reach_pins]
  rfl

theorem unitSeverity_eq {kind : FaultKind}
    (h : kind = .lockFault ∨ kind = .travelIncomplete ∨ kind = .homeFail ∨ kind = .driveFault) (secure : Bool) :
    kind.unitSeverity secure =
      if (kind = .travelIncomplete ∨ kind = .driveFault) ∧ secure = true then .minor else .severe := by
  rcases h with rfl | rfl | rfl | rfl <;> cases secure <;> rfl

theorem exec_unitTimer {runs : UnitState → Bool} {timer : DoorChannel → Option Time} {g : State → State} {e : Time}
    (exec : Sys2Proof.Machine.exec i s = .next (onUnitTimer u runs timer g s)) (active : s.active u = true) (at_ : runs (s.unit u) = true)
    (runs' : timer (s.dc.get u) = some e) : Sys2Proof.Machine.exec i s = .next (settle (s.reach e) (g (s.reach e))) := by
  rw [exec, onUnitTimer_at active at_ runs']

theorem exec_driveFaultTaken (active : s.active u = true) (enable : (s.dc.get u).enable = true) (fault : s.driveFault u = true) :
    Sys2Proof.Machine.exec (.driveFaultTaken u) s = .next (settle s (enterFault .driveFault u s)) := by
  show Host.Outcome.next (if (s.dc.get u).enable then onUnit u (takeDriveFault u) s else s) = _
  rw [if_pos enable, onUnit_active active, takeDriveFault, if_pos fault]

/-- Settles O45: each of the five events is the entry to FAULT, whose severity the switches give. -/
theorem unitsFault : Obligations.UnitsFault := by
  intro u i kind s s' active which
  obtain ⟨kinds, exec, seq, secure, fr, pins⟩ : (kind = .lockFault ∨ kind = .travelIncomplete ∨ kind = .homeFail ∨ kind = .driveFault) ∧
      Sys2Proof.Machine.exec i s = .next (settle s' (enterFault kind u s')) ∧ s'.seq = s.seq ∧
      s'.closedAndEngaged u = s.closedAndEngaged u ∧ s'.fr = s.fr ∧ s'.pins = s.pins ∧ s'.dc = s.dc := by
    rcases which with ⟨e, rfl, ⟨rfl, at_, runs, rfl⟩ | ⟨rfl, at_, runs, rfl⟩ | ⟨rfl, at_, runs, rfl⟩ | ⟨rfl, at_, runs, rfl⟩⟩ |
      ⟨rfl, enable, fault, rfl, rfl⟩
    · exact ⟨.inl rfl, exec_unitTimer (runs := fun st => st == .locking) rfl active (beq_iff_eq.2 at_) runs, reach_seq .., reach_closedAndEngaged .., reach_fr .., reach_pins .., reach_dc ..⟩
    · exact ⟨.inl rfl, exec_unitTimer (runs := fun st => st == .closedLocked) rfl active (beq_iff_eq.2 at_) runs, reach_seq .., reach_closedAndEngaged .., reach_fr .., reach_pins .., reach_dc ..⟩
    · refine ⟨.inr (.inl rfl), exec_unitTimer (runs := UnitState.travels) rfl active ?_ runs, reach_seq .., reach_closedAndEngaged .., reach_fr .., reach_pins .., reach_dc ..⟩
      rcases at_ with at_ | at_ | at_ <;> rw [at_] <;> rfl
    · exact ⟨.inr (.inr (.inl rfl)), exec_unitTimer (runs := fun st => st == .homing) rfl active (beq_iff_eq.2 at_) runs, reach_seq ..,
        reach_closedAndEngaged .., reach_fr .., reach_pins .., reach_dc ..⟩
    · exact ⟨.inr (.inr (.inr rfl)), exec_driveFaultTaken active enable fault, rfl, rfl, rfl, rfl, rfl⟩
  have fault := enterFault_entered (kind := kind) (fun e => by rcases kinds with k | k | k | k <;> (rw [k] at e; cases e)) u s' s'
  refine ⟨_, exec, ?_, fault.mark, fault.run, fun sev which => ?_, fault.now, fault.pins.trans pins.1, fault.keeps⟩
  · rw [fault.channel, pins.2]
  · have reported := fault.reported
    rw [unitSeverity_eq kinds, secure, ← which, seq, fr] at reported
    exact reported

/-! ### Control samples (R22, R117, R128) -/

theorem exec_onUnit {g : State → State} (exec : Sys2Proof.Machine.exec i s = .next (onUnit u g s)) (active : s.active u = true) :
    Sys2Proof.Machine.exec i s = .next (settle s (g s)) := by
  rw [exec, onUnit_active active]

theorem obstacle_closing (h : s.unit u = .closing) : obstacle u s = reverseOnObstacle u s := by
  rw [obstacle, h]

theorem obstacle_homing (h : s.unit u = .homing) : obstacle u s = stopOnObstacle u s := by
  rw [obstacle, h]

theorem obstacle_elsewhere (h : s.unit u ≠ .closing) (h1 : s.unit u ≠ .homing) : obstacle u s = s := by
  unfold obstacle
  split
  · next e => exact absurd e h
  · next e => exact absurd e h1
  · rfl

/-- An obstacle in HOMING stops the leaves, unless it is the fourth (R136). -/
theorem stopOnObstacle_stops (driven : (s.dc.get u).phase ≠ .hold) (few : (s.dc.get u).retries < 3) :
    stopOnObstacle u s =
      s.setDc u { s.dc.get u with phase := .hold, setpoint := 0, pauseTimer := some (after s.now 2000) } := by
  unfold stopOnObstacle
  dsimp only
  rw [if_neg (by simpa using driven), if_neg (by omega)]
  rfl

theorem stopOnObstacle_fails (driven : (s.dc.get u).phase ≠ .hold) (spent : 3 ≤ (s.dc.get u).retries) :
    stopOnObstacle u s = enterFault .homeFail u s := by
  unfold stopOnObstacle
  dsimp only
  rw [if_neg (by simpa using driven), if_pos spent]

theorem stopOnObstacle_waits (held : (s.dc.get u).phase = .hold) : stopOnObstacle u s = s := by
  unfold stopOnObstacle
  dsimp only
  rw [if_pos (by simpa using held)]

/-- The channel after a valid sample. -/
def sampled (motion : Int) (count : Nat) (d : DoorChannel) : DoorChannel :=
  { d with position := d.position + motion, missed := 0, overCount := count }

theorem takeSample_eq (u : UnitNo) (motion : Int) (current : Nat) (s : State) :
    takeSample u motion current s =
      if (s.dc.get u).closes && (if (s.dc.get u).closes then nextOver (s.dc.get u).overCount current (s.cl.config.units.get u).threshold
          else (s.dc.get u).overCount) == 3 then
        obstacle u (s.setDc u (sampled motion (if (s.dc.get u).closes then
          nextOver (s.dc.get u).overCount current (s.cl.config.units.get u).threshold else (s.dc.get u).overCount) (s.dc.get u)))
      else s.setDc u (sampled motion (if (s.dc.get u).closes then
          nextOver (s.dc.get u).overCount current (s.cl.config.units.get u).threshold else (s.dc.get u).overCount) (s.dc.get u)) := rfl

theorem takeMissed_eq (u : UnitNo) (s : State) :
    takeMissed u s = s.setDc u { s.dc.get u with missed := min 3 ((s.dc.get u).missed + 1) } := rfl

/-- What the end of an event leaves of a channel's missed periods, and with them of the drive fault (R22, R133). -/
theorem settle_driveFault {d : DoorChannel} (h : 3 ≤ d.missed) (s0 : State) : (settle s0 (s.setDc u d)).driveFault u = true := by
  have missed : ((settle s0 (s.setDc u d)).dc.get u).missed = d.missed := by
    rcases (settle_ends s0 (s.setDc u d)).1.doors u rfl with same | ⟨-, same⟩ | ⟨-, -, -, -, same⟩
    · rw [same, setDc_channel]
    · rw [same, setDc_channel]
    · rw [same, setDc_channel]
  rw [State.driveFault, missed, decide_eq_true h, Bool.or_true]

theorem holds_setDc {d : DoorChannel} {t : State} (h : Holds (only u) (s.setDc u d) t) : Holds (only u) s t := (setDc_holds u d s).trans h

/-- Settles O47: a sample moves the channel by its motion and count, and the count of three is an obstacle. -/
theorem controlSamples : Obligations.ControlSamples := by
  intro u s active
  refine ⟨fun motion current count low high counted => ?_, fun i which => ?_, ?_⟩
  · have exec : Sys2Proof.Machine.exec (.controlSample u motion current) s = .next (settle s (takeSample u motion current s)) := by
      show Host.Outcome.next (onUnit u (if -50 ≤ motion ∧ motion ≤ 50 then takeSample u motion current else takeMissed u) s) = _
      rw [if_pos ⟨low, high⟩, onUnit_active active]
    have taken : takeSample u motion current s =
        if (s.dc.get u).closes && count == 3 then obstacle u (s.setDc u (sampled motion count (s.dc.get u)))
        else s.setDc u (sampled motion count (s.dc.get u)) := by
      rw [takeSample_eq, counted]
      rfl
    refine ⟨_, exec, fun rests => ?_, fun third closing => ?_, fun third homing driven few => ?_⟩
    · have free : ¬((s.dc.get u).closes && count == 3) = true := by
        rw [Bool.and_eq_true, beq_iff_eq]
        rintro ⟨c, t⟩
        rcases rests with r | r
        · exact absurd (r.symm.trans c) Bool.false_ne_true
        · exact r t
      rw [taken, if_neg free]
      exact settle_ends _ _
    · subst third
      have closes : (s.dc.get u).closes = true := by
        have st : (s.dc.get u).st = .closing := closing
        rw [DoorChannel.closes, st]
        rfl
      have at_ : (s.setDc u (sampled motion 3 (s.dc.get u))).unit u = .closing := (congrArg DoorChannel.st (setDc_channel ..)).trans closing
      rw [taken, closes, if_pos (show (true && (3 : Nat) == 3) = true from rfl), obstacle_closing at_]
      have turned := obstacle_reversed (s := s) (u := u) (x := s.setDc u (sampled motion 3 (s.dc.get u))) s rfl rfl
      rw [setDc_channel] at turned
      have whole := settled_keeps (holds_setDc (reverseOnObstacle_holds u (s.setDc u (sampled motion 3 (s.dc.get u))))) s
      exact ⟨turned, whole.2.1, whole.2.2, whole.1⟩
    · subst third
      have closes : (s.dc.get u).closes = true := by
        have st : (s.dc.get u).st = .homing := homing
        rw [DoorChannel.closes, st, bne_iff_ne.2 driven]
        rfl
      have at_ : (s.setDc u (sampled motion 3 (s.dc.get u))).unit u = .homing := (congrArg DoorChannel.st (setDc_channel ..)).trans homing
      rw [taken, closes, if_pos (show (true && (3 : Nat) == 3) = true from rfl), obstacle_homing at_,
        stopOnObstacle_stops (by rw [setDc_channel]; exact driven) (by rw [setDc_channel]; exact few), setDc_setDc, setDc_channel]
      exact settle_ends _ _
  · have exec : Sys2Proof.Machine.exec i s = .next (settle s (takeMissed u s)) := by
      rcases which with rfl | ⟨motion, current, rfl, out⟩
      · exact exec_onUnit rfl active
      · show Host.Outcome.next (onUnit u (if -50 ≤ motion ∧ motion ≤ 50 then takeSample u motion current else takeMissed u) s) = _
        rw [if_neg (by omega), onUnit_active active]
    rw [takeMissed_eq] at exec
    exact ⟨_, exec, fun third => settle_driveFault (show 3 ≤ min 3 _ by omega) s, settle_ends _ _⟩
  · exact ⟨_, exec_onUnit rfl active, settle_driveFault (d := { s.dc.get u with missed := 3 }) (show 3 ≤ 3 from le_rfl) s, settle_ends _ _⟩

end Sys2Proof.Machine

/-! Pauses, stalls and obstacles of a moving unit (sections 7.5, 7.6 and 7.8). -/

namespace Sys2Proof.Machine

variable {i : Instr} {u : UnitNo} {s : State}

/-- Node time alone has moved. -/
structure Reached (s r : State) : Prop where
  dc : r.dc = s.dc
  cl : r.cl = s.cl
  su : r.su = s.su
  fr : r.fr = s.fr
  bu : r.bu = s.bu
  pins : r.pins = s.pins

theorem reached_of (e : Time) (s : State) : Reached s (s.reach e) :=
  ⟨reach_dc .., reach_cl .., reach_su .., reach_fr .., reach_bu .., reach_pins ..⟩

theorem Reached.refl (s : State) : Reached s s := ⟨rfl, rfl, rfl, rfl, rfl, rfl⟩

theorem Reached.obstructed {r : State} (h : Reached s r) (u : UnitNo) : r.obstructed u = s.obstructed u := by
  unfold State.obstructed State.edgeAsserted State.gapAsserted
  rw [h.su]

theorem Reached.unit {r : State} (h : Reached s r) (u : UnitNo) : r.unit u = s.unit u := by
  rw [State.unit, h.dc]
  rfl

theorem Reached.seq {r : State} (h : Reached s r) : r.seq = s.seq := by
  rw [State.seq, h.bu]
  rfl

theorem Reached.closedAndEngaged {r : State} (h : Reached s r) (u : UnitNo) : r.closedAndEngaged u = s.closedAndEngaged u := by
  rw [State.closedAndEngaged, h.pins]
  rfl

/-! ### Faults out of a movement -/

/-- A severe fault of unit `u` with its channel set to `d` first. -/
theorem enterFault_severe {kind : FaultKind} (h : kind ≠ .trap) (sev : kind.unitSeverity (s.closedAndEngaged u) = .severe) {r : State}
    (same : Reached s r) (d : DoorChannel) (s0 : State) :
    (settle s0 (enterFault kind u (r.setDc u d))).dc.get u = { d.into .fault with attempt := 0 } ∧
      (settle s0 (enterFault kind u (r.setDc u d))).fr.severe.isSome = true ∧
      Reported .severe ⟨kind, some u, s.seq, r.now⟩ s.fr (settle s0 (enterFault kind u (r.setDc u d))).fr ∧
      Keeps (only u) r (settle s0 (enterFault kind u (r.setDc u d))) := by
  have fault := enterFault_entered h u (r.setDc u d) s0
  have secure : (r.setDc u d).closedAndEngaged u = s.closedAndEngaged u := same.closedAndEngaged u
  have seq : (r.setDc u d).seq = s.seq := same.seq
  have reported := fault.reported
  rw [secure, sev, seq, show (r.setDc u d).fr = s.fr from same.fr] at reported
  have channel := fault.channel
  rw [setDc_channel] at channel
  exact ⟨channel, reported.isSome, reported, ((setDc_holds u d r).trans ⟨fault.keeps, fault.now, fault.pins⟩).1⟩

theorem setDc_same (u : UnitNo) (s : State) : s.setDc u (s.dc.get u) = s := by
  unfold State.setDc
  have same : s.dc.set u (s.dc.get u) = s.dc := by cases u <;> rfl
  rw [same]

theorem homeFail_severe {r : State} (same : Reached s r) (s0 : State) :
    (settle s0 (enterFault .homeFail u r)).dc.get u = { (s.dc.get u).into .fault with attempt := 0 } ∧
      (settle s0 (enterFault .homeFail u r)).fr.severe.isSome = true ∧
      Reported .severe ⟨.homeFail, some u, s.seq, r.now⟩ s.fr (settle s0 (enterFault .homeFail u r)).fr ∧
      Keeps (only u) r (settle s0 (enterFault .homeFail u r)) := by
  have fault := enterFault_severe (kind := .homeFail) (u := u) (fun e => nomatch e) rfl same (r.dc.get u) s0
  rw [setDc_same, same.dc] at fault
  exact fault

/-! ### The pause of REOPEN_WAIT (R130) -/

theorem endReopenPause_closes {r : State} (h : (r.dc.get u).attempt < r.cl.config.params.maxAttempts) :
    endReopenPause u r = enterClosing ((r.dc.get u).attempt + 1) u r := if_pos h

theorem endReopenPause_holds (h : s.cl.config.params.maxAttempts ≤ (s.dc.get u).attempt) : endReopenPause u s = enterHeldOpen u s :=
  if_neg (not_lt.2 h)

/-- HELD_OPEN entered: the channel alone moves, and the report is made (R130). -/
theorem enterHeldOpen_settled {r : State} (same : Reached s r) (h : s.unit u ≠ .isolated) (s0 : State) :
    Ends (r.setDc u { (r.dc.get u).into .heldOpen with attempt := 0 }) (settle s0 (enterHeldOpen u r)) ∧
      Reported .minor ⟨.heldOpen, some u, s.seq, r.now⟩ s.fr (settle s0 (enterHeldOpen u r)).fr := by
  have moved := moveUnit_ends (u := u) (d := { (r.dc.get u).into .heldOpen with attempt := 0 }) (s := r) (by rw [same.unit]; exact h) rfl
  have quiet := moveUnit_silent (u := u) (d := { (r.dc.get u).into .heldOpen with attempt := 0 }) (fun e => nomatch e) (fun e => nomatch e) r
  have made := report_reported .heldOpen .minor (some u) (moveUnit u { (r.dc.get u).into .heldOpen with attempt := 0 } r)
  have seq : (moveUnit u { (r.dc.get u).into .heldOpen with attempt := 0 } r).seq = s.seq := by
    rw [State.seq, quiet.2.2]
    exact same.seq
  rw [seq, quiet.1, same.fr, moved.2.1] at made
  exact ⟨(moved.trans (report_sends .heldOpen .minor (some u) _).ends).settled s0, made.settled (fun e => nomatch e)⟩

theorem pause_clause (active : s.active u = true) {e : Time} (at_ : s.unit u = .reopenWait) (runs : (s.dc.get u).pauseTimer = some e) :
    Sys2Proof.Machine.exec (.reopenPauseEnd u) s = .next (settle (s.reach e) (endReopenPause u (s.reach e))) :=
  exec_unitTimer (runs := fun st => st == .reopenWait) rfl active (beq_iff_eq.2 at_) runs

/-- A further attempt: the leaves close, or turn at once on an obstacle that stands (R127, R128). -/
theorem attempt_settled {r : State} (same : Reached s r) (at_ : s.unit u = .reopenWait) (few : (s.dc.get u).attempt < s.cl.config.params.maxAttempts)
    (s0 : State) :
    (s.obstructed u = false → Ends (r.setDc u (closingIn ((s.dc.get u).attempt + 1) u r)) (settle s0 (endReopenPause u r))) ∧
      (s.obstructed u = true → Reversed (closingIn ((s.dc.get u).attempt + 1) u r) s (settle s0 (endReopenPause u r)) u ∧
        Holds (only u) r (settle s0 (endReopenPause u r))) := by
  have out : r.unit u ≠ .isolated := by rw [same.unit, at_]; exact fun e => nomatch e
  rw [endReopenPause_closes (by rw [same.dc, same.cl]; exact few), same.dc]
  refine ⟨fun free => ?_, fun obstructed => ?_⟩
  · rw [enterClosing_clear out (by rw [same.obstructed]; exact free)]
    exact (moveUnit_ends out rfl).settled s0
  · exact ⟨enterClosing_reversed s0 out (by rw [same.obstructed]; exact obstructed) same.cl (by rw [same.fr]),
      settled_keeps (enterClosing_holds _ u r) s0⟩

/-! ### Stalls (R131) -/

theorem takeStall_pauses {r : State} (few : (r.dc.get u).stallCount < 2) :
    takeStall u r =
      r.setDc u
        { r.dc.get u with
          stallCount := (r.dc.get u).stallCount + 1, phase := .pause, setpoint := 0, stallTimer := none
          pauseTimer := some (after r.now 500) } := if_neg (by omega)

theorem takeStall_fails {r : State} (spent : 2 ≤ (r.dc.get u).stallCount) :
    takeStall u r = enterFault .travelIncomplete u (r.setDc u { r.dc.get u with stallCount := (r.dc.get u).stallCount + 1 }) := if_pos spent

theorem drivenOpen_of {st : UnitState} (h : st = .opening ∨ st = .reversing) : st.drivenOpen = true := by
  rcases h with h | h <;> rw [h] <;> rfl

/-! ### The wait of HOMING (R136) -/

/-- The channel of a homing unit that drives again after its wait. -/
def rehomed (d : DoorChannel) : DoorChannel := { d with retries := d.retries + 1, phase := .creep, pauseTimer := none, overCount := 0 }

theorem endHomingWait_free {r : State} (few : (r.dc.get u).retries < 3) (free : r.obstructed u = false) :
    endHomingWait u r = r.setDc u (rehomed (r.dc.get u)) := by
  unfold endHomingWait
  dsimp only
  rw [if_pos few, setDc_sensed, free, if_neg Bool.false_ne_true]
  rfl

theorem endHomingWait_obstructed {r : State} (few : (r.dc.get u).retries < 3) (obstructed : r.obstructed u = true) :
    endHomingWait u r = stopOnObstacle u (r.setDc u (rehomed (r.dc.get u))) := by
  unfold endHomingWait
  dsimp only
  rw [if_pos few, setDc_sensed, obstructed, if_pos rfl]
  rfl

theorem endHomingWait_spent {r : State} (spent : 3 ≤ (r.dc.get u).retries) : endHomingWait u r = enterFault .homeFail u r :=
  if_neg (by omega)

/-- A wait of HOMING that ends with the obstacle still there. -/
theorem endHomingWait_settled {r : State} (same : Reached s r) (obstructed : s.obstructed u = true) (s0 : State) :
    ((s.dc.get u).retries < 2 →
      Ends
        (r.setDc u
          { s.dc.get u with
            retries := (s.dc.get u).retries + 1, phase := .hold, setpoint := 0, overCount := 0
            pauseTimer := some (after r.now 2000) }) (settle s0 (endHomingWait u r))) ∧
      ((s.dc.get u).retries = 2 →
        (settle s0 (endHomingWait u r)).unit u = .fault ∧ (settle s0 (endHomingWait u r)).fr.severe.isSome = true ∧
          Reported .severe ⟨.homeFail, some u, s.seq, r.now⟩ s.fr (settle s0 (endHomingWait u r)).fr ∧
          Keeps (only u) r (settle s0 (endHomingWait u r))) := by
  have stands : r.obstructed u = true := by rw [same.obstructed]; exact obstructed
  refine ⟨fun few => ?_, fun last => ?_⟩
  · rw [endHomingWait_obstructed (by rw [same.dc]; omega) stands, same.dc,
      stopOnObstacle_stops (by rw [setDc_channel]; exact fun e => nomatch e)
        (by rw [setDc_channel]; exact (show (s.dc.get u).retries + 1 < 3 by omega)), setDc_setDc, setDc_channel]
    exact settle_ends _ _
  · rw [endHomingWait_obstructed (by rw [same.dc]; omega) stands, same.dc,
      stopOnObstacle_fails (by rw [setDc_channel]; exact fun e => nomatch e)
        (by rw [setDc_channel]; exact (show 3 ≤ (s.dc.get u).retries + 1 by omega))]
    obtain ⟨channel, full, reported, keeps⟩ :=
      enterFault_severe (kind := .homeFail) (u := u) (fun e => nomatch e) rfl same (rehomed (s.dc.get u)) s0
    exact ⟨congrArg DoorChannel.st channel, full, reported, keeps⟩

/-! ### Obstacle currents (R128, R136) -/

theorem exec_obstacleCurrent (active : s.active u = true) (closes : (s.dc.get u).closes = true) :
    Sys2Proof.Machine.exec (.obstacleCurrent u) s =
      .next (settle s (obstacle u (s.setDc u { s.dc.get u with overCount := 3 }))) := by
  show Host.Outcome.next (if (s.dc.get u).closes then
    onUnit u (fun s => obstacle u (s.modDc u fun d => { d with overCount := 3 })) s else s) = _
  rw [if_pos closes, onUnit_active active]
  rfl

theorem closes_closing (h : s.unit u = .closing) : (s.dc.get u).closes = true := by
  have st : (s.dc.get u).st = .closing := h
  rw [DoorChannel.closes, st]
  rfl

theorem closes_homing (h : s.unit u = .homing) (driven : (s.dc.get u).phase ≠ .hold) : (s.dc.get u).closes = true := by
  have st : (s.dc.get u).st = .homing := h
  rw [DoorChannel.closes, st, bne_iff_ne.2 driven]
  rfl

theorem setDc_unit_st {d : DoorChannel} : (s.setDc u d).unit u = d.st := congrArg DoorChannel.st (setDc_channel ..)

theorem overCounted_unit (u : UnitNo) (s : State) : (s.setDc u { s.dc.get u with overCount := 3 }).unit u = s.unit u := setDc_unit_st

/-- An obstacle in CLOSING short of full travel moves the channel and the count alone. -/
theorem reverseOnObstacle_ends {d : DoorChannel} (at_ : d.st = .closing) (short : d.position < (s.cl.config.units.get u).travel) (s0 : State) :
    Ends
      ((s.modUnitCounters u fun c => { c with reversals := c.reversals.bump }).setDc u
        { d.into .reversing with
          phase := .accelerate, setpoint := d.setpoint, target := .reopenWait, stallCount := 0, stallRef := d.position
          travelTimer := some (after s.now s.cl.config.params.travelTimeout), stallTimer := some (after s.now 300) })
      (settle s0 (reverseOnObstacle u (s.setDc u d))) := by
  generalize e : (s.setDc u d).modUnitCounters u (fun c => { c with reversals := c.reversals.bump }) = y
  have channel : y.dc.get u = d := by
    rw [← e]
    exact setDc_channel ..
  have rest : (s.modUnitCounters u fun c => { c with reversals := c.reversals.bump }).setDc u (reversingTo .reopenWait u y) =
      y.setDc u (reversingTo .reopenWait u y) := by
    rw [← e]
    show _ = ((s.modUnitCounters u fun c => { c with reversals := c.reversals.bump }).setDc u d).setDc u _
    rw [setDc_setDc]
  have turning : { d.into .reversing with
      phase := .accelerate, setpoint := d.setpoint, target := .reopenWait, stallCount := 0, stallRef := d.position
      travelTimer := some (after s.now s.cl.config.params.travelTimeout), stallTimer := some (after s.now 300) } =
      reversingTo .reopenWait u y := by
    unfold reversingTo
    rw [channel, ← e]
    rfl
  have cl : y.cl = s.cl := by rw [← e]; rfl
  have moved := moveUnit_ends (u := u) (d := reversingTo .reopenWait u y) (s := y)
    (by rw [State.unit, channel, at_]; exact fun e => nomatch e) rfl
  rw [turning, rest, reverseOnObstacle, e, enterReversing_short (by rw [State.remainingOpen, channel, cl]; omega)]
  exact moved.settled s0

/-- Settles O46: each event by the operation it runs, at the node time its timer gives. -/
theorem pausesAndObstacles : Obligations.PausesAndObstacles := by
  intro u s active
  refine ⟨fun e at_ runs => ?_, fun e at_ runs => ?_, fun e at_ runs => ?_, fun closing short => ?_, fun closing => ?_,
    fun homing driven => ?_, fun e at_ runs => ?_⟩
  · refine ⟨_, pause_clause active at_ runs, fun few free => ?_, fun few obstructed => ?_, fun spent => ?_⟩
    · have same := reached_of e s
      have settled := (attempt_settled same at_ few (s.reach e)).1 free
      unfold closingIn at settled
      rw [same.dc, State.timer, same.cl] at settled
      exact settled
    · have same := reached_of e s
      have settled := (attempt_settled same at_ few (s.reach e)).2 obstructed
      unfold closingIn at settled
      rw [same.dc, State.timer, same.cl] at settled
      exact ⟨settled.1, settled.2.2.1, settled.2.2.2.trans same.pins, settled.2.1⟩
    · have same := reached_of e s
      rw [endReopenPause_holds (by rw [same.dc, same.cl]; exact spent)]
      obtain ⟨ends, reported⟩ := enterHeldOpen_settled (u := u) same (by rw [at_]; exact fun e => nomatch e) (s.reach e)
      rw [same.dc] at ends
      exact ⟨reported.isSome, reported, ends⟩
  · have exec : Sys2Proof.Machine.exec (.stallTimerExpiry u) s = .next (settle (s.reach e) (takeStall u (s.reach e))) :=
      exec_unitTimer (runs := UnitState.drivenOpen) rfl active (drivenOpen_of at_) runs
    have same := reached_of e s
    refine ⟨_, exec, fun few => ?_, fun spent => ?_⟩
    · rw [takeStall_pauses (by rw [same.dc]; exact few), same.dc]
      exact settle_ends _ _
    · rw [takeStall_fails (by rw [same.dc]; exact spent), same.dc]
      have fault := enterFault_entered (kind := .travelIncomplete) (fun e => nomatch e) u
        ((s.reach e).setDc u { s.dc.get u with stallCount := (s.dc.get u).stallCount + 1 }) (s.reach e)
      have channel := fault.channel
      rw [setDc_channel] at channel
      have reported := fault.reported
      rw [show ((s.reach e).setDc u _).closedAndEngaged u = s.closedAndEngaged u from same.closedAndEngaged u,
        show ((s.reach e).setDc u _).seq = s.seq from same.seq, show ((s.reach e).setDc u _).fr = s.fr from same.fr] at reported
      exact ⟨channel, reported, ((setDc_holds u _ (s.reach e)).trans ⟨fault.keeps, fault.now, fault.pins⟩).1⟩
  · have exec : Sys2Proof.Machine.exec (.stallPauseEnd u) s = .next (settle (s.reach e) (endStallPause u (s.reach e))) :=
      exec_unitTimer (runs := UnitState.drivenOpen) rfl active (drivenOpen_of at_) runs
    have stalls : endStallPause u (s.reach e) =
        (s.reach e).setDc u
          { s.dc.get u with
            phase := .accelerate, setpoint := 0, stallRef := (s.dc.get u).position, pauseTimer := none
            stallTimer := some (after (s.reach e).now 300) } := by
      rw [endStallPause, State.modDc, reach_dc]
      rfl
    rw [stalls] at exec
    exact ⟨_, exec, settle_ends _ _⟩
  · refine ⟨_, exec_obstacleCurrent active (closes_closing closing), ?_⟩
    rw [obstacle_closing ((overCounted_unit u s).trans closing)]
    exact reverseOnObstacle_ends (d := { s.dc.get u with overCount := 3 }) closing (Int.lt_of_sub_pos short) s
  · refine ⟨_, exec_obstacleCurrent active (closes_closing closing), ?_⟩
    rw [obstacle_closing ((overCounted_unit u s).trans closing)]
    have turned := obstacle_reversed (s := s) (u := u) (x := s.setDc u { s.dc.get u with overCount := 3 }) s rfl rfl
    rw [setDc_channel] at turned
    have whole := settled_keeps (holds_setDc (reverseOnObstacle_holds u (s.setDc u { s.dc.get u with overCount := 3 }))) s
    exact ⟨turned, whole.2.1, whole.2.2, whole.1⟩
  · refine ⟨_, exec_obstacleCurrent active (closes_homing homing driven), fun few => ?_, fun spent => ?_⟩
    · rw [obstacle_homing ((overCounted_unit u s).trans homing),
        stopOnObstacle_stops (by rw [setDc_channel]; exact driven) (by rw [setDc_channel]; exact few), setDc_setDc, setDc_channel]
      exact settle_ends _ _
    · rw [obstacle_homing ((overCounted_unit u s).trans homing),
        stopOnObstacle_fails (by rw [setDc_channel]; exact driven) (by rw [setDc_channel]; exact spent)]
      exact enterFault_severe (kind := .homeFail) (fun e => nomatch e) rfl (Reached.refl s) _ s
  · have exec : Sys2Proof.Machine.exec (.homingWaitEnd u) s = .next (settle (s.reach e) (endHomingWait u (s.reach e))) :=
      exec_unitTimer (runs := fun st => st == .homing) rfl active (beq_iff_eq.2 at_) runs
    have same := reached_of e s
    refine ⟨_, exec, fun few free => ?_, fun few obstructed => ?_, fun last obstructed => ?_, fun spent => ?_⟩
    · rw [endHomingWait_free (by rw [same.dc]; exact few) (by rw [same.obstructed]; exact free), same.dc]
      exact settle_ends _ _
    · exact (endHomingWait_settled same obstructed (s.reach e)).1 few
    · exact (endHomingWait_settled same obstructed (s.reach e)).2 last
    · rw [endHomingWait_spent (by rw [same.dc]; exact spent)]
      exact homeFail_severe same (s.reach e)

end Sys2Proof.Machine

/-! The control period, state by state, and the Secure Contact at its end (sections 7.3 to 7.8 and 9.6). -/

namespace Sys2Proof.Machine

variable {i : Instr} {u : UnitNo} {s : State}

/-! ### The Secure Contact at the end of an event (R168, R169) -/

theorem contactCondition_congr {a b : State} (supply : b.supply = a.supply) (low : b.resetLow = a.resetLow) (cl : b.cl = a.cl)
    (pins : b.pins = a.pins) (dc : b.dc = a.dc) (su : b.su = a.su) (iu : b.iu = a.iu) : b.contactCondition = a.contactCondition := by
  have secure : b.unitSecure = a.unitSecure := funext fun u => by
    unfold State.unitSecure State.configured State.unit
    rw [cl, pins, dc]
  have quiet : b.unitQuiet = a.unitQuiet := funext fun u => by
    unfold State.unitQuiet
    rw [su, iu]
  unfold State.contactCondition State.acts State.running
  rw [supply, low, cl, secure, quiet, iu]

theorem Sends.contactCondition {a b : State} (h : Sends a b) : b.contactCondition = a.contactCondition :=
  contactCondition_congr h.supply h.resetLow h.cl h.pins h.dc h.su h.iu

/-- With no close under way the contact stands as its condition, where it has been evaluated or its inputs have changed. -/
theorem settle_still_contact {s0 : State} (h : s.noCloses)
    (evaluated : s.out.contact = s.contactCondition ∨ s.contactInputs ≠ s0.contactInputs) :
    (settle s0 s).out.contact = (settle s0 s).contactCondition := by
  have judges : (judged s0 s).out.contact = s.contactCondition := by
    unfold judged
    rw [settleCloses_still h]
    dsimp only
    split
    · next same => exact evaluated.resolve_right fun other => other (beq_iff_eq.1 same)
    · rfl
  have sends := finish_sends (driveWarning { s with out := (judged s0 s).out })
  rw [settle_still h, sends.contactCondition, finish_out]
  exact judges

/-! ### The control period -/

theorem exec_controlPeriod {lock closed drive : Bool} (active : s.active u = true) :
    Sys2Proof.Machine.exec (.controlPeriod u lock closed drive) s =
      .next (settle (setLevels u lock closed drive s) (evalContact (takePeriod u (setLevels u lock closed drive s)))) := by
  show Host.Outcome.next (onUnit u (fun s => evalContact (takePeriod u s)) (setLevels u lock closed drive s)) = _
  rw [onUnit_active (s := setLevels u lock closed drive s) active]

theorem openingDone_ready (h : (s.dc.get u).pendingClose = false) :
    openingDone u s = (standOpen u s).modUnitCounters u fun c => { c with openCycles := c.openCycles.bump } := by
  unfold openingDone
  dsimp only
  rw [h, if_neg Bool.false_ne_true]

theorem standOpen_ends (h : s.unit u ≠ .isolated) : Ends (s.setDc u { (s.dc.get u).into .opened with attempt := 0 }) (standOpen u s) :=
  moveUnit_ends h rfl

/-- OPEN entered and counted (R125). -/
theorem openingDone_ends (h : s.unit u ≠ .isolated) (ready : (s.dc.get u).pendingClose = false) :
    Ends
      ((s.modUnitCounters u fun c => { c with openCycles := c.openCycles.bump }).setDc u
        { (s.dc.get u).into .opened with attempt := 0 }) (openingDone u s) := by
  rw [openingDone_ready ready, standOpen, moveUnit_plain h rfl]
  exact syncOwnRelease_holds
    ((s.modUnitCounters u fun c => { c with openCycles := c.openCycles.bump }).setDc u { (s.dc.get u).into .opened with attempt := 0 })

theorem enterOpening_ends (h : s.unit u ≠ .isolated) :
    Ends
      (s.setDc u
        { (s.dc.get u).into .opening with
          phase := .accelerate, stallCount := 0, stallRef := (s.dc.get u).position
          travelTimer := some (after s.now s.cl.config.params.travelTimeout), stallTimer := some (after s.now 300) }) (enterOpening u s) :=
  moveUnit_ends (d := { (s.dc.get u).into .opening with
    phase := .accelerate, stallCount := 0, stallRef := (s.dc.get u).position
    travelTimer := some (after s.now s.cl.config.params.travelTimeout), stallTimer := some (after s.now 300) }) h rfl

theorem enterLocking_ends (h : s.unit u ≠ .isolated) :
    Ends (s.setDc u { (s.dc.get u).into .locking with position := 0, lockTimer := some (after s.now 400) }) (enterLocking u s) :=
  moveUnit_ends (d := { (s.dc.get u).into .locking with position := 0, lockTimer := some (after s.now 400) }) h rfl

theorem reverseDone_ends_open (h : s.unit u ≠ .isolated) (target : (s.dc.get u).target = .opened) :
    Ends (s.setDc u { (s.dc.get u).into .opened with attempt := 0 }) (reverseDone u s) := by
  rw [reverseDone_open target]
  exact standOpen_ends h

theorem reverseDone_ends_wait (h : s.unit u ≠ .isolated) (target : (s.dc.get u).target = .reopenWait) :
    Ends (s.setDc u { (s.dc.get u).into .reopenWait with pauseTimer := some (after s.now s.cl.config.params.reopenPause) })
      (reverseDone u s) := by
  rw [reverseDone_wait target]
  exact moveUnit_ends (d := { (s.dc.get u).into .reopenWait with pauseTimer := some (after s.now s.cl.config.params.reopenPause) }) h rfl

/-- The stall watch's part of a period driven open (R131). -/
theorem watchStall_eq (u : UnitNo) (s : State) :
    watchStall u s =
      s.setDc u
        (if (s.dc.get u).phase ≠ .pause ∧ 2 < ((s.dc.get u).position - (s.dc.get u).stallRef).natAbs then
          { s.dc.get u with stallRef := (s.dc.get u).position, stallTimer := some (after s.now 300) }
        else s.dc.get u) := by
  unfold watchStall
  dsimp only
  by_cases moved : (s.dc.get u).phase ≠ .pause ∧ 2 < ((s.dc.get u).position - (s.dc.get u).stallRef).natAbs
  · rw [if_pos moved, if_pos (by rw [Bool.and_eq_true, bne_iff_ne, decide_eq_true_iff]; exact moved)]
    rfl
  · rw [if_neg moved, if_neg (by rw [Bool.and_eq_true, bne_iff_ne, decide_eq_true_iff]; exact moved)]
    exact (setDc_same u s).symm

theorem periodOpen_drives (h : 0 < s.remainingOpen u) (done : State → State) :
    periodOpen u done s =
      s.setDc u
        (driveOpen (s.cl.config.units.get u) (s.remainingOpen u)
          (if (s.dc.get u).phase ≠ .pause ∧ 2 < ((s.dc.get u).position - (s.dc.get u).stallRef).natAbs then
            { s.dc.get u with stallRef := (s.dc.get u).position, stallTimer := some (after s.now 300) }
          else s.dc.get u)) := by
  unfold periodOpen
  rw [if_neg (not_le.2 h), watchStall_eq, State.modDc, setDc_channel, setDc_setDc]

theorem periodOpen_done (h : s.remainingOpen u ≤ 0) (done : State → State) : periodOpen u done s = done s := if_pos h

theorem travelEnded_iff : s.travelEnded u = true ↔
    (s.pins.units.get u).closed = true ∧ ((s.dc.get u).position ≤ 3 ∨
      ((s.dc.get u).phase = .creep ∧ (s.dc.get u).position ≤ (s.cl.config.units.get u).profile.creepDistance)) := by
  simp [State.travelEnded]

/-- The states in which a control period moves nothing. -/
theorem periodByState_rests (h : s.unit u ∈ [.opened, .reopenWait, .heldOpen, .manualReleased, .releaseRestored, .isolated, .fault, .unknown,
    .notConfigured]) : periodByState u s = s := by
  simp only [List.mem_cons, List.not_mem_nil, or_false] at h
  unfold periodByState
  rcases h with h | h | h | h | h | h | h | h | h <;> rw [h]

/-- The drive fault is read first, while the enable is on (R133). -/
theorem takePeriod_state (h : (s.dc.get u).enable = false ∨ s.driveFault u = false) : takePeriod u s = periodByState u s := by
  refine if_neg fun c => ?_
  rw [Bool.and_eq_true] at c
  rcases h with h | h
  · exact absurd (h.symm.trans c.1) Bool.false_ne_true
  · exact absurd (h.symm.trans c.2) Bool.false_ne_true

theorem takePeriod_fault (enable : (s.dc.get u).enable = true) (fault : s.driveFault u = true) :
    takePeriod u s = enterFault .driveFault u s := if_pos (by rw [enable, fault]; rfl)

theorem periodOpen_holds {done : State → State} (h : ∀ s, Holds (only u) s (done s)) (s : State) : Holds (only u) s (periodOpen u done s) := by
  rcases le_or_gt (s.remainingOpen u) 0 with full | short
  · rw [periodOpen_done full]
    exact h s
  · rw [periodOpen_drives short]
    exact setDc_holds u _ s

theorem periodByState_holds (u : UnitNo) (s : State) : Holds (only u) s (periodByState u s) := by
  unfold periodByState
  split
  · exact modDc_holds u _ s
  · split
    · exact Holds.refl _ s
    · exact enterOpening_holds u s
  · exact periodOpen_holds (openingDone_holds u) s
  · unfold periodClosing
    split
    · exact enterLocking_holds u s
    · exact modDc_holds u _ s
  · exact periodOpen_holds (reverseDone_holds u) s
  · split
    · exact comeClosed_holds u s
    · exact Holds.refl _ s
  · unfold periodHoming
    split
    · exact enterLocking_holds u s
    · exact modDc_holds u _ s
  · exact Holds.refl _ s

theorem takePeriod_holds (u : UnitNo) (s : State) : Holds (only u) s (takePeriod u s) := by
  unfold takePeriod
  split
  · exact enterFault_holds _ u s
  · exact periodByState_holds u s

theorem comeClosed_free (h : s.iu.latch = false) : comeClosed u s = enterClosedLocked u s := by
  have latch : (enterClosedLocked u s).iu.latch = false := (enterClosedLocked_holds u s).1.latch.trans h
  unfold comeClosed
  dsimp only
  rw [latch, if_neg Bool.false_ne_true]

theorem enterClosedLocked_channel (u : UnitNo) (s : State) :
    (enterClosedLocked u s).dc.get u = { (s.dc.get u).into .closedLocked with position := 0, attempt := 0 } := moveUnit_channel u _ s

theorem evaluated_settled {a b : State} (h : Ends a b) (s0 : State) : Ends a (settle s0 (evalContact b)) :=
  (h.trans (evalContact_ends b)).settled s0

theorem settle_evaluated_channel {x : State} (h : (x.unit u).closable = false) (s0 : State) :
    (settle s0 (evalContact x)).dc.get u = x.dc.get u := settle_unmoved s0 (s := evalContact x) h

/-- A period's own part in each state, at the levels that stand. -/
theorem period_clauses (lock closed : Bool) (s0 : State) (at_ : (s.pins.units.get u).lockEngaged = lock ∧ (s.pins.units.get u).closed = closed) :
    let t := settle s0 (evalContact (periodByState u s))
    (s.unit u = .closedLocked →
      Ends
        (s.setDc u
          { s.dc.get u with
            lockTimer :=
              if closed && lock then none
              else if (s.dc.get u).lockTimer.isSome then (s.dc.get u).lockTimer else some (after s.now 400) }) t) ∧
    (s.unit u = .unlocking → lock = true → Ends s t) ∧
    (s.unit u = .unlocking → lock = false →
      Ends
        (s.setDc u
          { (s.dc.get u).into .opening with
            phase := .accelerate, stallCount := 0, stallRef := (s.dc.get u).position
            travelTimer := some (after s.now s.cl.config.params.travelTimeout), stallTimer := some (after s.now 300) }) t) ∧
    (s.unit u = .opening ∨ s.unit u = .reversing → 0 < s.remainingOpen u →
      Ends
        (s.setDc u
          (driveOpen (s.cl.config.units.get u) (s.remainingOpen u)
            (if (s.dc.get u).phase ≠ .pause ∧ 2 < ((s.dc.get u).position - (s.dc.get u).stallRef).natAbs then
              { s.dc.get u with stallRef := (s.dc.get u).position, stallTimer := some (after s.now 300) }
            else s.dc.get u))) t) ∧
    (s.unit u = .opening → s.remainingOpen u ≤ 0 → (s.dc.get u).pendingClose = false →
      Ends
        ((s.modUnitCounters u fun c => { c with openCycles := c.openCycles.bump }).setDc u
          { (s.dc.get u).into .opened with attempt := 0 }) t) ∧
    (s.unit u = .reversing → s.remainingOpen u ≤ 0 → (s.dc.get u).target = .opened →
      Ends (s.setDc u { (s.dc.get u).into .opened with attempt := 0 }) t) ∧
    (s.unit u = .reversing → s.remainingOpen u ≤ 0 → (s.dc.get u).target = .reopenWait →
      Ends (s.setDc u { (s.dc.get u).into .reopenWait with pauseTimer := some (after s.now s.cl.config.params.reopenPause) }) t) ∧
    (s.unit u = .closing →
      (closed = true ∧ ((s.dc.get u).position ≤ 3 ∨
          ((s.dc.get u).phase = .creep ∧ (s.dc.get u).position ≤ (s.cl.config.units.get u).profile.creepDistance)) →
        Ends (s.setDc u { (s.dc.get u).into .locking with position := 0, lockTimer := some (after s.now 400) }) t) ∧
      (closed = false ∨ (3 < (s.dc.get u).position ∧
          ((s.dc.get u).phase ≠ .creep ∨ ((s.cl.config.units.get u).profile.creepDistance : Int) < (s.dc.get u).position)) →
        Ends (s.setDc u (driveClosed s.cl.config.energy (s.cl.config.units.get u) (s.dc.get u))) t)) ∧
    (s.unit u = .locking → lock = false → Ends s t) ∧
    (s.unit u = .locking → lock = true → s.iu.latch = false →
      t.dc.get u = { (s.dc.get u).into .closedLocked with position := 0, attempt := 0 }) ∧
    (s.unit u = .homing → closed = true →
      Ends (s.setDc u { (s.dc.get u).into .locking with position := 0, lockTimer := some (after s.now 400) }) t) ∧
    (s.unit u = .homing → closed = false →
      Ends
        (s.setDc u
          { s.dc.get u with
            setpoint := if (s.dc.get u).phase = .hold then 0 else -((s.cl.config.units.get u).profile.creep : Int) }) t) ∧
    (s.unit u ∈ [.opened, .reopenWait, .heldOpen, .manualReleased, .releaseRestored, .isolated, .fault, .unknown, .notConfigured] →
      Ends s t) := by
  obtain ⟨locks, closes⟩ := at_
  have here : ∀ {st : UnitState}, s.unit u = st → st ≠ .isolated → s.unit u ≠ .isolated := fun e n => e ▸ n
  refine ⟨fun h => ?_, fun h l => ?_, fun h l => ?_, fun h short => ?_, fun h full ready => ?_, fun h full target => ?_, fun h full target => ?_,
    fun h => ⟨fun ended => ?_, fun drives => ?_⟩, fun h l => ?_, fun h l free => ?_, fun h c => ?_, fun h c => ?_, fun h => ?_⟩
  · have period : periodByState u s = s.setDc u
        { s.dc.get u with
          lockTimer :=
            if closed && lock then none
            else if (s.dc.get u).lockTimer.isSome then (s.dc.get u).lockTimer else some (after s.now 400) } := by
      rw [periodByState, h]
      show periodLocked u s = _
      rw [periodLocked, State.modDc, State.closedAndEngaged, locks, closes]
      rfl
    rw [period]
    exact evaluated_settled (Ends.refl _) s0
  · have period : periodByState u s = s := by
      rw [periodByState, h]
      exact if_pos (locks.trans l)
    rw [period]
    exact evaluated_settled (Ends.refl _) s0
  · have period : periodByState u s = enterOpening u s := by
      rw [periodByState, h]
      exact if_neg (by rw [locks, l]; exact Bool.false_ne_true)
    rw [period]
    exact evaluated_settled (enterOpening_ends (here h (fun e => nomatch e))) s0
  · have period : ∃ done, periodByState u s = periodOpen u done s := by
      rcases h with h | h
      · exact ⟨openingDone u, by rw [periodByState, h]⟩
      · exact ⟨reverseDone u, by rw [periodByState, h]⟩
    obtain ⟨done, period⟩ := period
    rw [period, periodOpen_drives short]
    exact evaluated_settled (Ends.refl _) s0
  · have period : periodByState u s = openingDone u s := by
      rw [periodByState, h]
      exact periodOpen_done full _
    rw [period]
    exact evaluated_settled (openingDone_ends (here h (fun e => nomatch e)) ready) s0
  · have period : periodByState u s = reverseDone u s := by
      rw [periodByState, h]
      exact periodOpen_done full _
    rw [period]
    exact evaluated_settled (reverseDone_ends_open (here h (fun e => nomatch e)) target) s0
  · have period : periodByState u s = reverseDone u s := by
      rw [periodByState, h]
      exact periodOpen_done full _
    rw [period]
    exact evaluated_settled (reverseDone_ends_wait (here h (fun e => nomatch e)) target) s0
  · have period : periodByState u s = enterLocking u s := by
      rw [periodByState, h]
      exact if_pos (travelEnded_iff.2 (by rw [closes]; exact ended))
    rw [period]
    exact evaluated_settled (enterLocking_ends (here h (fun e => nomatch e))) s0
  · have period : periodByState u s = s.setDc u (driveClosed s.cl.config.energy (s.cl.config.units.get u) (s.dc.get u)) := by
      rw [periodByState, h]
      refine if_neg fun ended => ?_
      obtain ⟨c, near⟩ := travelEnded_iff.1 ended
      rcases drives with open_ | ⟨far, moving⟩
      · exact absurd ((closes.trans open_).symm.trans c) Bool.false_ne_true
      · rcases near with near | ⟨creep, near⟩
        · omega
        · rcases moving with phase | moving
          · exact phase creep
          · omega
    rw [period]
    exact evaluated_settled (Ends.refl _) s0
  · have period : periodByState u s = s := by
      rw [periodByState, h]
      exact if_neg (by rw [locks, l]; exact Bool.false_ne_true)
    rw [period]
    exact evaluated_settled (Ends.refl _) s0
  · have period : periodByState u s = enterClosedLocked u s := by
      rw [periodByState, h]
      exact (if_pos (locks.trans l)).trans (comeClosed_free free)
    have channel := enterClosedLocked_channel u s
    dsimp only
    rw [period, settle_evaluated_channel (by rw [State.unit, channel]; rfl), channel]
  · have period : periodByState u s = enterLocking u s := by
      rw [periodByState, h]
      exact if_pos (closes.trans c)
    rw [period]
    exact evaluated_settled (enterLocking_ends (here h (fun e => nomatch e))) s0
  · have period : periodByState u s = s.setDc u
        { s.dc.get u with
          setpoint := if (s.dc.get u).phase = .hold then 0 else -((s.cl.config.units.get u).profile.creep : Int) } := by
      rw [periodByState, h]
      refine (if_neg (by rw [closes, c]; exact Bool.false_ne_true)).trans ?_
      rw [State.modDc]
      simp only [beq_iff_eq]
    rw [period]
    exact evaluated_settled (Ends.refl _) s0
  · rw [periodByState_rests h]
    exact evaluated_settled (Ends.refl _) s0

theorem setLevels_holds (u : UnitNo) (lock closed drive : Bool) (s : State) : Keeps (only u) s (setLevels u lock closed drive s) :=
  ⟨{ Leaves.refl (only u) s with }, fun _ _ _ => rfl⟩

/-- Settles O48: the drive fault is read first, then the state's own part, and the contact is evaluated. -/
theorem controlPeriods : Obligations.ControlPeriods := by
  rintro u lock closed drive s s' active rfl
  have levels : ((setLevels u lock closed drive s).pins.units.get u).lockEngaged = lock ∧
      ((setLevels u lock closed drive s).pins.units.get u).closed = closed ∧
      ((setLevels u lock closed drive s).pins.units.get u).driveFault = drive := by
    unfold setLevels State.modPins
    dsimp only
    rw [Quad.get_set_self]
    exact ⟨rfl, rfl, rfl⟩
  have held : Keeps (only u) s _ := setLevels_holds u lock closed drive s
  have dc : (setLevels u lock closed drive s).dc = s.dc := rfl
  have unit : (setLevels u lock closed drive s).unit u = s.unit u := rfl
  have noCloses : s.noCloses → (setLevels u lock closed drive s).noCloses := fun n => n
  refine ⟨_, exec_controlPeriod active, ?_⟩
  show _ ∧ (_ : State).pins = (setLevels u lock closed drive s).pins ∧ _
  have period := takePeriod_holds u (setLevels u lock closed drive s)
  have whole := settled_keeps (period.trans ⟨(evalContact_ends _).1.weaken, (evalContact_ends _).2⟩) (setLevels u lock closed drive s)
  have fault : (setLevels u lock closed drive s).driveFault u = (drive || decide (3 ≤ (s.dc.get u).missed)) := by
    rw [State.driveFault, levels.2.2]
    rfl
  refine ⟨whole.2.1, whole.2.2, held.trans whole.1, fun n => ?_, fun enable stands => ?_, fun clear => ?_⟩
  · exact settle_still_contact (s := evalContact (takePeriod u (setLevels u lock closed drive s))) (period.1.noCloses (noCloses n)) (.inl rfl)
  · have stands' : (setLevels u lock closed drive s).driveFault u = true := by
      rw [fault]
      rcases stands with e | e
      · rw [e]
        rfl
      · rw [decide_eq_true e, Bool.or_true]
    have sends := report_sends .driveFault (FaultKind.driveFault.unitSeverity ((setLevels u lock closed drive s).closedAndEngaged u)) (some u)
      (moveUnit u { ((setLevels u lock closed drive s).dc.get u).into .fault with attempt := 0 } (setLevels u lock closed drive s))
    have channel : (enterFault .driveFault u (setLevels u lock closed drive s)).dc.get u = { (s.dc.get u).into .fault with attempt := 0 } := by
      rw [enterFault, sends.dc, moveUnit_channel]
      rfl
    rw [takePeriod_fault (by rw [dc]; exact enable) stands', settle_evaluated_channel (by rw [State.unit, channel]; rfl), channel]
  · have rests : (s.dc.get u).enable = false ∨ (setLevels u lock closed drive s).driveFault u = false := by
      rcases clear with off | ⟨d, few⟩
      · exact .inl off
      · exact .inr (by rw [fault, d, decide_eq_false (by omega)]; rfl)
    rw [takePeriod_state (s := setLevels u lock closed drive s) rests]
    exact period_clauses (s := setLevels u lock closed drive s) lock closed (setLevels u lock closed drive s) ⟨levels.1, levels.2.1⟩

end Sys2Proof.Machine

/-! What the judging of the closes leaves, and the frames and reports that the end of an event makes (sections 3.4 and 9.5). -/

namespace Sys2Proof.Machine

variable {i : Instr} {u : UnitNo} {s t : State}

/-! ### A close request -/

/-- Channels, unit counters and the Release Set alone differ. -/
def Requested (s t : State) : Prop :=
  ∃ d r c, t = { s with dc := d, iu := { s.iu with releaseSet := r }, fr := { s.fr with unitCounters := c } }

theorem Requested.refl (s : State) : Requested s s := ⟨_, _, _, rfl⟩

theorem Requested.trans {a b c : State} (h : Requested a b) (k : Requested b c) : Requested a c := by
  obtain ⟨d, r, x, rfl⟩ := h
  obtain ⟨d', r', x', rfl⟩ := k
  exact ⟨d', r', x', rfl⟩

theorem moveUnit_requested {d : DoorChannel} (h : s.unit u ≠ .isolated) (h1 : d.st.outOfHands = false) : Requested s (moveUnit u d s) := by
  rw [moveUnit_plain h h1]
  exact ⟨_, _, s.fr.unitCounters, rfl⟩

theorem modUnitCounters_requested (u : UnitNo) (f : UnitCounters → UnitCounters) (s : State) : Requested s (s.modUnitCounters u f) :=
  ⟨s.dc, s.iu.releaseSet, _, rfl⟩

theorem setDc_requested (u : UnitNo) (d : DoorChannel) (s : State) : Requested s (s.setDc u d) :=
  ⟨_, s.iu.releaseSet, s.fr.unitCounters, rfl⟩

theorem reverseDone_requested (h : s.unit u ≠ .isolated) : Requested s (reverseDone u s) := by
  unfold reverseDone
  split <;> exact moveUnit_requested h rfl

theorem enterReversing_requested {g : ReverseTarget} (h : s.unit u ≠ .isolated) : Requested s (enterReversing g u s) := by
  rw [enterReversing_eq]
  split
  · exact (moveUnit_requested h rfl).trans (reverseDone_requested (by simp [reversingTo]))
  · exact moveUnit_requested h rfl

theorem reverseOnObstacle_requested (h : s.unit u ≠ .isolated) : Requested s (reverseOnObstacle u s) :=
  (modUnitCounters_requested u _ s).trans (enterReversing_requested h)

theorem enterClosing_requested {n : Nat} (h : s.unit u ≠ .isolated) : Requested s (enterClosing n u s) := by
  rw [enterClosing_eq]
  split
  · exact (moveUnit_requested h rfl).trans (reverseOnObstacle_requested (by simp [closingIn]))
  · exact moveUnit_requested h rfl

theorem countIgnored_requested (u : UnitNo) (s : State) : Requested s (countIgnored u s) := modUnitCounters_requested u _ s

theorem closeRequest_requested (u : UnitNo) (s : State) : Requested s (closeRequest u s) := by
  unfold closeRequest
  split
  case h_3 => exact setDc_requested u _ s
  case h_4 h | h_8 h => exact enterClosing_requested (by rw [h]; exact fun e => nomatch e)
  case h_7 | h_16 => exact .refl s
  all_goals exact countIgnored_requested u s

theorem berthCloseRequest_requested (u : UnitNo) (s : State) : Requested s (berthCloseRequest u s) := by
  unfold berthCloseRequest
  split
  · exact .refl s
  · exact closeRequest_requested u s

/-! ### The judging -/

/-- The judging of the members moves channels, unit counters, the Release Set and the closes' own records, in which a member's status
alone changes: the cycle keeps its warnings and holds. -/
structure MembersJudged (s t : State) : Prop where
  lc : t.lc = s.lc
  su : t.su = s.su
  berth : t.bu.berth = s.bu.berth
  holdList : t.bu.holdList = s.bu.holdList
  fr : ∃ c, t.fr = { s.fr with unitCounters := c }
  cycle : (t.bu.cycle.map fun c => (c.warnings, c.holds)) = s.bu.cycle.map fun c => (c.warnings, c.holds)
  emergency : (t.iu.emergencyClose.map EmergencyClose.warning) = s.iu.emergencyClose.map EmergencyClose.warning
  cl : t.cl = s.cl
  now : t.now = s.now
  latch : t.iu.latch = s.iu.latch
  ae : t.ae = s.ae
  out : t.out = s.out

theorem MembersJudged.refl (s : State) : MembersJudged s s := ⟨rfl, rfl, rfl, rfl, ⟨_, rfl⟩, rfl, rfl, rfl, rfl, rfl, rfl, rfl⟩

theorem MembersJudged.trans {a b c : State} (h : MembersJudged a b) (k : MembersJudged b c) : MembersJudged a c := by
  obtain ⟨x, hx⟩ := h.fr
  obtain ⟨y, hy⟩ := k.fr
  exact ⟨k.lc.trans h.lc, k.su.trans h.su, k.berth.trans h.berth, k.holdList.trans h.holdList, ⟨y, by rw [hy, hx]⟩, k.cycle.trans h.cycle,
    k.emergency.trans h.emergency, k.cl.trans h.cl, k.now.trans h.now, k.latch.trans h.latch, k.ae.trans h.ae, k.out.trans h.out⟩

theorem Requested.judged (h : Requested s t) : MembersJudged s t := by
  obtain ⟨d, r, c, rfl⟩ := h
  exact ⟨rfl, rfl, rfl, rfl, ⟨_, rfl⟩, rfl, rfl, rfl, rfl, rfl, rfl, rfl⟩

theorem judgeMember_judged (u : UnitNo) (s : State) : MembersJudged s (judgeMember u s) := by
  unfold judgeMember
  split
  · exact .refl s
  · next c hc =>
    split
    · exact .refl s
    · next m hm =>
      split
      · have started : MembersJudged s (s.setCycle (some { c with members := c.members.set u (some { m with status := .started }) })) :=
          ⟨rfl, rfl, rfl, rfl, ⟨_, rfl⟩, by rw [hc]; rfl, rfl, rfl, rfl, rfl, rfl, rfl⟩
        exact started.trans (berthCloseRequest_requested u _).judged
      · exact .refl s

theorem dropCovered_judged (u : UnitNo) (s : State) : MembersJudged s (dropCovered u s) := by
  unfold dropCovered
  split <;> exact ⟨rfl, rfl, rfl, rfl, ⟨_, rfl⟩, rfl, rfl, rfl, rfl, rfl, rfl, rfl⟩

theorem dropAccessMember_judged (u : UnitNo) (s : State) : MembersJudged s (dropAccessMember u s) := by
  unfold dropAccessMember
  split <;> exact ⟨rfl, rfl, rfl, rfl, ⟨_, rfl⟩, rfl, rfl, rfl, rfl, rfl, rfl, rfl⟩

theorem judgeCovered_judged (u : UnitNo) (s : State) : MembersJudged s (judgeCovered u s) := by
  unfold judgeCovered
  split
  · exact .refl s
  · split
    · exact (dropCovered_judged u s).trans (berthCloseRequest_requested u _).judged
    · exact .refl s

theorem judgeEmergencyMember_judged (u : UnitNo) (s : State) : MembersJudged s (judgeEmergencyMember u s) := by
  unfold judgeEmergencyMember
  split
  · exact .refl s
  · next e he =>
    split
    · split
      · have started : MembersJudged s
            (s.modIu fun i => { i with emergencyClose := some { e with members := e.members.set u (some .started) } }) :=
          ⟨rfl, rfl, rfl, rfl, ⟨_, rfl⟩, rfl, by rw [he]; rfl, rfl, rfl, rfl, rfl, rfl⟩
        exact started.trans (closeRequest_requested u _).judged
      · exact .refl s
    · exact .refl s

theorem judgeAccessMember_judged (u : UnitNo) (s : State) : MembersJudged s (judgeAccessMember u s) := by
  unfold judgeAccessMember
  split
  · exact .refl s
  · split
    · exact .refl s
    · split
      · exact (dropAccessMember_judged u s).trans (closeRequest_requested u _).judged
      · exact .refl s

theorem forUnits_judged {f : UnitNo → State → State} (h : ∀ u s, MembersJudged s (f u s)) (s : State) : MembersJudged s (forUnits f s) :=
  (((h .u0 s).trans (h .u1 _)).trans (h .u2 _)).trans (h .u3 _)

/-- Every close has judged its members. -/
def judgedMembers (s : State) : State :=
  forUnits judgeAccessMember (forUnits judgeEmergencyMember (forUnits judgeCovered (forUnits judgeMember s)))

theorem settleCloses_judged (s : State) : settleCloses s = completeEmergency (completeCycle (judgedMembers s)) := rfl

theorem judgedMembers_judged (s : State) : MembersJudged s (judgedMembers s) :=
  (((forUnits_judged judgeMember_judged s).trans (forUnits_judged judgeCovered_judged _)).trans
    (forUnits_judged judgeEmergencyMember_judged _)).trans (forUnits_judged judgeAccessMember_judged _)

theorem MembersJudged.seq (h : MembersJudged s t) : t.seq = s.seq := by
  rw [State.seq, h.berth]
  rfl

theorem MembersJudged.ownHolds (h : MembersJudged s t) : t.ownHolds = s.ownHolds := by
  have view : ∀ x : State, x.ownHolds = ((x.bu.cycle.map fun c => (c.warnings, c.holds)).map Prod.snd).getD [] := fun x => by
    unfold State.ownHolds
    rcases x.bu.cycle with _ | c <;> rfl
  rw [view, view, h.cycle]

/-! ### The frames -/

/-- The HOLD ENDs of a list of own holds. -/
def holdEnds (seq : Byte) (l : List OwnHold) : List (FrameKind × List Byte) := l.map fun h => (.hold, [seq, 2, byte h.car])

theorem sendHolds_enqueued (l : List OwnHold) (s : State) :
    Enqueued (holdEnds s.seq l) s (l.foldl (fun s h => sendHold 2 h.car s) s) := by
  have send : ∀ (l : List OwnHold) (a : State) (n : Byte), a.seq = n → Enqueued (holdEnds n l) a (l.foldl (fun s h => sendHold 2 h.car s) a) := by
    intro l
    induction l with
    | nil => exact fun a n _ => Enqueued.refl a
    | cons h l ih =>
      intro a n e
      have sent : Enqueued [(.hold, [n, 2, byte h.car])] a (sendHold 2 h.car a) := e ▸ enqueue_enqueued .hold [a.seq, 2, byte h.car] a
      have seq : (sendHold 2 h.car a).seq = n := by
        rw [State.seq, sendHold, (enqueue_sends .hold [a.seq, 2, byte h.car] a).bu]
        exact e
      exact sent.trans (ih _ n seq)
  exact send l s s.seq rfl

theorem endCycle_enqueued (s : State) : Enqueued (holdEnds s.seq s.ownHolds) s (endCycle true s) := by
  rw [endCycle_eq]
  exact (sendHolds_enqueued s.ownHolds (s.modBu (BerthUnit.withCycle none))).before rfl

/-- The ALERT of a trap at unit `v`. -/
def trapAlert (seq : Byte) (v : UnitNo) : FrameKind × List Byte := (.alert, [3, byte v.val, seq])

theorem raiseTrap_enqueued (u : UnitNo) (s : State) : Enqueued [trapAlert s.seq u] s (raiseTrap u s) := by
  have seq : (report .trap .severe (some u) (setAlarm u .trap s)).seq = s.seq := by rw [State.seq, (report_sends ..).bu]; rfl
  have sent := enqueue_enqueued .alert [3, byte u.val, (report .trap .severe (some u) (setAlarm u .trap s)).seq]
    (report .trap .severe (some u) (setAlarm u .trap s))
  rw [seq] at sent
  refine Enqueued.before (a := report .trap .severe (some u) (setAlarm u .trap s)) ?_ (by rw [report_lc]; rfl)
  show Enqueued _ _ (enqueue .alert [3, byte u.val, (report .trap .severe (some u) (setAlarm u .trap s)).seq] _)
  rw [seq]
  exact sent

/-- The units whose INTRUSION becomes a TRAP. -/
def State.intrusions (s : State) : List UnitNo := UnitNo.all.filter fun u => (s.su.units.get u).alarm == .intrusion

/-- What one unit's INTRUSION become a TRAP brings at a time comes to what the four bring. -/
theorem intrusions_induction {P : List UnitNo → State → Prop} (start : P [] s)
    (step : ∀ l a u, P l a → u ∉ l → P (l ++ if (s.su.units.get u).alarm == .intrusion then [u] else []) (intrusionToTrap u a)) :
    P s.intrusions (forUnits intrusionToTrap s) := by
  have split : s.intrusions =
      (([] ++ if (s.su.units.get .u0).alarm == .intrusion then [.u0] else []) ++
        (if (s.su.units.get .u1).alarm == .intrusion then [UnitNo.u1] else []) ++
        if (s.su.units.get .u2).alarm == .intrusion then [UnitNo.u2] else []) ++
        if (s.su.units.get .u3).alarm == .intrusion then [.u3] else [] := by
    unfold State.intrusions UnitNo.all
    simp only [List.filter_cons, List.filter_nil]
    split <;> split <;> split <;> split <;> rfl
  have out : ∀ (b : Bool) (u v : UnitNo), v ≠ u → v ∉ (if b then [u] else []) := fun b u v n => by
    cases b
    · exact List.not_mem_nil
    · exact fun m => n (List.mem_singleton.1 m)
  rw [split]
  unfold forUnits
  refine step _ _ .u3 (step _ _ .u2 (step _ _ .u1 (step _ _ .u0 start List.not_mem_nil) ?_) ?_) ?_
  · simp only [List.mem_append, not_or]
    exact ⟨List.not_mem_nil, out _ _ _ (by decide)⟩
  · simp only [List.mem_append, not_or]
    exact ⟨⟨List.not_mem_nil, out _ _ _ (by decide)⟩, out _ _ _ (by decide)⟩
  · simp only [List.mem_append, not_or]
    exact ⟨⟨⟨List.not_mem_nil, out _ _ _ (by decide)⟩, out _ _ _ (by decide)⟩, out _ _ _ (by decide)⟩

/-- The traps raised over a list of units, each at most once. -/
structure TrapsRaised (l : List UnitNo) (s t : State) : Prop where
  sent : Enqueued (l.map (trapAlert s.seq)) s t
  seq : t.seq = s.seq
  alarms : ∀ v, v ∉ l → t.su.units.get v = s.su.units.get v
  raised : ∀ v, v ∈ l → t.su.units.get v = { s.su.units.get v with alarm := .trap }

theorem TrapsRaised.refl (s : State) : TrapsRaised [] s s := ⟨Enqueued.refl s, rfl, fun _ _ => rfl, fun _ m => nomatch m⟩

theorem intrusionToTrap_raised (u : UnitNo) (s : State) :
    TrapsRaised (if (s.su.units.get u).alarm == .intrusion then [u] else []) s (intrusionToTrap u s) := by
  unfold intrusionToTrap
  split
  · refine ⟨raiseTrap_enqueued u s, ?_, fun v n => ?_, fun v m => ?_⟩
    · rw [State.seq, raiseTrap, (alert_sends ..).bu, (report_sends ..).bu]
      rfl
    · rw [raiseTrap_sensing, if_neg fun e => n (List.mem_singleton.2 e.symm)]
    · rw [raiseTrap_sensing, if_pos (List.mem_singleton.1 m).symm]
  · exact .refl s

theorem TrapsRaised.trans {l l' : List UnitNo} {a b c : State} (h : TrapsRaised l a b) (k : TrapsRaised l' b c) (apart : ∀ v ∈ l, v ∉ l') :
    TrapsRaised (l ++ l') a c := by
  refine ⟨?_, k.seq.trans h.seq, fun v n => ?_, fun v m => ?_⟩
  · have sent := k.sent
    rw [h.seq] at sent
    rw [List.map_append]
    exact h.sent.trans sent
  · rw [List.mem_append, not_or] at n
    rw [k.alarms v n.2, h.alarms v n.1]
  · rcases List.mem_append.1 m with m | m
    · rw [k.alarms v (apart v m), h.raised v m]
    · rw [k.raised v m]
      by_cases both : v ∈ l
      · exact absurd m (apart v both)
      · rw [h.alarms v both]

theorem traps_raised (s : State) : TrapsRaised s.intrusions s (forUnits intrusionToTrap s) := by
  have step : ∀ (l : List UnitNo) (a : State) (u : UnitNo), TrapsRaised l s a → u ∉ l →
      TrapsRaised (l ++ if (s.su.units.get u).alarm == .intrusion then [u] else []) s (intrusionToTrap u a) := fun l a u h n => by
    have one := intrusionToTrap_raised u a
    rw [h.alarms u n] at one
    refine h.trans one fun v m c => ?_
    split at c
    · exact n (List.mem_singleton.1 c ▸ m)
    · cases c
  exact intrusions_induction (.refl s) step

theorem intrusions_length (s : State) : s.intrusions.length ≤ 4 := List.length_filter_le _ UnitNo.all

/-! ### The berth secured -/

theorem endCycle_su (s : State) : (endCycle true s).su = s.su ∧ (endCycle true s).bu.berth = s.bu.berth := by
  have sends : ∀ (l : List OwnHold) (a : State), (l.foldl (fun s h => sendHold 2 h.car s) a).su = a.su ∧
      (l.foldl (fun s h => sendHold 2 h.car s) a).bu = a.bu := by
    intro l
    induction l with
    | nil => exact fun _ => ⟨rfl, rfl⟩
    | cons h l ih =>
      intro a
      have one := enqueue_sends .hold [a.seq, 2, byte h.car] a
      exact ⟨(ih _).1.trans one.su, (ih _).2.trans one.bu⟩
  rw [endCycle_eq]
  exact ⟨(sends _ _).1, (congrArg BerthUnit.berth (sends s.ownHolds (s.modBu (BerthUnit.withCycle none))).2).trans rfl⟩

theorem intrusions_congr {a b : State} (h : b.su = a.su) : b.intrusions = a.intrusions := by
  unfold State.intrusions
  rw [h]

/-- The berth goes to a state with a train: each INTRUSION becomes a TRAP (R151). -/
theorem setBerthState_raised {st : BerthState} (h : st.beforeTrain = false) (s : State) : TrapsRaised s.intrusions s (setBerthState st s) := by
  rw [setBerthState_eq, h, if_neg Bool.false_ne_true]
  obtain ⟨sent, seq, alarms, raised⟩ := traps_raised (s.modBu (BerthUnit.enter st))
  exact ⟨sent.before rfl, seq, alarms, raised⟩

/-- The cycle ends and the berth is SECURED: a HOLD END for each own hold, then the traps. -/
theorem secure_enqueued (s : State) :
    Enqueued (holdEnds s.seq s.ownHolds ++ s.intrusions.map (trapAlert s.seq)) s (setBerthState .secured (endCycle true s)) := by
  have traps := (setBerthState_raised (st := .secured) rfl (endCycle true s)).sent
  have seq : (endCycle true s).seq = s.seq := by
    rw [State.seq, (endCycle_su s).2]
    rfl
  rw [intrusions_congr (endCycle_su s).1, seq] at traps
  exact (endCycle_enqueued s).trans traps

/-- A frame of the closes' end: a HOLD END of the cycle or the ALERT of a trap. -/
def ClosesFrame (s : State) (f : FrameKind × List Byte) : Prop :=
  f ∈ holdEnds s.seq s.ownHolds ∨ ∃ v ∈ s.intrusions, f = trapAlert s.seq v

theorem secure_frames {s : State} {f : FrameKind × List Byte} (h : f ∈ holdEnds s.seq s.ownHolds ++ s.intrusions.map (trapAlert s.seq)) :
    ClosesFrame s f := by
  rcases List.mem_append.1 h with m | m
  · exact .inl m
  · obtain ⟨v, member, rfl⟩ := List.mem_map.1 m
    exact .inr ⟨v, member, rfl⟩

/-- The berth stands where no completed close secures it. -/
def State.unsecurable (s : State) : Prop := s.berthState ≠ .closing ∧ s.berthState ≠ .released

theorem completeCycle_unsecurable {s : State} (h : s.unsecurable) : completeCycle s = s := by
  unfold completeCycle
  split
  · rfl
  · rw [beq_eq_false_iff_ne.2 h.1, Bool.false_and, if_neg Bool.false_ne_true]

theorem emergencyNotice_unsecurable {s : State} (h : s.unsecurable) : emergencyNotice s = s := by
  unfold emergencyNotice
  split
  · next e => exact absurd e h.2
  · next e => exact absurd e h.1
  · rfl

theorem completeCycle_cases (s : State) : completeCycle s = s ∨ completeCycle s = setBerthState .secured (endCycle true s) := by
  unfold completeCycle
  split
  · exact .inl rfl
  · split
    · exact .inr rfl
    · exact .inl rfl

theorem emergencyNotice_cases (s : State) : emergencyNotice s = s ∨ emergencyNotice s = setBerthState .secured (endCycle true s) := by
  unfold emergencyNotice
  split
  · exact .inr rfl
  · exact .inr rfl
  · exact .inl rfl

theorem completeEmergency_cases (s : State) :
    completeEmergency s = s ∨ completeEmergency s = emergencyNotice (s.modIu fun i => { i with emergencyClose := none }) := by
  unfold completeEmergency
  split
  · exact .inl rfl
  · split
    · exact .inr rfl
    · exact .inl rfl

theorem secure_berthState (s : State) : (setBerthState .secured (endCycle true s)).berthState = .secured := by
  rw [State.berthState, setBerthState_bu]
  rfl

/-- What the closes' end enqueues, once: a second completion finds the berth SECURED. -/
theorem completions_sent (s : State) :
    ∃ l, Enqueued l s (completeEmergency (completeCycle s)) ∧ ∀ f ∈ l, ClosesFrame s f := by
  rcases completeCycle_cases s with rests | secured
  · rw [rests]
    rcases completeEmergency_cases s with still | ends
    · rw [still]
      exact ⟨[], Enqueued.refl s, fun _ m => nomatch m⟩
    · rw [ends]
      rcases emergencyNotice_cases (s.modIu fun i => { i with emergencyClose := none }) with still | secured
      · rw [still]
        exact ⟨[], Enqueued.of_queue rfl, fun _ m => nomatch m⟩
      · rw [secured]
        exact ⟨_, (secure_enqueued (s.modIu fun i => { i with emergencyClose := none })).before rfl, fun f m => secure_frames (s := s) m⟩
  · have sent := secure_enqueued s
    have state := secure_berthState s
    rw [secured]
    generalize setBerthState .secured (endCycle true s) = x at sent state
    have calm : x.unsecurable := by
      unfold State.unsecurable
      rw [state]
      exact ⟨(fun e => nomatch e), fun e => nomatch e⟩
    have queue : (completeEmergency x).lc.queue = x.lc.queue := by
      rcases completeEmergency_cases x with still | ends
      · rw [still]
      · rw [ends, emergencyNotice_unsecurable (s := x.modIu fun i => { i with emergencyClose := none }) calm]
        rfl
    exact ⟨_, sent.after queue, fun f m => secure_frames m⟩

theorem ClosesFrame.congr {a b : State} {f : FrameKind × List Byte} (h : ClosesFrame b f) (seq : b.seq = a.seq) (holds : b.ownHolds = a.ownHolds)
    (su : b.su = a.su) : ClosesFrame a f := by
  unfold ClosesFrame at h ⊢
  rw [← seq, ← holds, ← intrusions_congr su]
  exact h

/-- The frames of an event's end: HOLD ENDs of the cycle, the ALERTs of traps, and a beacon. -/
theorem settle_sent (s0 s : State) : ∃ l, Enqueued l s (settle s0 s) ∧ ∀ f ∈ l, ClosesFrame s f ∨ f.1 = .beacon := by
  have judged := judgedMembers_judged s
  obtain ⟨l, sent, closes⟩ := completions_sent (judgedMembers s)
  obtain ⟨l', beacons, -, kinds⟩ := finish_enqueued (driveWarning (Machine.judged s0 s))
  have closed : Enqueued l s (settleCloses s) := sent.before (congrArg LineController.queue judged.lc)
  have queue : (driveWarning (Machine.judged s0 s)).lc.queue = (settleCloses s).lc.queue := by
    rw [judged_eq]
    rfl
  refine ⟨l ++ l', ?_, fun f m => ?_⟩
  · rw [settle_eq]
    exact closed.trans (beacons.before queue)
  · rcases List.mem_append.1 m with m | m
    · exact .inl ((closes f m).congr judged.seq judged.ownHolds judged.su)
    · exact .inr (kinds f m)

theorem trapAlert_inj {seq : Byte} {u v : UnitNo} (h : trapAlert seq u = trapAlert seq v) : u = v := by
  simp only [trapAlert, Prod.mk.injEq, List.cons.injEq, true_and, and_true] at h
  exact byte_unit_inj h

/-- An ALERT that is no trap's of a unit with an INTRUSION stands through the end of an event. -/
theorem settle_alerts (s0 : State) {s : State} {p : List Byte} (h : ∀ v, (s.su.units.get v).alarm = .intrusion → p ≠ [3, byte v.val, s.seq]) :
    (settle s0 s).frames .alert p = s.frames .alert p := by
  obtain ⟨l, sent, frames⟩ := settle_sent s0 s
  refine sent.frames_other (fun e => nomatch e) fun f m => ⟨fun e => ?_, Nat.zero_le _⟩
  subst e
  rcases frames _ m with (hold | ⟨v, intrusion, same⟩) | beacon
  · obtain ⟨x, -, e⟩ := List.mem_map.1 hold
    cases congrArg Prod.fst e
  · refine h v ?_ (congrArg Prod.snd same)
    exact beq_iff_eq.1 (List.mem_filter.1 intrusion).2
  · cases beacon

/-! ### No report where the berth cannot be secured -/

theorem completions_unsecurable {s : State} (h : s.unsecurable) : ∃ e, completeEmergency (completeCycle s) = s.modIu fun i => { i with emergencyClose := e } := by
  rw [completeCycle_unsecurable h]
  rcases completeEmergency_cases s with still | ends
  · exact ⟨s.iu.emergencyClose, still⟩
  · exact ⟨none, by rw [ends, emergencyNotice_unsecurable (s := s.modIu fun i => { i with emergencyClose := none }) h]⟩

theorem MembersJudged.unsecurable {s t : State} (h : MembersJudged s t) (k : s.unsecurable) : t.unsecurable := by
  unfold State.unsecurable State.berthState
  rw [h.berth]
  exact k

/-- The end of an event at which no completed close secures the berth: nothing is reported, no alarm moves, and a beacon alone is
enqueued. -/
theorem settle_uncompleted (s0 : State) {s : State} (h : ∃ e, settleCloses s = (judgedMembers s).modIu fun i => { i with emergencyClose := e }) :
    Spares (fun _ _ => false) s (settle s0 s) ∧ (settle s0 s).su = s.su ∧
      ∃ l, Enqueued l s (settle s0 s) ∧ l.length ≤ 1 ∧ ∀ f ∈ l, f.1 = .beacon := by
  have judged := judgedMembers_judged s
  obtain ⟨e, completed⟩ := h
  obtain ⟨c, counters⟩ := judged.fr
  have sends := finish_sends (driveWarning (Machine.judged s0 s))
  obtain ⟨l, beacons, len, kinds⟩ := finish_enqueued (driveWarning (Machine.judged s0 s))
  have eq := judged_eq s0 s
  rw [completed] at eq
  have fr : (driveWarning (Machine.judged s0 s)).fr = { s.fr with unitCounters := c } := by
    rw [eq]
    exact counters
  have su : (driveWarning (Machine.judged s0 s)).su = s.su := by
    rw [eq]
    exact judged.su
  have lc : (driveWarning (Machine.judged s0 s)).lc = s.lc := by
    rw [eq]
    exact judged.lc
  rw [settle_eq]
  refine ⟨?_, sends.su.trans su, l, beacons.before (congrArg LineController.queue lc), len, kinds⟩
  have same : Spares (fun _ _ => false) s (driveWarning (Machine.judged s0 s)) := .of_slots (by rw [fr]) (by rw [fr]) (by rw [fr])
  exact same.trans (finish_spares _)

theorem settle_unsecurable (s0 : State) {s : State} (h : s.unsecurable) :
    Spares (fun _ _ => false) s (settle s0 s) ∧ (settle s0 s).su = s.su ∧
      ∃ l, Enqueued l s (settle s0 s) ∧ l.length ≤ 1 ∧ ∀ f ∈ l, f.1 = .beacon := by
  have completed := completions_unsecurable ((judgedMembers_judged s).unsecurable h)
  rw [← settleCloses_judged] at completed
  exact settle_uncompleted s0 completed

end Sys2Proof.Machine

/-! The latched inputs, and the gap filter with its alarms (chapters 8 and 10). -/

namespace Sys2Proof.Machine

variable {i : Instr} {u : UnitNo} {s : State}

/-! ### The own number at the end of an event (R173) -/

theorem settle_ownRelease {x : State} (s0 : State) (h : OwnReleaseFollows x) : OwnReleaseFollows (settle s0 x) :=
  settle_keeps (P := OwnReleaseFollows) (fun _ _ => move_ownRelease) (fun _ _ k => k) h

/-- A released unit's own number stands in the Release Set. -/
theorem OwnReleaseFollows.own {x : State} (h : OwnReleaseFollows x) (strap : x.strapOk = true)
    (released : x.unit u = .manualReleased ∨ x.unit u = .releaseRestored) : x.cl.own ∈ x.iu.releaseSet :=
  h.2 ⟨strap, u, released⟩

theorem moveUnit_ownRelease (u : UnitNo) (d : DoorChannel) (s : State) : OwnReleaseFollows (moveUnit u d s) := by
  rw [moveUnit_eq]
  exact moves_ownRelease ((hangs_moves (i := .configReadFail) _ _ _ _).trans (checkAlarm_moves _ _)) (syncOwnRelease_follows _)

/-! ### An ALERT at the end of an event -/

/-- An ALERT of another kind than TRAP joins once. -/
theorem settle_alerted {k : AlertKind} {x : State} {p : List Byte} (s0 : State) (room : s.lc.queue.length < 16) (queue : x.lc.queue = s.lc.queue)
    (form : [k.code, byte u.val, x.seq] = p)
    (other : ∀ v, ((alert k (some u) x).su.units.get v).alarm = .intrusion → p ≠ [3, byte v.val, (alert k (some u) x).seq]) :
    (settle s0 (alert k (some u) x)).frames .alert p = s.frames .alert p + 1 := by
  rw [settle_alerts s0 other, ← form]
  refine (frames_enqueue_room (s := x) (k := .alert) (p := [k.code, byte u.val, x.seq]) (k' := .alert) (p' := [k.code, byte u.val, x.seq])
    (fun e => nomatch e) (by rw [queue]; exact room)).trans ?_
  rw [if_pos rfl, frames_eq, queue, ← frames_eq]

/-! ### The handle (R139, R171) -/

/-- A report and the ALERT of it leave all but the FR and the LC. -/
theorem noted_sends (k : FaultKind) (a : AlertKind) (u : UnitNo) (x : State) : Sends x (alert a (some u) (report k .minor (some u) x)) :=
  (report_sends k .minor (some u) x).trans (alert_sends a (some u) _)

theorem exec_handleOperation (active : s.active u = true) (free : (s.su.units.get u).handle.live = false) :
    Sys2Proof.Machine.exec (.handleOperation u) s =
      .next (settle s (operateHandle u (s.modPins u fun p => { p with handle := true }))) := by
  show Host.Outcome.next (if s.active u && !(s.su.units.get u).handle.live then _ else _) = _
  rw [active, free]
  rfl

/-- The unit released by hand, before it is noted. -/
def handReleased (u : UnitNo) (s : State) : State :=
  enterManualReleased u ((s.modPins u fun p => { p with handle := true }).modSu u fun x => { x with handle := ⟨true, true⟩ })

theorem operateHandle_eq (u : UnitNo) (s : State) :
    operateHandle u (s.modPins u fun p => { p with handle := true }) =
      alert .handle (some u) (report .handle .minor (some u) (countHandle u (handReleased u s))) := rfl

theorem modSu_unit (u : UnitNo) (f : UnitSensing → UnitSensing) (s : State) : (s.modSu u f).su.units.get u = f (s.su.units.get u) := by
  unfold State.modSu
  exact Quad.get_set_self ..

theorem setSu_unit (u : UnitNo) (x : UnitSensing) (s : State) : (s.setSu u x).su.units.get u = x := Quad.get_set_self ..

theorem modPins_edge (u : UnitNo) (f : UnitPins → UnitPins) (h : ∀ p, (f p).edge = p.edge) (s : State) :
    ((s.modPins u f).pins.units.get u).edge = (s.pins.units.get u).edge := by
  unfold State.modPins
  dsimp only
  rw [Quad.get_set_self, h]

theorem handReleased_channel (u : UnitNo) (s : State) :
    (handReleased u s).dc.get u = { (s.dc.get u).into .manualReleased with attempt := 0 } := moveUnit_channel u _ _

theorem handReleased_sensing (u : UnitNo) (s : State) :
    (handReleased u s).su.units.get u =
      if s.unit u = .isolated then
        { (s.su.units.get u).begun (s.pins.units.get u).edge s.now with handle := ⟨true, true⟩ }
      else { s.su.units.get u with handle := ⟨true, true⟩ } := by
  unfold handReleased enterManualReleased
  rw [moveUnit_sensing (.inl (show UnitState.manualReleased ≠ .closedLocked from fun e => nomatch e)), modSu_unit]
  show enteredSensing (s.unit u) .manualReleased ((s.modPins u fun p => { p with handle := true }).pins.units.get u).edge s.now _ = _
  rw [modPins_edge _ (fun p : UnitPins => { p with handle := true }) (fun _ => rfl)]
  unfold enteredSensing
  by_cases out : s.unit u = .isolated
  · rw [if_pos (And.intro out (by decide)), if_pos out]
    rfl
  · rw [if_neg fun c => out c.1, if_neg fun c => UnitState.noConfusion c.2, if_neg out]
    rfl

theorem handReleased_silent (u : UnitNo) (s : State) :
    (handReleased u s).fr = s.fr ∧ (handReleased u s).lc = s.lc ∧ (handReleased u s).bu.berth = s.bu.berth :=
  moveUnit_silent (u := u) (d := { (s.dc.get u).into .manualReleased with attempt := 0 }) (fun e => nomatch e) (fun e => nomatch e)
    ((s.modPins u fun p => { p with handle := true }).modSu u fun x => { x with handle := ⟨true, true⟩ })

theorem modPins_keeps (u : UnitNo) (f : UnitPins → UnitPins) (s : State) : Keeps (only u) s (s.modPins u f) :=
  ⟨{ Leaves.refl (only u) s with }, fun _ _ _ => rfl⟩

theorem handReleased_keeps (u : UnitNo) (s : State) :
    Keeps (only u) s (handReleased u s) ∧ (handReleased u s).now = s.now ∧
      (handReleased u s).pins = (s.modPins u fun p => { p with handle := true }).pins := by
  have sensed := modSu_holds u (fun x => { x with handle := ⟨true, true⟩ }) (s.modPins u fun p => { p with handle := true })
  have moved := sensed.trans (enterManualReleased_holds u _)
  exact ⟨(modPins_keeps u _ s).trans moved.1, moved.2⟩

/-- With the platform hold on, and no other close under way, no member is judged free (R164). -/
theorem judgedMembers_platformHold {x : State} (hold : x.platformHold = true) (departure : x.bu.departure = none)
    (emergency : x.iu.emergencyClose = none) (access : x.iu.accessClose = none) : judgedMembers x = x := by
  have bound : ∀ c u w, x.memberFree c u w = false := fun c u w => by rw [State.memberFree, hold, Bool.not_true, Bool.and_false]
  have members : forUnits judgeMember x = x := forUnits_still fun u => by
    unfold judgeMember
    split
    · rfl
    · split
      · rfl
      · rw [bound, Bool.and_false, if_neg Bool.false_ne_true]
  unfold judgedMembers
  rw [members, forUnits_still (f := judgeCovered) fun u => by rw [judgeCovered, departure],
    forUnits_still (f := judgeEmergencyMember) fun u => by rw [judgeEmergencyMember, emergency],
    forUnits_still (f := judgeAccessMember) fun u => by rw [judgeAccessMember, access]]

theorem platformHold_of {x : State} {n : Node} (closing : x.berthState = .closing) (m : n ∈ x.iu.releaseSet) : x.platformHold = true := by
  rw [State.platformHold, closing]
  rcases e : x.iu.releaseSet with _ | ⟨a, l⟩
  · rw [e] at m
    cases m
  · rfl

theorem strapOk_congr {a b : State} (cl : b.cl = a.cl) : b.strapOk = a.strapOk := by
  rw [State.strapOk, cl]
  rfl

/-- The handle's operation on a unit whose handle stood free. -/
theorem handle_operated (active : s.active u = true) (free : (s.su.units.get u).handle.live = false) :
    ∃ t, Sys2Proof.Machine.exec (.handleOperation u) s = .next t ∧
      t.dc.get u = { (s.dc.get u).into .manualReleased with attempt := 0 } ∧
      (t.su.units.get u).handle = ⟨true, true⟩ ∧ t.iu.accessMarks.get u = false ∧
      (s.unit u = .isolated →
        KeepsSensing { (s.su.units.get u).begun (s.pins.units.get u).edge s.now with handle := ⟨true, true⟩ } (t.su.units.get u)) ∧
      (s.unit u ≠ .isolated → KeepsSensing { s.su.units.get u with handle := ⟨true, true⟩ } (t.su.units.get u)) ∧
      Reported .minor ⟨.handle, some u, s.seq, s.now⟩ s.fr t.fr ∧
      (s.lc.queue.length < 16 →
        t.frames .alert [1, byte u.val, s.seq] = s.frames .alert [1, byte u.val, s.seq] + 1) ∧
      (t.fr.unitCounters.get u).handleReleases = (s.fr.unitCounters.get u).handleReleases.bump ∧
      (s.strapOk = true → s.cl.own ∈ t.iu.releaseSet) ∧
      (s.strapOk = true → s.berthState = .closing → (t.berthState = .closing → t.platformHold = true) ∧
        (s.bu.departure = none → s.iu.emergencyClose = none → s.iu.accessClose = none → ∀ v, v ≠ u → t.dc.get v = s.dc.get v)) ∧
      t.now = s.now ∧ t.pins = (s.modPins u fun p => { p with handle := true }).pins ∧ Keeps (only u) s t := by
  have exec := exec_handleOperation active free
  rw [operateHandle_eq] at exec
  have channel := handReleased_channel u s
  have sensing := handReleased_sensing u s
  have silent := handReleased_silent u s
  obtain ⟨keeps, now, pins⟩ := handReleased_keeps u s
  have others : ∀ v, v ≠ u → (handReleased u s).dc.get v = s.dc.get v := fun v other => by
    rw [handReleased, enterManualReleased, moveUnit_dc, Quad.get_set_ne _ _ (Ne.symm other)]
    rfl
  have mark : (handReleased u s).iu.accessMarks.get u = false := moveUnit_mark rfl _
  have own : OwnReleaseFollows (handReleased u s) := moveUnit_ownRelease u _ _
  generalize handReleased u s = m at exec channel sensing silent keeps now pins others mark own
  obtain ⟨fr, lc, berth⟩ := silent
  have sends := noted_sends .handle .handle u (countHandle u m)
  have counted := modUnitCounters_holds u (fun c => { c with handleReleases := c.handleReleases.bump }) m
  have seq : (countHandle u m).seq = s.seq := by
    rw [State.seq]
    exact congrArg Berth.seq berth
  have made := report_reported .handle .minor (some u) (countHandle u m)
  rw [seq, show (countHandle u m).now = s.now from now] at made
  have minor : (countHandle u m).fr.slot .minor = s.fr.slot .minor := by rw [← fr]; rfl
  have kinds : (countHandle u m).fr.kinds = s.fr.kinds := by rw [← fr]; rfl
  have noted := (made.before minor kinds).after (b := alert .handle (some u) (report .handle .minor (some u) (countHandle u m)))
    ((alert_sends .handle (some u) _).slot_kept .minor) (alert_spares (p := fun _ _ => false) .handle (some u) _) fun _ => rfl
  have frames := settle_alerted (s := s) (k := .handle) (u := u) (x := report .handle .minor (some u) (countHandle u m))
    (p := [1, byte u.val, s.seq]) s
  have reportSeq : (report .handle .minor (some u) (countHandle u m)).seq = s.seq := by
    rw [State.seq, (report_sends ..).bu]
    exact seq
  have reportQueue : (report .handle .minor (some u) (countHandle u m)).lc.queue = s.lc.queue := by
    rw [report_lc]
    exact congrArg LineController.queue lc
  have counters : (alert .handle (some u) (report .handle .minor (some u) (countHandle u m))).fr.unitCounters.get u =
      { s.fr.unitCounters.get u with handleReleases := (s.fr.unitCounters.get u).handleReleases.bump } := by
    rw [alert, enqueue_unitCounters, report_unitCounters, ← fr]
    exact Quad.get_set_self ..
  generalize alert .handle (some u) (report .handle .minor (some u) (countHandle u m)) = a at exec sends noted frames counters
  have held : Keeps (only u) s a := (keeps.trans counted.1).trans (sends.holds (only u)).1
  have ends := settle_ends s a
  have dc : a.dc = m.dc := sends.dc
  have iu : a.iu = m.iu := sends.iu
  have own' : OwnReleaseFollows (settle s a) :=
    settle_ownRelease s (own.congr (by rw [sends.cl]; rfl) (by rw [iu]) (fun v => by rw [State.unit, dc]; rfl))
  have closed : (a.unit u).closable = false := by
    rw [State.unit, dc, channel]
    rfl
  have unmoved := settle_unmoved s closed
  have inSet : s.strapOk = true → s.cl.own ∈ (settle s a).iu.releaseSet := fun strap => by
    have cl : (settle s a).cl = s.cl := ends.1.cl.trans held.cl
    rw [← cl]
    exact own'.own (u := u) (by rw [strapOk_congr cl]; exact strap) (.inl (by rw [State.unit, unmoved, dc, channel]; rfl))
  have suAt : a.su.units.get u = _ := (congrArg (fun q : SensingUnit => q.units.get u) sends.su).trans sensing
  have suKept := ends.1.sensing u rfl
  rw [suAt] at suKept
  refine ⟨_, exec, by rw [unmoved, dc, channel], ?_, ?_, fun out => ?_, fun out => ?_, noted.settled (fun e => nomatch e), fun room => ?_, ?_, inSet,
    fun strap closing => ⟨fun still => ?_, fun departure emergency access v other => ?_⟩, ?_, ?_, held.trans ends.1.weaken⟩
  · rcases suKept with same | ⟨-, same⟩
    · rw [same]
      split <;> rfl
    · rw [same]
      split <;> rfl
  · rw [ends.1.accessMarks u rfl, iu]
    exact mark
  · rw [if_pos out] at suKept
    exact suKept
  · rw [if_neg out] at suKept
    exact suKept
  · exact frames room reportQueue (by rw [reportSeq]; rfl) (fun v _ e => by cases e)
  · have kept := congrArg UnitCounters.handleReleases (ends.1.unitCounters u rfl)
    exact kept.trans (congrArg UnitCounters.handleReleases counters)
  · exact platformHold_of still (inSet strap)
  · have own : a.cl.own ∈ a.iu.releaseSet := by
      have cl : a.cl = s.cl := held.cl
      have follows : OwnReleaseFollows a := own.congr (by rw [sends.cl]; rfl) (by rw [iu]) (fun v => by rw [State.unit, dc]; rfl)
      exact follows.own (u := u) (by rw [strapOk_congr cl]; exact strap) (.inl (by rw [State.unit, dc, channel]; rfl))
    have berthState : a.berthState = .closing := by
      rw [State.berthState, sends.bu]
      exact (congrArg Berth.state berth).trans closing
    have judged := judgedMembers_platformHold (platformHold_of berthState own) (held.noDeparture departure) (held.noEmergencyClose emergency)
      (held.noAccessClose access)
    have stands := settle_channel v s a
    rw [show forUnits judgeAccessMember _ = judgedMembers a from rfl, judged] at stands
    rw [stands.dc, dc]
    exact others v other
  · exact ends.2.1.trans (sends.now.trans now)
  · exact ends.2.2.trans (sends.pins.trans pins)

/-! ### The handle's return and the panel (R140, R175) -/

/-- The handle's cell freed. -/
def handleFreed (u : UnitNo) (s : State) : State :=
  (s.modPins u fun p => { p with handle := false }).setSu u
    { s.su.units.get u with handle := ⟨false, (s.su.units.get u).handle.held⟩ }

theorem returnHandle_eq (u : UnitNo) (s : State) :
    returnHandle u (s.modPins u fun p => { p with handle := false }) =
      if s.unit u = .manualReleased then enterReleaseRestored u (handleFreed u s) else handleFreed u s := rfl

theorem exec_handleReturn (active : s.active u = true) (live : (s.su.units.get u).handle.live = true) :
    Sys2Proof.Machine.exec (.handleReturn u) s =
      .next (settle s (returnHandle u (s.modPins u fun p => { p with handle := false }))) := by
  show Host.Outcome.next (if s.active u && (s.su.units.get u).handle.live then _ else _) = _
  rw [active, live]
  rfl

theorem handle_returned (active : s.active u = true) (live : (s.su.units.get u).handle.live = true) :
    ∃ t, Sys2Proof.Machine.exec (.handleReturn u) s = .next t ∧
      (s.unit u = .manualReleased → s.strapOk = true → s.cl.own ∈ t.iu.releaseSet) ∧
      (s.unit u = .manualReleased → Ends ((handleFreed u s).setDc u ((s.dc.get u).into .releaseRestored)) t) ∧
      (s.unit u ≠ .manualReleased → Ends (handleFreed u s) t) := by
  have exec := exec_handleReturn active live
  rw [returnHandle_eq] at exec
  refine ⟨_, exec, fun released strap => ?_, fun released => ?_, fun other => ?_⟩
  · rw [if_pos released]
    have own : OwnReleaseFollows (enterReleaseRestored u (handleFreed u s)) := moveUnit_ownRelease u _ _
    have cl : (enterReleaseRestored u (handleFreed u s)).cl = s.cl := (enterReleaseRestored_holds u (handleFreed u s)).1.cl
    have restored : (enterReleaseRestored u (handleFreed u s)).unit u = .releaseRestored := by
      rw [enterReleaseRestored, moveUnit_unit]
      rfl
    generalize enterReleaseRestored u (handleFreed u s) = x at own cl restored
    have ends := settle_ends s x
    have unmoved := settle_unmoved (u := u) s (s := x) (by rw [restored]; rfl)
    rw [← cl, ← ends.1.cl]
    exact (settle_ownRelease s own).own (u := u) (by rw [strapOk_congr (ends.1.cl.trans cl)]; exact strap)
      (.inr (by rw [State.unit, unmoved]; exact restored))
  · rw [if_pos released]
    exact (moveUnit_ends (s := handleFreed u s) (d := (s.dc.get u).into .releaseRestored)
      (by show s.unit u ≠ _; rw [released]; exact fun e => nomatch e) rfl).settled s
  · rw [if_neg other]
    exact settle_ends _ _

/-- The panel's cell operated. -/
def panelOperated (u : UnitNo) (s : State) : State :=
  (s.modPins u fun p => { p with panel := true }).setSu u { s.su.units.get u with panel := ⟨true, true⟩ }

theorem exec_panelOperation (active : s.active u = true) (free : (s.su.units.get u).panel.live = false) :
    Sys2Proof.Machine.exec (.panelOperation u) s =
      .next (settle s (alert .panel (some u) (report .panel .minor (some u) (markPanel u (panelOperated u s))))) := by
  show Host.Outcome.next (if s.active u && !(s.su.units.get u).panel.live then _ else _) = _
  rw [active, free]
  rfl

theorem panel_operated (active : s.active u = true) (free : (s.su.units.get u).panel.live = false) :
    ∃ t, Sys2Proof.Machine.exec (.panelOperation u) s = .next t ∧ t.iu.panelMarks.get u = true ∧
      Reported .minor ⟨.panel, some u, s.seq, s.now⟩ s.fr t.fr ∧
      (s.lc.queue.length < 16 →
        t.frames .alert [2, byte u.val, s.seq] = s.frames .alert [2, byte u.val, s.seq] + 1) ∧
      Ends { panelOperated u s with iu := { s.iu with panelMarks := s.iu.panelMarks.set u true } } t := by
  have sends := noted_sends .panel .panel u (markPanel u (panelOperated u s))
  have made := report_reported .panel .minor (some u) (markPanel u (panelOperated u s))
  have noted := made.after (b := alert .panel (some u) (report .panel .minor (some u) (markPanel u (panelOperated u s))))
    ((alert_sends .panel (some u) _).slot_kept .minor) (alert_spares (p := fun _ _ => false) .panel (some u) _) fun _ => rfl
  have seq : (report .panel .minor (some u) (markPanel u (panelOperated u s))).seq = s.seq := by
    rw [State.seq, (report_sends ..).bu]
    rfl
  have queue : (report .panel .minor (some u) (markPanel u (panelOperated u s))).lc.queue = s.lc.queue := by
    rw [report_lc]
    rfl
  have frames := settle_alerted (s := s) (k := .panel) (u := u) (x := report .panel .minor (some u) (markPanel u (panelOperated u s)))
    (p := [2, byte u.val, s.seq]) s
  have ends : Ends { panelOperated u s with iu := { s.iu with panelMarks := s.iu.panelMarks.set u true } } _ := sends.ends.settled s
  refine ⟨_, exec_panelOperation active free, ?_, noted.settled (fun e => nomatch e), fun room => ?_, ends⟩
  · rw [ends.1.panelMarks]
    exact Quad.get_set_self ..
  · exact frames room queue (by rw [seq]; rfl) (fun v _ e => by cases e)

theorem panel_returned (active : s.active u = true) (live : (s.su.units.get u).panel.live = true) :
    ∃ t, Sys2Proof.Machine.exec (.panelReturn u) s = .next t ∧
      Ends
        { (s.modPins u fun p => { p with panel := false }).setSu u { s.su.units.get u with panel := ⟨false, false⟩ } with
          iu := { s.iu with panelMarks := s.iu.panelMarks.set u false } } t := by
  have exec : Sys2Proof.Machine.exec (.panelReturn u) s =
      .next (settle s (returnPanel u (s.modPins u fun p => { p with panel := false }))) := by
    show Host.Outcome.next (if s.active u && (s.su.units.get u).panel.live then _ else _) = _
    rw [active, live]
    rfl
  exact ⟨_, exec, settle_ends _ _⟩

/-- Settles O53: each operation and return by what it does before the event ends, and a level that does not change by its pin alone. -/
theorem handlesAndPanels : Obligations.HandlesAndPanels := by
  intro u s active
  refine ⟨fun free => handle_operated active free, fun live => handle_returned active live, fun free => panel_operated active free,
    fun live => panel_returned active live, fun live => ?_, fun free => ?_, fun live => ?_, fun free => ?_⟩
  · show Host.Outcome.next (if s.active u && !(s.su.units.get u).handle.live then _ else _) = _
    rw [live, Bool.not_true, Bool.and_false, if_neg Bool.false_ne_true]
  · show Host.Outcome.next (if s.active u && (s.su.units.get u).handle.live then _ else _) = _
    rw [free, Bool.and_false, if_neg Bool.false_ne_true]
  · show Host.Outcome.next (if s.active u && !(s.su.units.get u).panel.live then _ else _) = _
    rw [live, Bool.not_true, Bool.and_false, if_neg Bool.false_ne_true]
  · show Host.Outcome.next (if s.active u && (s.su.units.get u).panel.live then _ else _) = _
    rw [free, Bool.and_false, if_neg Bool.false_ne_true]

end Sys2Proof.Machine

/-! The gap filter, the gap alarms, and the traps as a train comes to stand (sections 8.1, 8.4 and 8.6). -/

namespace Sys2Proof.Machine

variable {i : Instr} {u : UnitNo} {s : State}

/-! ### A sample and what it changes (R141, R142) -/

theorem setSu_setSu (u : UnitNo) (x y : UnitSensing) (s : State) : (s.setSu u x).setSu u y = s.setSu u y := by
  unfold State.setSu
  dsimp only
  rw [Quad.set_set]

/-- The filter's step as the obligation writes it. -/
theorem gapStep_eq {x y : UnitSensing} {occ asserted : Bool}
    (form : y =
      { x with
        gapTimer := y.gapTimer, gapWindow := joinWindow 5 x.gapWindow occ, clearRun := if occ then 0 else x.clearRun + 1
        gapAsserted := asserted })
    (filter : asserted = true ↔ if x.gapAsserted then y.clearRun < 10 else 3 ≤ y.gapWindow.count true) :
    ({ x with gapTimer := y.gapTimer } : UnitSensing).gapStep occ = y := by
  have window : y.gapWindow = joinWindow 5 x.gapWindow occ := congrArg UnitSensing.gapWindow form
  have run : y.clearRun = if occ then 0 else x.clearRun + 1 := congrArg UnitSensing.clearRun form
  have level : (if x.gapAsserted then decide ((if occ then 0 else x.clearRun + 1) < 10)
      else decide (3 ≤ occupied (joinWindow 5 x.gapWindow occ))) = asserted := by
    rw [← run, ← window]
    rcases e : x.gapAsserted with _ | _
    · rw [e, if_neg Bool.false_ne_true] at filter
      rw [if_neg Bool.false_ne_true, Bool.eq_iff_iff, decide_eq_true_iff]
      exact filter.symm
    · rw [e, if_pos rfl] at filter
      rw [if_pos rfl]
      rw [Bool.eq_iff_iff, decide_eq_true_iff]
      exact filter.symm
  rw [form]
  unfold UnitSensing.gapStep
  dsimp only
  rw [level]

theorem feedGap_eq (u : UnitNo) (occ : Bool) (s : State) :
    feedGap u occ s =
      if ((s.su.units.get u).gapStep occ).gapAsserted == s.gapAsserted u then s.setSu u ((s.su.units.get u).gapStep occ)
      else gapChanged u ((s.su.units.get u).gapStep occ).gapAsserted (s.setSu u ((s.su.units.get u).gapStep occ)) := rfl

/-- A sample fed with the timer set first. -/
theorem feedGap_timed {y : UnitSensing} {occ asserted : Bool} {timer : Option Time} (gap : y.gapTimer = timer)
    (form : y =
      { s.su.units.get u with
        gapTimer := y.gapTimer, gapWindow := joinWindow 5 (s.su.units.get u).gapWindow occ
        clearRun := if occ then 0 else (s.su.units.get u).clearRun + 1, gapAsserted := asserted })
    (filter : asserted = true ↔ if s.gapAsserted u then y.clearRun < 10 else 3 ≤ y.gapWindow.count true) :
    feedGap u occ (s.modSu u fun x => { x with gapTimer := timer }) =
      if asserted = s.gapAsserted u then s.setSu u y else gapChanged u asserted (s.setSu u y) := by
  have level : y.gapAsserted = asserted := congrArg UnitSensing.gapAsserted form
  have before : (s.modSu u fun x => { x with gapTimer := timer }).gapAsserted u = s.gapAsserted u := by
    rw [State.gapAsserted, modSu_unit]
    rfl
  have step : ((s.modSu u fun x => { x with gapTimer := timer }).su.units.get u).gapStep occ = y := by
    rw [modSu_unit, ← gap]
    exact gapStep_eq form filter
  have set : (s.modSu u fun x => { x with gapTimer := timer }).setSu u y = s.setSu u y := setSu_setSu u _ _ s
  rw [feedGap_eq, step, before, set, level]
  simp only [beq_iff_eq]

/-! ### An assertion (R142, R146, R148) -/

theorem gapChanged_asserts (u : UnitNo) (s : State) : gapChanged u true s = checkAlarm u (obstacle u s) := rfl

theorem setSu_gapAsserted (u : UnitNo) (y : UnitSensing) (s : State) : (s.setSu u y).gapAsserted u = y.gapAsserted := by
  rw [State.gapAsserted, setSu_unit]

theorem turning_notLocked {st : UnitState} (h : st.turning = true) : st ≠ .closedLocked := by
  rintro rfl
  cases h

theorem reverseOnObstacle_turning (u : UnitNo) (x : State) : ((reverseOnObstacle u x).unit u).turning = true := by
  obtain ⟨turns, passes⟩ := reverseOnObstacle_channel u x
  rw [State.unit]
  rcases lt_or_ge (x.dc.get u).position ((x.cl.config.units.get u).travel : Int) with short | full
  · rw [turns short]
    rfl
  · rw [passes full]
    rfl

/-- An assertion in CLOSING turns the unit. -/
theorem gapChanged_closing {z : State} (h : z.unit u = .closing) : gapChanged u true z = reverseOnObstacle u z := by
  rw [gapChanged_asserts, obstacle_closing h,
    checkAlarm_quiet (.inr (.inl (turning_notLocked (reverseOnObstacle_turning u z))))]

theorem gapChanged_stops {z : State} (h : z.unit u = .homing) (driven : (z.dc.get u).phase ≠ .hold) (few : (z.dc.get u).retries < 3) :
    gapChanged u true z =
      z.setDc u { z.dc.get u with phase := .hold, setpoint := 0, pauseTimer := some (after z.now 2000) } := by
  have homing : (z.setDc u { z.dc.get u with phase := .hold, setpoint := 0, pauseTimer := some (after z.now 2000) }).unit u = .homing :=
    setDc_unit_st.trans h
  rw [gapChanged_asserts, obstacle_homing h, stopOnObstacle_stops driven few,
    checkAlarm_quiet (.inr (.inl (by rw [homing]; exact fun e => nomatch e)))]

theorem enterFault_channel (kind : FaultKind) (u : UnitNo) (x : State) :
    (enterFault kind u x).dc.get u = { (x.dc.get u).into .fault with attempt := 0 } := by
  rw [enterFault, (report_sends ..).dc, moveUnit_channel]

theorem gapChanged_fails {z : State} (h : z.unit u = .homing) (driven : (z.dc.get u).phase ≠ .hold) (spent : 3 ≤ (z.dc.get u).retries) :
    gapChanged u true z = enterFault .homeFail u z := by
  have fault : (enterFault .homeFail u z).unit u = .fault := congrArg DoorChannel.st (enterFault_channel _ u z)
  rw [gapChanged_asserts, obstacle_homing h, stopOnObstacle_fails driven spent,
    checkAlarm_quiet (.inr (.inl (by rw [fault]; exact fun e => nomatch e)))]

theorem gapChanged_waits {z : State} (h : z.unit u = .homing) (held : (z.dc.get u).phase = .hold) : gapChanged u true z = z := by
  rw [gapChanged_asserts, obstacle_homing h, stopOnObstacle_waits held,
    checkAlarm_quiet (.inr (.inl (by rw [h]; exact fun e => nomatch e)))]

theorem gapChanged_elsewhere {z : State} (h : z.unit u ≠ .closing) (h1 : z.unit u ≠ .homing)
    (quiet : z.unit u ≠ .closedLocked ∨ (z.su.units.get u).alarm ≠ .none) : gapChanged u true z = z := by
  rw [gapChanged_asserts, obstacle_elsewhere h h1, checkAlarm_quiet (.inr quiet)]

/-- An assertion at a unit CLOSED_LOCKED without an alarm raises one, by the berth (R148, R150). -/
theorem gapChanged_locked {z : State} (h : z.unit u = .closedLocked) (none : (z.su.units.get u).alarm = .none) (asserted : z.gapAsserted u = true) :
    gapChanged u true z = if z.berthState.beforeTrain then raiseIntrusion u z else raiseTrap u z := by
  rw [gapChanged_asserts, obstacle_elsewhere (by rw [h]; exact fun e => nomatch e) (by rw [h]; exact fun e => nomatch e)]
  unfold checkAlarm
  rw [none, asserted, h, if_pos (show (GapAlarm.none == GapAlarm.none && true && UnitState.closedLocked == UnitState.closedLocked) = true from rfl)]

/-! ### The alarms -/

theorem raised_frames {k : AlertKind} {r : FaultKind} {sev : Severity} {a : GapAlarm} {z : State} {p : List Byte} (s0 : State)
    (room : s.lc.queue.length < 16) (queue : z.lc.queue = s.lc.queue) (seq : z.seq = s.seq) (form : [k.code, byte u.val, s.seq] = p)
    (other : ∀ v, ((alert k (some u) (report r sev (some u) (setAlarm u a z))).su.units.get v).alarm = .intrusion → p ≠ [3, byte v.val, s.seq]) :
    (settle s0 (alert k (some u) (report r sev (some u) (setAlarm u a z)))).frames .alert p = s.frames .alert p + 1 := by
  have reportSeq : (report r sev (some u) (setAlarm u a z)).seq = s.seq := by
    rw [State.seq, (report_sends ..).bu]
    exact seq
  have alertSeq : (alert k (some u) (report r sev (some u) (setAlarm u a z))).seq = s.seq := by
    rw [State.seq, (alert_sends ..).bu]
    exact reportSeq
  refine settle_alerted s0 room ?_ (by rw [reportSeq]; exact form) (by rw [alertSeq]; exact other)
  rw [report_lc]
  exact queue

theorem setAlarm_same {z : State} (y : UnitSensing) (a : GapAlarm) : setAlarm u a (z.setSu u y) = z.setSu u { y with alarm := a } := by
  unfold setAlarm State.modSu
  rw [setSu_setSu, setSu_unit]

/-- An INTRUSION raised (R148). -/
theorem raiseIntrusion_settled {r : State} (same : Reached s r) (lc : r.lc = s.lc) (y : UnitSensing) (s0 : State) :
    (settle s0 (raiseIntrusion u (r.setSu u y))).fr.minor.isSome = true ∧
      Reported .minor ⟨.intrusion, some u, s.seq, r.now⟩ s.fr (settle s0 (raiseIntrusion u (r.setSu u y))).fr ∧
      (s.lc.queue.length < 16 →
        (settle s0 (raiseIntrusion u (r.setSu u y))).frames .alert [4, byte u.val, s.seq] = s.frames .alert [4, byte u.val, s.seq] + 1) ∧
      Ends (r.setSu u { y with alarm := .intrusion }) (settle s0 (raiseIntrusion u (r.setSu u y))) := by
  have made := report_reported .intrusion .minor (some u) (setAlarm u .intrusion (r.setSu u y))
  rw [show (setAlarm u .intrusion (r.setSu u y)).seq = s.seq from same.seq, show (setAlarm u .intrusion (r.setSu u y)).now = r.now from rfl,
    show (setAlarm u .intrusion (r.setSu u y)).fr = s.fr from same.fr] at made
  have noted : Reported .minor ⟨.intrusion, some u, s.seq, r.now⟩ s.fr (raiseIntrusion u (r.setSu u y)).fr :=
    made.after ((alert_sends .intrusion (some u) _).slot_kept .minor) (alert_spares (p := fun _ _ => false) .intrusion (some u) _) fun _ => rfl
  have sends := (report_sends .intrusion .minor (some u) (setAlarm u .intrusion (r.setSu u y))).trans (alert_sends .intrusion (some u) _)
  have reported := noted.settled (s0 := s0) (fun e => nomatch e)
  refine ⟨reported.isSome, reported, fun room => ?_, ?_⟩
  · exact raised_frames s0 room (congrArg LineController.queue lc) (z := r.setSu u y) (k := .intrusion) same.seq rfl (fun v _ e => by cases e)
  · rw [← setAlarm_same]
    exact sends.ends.settled s0

/-- A TRAP raised (R150). -/
theorem raiseTrap_settled {r : State} (same : Reached s r) (lc : r.lc = s.lc) (closes : s.noCloses → r.noCloses) (y : UnitSensing) (s0 : State) :
    (settle s0 (raiseTrap u (r.setSu u y))).fr.severe.isSome = true ∧
      (s.fr.severe = none → (settle s0 (raiseTrap u (r.setSu u y))).fr.severe = some ⟨.trap, some u, s.seq, r.now⟩) ∧
      (s.noCloses → Reported .severe ⟨.trap, some u, s.seq, r.now⟩ s.fr (settle s0 (raiseTrap u (r.setSu u y))).fr) ∧
      (s.lc.queue.length < 16 →
        (settle s0 (raiseTrap u (r.setSu u y))).frames .alert [3, byte u.val, s.seq] = s.frames .alert [3, byte u.val, s.seq] + 1) ∧
      Ends (r.setSu u { y with alarm := .trap }) (settle s0 (raiseTrap u (r.setSu u y))) := by
  have made := report_reported .trap .severe (some u) (setAlarm u .trap (r.setSu u y))
  rw [show (setAlarm u .trap (r.setSu u y)).seq = s.seq from same.seq, show (setAlarm u .trap (r.setSu u y)).now = r.now from rfl,
    show (setAlarm u .trap (r.setSu u y)).fr = s.fr from same.fr] at made
  have noted : Reported .severe ⟨.trap, some u, s.seq, r.now⟩ s.fr (raiseTrap u (r.setSu u y)).fr :=
    made.after ((alert_sends .trap (some u) _).slot_kept .severe) (alert_spares (p := fun _ _ => false) .trap (some u) _) fun _ => rfl
  have sends := (report_sends .trap .severe (some u) (setAlarm u .trap (r.setSu u y))).trans (alert_sends .trap (some u) _)
  have full := noted.isSome
  have kept := (settle_ends s0 (raiseTrap u (r.setSu u y))).1.severe
  refine ⟨?_, fun empty => kept _ (noted.1 empty), fun still => ?_, fun room => ?_, ?_⟩
  · obtain ⟨x, e⟩ := Option.isSome_iff_exists.1 full
    rw [kept x e]
    rfl
  · have calm : (raiseTrap u (r.setSu u y)).noCloses := (sends.ends.1 : Keeps noUnit _ _).noCloses (closes still)
    refine noted.after (fun x e => kept x e) (p := fun _ _ => false) ?_ fun _ => rfl
    rw [settle_still calm]
    exact Spares.trans (b := driveWarning { raiseTrap u (r.setSu u y) with out := (judged s0 (raiseTrap u (r.setSu u y))).out }) (.of_fr rfl)
      (finish_spares _)
  · refine raised_frames s0 room (congrArg LineController.queue lc) (z := r.setSu u y) (k := .trap) same.seq rfl (fun v intrusion e => ?_)
    simp only [List.cons.injEq, true_and, and_true] at e
    have own := byte_unit_inj e
    subst own
    have trap : ((raiseTrap u (r.setSu u y)).su.units.get u).alarm = .trap := by
      rw [raiseTrap_sensing, if_pos rfl]
    exact absurd (trap.symm.trans intrusion) (fun e => nomatch e)
  · rw [← setAlarm_same]
    exact sends.ends.settled s0

/-! ### A sample's outcome -/

/-- The clauses of an assertion, out of a state `r` that differs from `s` in node time alone. -/
structure Asserted (s r : State) (u : UnitNo) (y : UnitSensing) (t : State) : Prop where
  closing : s.unit u = .closing →
    Reversed (s.dc.get u) s t u ∧ (t.su.units.get u).gapAsserted = true ∧ t.now = r.now ∧ t.pins = s.pins ∧ Keeps (only u) r t
  stops : s.unit u = .homing → (s.dc.get u).phase ≠ .hold → (s.dc.get u).retries < 3 →
    Ends ((r.setSu u y).setDc u { s.dc.get u with phase := .hold, setpoint := 0, pauseTimer := some (after r.now 2000) }) t
  fails : s.unit u = .homing → (s.dc.get u).phase ≠ .hold → 3 ≤ (s.dc.get u).retries →
    t.unit u = .fault ∧ t.fr.severe.isSome = true ∧ Reported .severe ⟨.homeFail, some u, s.seq, r.now⟩ s.fr t.fr ∧ Keeps (only u) r t
  waits : s.unit u = .homing → (s.dc.get u).phase = .hold → Ends (r.setSu u y) t
  intrusion : s.unit u = .closedLocked → (s.su.units.get u).alarm = .none → s.berthState = .idle ∨ s.berthState = .announced →
    t.fr.minor.isSome = true ∧ Reported .minor ⟨.intrusion, some u, s.seq, r.now⟩ s.fr t.fr ∧
      (s.lc.queue.length < 16 → t.frames .alert [4, byte u.val, s.seq] = s.frames .alert [4, byte u.val, s.seq] + 1) ∧
      Ends (r.setSu u { y with alarm := .intrusion }) t
  trap : s.unit u = .closedLocked → (s.su.units.get u).alarm = .none → s.berthState ≠ .idle → s.berthState ≠ .announced →
    t.fr.severe.isSome = true ∧ (s.fr.severe = none → t.fr.severe = some ⟨.trap, some u, s.seq, r.now⟩) ∧
      (s.noCloses → Reported .severe ⟨.trap, some u, s.seq, r.now⟩ s.fr t.fr) ∧
      (s.lc.queue.length < 16 → t.frames .alert [3, byte u.val, s.seq] = s.frames .alert [3, byte u.val, s.seq] + 1) ∧
      Ends (r.setSu u { y with alarm := .trap }) t
  elsewhere : s.unit u ≠ .closing → s.unit u ≠ .homing → s.unit u ≠ .closedLocked ∨ (s.su.units.get u).alarm ≠ .none →
    Ends (r.setSu u y) t

theorem reversed_gap {z : State} (h : z.unit u = .closing) (s0 : State) :
    ((settle s0 (reverseOnObstacle u z)).su.units.get u).gapAsserted = (z.su.units.get u).gapAsserted := by
  have kept := (settle_ends s0 (reverseOnObstacle u z)).1.sensing u rfl
  obtain ⟨d, r, c, form⟩ := reverseOnObstacle_requested (u := u) (s := z) (by rw [h]; exact fun e => nomatch e)
  rw [show (reverseOnObstacle u z).su = z.su by rw [form]] at kept
  rcases kept with same | ⟨-, trap⟩
  · rw [same]
  · rw [trap]

theorem setSu_reversed {r : State} (same : Reached s r) (y : UnitSensing) (h : s.unit u = .closing) (s0 : State) :
    Reversed (s.dc.get u) s (settle s0 (reverseOnObstacle u (r.setSu u y))) u ∧
      ((settle s0 (reverseOnObstacle u (r.setSu u y))).su.units.get u).gapAsserted = y.gapAsserted ∧
      Holds (only u) r (settle s0 (reverseOnObstacle u (r.setSu u y))) := by
  have turned := obstacle_reversed (s := s) (u := u) (x := r.setSu u y) s0 same.cl (by rw [show (r.setSu u y).fr = s.fr from same.fr])
  rw [show (r.setSu u y).dc = s.dc from same.dc] at turned
  have level := reversed_gap (u := u) (z := r.setSu u y) ((same.unit u).trans h) s0
  rw [setSu_unit] at level
  exact ⟨turned, level, settled_keeps ((modSu_holds u (fun _ => y) r).trans (reverseOnObstacle_holds u _)) s0⟩

theorem setSu_homeFail {r : State} (same : Reached s r) (y : UnitSensing) (s0 : State) :
    (settle s0 (enterFault .homeFail u (r.setSu u y))).unit u = .fault ∧
      (settle s0 (enterFault .homeFail u (r.setSu u y))).fr.severe.isSome = true ∧
      Reported .severe ⟨.homeFail, some u, s.seq, r.now⟩ s.fr (settle s0 (enterFault .homeFail u (r.setSu u y))).fr ∧
      Keeps (only u) r (settle s0 (enterFault .homeFail u (r.setSu u y))) := by
  obtain ⟨channel, severe, reported, keeps⟩ := homeFail_severe (u := u) (Reached.refl (r.setSu u y)) s0
  rw [show (r.setSu u y).seq = s.seq from same.seq, show (r.setSu u y).fr = s.fr from same.fr] at reported
  exact ⟨congrArg DoorChannel.st channel, severe, reported, (modSu_holds u (fun _ => y) r).1.trans keeps⟩

theorem gapChanged_asserted {r : State} (same : Reached s r) (lc : r.lc = s.lc) (iu : r.iu = s.iu) {y : UnitSensing}
    (asserted : y.gapAsserted = true) (alarm : y.alarm = (s.su.units.get u).alarm) (s0 : State) :
    Asserted s r u y (settle s0 (gapChanged u true (r.setSu u y))) := by
  have unit : (r.setSu u y).unit u = s.unit u := same.unit u
  have dc : (r.setSu u y).dc = s.dc := same.dc
  have berth : (r.setSu u y).berthState = s.berthState := congrArg (fun b : BerthUnit => b.berth.state) same.bu
  have alarms : ((r.setSu u y).su.units.get u).alarm = (s.su.units.get u).alarm := by rw [setSu_unit, alarm]
  have level : (r.setSu u y).gapAsserted u = true := (setSu_gapAsserted u y r).trans asserted
  refine ⟨fun at_ => ?closing, fun at_ driven few => ?stops, fun at_ driven spent => ?fails, fun at_ held => ?waits, fun at_ quiet before => ?intrusion,
    fun at_ quiet n n' => ?trap, fun n n' quiet => ?elsewhere⟩
  case closing =>
    obtain ⟨turned, gap, keeps⟩ := setSu_reversed same y at_ s0
    rw [gapChanged_closing (unit.trans at_)]
    exact ⟨turned, gap.trans asserted, keeps.2.1, keeps.2.2.trans same.pins, keeps.1⟩
  case stops =>
    rw [gapChanged_stops (unit.trans at_) (by rw [dc]; exact driven) (by rw [dc]; exact few), dc]
    exact settle_ends _ _
  case fails =>
    rw [gapChanged_fails (unit.trans at_) (by rw [dc]; exact driven) (by rw [dc]; exact spent)]
    exact setSu_homeFail same y s0
  case waits =>
    rw [gapChanged_waits (unit.trans at_) (by rw [dc]; exact held)]
    exact settle_ends _ _
  case intrusion =>
    have train : (r.setSu u y).berthState.beforeTrain = true := by
      rw [berth]
      rcases before with e | e <;> rw [e] <;> rfl
    rw [gapChanged_locked (unit.trans at_) (alarms.trans quiet) level, if_pos train]
    exact raiseIntrusion_settled same lc y s0
  case trap =>
    have train : ¬(r.setSu u y).berthState.beforeTrain = true := by
      rw [berth]
      intro e
      cases st : s.berthState <;> rw [st] at n n' e <;> first | exact n rfl | exact n' rfl | cases e
    rw [gapChanged_locked (unit.trans at_) (alarms.trans quiet) level, if_neg train]
    exact raiseTrap_settled same lc (fun still => by
      unfold State.noCloses at still ⊢
      rw [same.bu, iu]
      exact still) y s0
  case elsewhere =>
    rw [gapChanged_elsewhere (by rw [unit]; exact n) (by rw [unit]; exact n') (by rw [unit, alarms]; exact quiet)]
    exact settle_ends _ _

end Sys2Proof.Machine

/-! The gap samples and the traps as a train comes to stand (sections 8.1 and 8.6): the obligation. -/

namespace Sys2Proof.Machine

variable {i : Instr} {u : UnitNo} {s : State}

/-! ### The traps in the severe slot and the counters (R151, R187, R188) -/

theorem report_severeRecorded (k : FaultKind) (u : UnitNo) (s : State) :
    ((report k .severe (some u) s).fr.severe, (report k .severe (some u) s).fr.kinds) =
      slotRecorded s.seq s.now (s.fr.severe, s.fr.kinds) (k, u) := by
  obtain ⟨kinds, slots⟩ := report_recorded k .severe (some u) s
  have severe := slots .severe
  rw [kinds, show (report k .severe (some u) s).fr.severe = _ from severe]
  unfold slotRecorded
  rcases e : s.fr.severe with _ | x
  · rw [show s.fr.slot .severe = none from e]
    rfl
  · rw [show s.fr.slot .severe = some x from e]
    exact Prod.ext e rfl

/-- The traps of a list of units have come to the severe slot and the counters in their order. -/
structure TrapsRecorded (l : List UnitNo) (s t : State) : Prop where
  recorded : (t.fr.severe, t.fr.kinds) = (l.map (Prod.mk FaultKind.trap)).foldl (slotRecorded s.seq s.now) (s.fr.severe, s.fr.kinds)
  seq : t.seq = s.seq
  now : t.now = s.now
  alarms : ∀ v, v ∉ l → t.su.units.get v = s.su.units.get v

theorem raiseTrap_recorded (u : UnitNo) (s : State) : TrapsRecorded [u] s (raiseTrap u s) := by
  have reported := report_sends .trap .severe (some u) (setAlarm u .trap s)
  have sends := reported.trans (alert_sends .trap (some u) _)
  obtain ⟨n, r, frame⟩ := enqueue_fr .alert [AlertKind.trap.code, unitByte (some u), (report .trap .severe (some u) (setAlarm u .trap s)).seq]
    (report .trap .severe (some u) (setAlarm u .trap s))
  refine ⟨?_, ?_, sends.now, fun v n => ?_⟩
  · rw [raiseTrap, alert, frame]
    exact report_severeRecorded .trap u (setAlarm u .trap s)
  · rw [State.seq, raiseTrap, sends.bu]
    rfl
  · rw [raiseTrap_sensing, if_neg fun e => n (List.mem_singleton.2 e.symm)]

theorem TrapsRecorded.trans {l l' : List UnitNo} {a b c : State} (h : TrapsRecorded l a b) (k : TrapsRecorded l' b c) :
    TrapsRecorded (l ++ l') a c := by
  refine ⟨?_, k.seq.trans h.seq, k.now.trans h.now, fun v n => ?_⟩
  · rw [k.recorded, List.map_append, List.foldl_append, ← h.recorded, h.seq, h.now]
  · rw [List.mem_append, not_or] at n
    rw [k.alarms v n.2, h.alarms v n.1]

theorem traps_recorded (s : State) : TrapsRecorded s.intrusions s (forUnits intrusionToTrap s) := by
  refine intrusions_induction (P := fun l a => TrapsRecorded l s a) ⟨rfl, rfl, rfl, fun _ _ => rfl⟩ fun l a u h n => ?_
  unfold intrusionToTrap
  rw [h.alarms u n]
  split
  · exact h.trans (raiseTrap_recorded u a)
  · rw [List.append_nil]
    exact h

/-- The severe slot and the counter of TRAP once the traps are recorded. -/
theorem TrapsRecorded.counted {l : List UnitNo} {t : State} (h : TrapsRecorded l s t) :
    (l = [] → t.fr.severe = s.fr.severe) ∧
      (∀ u, l.head? = some u → s.fr.severe = none → t.fr.severe = some ⟨.trap, some u, s.seq, s.now⟩) ∧
      (s.fr.kinds.length = 17 →
        t.fr.kinds.getD FaultKind.trap.index (Counter.zero 16) =
          Counter.bump^[if s.fr.severe = none then l.length - 1 else l.length] (s.fr.kinds.getD FaultKind.trap.index (Counter.zero 16))) := by
  obtain ⟨slot, counters⟩ := slotRecorded_fold s.seq s.now s.fr.severe (l.map (Prod.mk FaultKind.trap)) s.fr.kinds
  have traps : ((l.map (Prod.mk FaultKind.trap)).map Prod.fst).count .trap = l.length := by
    rw [List.map_map, List.count_eq_length.2 (fun k m => by
      obtain ⟨v, -, rfl⟩ := List.mem_map.1 m
      rfl), List.length_map]
  rw [← h.recorded] at slot counters
  have trap := counters .trap
  rw [traps] at trap
  refine ⟨fun empty => ?_, fun u head empty => ?_, fun room => (trap room).trans ?_⟩
  · subst empty
    rw [show t.fr.severe = _ from slot]
    rcases s.fr.severe with _ | x <;> rfl
  · rcases l with _ | ⟨v, l⟩
    · cases head
    · cases head
      rw [show t.fr.severe = _ from slot, empty]
      rfl
  · rcases e : s.fr.severe with _ | x
    · rw [e] at slot
      rcases l with _ | ⟨v, l⟩
      · simp
      · rw [show t.fr.severe = _ from slot, if_pos rfl, if_pos ⟨rfl, rfl⟩]
    · rw [if_neg (Option.some_ne_none _), if_neg (fun c => Option.some_ne_none _ c.1)]

/-! ### STANDSTILL (R78, R151) -/

/-- The state in which the units' traps have been raised and the window opened, before the event's end. -/
theorem standstill_raised (h : s.berthState = .announced) :
    TrapsRaised s.intrusions s (onStandstill s) ∧ TrapsRecorded s.intrusions s (onStandstill s) ∧ (onStandstill s).berthState = .fusing := by
  obtain ⟨sent, seq, alarms, raised⟩ := setBerthState_raised (st := .fusing) rfl s
  obtain ⟨recorded, -, now, kept⟩ := traps_recorded (s.modBu (BerthUnit.enter .fusing))
  have entered : setBerthState .fusing s = forUnits intrusionToTrap (s.modBu (BerthUnit.enter .fusing)) := setBerthState_eq .fusing s
  have state : (setBerthState .fusing s).berthState = .fusing := by
    rw [State.berthState, setBerthState_bu]
    rfl
  rw [onStandstill_announced h]
  rw [← entered] at recorded now
  generalize setBerthState .fusing s = x at *
  exact ⟨⟨sent.after rfl, seq, alarms, raised⟩, ⟨recorded, seq, now, alarms⟩, state⟩

theorem unsecurable_of {b : BerthState} (h : s.berthState = b) (n : b ≠ .closing) (n' : b ≠ .released) : s.unsecurable :=
  ⟨by rw [h]; exact n, by rw [h]; exact n'⟩

/-- The frames of an event's end at a berth that no close secures are beacons. -/
theorem settle_unsecurable_frames (s0 : State) {s : State} (h : s.unsecurable) {k : FrameKind} (other : k ≠ .beacon) (low : k.cls ≤ FrameKind.cls .beacon)
    (p : List Byte) : (settle s0 s).frames k p = s.frames k p := by
  obtain ⟨-, -, l, sent, -, beacons⟩ := settle_unsecurable s0 h
  exact sent.frames_other other fun f m => ⟨fun e => other ((congrArg Prod.fst e).symm.trans (beacons f m)), (beacons f m).symm ▸ low⟩

theorem trap_clause {src : Node} (accepted : AcceptedRunning ⟨src, .standstill, [s.seq]⟩ s) (announced : s.berthState = .announced) :
    ∃ t, Sys2Proof.Machine.exec (.standstill src s.seq) s = .next t ∧
      (∀ u ∈ s.intrusions, (t.su.units.get u).alarm = .trap ∧
        (s.lc.queue.length ≤ 12 → t.frames .alert [3, byte u.val, s.seq] = s.frames .alert [3, byte u.val, s.seq] + 1)) ∧
      (∀ u, u ∉ s.intrusions → t.su.units.get u = s.su.units.get u) ∧ 
      (s.intrusions = [] → t.fr.severe = s.fr.severe) ∧
      (∀ u, s.intrusions.head? = some u → s.fr.severe = none → t.fr.severe = some ⟨.trap, some u, s.seq, s.now⟩) ∧
      (s.fr.kinds.length = 17 →
        t.fr.kinds.getD FaultKind.trap.index (Counter.zero 16) =
          Counter.bump^[if s.fr.severe = none then s.intrusions.length - 1 else s.intrusions.length]
            (s.fr.kinds.getD FaultKind.trap.index (Counter.zero 16))) := by
  have exec := exec_standstill_of_acceptedRunning accepted
  rw [onSequence_same (by rfl)] at exec
  obtain ⟨raised, recorded, fusing⟩ := standstill_raised (s := noteActivity src false s) announced
  have calm : (onStandstill (noteActivity src false s)).unsecurable := unsecurable_of fusing (fun e => nomatch e) fun e => nomatch e
  obtain ⟨spares, su, -⟩ := settle_unsecurable s calm
  have frames := fun p => settle_unsecurable_frames s calm (k := .alert) (fun e => nomatch e) (by decide) p
  obtain ⟨none, head, counted⟩ := recorded.counted
  have slot : (settle s (onStandstill (noteActivity src false s))).fr.severe = (onStandstill (noteActivity src false s)).fr.severe :=
    spares.slots .severe fun _ => rfl
  refine ⟨_, exec, fun u m => ⟨?_, fun room => ?_⟩, fun u n => ?_, fun e => ?_, fun u e empty => ?_, fun room => ?_⟩
  · rw [su, raised.raised u m]
  · have few := intrusions_length s
    have once : (s.intrusions.map (trapAlert s.seq)).count (.alert, [3, byte u.val, s.seq]) = 1 := by
      have distinct : (s.intrusions.map (trapAlert s.seq)).Nodup := by
        refine List.Nodup.map (fun a b => trapAlert_inj) (List.Nodup.filter _ ?_)
        decide
      exact List.count_eq_one_of_mem distinct (List.mem_map.2 ⟨u, m, rfl⟩)
    rw [frames]
    refine (raised.sent.frames_room (k := .alert) (p := [3, byte u.val, s.seq]) ?_ (fun e => nomatch e)).trans (congrArg (_ + ·) once)
    rw [List.length_map]
    show s.lc.queue.length + s.intrusions.length ≤ 16
    omega
  · rw [su, raised.alarms u n]
    rfl
  · rw [slot, none e]
    rfl
  · rw [slot, head u e empty]
    rfl
  · rw [spares.kinds .trap fun _ => rfl]
    exact counted room

/-! ### The obligation -/

theorem gapSample_settled {occ asserted : Bool} {r : State} {y : UnitSensing} (same : Reached s r) (lc : r.lc = s.lc) (iu : r.iu = s.iu)
    {timer : Option Time} (gap : y.gapTimer = timer)
    (form : y =
      { s.su.units.get u with
        gapTimer := y.gapTimer, gapWindow := joinWindow 5 (s.su.units.get u).gapWindow occ
        clearRun := if occ then 0 else (s.su.units.get u).clearRun + 1, gapAsserted := asserted })
    (filter : asserted = true ↔ if s.gapAsserted u then y.clearRun < 10 else 3 ≤ y.gapWindow.count true) :
    ∃ t, settle r (feedGap u occ (r.modSu u fun x => { x with gapTimer := timer })) = t ∧
      (asserted = s.gapAsserted u → Ends (r.setSu u y) t) ∧
      (asserted = false → s.gapAsserted u = true → Ends (r.setSu u { y with alarm := .none }) t) ∧
      (asserted = true → s.gapAsserted u = false → Asserted s r u y t) := by
  have level : r.gapAsserted u = s.gapAsserted u := by rw [State.gapAsserted, same.su]; rfl
  have fed := feedGap_timed (u := u) (s := r) (occ := occ) (asserted := asserted) gap (by rw [same.su]; exact form) (by rw [level]; exact filter)
  have asserts : y.gapAsserted = asserted := congrArg UnitSensing.gapAsserted form
  have alarm : y.alarm = (s.su.units.get u).alarm := by
    have kept := congrArg UnitSensing.alarm form
    exact kept
  rw [level] at fed
  refine ⟨_, rfl, fun still => ?_, fun released was => ?_, fun raised was => ?_⟩
  · rw [fed, if_pos still]
    exact settle_ends _ _
  · rw [fed, released, was, if_neg Bool.false_ne_true, gapChanged, if_neg Bool.false_ne_true, setAlarm_same]
    exact settle_ends _ _
  · rw [fed, raised, was, if_neg (Ne.symm Bool.false_ne_true)]
    exact gapChanged_asserted same lc iu (asserts.trans raised) alarm _

theorem gap_occ {sample : Presence} {occ : Bool} (h : occ = true ↔ sample ≠ .clear) : Presence.gap sample = occ := by
  rw [Bool.eq_iff_iff, h]
  cases sample <;> decide

theorem gapFilterRelease_clause (h : s.senses u = true) (asserted : s.gapAsserted u = true) :
    ∃ t, Sys2Proof.Machine.exec (.gapFilterRelease u) s = .next t ∧
      Ends
        (s.setSu u
          { s.su.units.get u with gapWindow := List.replicate 5 false, clearRun := 10, gapAsserted := false, alarm := .none }) t := by
  refine ⟨settle s (releaseGap u s), congrArg _ (if_pos (by rw [h, asserted]; rfl)), ?_⟩
  rw [releaseGap, gapChanged, if_neg Bool.false_ne_true, State.modSu, setAlarm_same]
  exact settle_ends _ _

/-- Settles O50: a sample moves the filter, a change of its level is handed to the unit and the alarm, and the units' traps come one
after another as the train stands. -/
theorem gapSamples : Obligations.GapSamples := by
  unfold Obligations.GapSamples
  refine ⟨fun u s senses => ⟨fun i occ asserted r y which form filter => ?sample, fun asserted => gapFilterRelease_clause senses asserted, fun released => ?still⟩,
    fun u s rests => ⟨fun sample => ?_, ?_, ?_⟩, fun src s l accepted announced units => ?traps⟩
  case sample =>
    rcases which with ⟨sample, rfl, occupied, rfl, timer⟩ | ⟨e, rfl, rfl, runs, rfl, timer⟩
    · have exec : Sys2Proof.Machine.exec (.gapSample u sample) r =
          .next (settle r (feedGap u occ (r.modSu u fun x => { x with gapTimer := some (after r.now 40) }))) := by
        rw [← gap_occ occupied]
        exact congrArg _ (if_pos senses)
      obtain ⟨t, rfl, still, released, raised⟩ := gapSample_settled (Reached.refl r) rfl rfl timer form filter
      exact ⟨_, exec, still, released, fun a b => by
        obtain ⟨h1, h2, h3, h4, h5, h6, h7⟩ := raised a b
        exact ⟨h1, h2, h3, h4, fun at_ quiet => ⟨h5 at_ quiet, h6 at_ quiet⟩, h7⟩⟩
    · have exec : Sys2Proof.Machine.exec (.gapSampleTimeout u) s =
          .next (settle (s.reach e) (feedGap u true ((s.reach e).modSu u fun x => { x with gapTimer := some (after (s.reach e).now 20) }))) := by
        refine congrArg Host.Outcome.next ((if_pos senses).trans ?_)
        rw [runs, onExpiry]
        rfl
      obtain ⟨t, rfl, still, released, raised⟩ := gapSample_settled (reached_of e s) (reach_lc ..) (reach_iu ..) timer form filter
      exact ⟨_, exec, still, released, fun a b => by
        obtain ⟨h1, h2, h3, h4, h5, h6, h7⟩ := raised a b
        exact ⟨h1, h2, h3, h4, fun at_ quiet => ⟨h5 at_ quiet, h6 at_ quiet⟩, h7⟩⟩
  case still => exact congrArg _ (if_neg (by rw [released, Bool.and_false]; exact Bool.false_ne_true))
  case traps =>
    subst units
    exact trap_clause accepted announced
  · exact congrArg _ (if_neg (by rw [rests]; exact Bool.false_ne_true))
  · exact congrArg _ (if_neg (by rw [rests]; exact Bool.false_ne_true))
  · exact congrArg _ (if_neg (by rw [rests]; exact Bool.false_ne_true))

end Sys2Proof.Machine

/-! What the judging of the closes does to a unit and to its places in them (sections 5.7, 9.1, 10.6 and 10.7). -/

namespace Sys2Proof.Machine

variable {i : Instr} {u v : UnitNo} {s t : State}

/-! ### A unit's places in the closes -/

/-- Unit `u` as a member of the close cycle. -/
def State.cycleMember (s : State) (u : UnitNo) : Option Member := s.bu.cycle.bind fun c => c.members.get u

/-- The warning of the departure close, where it covers unit `u`. -/
def State.coveredUnder (s : State) (u : UnitNo) : Option Warning :=
  s.bu.departure.bind fun d => if d.covered.get u then some d.warning else none

/-- Unit `u` as a member of the emergency close cycle. -/
def State.emergencyStatus (s : State) (u : UnitNo) : Option MemberStatus := s.iu.emergencyClose.bind fun e => e.members.get u

/-- Unit `u` as a member of the access close, with its warnings. -/
def State.accessMember (s : State) (u : UnitNo) : Option (List Warning × Member) :=
  s.iu.accessClose.bind fun a => (a.members.get u).map fun m => (a.warnings, m)

/-- Unit `u` and its places in the closes stand. -/
structure UnitViewed (u : UnitNo) (a b : State) : Prop extends UnitStands u a b where
  cycle : b.cycleMember u = a.cycleMember u
  covered : b.coveredUnder u = a.coveredUnder u
  emergency : b.emergencyStatus u = a.emergencyStatus u
  access : b.accessMember u = a.accessMember u

theorem UnitViewed.refl (u : UnitNo) (s : State) : UnitViewed u s s := ⟨.refl u s, rfl, rfl, rfl, rfl⟩

theorem UnitViewed.trans {a b c : State} (h : UnitViewed u a b) (k : UnitViewed u b c) : UnitViewed u a c :=
  ⟨h.toUnitStands.trans k.toUnitStands, k.cycle.trans h.cycle, k.covered.trans h.covered, k.emergency.trans h.emergency,
    k.access.trans h.access⟩

/-- A request to another unit. -/
theorem closeRequest_viewed (h : v ≠ u) (s : State) : UnitViewed u s (closeRequest v s) := by
  have stands := closeRequest_stands h s
  obtain ⟨d, r, c, form⟩ := closeRequest_requested v s
  rw [form] at stands ⊢
  exact ⟨stands, rfl, rfl, rfl, rfl⟩

theorem berthCloseRequest_viewed (h : v ≠ u) (s : State) : UnitViewed u s (berthCloseRequest v s) := by
  unfold berthCloseRequest
  split
  · exact .refl u s
  · exact closeRequest_viewed h s

theorem judgeMember_viewed (h : v ≠ u) (s : State) : UnitViewed u s (judgeMember v s) := by
  unfold judgeMember
  split
  · exact .refl u s
  · next c hc =>
    split
    · exact .refl u s
    · next m hm =>
      split
      · have started : UnitViewed u s (s.setCycle (some { c with members := c.members.set v (some { m with status := .started }) })) := by
          refine ⟨setCycle_stands _ s, ?_, rfl, rfl, rfl⟩
          show (c.members.set v _).get u = _
          rw [Quad.get_set_ne _ _ h, State.cycleMember, hc]
          rfl
        exact started.trans (berthCloseRequest_viewed h _)
      · exact .refl u s

theorem mem_units (u : UnitNo) : u ∈ UnitNo.all := by cases u <;> decide

theorem noneLeft_get {q : Quad Bool} (h : noneLeft q = true) (u : UnitNo) : q.get u = false := by
  simp only [noneLeft, Bool.not_eq_true', List.any_eq_false, Bool.not_eq_true] at h
  exact h u (mem_units u)

theorem dropCovered_viewed (h : v ≠ u) (s : State) : UnitViewed u s (dropCovered v s) := by
  refine ⟨dropCovered_stands v s, ?_, ?_, ?_, ?_⟩
  case refine_2 =>
    unfold dropCovered State.coveredUnder
    split
    · rfl
    · next d hd =>
      rw [hd]
      dsimp only [State.setDeparture, State.modBu]
      split
      · next none =>
        have left := noneLeft_get none u
        rw [Quad.get_set_ne _ _ h] at left
        rw [Option.bind_some, left]
        rfl
      · rw [Option.bind_some, Option.bind_some, Quad.get_set_ne _ _ h]
  all_goals
    unfold dropCovered
    split <;> rfl

theorem dropAccessMember_viewed (h : v ≠ u) (s : State) : UnitViewed u s (dropAccessMember v s) := by
  refine ⟨dropAccessMember_stands v s, ?_, ?_, ?_, ?_⟩
  case refine_4 =>
    unfold dropAccessMember State.accessMember
    split
    · rfl
    · next a ha =>
      rw [ha]
      dsimp only [State.modIu]
      split
      · next none =>
        have left : (a.members.set v Option.none).get u = Option.none := Option.isNone_iff_eq_none.1 (List.all_eq_true.1 none u (mem_units u))
        rw [Quad.get_set_ne _ _ h] at left
        rw [Option.bind_some, left]
        rfl
      · rw [Option.bind_some, Option.bind_some, Quad.get_set_ne _ _ h]
  all_goals
    unfold dropAccessMember
    split <;> rfl

theorem judgeCovered_viewed (h : v ≠ u) (s : State) : UnitViewed u s (judgeCovered v s) := by
  unfold judgeCovered
  split
  · exact .refl u s
  · split
    · exact (dropCovered_viewed h s).trans (berthCloseRequest_viewed h _)
    · exact .refl u s

theorem judgeEmergencyMember_viewed (h : v ≠ u) (s : State) : UnitViewed u s (judgeEmergencyMember v s) := by
  unfold judgeEmergencyMember
  split
  · exact .refl u s
  · next e he =>
    split
    · split
      · have started : UnitViewed u s (s.modIu fun i => { i with emergencyClose := some { e with members := e.members.set v (some .started) } }) := by
          refine ⟨modIu_stands rfl, rfl, rfl, ?_, rfl⟩
          show (e.members.set v _).get u = _
          rw [Quad.get_set_ne _ _ h, State.emergencyStatus, he]
          rfl
        exact started.trans (closeRequest_viewed h _)
      · exact .refl u s
    · exact .refl u s

theorem judgeAccessMember_viewed (h : v ≠ u) (s : State) : UnitViewed u s (judgeAccessMember v s) := by
  unfold judgeAccessMember
  split
  · exact .refl u s
  · split
    · exact .refl u s
    · split
      · exact (dropAccessMember_viewed h s).trans (closeRequest_viewed h _)
      · exact .refl u s

/-! ### A close request at the unit itself -/

/-- The unit stands open, its leaves at rest. -/
def UnitState.standsOpen (st : UnitState) : Prop := st = .opened ∨ st = .heldOpen

/-- The states that a close request sends a unit standing open to. -/
def UnitState.shutting (st : UnitState) : Prop := st = .closing ∨ st = .reversing ∨ st = .reopenWait

theorem UnitState.shutting_not_standsOpen {st : UnitState} (h : st.shutting) : ¬st.standsOpen := by
  rcases h with rfl | rfl | rfl <;> exact fun k => by rcases k with k | k <;> cases k

/-- The channel once a close request has come to a unit with nothing in its doorway (R120, R127). -/
def pressedClosed (now : Time) (timeout : Nat) (d : DoorChannel) : DoorChannel :=
  match d.st with
  | .opened | .heldOpen =>
    { d.into .closing with phase := .accelerate, attempt := 1, overCount := 0, travelTimer := some (after now timeout) }
  | .opening => { d with pendingClose := true }
  | _ => d

theorem pressedClosed_idem (now : Time) (timeout : Nat) (d : DoorChannel) :
    pressedClosed now timeout (pressedClosed now timeout d) = pressedClosed now timeout d := by
  rcases d with ⟨st⟩
  cases st <;> rfl

/-- The channel of unit `u` once a close request has come to it. -/
def State.pressed (s : State) (u : UnitNo) : DoorChannel := pressedClosed s.now s.cl.config.params.travelTimeout (s.dc.get u)

theorem pressed_standing (h : (s.unit u).standsOpen) : s.pressed u = closingFirst s u := by
  unfold State.pressed pressedClosed
  rcases h with h | h <;> rw [State.unit] at h <;> rw [h] <;> rfl

theorem pressed_opening (h : s.unit u = .opening) : s.pressed u = { s.dc.get u with pendingClose := true } := by
  unfold State.pressed pressedClosed
  rw [State.unit] at h
  split
  · next e => rw [h] at e; cases e
  · next e => rw [h] at e; cases e
  · rfl
  · next n => exact absurd h n

theorem pressed_other (h : (s.unit u).closable = false) : s.pressed u = s.dc.get u := by
  unfold State.pressed pressedClosed
  rw [State.unit] at h
  split
  · next e => rw [e] at h; cases h
  · next e => rw [e] at h; cases h
  · next e => rw [e] at h; cases h
  · rfl

theorem closeRequest_standing (h : (s.unit u).standsOpen) : closeRequest u s = enterClosing 1 u s := by
  unfold closeRequest
  rcases h with h | h <;> rw [h]

theorem closeRequest_opening (h : s.unit u = .opening) : closeRequest u s = s.modDc u fun d => { d with pendingClose := true } := by
  unfold closeRequest
  rw [h]

theorem closeRequest_unmoved (h : (s.unit u).closable = false) : (closeRequest u s).dc = s.dc := by
  unfold closeRequest
  split <;> first | rfl | (next e => rw [e] at h; cases h)

theorem closeRequest_pressed (free : s.obstructed u = false) : (closeRequest u s).dc.get u = s.pressed u := by
  by_cases standing : (s.unit u).standsOpen
  · have out : s.unit u ≠ .isolated := by rcases standing with e | e <;> rw [e] <;> exact fun e => nomatch e
    rw [closeRequest_standing standing, enterClosing_clear out free, moveUnit_channel, pressed_standing standing]
    rfl
  · by_cases opening : s.unit u = .opening
    · rw [closeRequest_opening opening, pressed_opening opening]
      exact Quad.get_set_self ..
    · have rests : (s.unit u).closable = false := by
        unfold UnitState.standsOpen at standing
        rw [not_or] at standing
        cases e : s.unit u <;> first | rfl | exact absurd e opening | exact absurd e standing.1 | exact absurd e standing.2
      rw [closeRequest_unmoved rests, pressed_other rests]

theorem closeRequest_shuts (h : (s.unit u).standsOpen) : ((closeRequest u s).unit u).shutting := by
  have out : s.unit u ≠ .isolated := by rcases h with e | e <;> rw [e] <;> exact fun e => nomatch e
  rw [closeRequest_standing h]
  cases obstructed : s.obstructed u
  · rw [enterClosing_clear out obstructed, State.unit, moveUnit_channel]
    exact .inl rfl
  · rw [enterClosing_obstructed out obstructed, State.unit]
    obtain ⟨turns, passes⟩ := reverseOnObstacle_channel u (moveUnit u (closingIn 1 u s) s)
    rcases lt_or_ge ((moveUnit u (closingIn 1 u s) s).dc.get u).position (((moveUnit u (closingIn 1 u s) s).cl.config.units.get u).travel : Int)
      with short | full
    · rw [turns short]
      exact .inr (.inl rfl)
    · rw [passes full]
      exact .inr (.inr rfl)

/-! ### The judging as one unit sees it -/

/-- What the judging of the closes may do to unit `u` and its places in them. -/
structure UnitJudged (u : UnitNo) (s t : State) : Prop where
  moved : KeepsUnit (s.dc.get u) (t.dc.get u)
  pressed : s.obstructed u = false → t.dc.get u = s.dc.get u ∨ t.dc.get u = s.pressed u
  member : t.cycleMember u = s.cycleMember u ∨
    ∃ m, s.cycleMember u = some m ∧ m.status = .waiting ∧ t.cycleMember u = some { m with status := .started } ∧ (s.unit u).standsOpen ∧
      (s.iu.latch = false → (t.unit u).shutting)
  covered : t.coveredUnder u = s.coveredUnder u ∨ t.coveredUnder u = none
  emergency : t.emergencyStatus u = s.emergencyStatus u ∨
    (s.emergencyStatus u = some .waiting ∧ t.emergencyStatus u = some .started ∧ ((s.unit u).standsOpen → (t.unit u).shutting))
  access : t.accessMember u = s.accessMember u ∨ (t.accessMember u = none ∧ ∀ w m, s.accessMember u = some (w, m) → m.status = .waiting)
  obstructed : t.obstructed u = s.obstructed u
  now : t.now = s.now
  cl : t.cl = s.cl
  latch : t.iu.latch = s.iu.latch

theorem UnitViewed.judged {a b : State} (h : UnitViewed u a b) : UnitJudged u a b :=
  ⟨.inl h.dc, fun _ => .inl h.dc, .inl h.cycle, .inl h.covered, .inl h.emergency, .inl h.access,
    by rw [State.obstructed, State.edgeAsserted, State.gapAsserted, h.su]; rfl, h.now, h.cl, h.latch⟩

theorem KeepsUnit.of_shutting {d e : DoorChannel} (h : KeepsUnit d e) (k : d.st.shutting) : e = d := by
  rcases h with same | ⟨opening, -⟩ | ⟨standing, -⟩
  · exact same
  · rcases k with k | k | k <;> rw [opening] at k <;> cases k
  · exact absurd standing (UnitState.shutting_not_standsOpen k)

theorem KeepsUnit.standing_or {d e : DoorChannel} (h : KeepsUnit d e) (k : d.st.standsOpen) : e = d ∨ e.st.shutting := by
  rcases h with same | ⟨opening, -⟩ | ⟨-, shut, -⟩
  · exact .inl same
  · rcases k with k | k <;> rw [opening] at k <;> cases k
  · exact .inr shut

theorem KeepsUnit.to_standing {d e : DoorChannel} (h : KeepsUnit d e) (k : e.st.standsOpen) : e = d := by
  rcases h with same | ⟨opening, rfl⟩ | ⟨-, shut, -⟩
  · exact same
  · rcases k with k | k <;> rw [show ({ d with pendingClose := true } : DoorChannel).st = d.st from rfl, opening] at k <;> cases k
  · exact absurd k (UnitState.shutting_not_standsOpen shut)

theorem UnitJudged.trans {a b c : State} (h : UnitJudged u a b) (k : UnitJudged u b c) : UnitJudged u a c := by
  refine ⟨h.moved.trans k.moved, fun free => ?pressed, ?member, ?covered, ?emergency, ?access, k.obstructed.trans h.obstructed,
    k.now.trans h.now, k.cl.trans h.cl, k.latch.trans h.latch⟩
  case pressed =>
    have press : b.pressed u = pressedClosed a.now a.cl.config.params.travelTimeout (b.dc.get u) := by rw [State.pressed, h.now, h.cl]
    rcases k.pressed (h.obstructed.trans free) with same | moved
    · rw [same]
      exact h.pressed free
    · rw [moved, press]
      rcases h.pressed free with same | before
      · rw [same]
        exact .inr rfl
      · rw [before]
        exact .inr (pressedClosed_idem _ _ _)
  case member =>
    rcases h.member with same | ⟨m, was, waiting, started, standing, shuts⟩
    · rcases k.member with same' | ⟨m, was, waiting, started, standing, shuts⟩
      · exact .inl (same'.trans same)
      · have still : b.unit u = a.unit u := congrArg DoorChannel.st (h.moved.to_standing standing)
        exact .inr ⟨m, same.symm.trans was, waiting, started, still ▸ standing, fun free => shuts (h.latch.trans free)⟩
    · rcases k.member with same' | ⟨m', was', waiting', -⟩
      · refine .inr ⟨m, was, waiting, same'.trans started, standing, fun free => ?_⟩
        rw [State.unit, k.moved.of_shutting (shuts free)]
        exact shuts free
      · rw [started] at was'
        cases was'
        cases waiting'
  case covered =>
    rcases k.covered with same | none
    · rw [same]
      exact h.covered
    · exact .inr none
  case emergency =>
    rcases h.emergency with same | ⟨was, started, shuts⟩
    · rcases k.emergency with same' | ⟨was, started, shuts⟩
      · exact .inl (same'.trans same)
      · refine .inr ⟨same.symm.trans was, started, fun standing => ?_⟩
        rcases h.moved.standing_or standing with still | shut
        · exact shuts (show (b.dc.get u).st.standsOpen by rw [still]; exact standing)
        · rw [State.unit, k.moved.of_shutting shut]
          exact shut
    · rcases k.emergency with same' | ⟨was', -⟩
      · refine .inr ⟨was, same'.trans started, fun standing => ?_⟩
        rw [State.unit, k.moved.of_shutting (shuts standing)]
        exact shuts standing
      · rw [started] at was'
        cases was'
  case access =>
    rcases k.access with same | ⟨none, waiting⟩
    · rw [same]
      exact h.access
    · rcases h.access with same | ⟨-, waiting'⟩
      · rw [same] at waiting
        exact .inr ⟨none, waiting⟩
      · exact .inr ⟨none, waiting'⟩

theorem UnitJudged.refl (u : UnitNo) (s : State) : UnitJudged u s s := (UnitViewed.refl u s).judged

/-- A close request to the unit itself. -/
theorem closeRequest_unitJudged (u : UnitNo) (s : State) : UnitJudged u s (closeRequest u s) := by
  have doors := (closeRequest_loose u s).1.doors u rfl
  have pressed := closeRequest_pressed (u := u) (s := s)
  obtain ⟨d, r, c, form⟩ := closeRequest_requested u s
  rw [form] at doors pressed ⊢
  exact ⟨doors, fun free => .inr (pressed free), .inl rfl, .inl rfl, .inl rfl, .inl rfl, rfl, rfl, rfl, rfl⟩

theorem berthCloseRequest_unitJudged (u : UnitNo) (s : State) : UnitJudged u s (berthCloseRequest u s) := by
  unfold berthCloseRequest
  split
  · exact .refl u s
  · exact closeRequest_unitJudged u s

theorem berthCloseRequest_clear (h : s.iu.latch = false) : berthCloseRequest u s = closeRequest u s := by
  rw [berthCloseRequest, h, if_neg Bool.false_ne_true]

theorem memberFree_standsOpen {c : CloseCycle} {w : Warning} (h : s.memberFree c u w = true) : (s.unit u).standsOpen := by
  unfold State.memberFree at h
  simp only [Bool.and_eq_true, Bool.or_eq_true, beq_iff_eq] at h
  obtain ⟨⟨⟨standing, -⟩, -⟩, -⟩ := h
  exact standing

theorem berthCloseRequest_bu (u : UnitNo) (s : State) : (berthCloseRequest u s).bu = s.bu := by
  obtain ⟨d, r, c, form⟩ := berthCloseRequest_requested u s
  rw [form]

/-- Member `u` sent its request. -/
theorem sendMember_unitJudged {c : CloseCycle} {m : Member} (hc : s.bu.cycle = some c) (hm : c.members.get u = some m) (waiting : m.status = .waiting)
    (standing : (s.unit u).standsOpen) :
    UnitJudged u s (berthCloseRequest u (s.setCycle (some { c with members := c.members.set u (some { m with status := .started }) }))) := by
  have request := berthCloseRequest_unitJudged u (s.setCycle (some { c with members := c.members.set u (some { m with status := .started }) }))
  refine ⟨request.moved, request.pressed, .inr ⟨m, ?_, waiting, ?_, standing, fun free => ?_⟩, request.covered, request.emergency, request.access,
    request.obstructed, request.now, request.cl, request.latch⟩
  · rw [State.cycleMember, hc]
    exact hm
  · rw [State.cycleMember, berthCloseRequest_bu]
    exact Quad.get_set_self ..
  · have clear : ∀ x, (s.setCycle x).iu.latch = false := fun _ => free
    rw [berthCloseRequest_clear (clear _)]
    exact closeRequest_shuts standing

theorem judgeMember_unitJudged (u : UnitNo) (s : State) : UnitJudged u s (judgeMember u s) := by
  unfold judgeMember
  split
  · exact .refl u s
  · next c hc =>
    split
    · exact .refl u s
    · next m hm =>
      split
      · next due =>
        rw [Bool.and_eq_true, beq_iff_eq] at due
        exact sendMember_unitJudged hc hm due.1 (memberFree_standsOpen due.2)
      · exact .refl u s

/-- Unit `u` left the covered set. -/
theorem dropCovered_coveredUnder (u : UnitNo) (s : State) : (dropCovered u s).coveredUnder u = none := by
  unfold dropCovered State.coveredUnder
  split
  · next hd =>
    rw [hd]
    rfl
  · next d hd =>
    dsimp only [State.setDeparture, State.modBu]
    split
    · rfl
    · rw [Option.bind_some, Quad.get_set_self]
      rfl

theorem dropAccessMember_accessMember (u : UnitNo) (s : State) : (dropAccessMember u s).accessMember u = none := by
  unfold dropAccessMember State.accessMember
  split
  · next ha =>
    rw [ha]
    rfl
  · next a ha =>
    dsimp only [State.modIu]
    split
    · rfl
    · rw [Option.bind_some, Quad.get_set_self]
      rfl

theorem dropCovered_unitJudged (u : UnitNo) (s : State) : UnitJudged u s (dropCovered u s) := by
  have none := dropCovered_coveredUnder u s
  refine ⟨?_, ?_, ?_, .inr none, ?_, ?_, ?_, ?_, ?_, ?_⟩
  · rw [dropCovered_dc]
    exact .inl rfl
  · rw [dropCovered_dc]
    exact fun _ => .inl rfl
  all_goals
    unfold dropCovered
    split <;> first | rfl | exact .inl rfl

theorem dropAccessMember_unitJudged (h : ∀ w m, s.accessMember u = some (w, m) → m.status = .waiting) : UnitJudged u s (dropAccessMember u s) := by
  have none := dropAccessMember_accessMember u s
  refine ⟨?_, ?_, ?_, ?_, ?_, .inr ⟨none, h⟩, ?_, ?_, ?_, ?_⟩
  · rw [dropAccessMember_dc]
    exact .inl rfl
  · rw [dropAccessMember_dc]
    exact fun _ => .inl rfl
  all_goals
    unfold dropAccessMember
    split <;> first | rfl | exact .inl rfl

theorem judgeCovered_unitJudged (u : UnitNo) (s : State) : UnitJudged u s (judgeCovered u s) := by
  unfold judgeCovered
  split
  · exact .refl u s
  · split
    · exact (dropCovered_unitJudged u s).trans (berthCloseRequest_unitJudged u _)
    · exact .refl u s

theorem judgeAccessMember_unitJudged (u : UnitNo) (s : State) : UnitJudged u s (judgeAccessMember u s) := by
  unfold judgeAccessMember
  split
  · exact .refl u s
  · next a ha =>
    split
    · exact .refl u s
    · next m hm =>
      split
      · next due =>
        simp only [Bool.and_eq_true, beq_iff_eq] at due
        refine (dropAccessMember_unitJudged fun w m' place => ?_).trans (closeRequest_unitJudged u _)
        rw [State.accessMember, ha, Option.bind_some, hm] at place
        cases place
        exact due.1.1
      · exact .refl u s

/-- Member `u` of the emergency close cycle sent its request. -/
theorem sendEmergency_unitJudged {e : EmergencyClose} (he : s.iu.emergencyClose = some e) (hm : e.members.get u = some .waiting) :
    UnitJudged u s (closeRequest u (s.modIu fun i => { i with emergencyClose := some { e with members := e.members.set u (some .started) } })) := by
  have request := closeRequest_unitJudged u (s.modIu fun i => { i with emergencyClose := some { e with members := e.members.set u (some .started) } })
  refine ⟨request.moved, request.pressed, request.member, request.covered, .inr ⟨?_, ?_, fun standing => ?_⟩, request.access,
    request.obstructed, request.now, request.cl, request.latch⟩
  · rw [State.emergencyStatus, he]
    exact hm
  · obtain ⟨d, r, c, form⟩ := closeRequest_requested u (s.modIu fun i => { i with emergencyClose := some { e with members := e.members.set u (some .started) } })
    rw [form]
    exact Quad.get_set_self ..
  · exact closeRequest_shuts standing

theorem judgeEmergencyMember_unitJudged (u : UnitNo) (s : State) : UnitJudged u s (judgeEmergencyMember u s) := by
  unfold judgeEmergencyMember
  split
  · exact .refl u s
  · next e he =>
    split
    · next hm =>
      split
      · exact sendEmergency_unitJudged he hm
      · exact .refl u s
    · exact .refl u s

/-- A judge over the four units, of which the other three leave unit `u`. -/
theorem forUnits_unitJudged {f : UnitNo → State → State} (others : ∀ v s, v ≠ u → UnitViewed u s (f v s)) (own : ∀ s, UnitJudged u s (f u s)) (s : State) :
    UnitJudged u s (forUnits f s) := by
  obtain ⟨m, before, behind⟩ := forUnits_at (UnitViewed.refl u) UnitViewed.trans u others s
  exact (before.judged.trans (own m)).trans behind.judged

theorem judgedMembers_unitJudged (u : UnitNo) (s : State) : UnitJudged u s (judgedMembers s) :=
  (((forUnits_unitJudged (fun _ s n => judgeMember_viewed n s) (judgeMember_unitJudged u) s).trans
    (forUnits_unitJudged (fun _ s n => judgeCovered_viewed n s) (judgeCovered_unitJudged u) _)).trans
    (forUnits_unitJudged (fun _ s n => judgeEmergencyMember_viewed n s) (judgeEmergencyMember_unitJudged u) _)).trans
    (forUnits_unitJudged (fun _ s n => judgeAccessMember_viewed n s) (judgeAccessMember_unitJudged u) _)

end Sys2Proof.Machine

/-! The end of an event as the closes see it, and the zone filter (sections 8.2, 8.5, 9.2 and 9.5). -/

namespace Sys2Proof.Machine

variable {i : Instr} {u v : UnitNo} {s t : State}

/-! ### What the completion of a close leaves -/

/-- The completion of the closes ends a cycle or an emergency close cycle, and moves no other close. -/
structure Completed (s t : State) : Prop where
  departure : t.bu.departure = s.bu.departure
  access : t.iu.accessClose = s.iu.accessClose
  cycle : t.bu.cycle = s.bu.cycle ∨ t.bu.cycle = none
  emergency : t.iu.emergencyClose = s.iu.emergencyClose ∨ t.iu.emergencyClose = none

theorem Completed.refl (s : State) : Completed s s := ⟨rfl, rfl, .inl rfl, .inl rfl⟩

theorem Completed.trans {a b c : State} (h : Completed a b) (k : Completed b c) : Completed a c := by
  refine ⟨k.departure.trans h.departure, k.access.trans h.access, ?_, ?_⟩
  · rcases k.cycle with same | none
    · rw [same]
      exact h.cycle
    · exact .inr none
  · rcases k.emergency with same | none
    · rw [same]
      exact h.emergency
    · exact .inr none

theorem secure_bu (s : State) :
    (setBerthState .secured (endCycle true s)).bu = { s.bu with cycle := none, berth := { s.bu.berth with state := .secured } } := by
  rw [setBerthState_bu, endCycle_bu]
  rfl

theorem secure_iu (s : State) : (setBerthState .secured (endCycle true s)).iu = s.iu := by
  rw [setBerthState_iu, endCycle_iu]

theorem secure_completed (s : State) : Completed s (setBerthState .secured (endCycle true s)) := by
  refine ⟨?_, ?_, .inr ?_, .inl ?_⟩
  · rw [secure_bu]
  · rw [secure_iu]
  · rw [secure_bu]
  · rw [secure_iu]

theorem completeCycle_completed (s : State) : Completed s (completeCycle s) := by
  rcases completeCycle_cases s with same | secured
  · rw [same]
    exact .refl s
  · rw [secured]
    exact secure_completed s

theorem completeEmergency_completed (s : State) : Completed s (completeEmergency s) := by
  rcases completeEmergency_cases s with same | ends
  · rw [same]
    exact .refl s
  · rw [ends]
    refine Completed.trans (b := s.modIu fun i => { i with emergencyClose := none }) ⟨rfl, rfl, .inl rfl, .inr rfl⟩ ?_
    rcases emergencyNotice_cases (s.modIu fun i => { i with emergencyClose := none }) with same | secured
    · rw [same]
      exact .refl _
    · rw [secured]
      exact secure_completed _

/-- What follows the judging moves no close but by completing it. -/
theorem settle_completed (s0 s : State) : Completed (judgedMembers s) (settle s0 s) := by
  have completed := (completeCycle_completed (judgedMembers s)).trans (completeEmergency_completed (completeCycle (judgedMembers s)))
  rw [← settleCloses_judged] at completed
  have sends := finish_sends (driveWarning (judged s0 s))
  refine completed.trans (Completed.trans (b := driveWarning (judged s0 s)) ?_ ?_)
  · rw [judged_eq]
    exact ⟨rfl, rfl, .inl rfl, .inl rfl⟩
  · rw [settle_eq]
    exact ⟨congrArg BerthUnit.departure sends.bu, congrArg InterlockUnit.accessClose sends.iu, .inl (congrArg BerthUnit.cycle sends.bu),
      .inl (congrArg InterlockUnit.emergencyClose sends.iu)⟩

/-- The end of an event as the one unit's channel sees it. -/
theorem settle_dc_judged (u : UnitNo) (s0 s : State) : (settle s0 s).dc.get u = (judgedMembers s).dc.get u := (settle_channel u s0 s).dc

/-- The cycle that stands at the end of an event has the warnings and holds it had. -/
theorem settle_cycle (s0 : State) {c : CloseCycle} (h : (settle s0 s).bu.cycle = some c) :
    (judgedMembers s).bu.cycle = some c ∧ ∃ c0, s.bu.cycle = some c0 ∧ c.warnings = c0.warnings ∧ c.holds = c0.holds := by
  have stands : (judgedMembers s).bu.cycle = some c := by
    rcases (settle_completed s0 s).cycle with same | none
    · rw [← same]
      exact h
    · rw [none] at h
      cases h
  refine ⟨stands, ?_⟩
  have kept := (judgedMembers_judged s).cycle
  rw [stands] at kept
  obtain ⟨c0, was, pair⟩ := Option.map_eq_some_iff.1 kept.symm
  exact ⟨c0, was, (congrArg Prod.fst pair).symm, (congrArg Prod.snd pair).symm⟩

/-! ### A close with a member not done stands (R166, R181) -/

theorem memberDone_standsOpen {st : UnitState} {k k' : MemberStatus} (h : memberDone st k = false) (n : ¬st.standsOpen) : memberDone st k' = false := by
  unfold UnitState.standsOpen at n
  cases st <;> first | exact h | exact absurd (.inr rfl) n

theorem memberDone_shutting {st : UnitState} (k : MemberStatus) (h : st.shutting) : memberDone st k = false := by
  rcases h with rfl | rfl | rfl <;> rfl

/-- A unit that the judging moves stays as far from done as it was. -/
theorem KeepsUnit.notDone {d e : DoorChannel} {k : MemberStatus} (h : KeepsUnit d e) (n : memberDone d.st k = false) : memberDone e.st k = false := by
  rcases h with rfl | ⟨opening, rfl⟩ | ⟨-, shut, -⟩
  · exact n
  · exact n
  · exact memberDone_shutting k shut

/-- A member of the cycle not done is not done by the judging, while the latch is clear. -/
theorem UnitJudged.member_notDone {m : Member} (h : UnitJudged u s t) (free : s.iu.latch = false) (member : s.cycleMember u = some m)
    (n : memberDone (s.unit u) m.status = false) :
    ∃ m', t.cycleMember u = some m' ∧ m'.warning = m.warning ∧ memberDone (t.unit u) m'.status = false := by
  rcases h.member with same | ⟨m', was, -, started, -, shuts⟩
  · exact ⟨m, same.trans member, rfl, h.moved.notDone n⟩
  · rw [member] at was
    cases was
    exact ⟨_, started, rfl, memberDone_shutting _ (shuts free)⟩

/-- A member of the emergency close cycle not done is not done by the judging. -/
theorem UnitJudged.emergency_notDone {k : MemberStatus} (h : UnitJudged u s t) (member : s.emergencyStatus u = some k)
    (n : memberDone (s.unit u) k = false) : ∃ k', t.emergencyStatus u = some k' ∧ memberDone (t.unit u) k' = false := by
  rcases h.emergency with same | ⟨was, started, shuts⟩
  · exact ⟨k, same.trans member, h.moved.notDone n⟩
  · refine ⟨_, started, ?_⟩
    by_cases standing : (s.unit u).standsOpen
    · exact memberDone_shutting _ (shuts standing)
    · rw [member] at was
      cases was
      exact h.moved.notDone (memberDone_standsOpen n standing)

theorem cycleMember_some {m : Member} (h : s.cycleMember u = some m) : ∃ c, s.bu.cycle = some c ∧ c.members.get u = some m :=
  Option.bind_eq_some_iff.1 h

theorem emergencyStatus_some {k : MemberStatus} (h : s.emergencyStatus u = some k) :
    ∃ e, s.iu.emergencyClose = some e ∧ e.members.get u = some k :=
  Option.bind_eq_some_iff.1 h

theorem completeCycle_stands {m : Member} (h : s.cycleMember u = some m) (n : memberDone (s.unit u) m.status = false) : completeCycle s = s := by
  obtain ⟨c, stands, member⟩ := cycleMember_some h
  have unfinished := (CloseCycle.unfinished_iff c s).1 ⟨u, m, member, n⟩
  unfold completeCycle
  rw [stands]
  dsimp only
  refine if_neg fun done => ?_
  rw [Bool.and_eq_true] at done
  exact absurd (unfinished.symm.trans done.2) Bool.false_ne_true

theorem completeEmergency_stands {k : MemberStatus} (h : s.emergencyStatus u = some k) (n : memberDone (s.unit u) k = false) :
    completeEmergency s = s := by
  obtain ⟨e, stands, member⟩ := emergencyStatus_some h
  have unfinished := (EmergencyClose.unfinished_iff e s).1 ⟨u, k, member, n⟩
  unfold completeEmergency
  rw [stands]
  dsimp only
  exact if_neg fun done => absurd (unfinished.symm.trans done) Bool.false_ne_true

theorem completeEmergency_none (h : s.iu.emergencyClose = none) : completeEmergency s = s := by
  unfold completeEmergency
  rw [h]

theorem judgedMembers_noEmergency (h : s.iu.emergencyClose = none) : (judgedMembers s).iu.emergencyClose = none := by
  have kept := (judgedMembers_judged s).emergency
  rw [h] at kept
  exact Option.map_eq_none_iff.1 kept

/-- While a member of the cycle is not done and no emergency close runs, nothing completes. -/
theorem settleCloses_unfinished {m : Member} (free : s.iu.latch = false) (none : s.iu.emergencyClose = none) (member : s.cycleMember u = some m)
    (n : memberDone (s.unit u) m.status = false) : settleCloses s = judgedMembers s := by
  obtain ⟨m', stands, -, still⟩ := (judgedMembers_unitJudged u s).member_notDone free member n
  rw [settleCloses_judged, completeCycle_stands stands still, completeEmergency_none (judgedMembers_noEmergency none)]

theorem settle_of_uncompleted (s0 : State) (h : settleCloses s = judgedMembers s) :
    (settle s0 s).bu = (judgedMembers s).bu ∧ (settle s0 s).iu = (judgedMembers s).iu := by
  have sends := finish_sends (driveWarning (judged s0 s))
  rw [settle_eq, sends.bu, sends.iu, judged_eq, h]
  exact ⟨rfl, rfl⟩

/-- An uncompleted close leaves the queue but for a beacon. -/
theorem settle_uncompleted_frames (s0 : State) (h : settleCloses s = judgedMembers s) {k : FrameKind} (other : k ≠ .beacon)
    (low : k.cls ≤ FrameKind.cls .beacon) (p : List Byte) : (settle s0 s).frames k p = s.frames k p := by
  obtain ⟨-, -, l, sent, -, beacons⟩ := settle_uncompleted s0 ⟨(judgedMembers s).iu.emergencyClose, h⟩
  exact sent.frames_other other fun f m => ⟨fun e => other ((congrArg Prod.fst e).symm.trans (beacons f m)), (beacons f m).symm ▸ low⟩

/-! ### The zone filter (R28, R143, R147) -/

theorem zoneStep_eq {x y : UnitSensing} {occ busy : Bool}
    (form : y = { x with zoneTimer := y.zoneTimer, zoneWindow := joinWindow 10 x.zoneWindow occ, zoneBusy := busy })
    (filter : busy = true ↔ if x.zoneBusy then 2 < y.zoneWindow.count true else 7 ≤ y.zoneWindow.count true) :
    ({ x with zoneTimer := y.zoneTimer } : UnitSensing).zoneStep occ = y := by
  have window : y.zoneWindow = joinWindow 10 x.zoneWindow occ := by
    have kept := congrArg UnitSensing.zoneWindow form
    exact kept
  have level : (if x.zoneBusy then decide (2 < occupied (joinWindow 10 x.zoneWindow occ))
      else decide (7 ≤ occupied (joinWindow 10 x.zoneWindow occ))) = busy := by
    rw [← window]
    rcases e : x.zoneBusy with _ | _
    · rw [e, if_neg Bool.false_ne_true] at filter
      rw [if_neg Bool.false_ne_true, Bool.eq_iff_iff, decide_eq_true_iff]
      exact filter.symm
    · rw [e, if_pos rfl] at filter
      rw [if_pos rfl, Bool.eq_iff_iff, decide_eq_true_iff]
      exact filter.symm
  rw [form]
  unfold UnitSensing.zoneStep
  dsimp only
  rw [level]

theorem feedZone_eq (u : UnitNo) (occ : Bool) (s : State) :
    feedZone u occ s =
      if (s.su.units.get u).zoneBusy && !((s.su.units.get u).zoneStep occ).zoneBusy then zoneFreed u (s.setSu u ((s.su.units.get u).zoneStep occ))
      else s.setSu u ((s.su.units.get u).zoneStep occ) := rfl

/-- A sample fed with the timer set first. -/
theorem feedZone_timed {y : UnitSensing} {occ busy : Bool} {timer : Option Time} (zone : y.zoneTimer = timer)
    (form : y =
      { s.su.units.get u with
        zoneTimer := y.zoneTimer, zoneWindow := joinWindow 10 (s.su.units.get u).zoneWindow occ, zoneBusy := busy })
    (filter : busy = true ↔ if (s.su.units.get u).zoneBusy then 2 < y.zoneWindow.count true else 7 ≤ y.zoneWindow.count true) :
    feedZone u occ (s.modSu u fun x => { x with zoneTimer := timer }) =
      if (s.su.units.get u).zoneBusy && !busy then zoneFreed u (s.setSu u y) else s.setSu u y := by
  have level : y.zoneBusy = busy := by
    have kept := congrArg UnitSensing.zoneBusy form
    exact kept
  have step : ((s.modSu u fun x => { x with zoneTimer := timer }).su.units.get u).zoneStep occ = y := by
    rw [modSu_unit, ← zone]
    exact zoneStep_eq form filter
  have before : ((s.modSu u fun x => { x with zoneTimer := timer }).su.units.get u).zoneBusy = (s.su.units.get u).zoneBusy := by
    rw [modSu_unit]
  have set : (s.modSu u fun x => { x with zoneTimer := timer }).setSu u y = s.setSu u y := setSu_setSu u _ _ s
  rw [feedZone_eq, step, before, set, level]

/-! ### A zone freed (R160) -/

/-- Unit `u` holds no car any more. -/
def OwnHold.without (u : UnitNo) (h : OwnHold) : OwnHold := { h with holders := h.holders.set u false }

theorem zoneFreed_cycle {c : CloseCycle} (h : s.bu.cycle = some c) :
    zoneFreed u s = ((c.holds.map (OwnHold.without u)).filter fun h => !h.standing).foldl (fun s h => sendHold 2 h.car s)
      (s.setCycle (some { c with holds := (c.holds.map (OwnHold.without u)).filter OwnHold.standing })) := by
  unfold zoneFreed
  rw [h]
  rfl

theorem zoneFreed_bu (s : State) : (zoneFreed u s).bu =
    { s.bu with cycle := s.bu.cycle.map fun c => { c with holds := (c.holds.map (OwnHold.without u)).filter OwnHold.standing } } := by
  rcases h : s.bu.cycle with _ | c
  · have same : zoneFreed u s = s := by
      unfold zoneFreed
      rw [h]
    rw [same]
    show s.bu = { s.bu with cycle := none }
    rw [← h]
  · rw [zoneFreed_cycle h, (foldl_sendHold_sends _ 2 _).bu]
    rfl

theorem without_get (h : OwnHold) : (h.without u).holders.get u = false := Quad.get_set_self ..

/-- What a zone freed enqueues: a HOLD END for each own hold whose last holding unit it was. -/
theorem zoneFreed_enqueued {c : CloseCycle} (h : s.bu.cycle = some c) :
    Enqueued (holdEnds s.seq ((c.holds.map (OwnHold.without u)).filter fun h => !h.standing)) s (zoneFreed u s) := by
  rw [zoneFreed_cycle h]
  exact (sendHolds_enqueued _ (s.setCycle (some { c with holds := (c.holds.map (OwnHold.without u)).filter OwnHold.standing }))).before rfl

theorem holdEnds_count (seq : Byte) (l : List OwnHold) (car : Byte) :
    (holdEnds seq l).count (.hold, [seq, 2, car]) = l.countP fun h => byte h.car == car := by
  rw [holdEnds, List.count, List.countP_map]
  refine List.countP_congr fun h _ => ?_
  simp

theorem zoneFreed_unit (v : UnitNo) (s : State) : (zoneFreed u s).unit v = s.unit v := by
  rw [State.unit, zoneFreed_dc]
  rfl

/-- The closes of a state whose zone has become FREE: a member not done stays so. -/
theorem zoneFreed_unfinished {c : CloseCycle} (stands : s.bu.cycle = some c) (h : c.unfinished s) :
    ∃ v m, (zoneFreed u s).cycleMember v = some m ∧ memberDone ((zoneFreed u s).unit v) m.status = false := by
  obtain ⟨v, m, member, n⟩ := h
  refine ⟨v, m, ?_, by rw [zoneFreed_unit]; exact n⟩
  rw [State.cycleMember, zoneFreed_bu, stands]
  exact member

/-- A zone freed, through the end of the event: the unit holds no car, and while the cycle is not done its holds that still stand are
kept and each that ends draws one HOLD END. -/
theorem zoneFreed_settled (s0 : State) :
    (∀ c, (settle s0 (zoneFreed u s)).bu.cycle = some c → ∀ h ∈ c.holds, h.holders.get u = false) ∧
      ∀ c, s.bu.cycle = some c → s.iu.latch = false → s.iu.emergencyClose = none → c.unfinished s →
        (∃ c', (settle s0 (zoneFreed u s)).bu.cycle = some c' ∧ c'.holds = (c.holds.map (OwnHold.without u)).filter OwnHold.standing) ∧
          (s.lc.queue.length + c.holds.length ≤ 8 → ∀ car,
            (settle s0 (zoneFreed u s)).frames .hold [s.seq, 2, byte car] =
              s.frames .hold [s.seq, 2, byte car] + c.holds.countP fun h => byte h.car == byte car && !(h.without u).standing) := by
  refine ⟨fun c stands h m => ?_, fun c stands free none unfinished => ?_⟩
  · obtain ⟨-, c0, was, -, holds⟩ := settle_cycle s0 stands
    rw [zoneFreed_bu] at was
    obtain ⟨c1, -, rfl⟩ := Option.map_eq_some_iff.1 was
    rw [holds] at m
    obtain ⟨x, -, rfl⟩ := List.mem_map.1 (List.mem_filter.1 m).1
    exact without_get x
  · obtain ⟨v, m, member, n⟩ := zoneFreed_unfinished (u := u) stands unfinished
    have iu : (zoneFreed u s).iu = s.iu := by
      rw [zoneFreed_cycle stands, (foldl_sendHold_sends _ 2 _).iu]
      rfl
    have whole := settleCloses_unfinished (by rw [iu]; exact free) (by rw [iu]; exact none) member n
    refine ⟨?_, fun room car => ?_⟩
    · have kept := (judgedMembers_judged (zoneFreed u s)).cycle
      rw [zoneFreed_bu, stands] at kept
      obtain ⟨c', now, pair⟩ := Option.map_eq_some_iff.1 kept
      exact ⟨c', by rw [(settle_of_uncompleted s0 whole).1]; exact now, congrArg Prod.snd pair⟩
    · have sent := zoneFreed_enqueued (u := u) stands
      have len : (holdEnds s.seq ((c.holds.map (OwnHold.without u)).filter fun h => !h.standing)).length ≤ c.holds.length := by
        rw [holdEnds, List.length_map]
        exact (List.length_filter_le _ _).trans (le_of_eq (List.length_map _))
      rw [settle_uncompleted_frames s0 whole (k := .hold) (fun e => nomatch e) (by decide), sent.frames_room (k := .hold) (by omega) (fun e => nomatch e), holdEnds_count,
        List.countP_filter, List.countP_map]
      rfl

/-! ### The obligation -/

theorem zoneSample_settled {occ busy : Bool} {r : State} {y : UnitSensing} (same : Reached s r) (lc : r.lc = s.lc) (iu : r.iu = s.iu)
    {timer : Option Time} (zone : y.zoneTimer = timer)
    (form : y =
      { s.su.units.get u with
        zoneTimer := y.zoneTimer, zoneWindow := joinWindow 10 (s.su.units.get u).zoneWindow occ, zoneBusy := busy })
    (filter : busy = true ↔ if (s.su.units.get u).zoneBusy then 2 < y.zoneWindow.count true else 7 ≤ y.zoneWindow.count true) :
    ∃ t, settle r (feedZone u occ (r.modSu u fun x => { x with zoneTimer := timer })) = t ∧ Ends (r.setSu u y) t ∧
      (busy = false → (s.su.units.get u).zoneBusy = true →
        (∀ c, t.bu.cycle = some c → ∀ h ∈ c.holds, h.holders.get u = false) ∧
          ∀ c, s.bu.cycle = some c → s.iu.latch = false → s.iu.emergencyClose = none → c.unfinished s →
            (∃ c', t.bu.cycle = some c' ∧ c'.holds = (c.holds.map (OwnHold.without u)).filter OwnHold.standing) ∧
            (s.lc.queue.length + c.holds.length ≤ 8 → ∀ car,
              t.frames .hold [s.seq, 2, byte car] =
                s.frames .hold [s.seq, 2, byte car] + c.holds.countP fun h => byte h.car == byte car && !(h.without u).standing)) := by
  have fed := feedZone_timed (u := u) (s := r) (occ := occ) (busy := busy) zone (by rw [same.su]; exact form) (by rw [same.su]; exact filter)
  refine ⟨_, rfl, ?_, fun free was => ?_⟩
  · rw [fed]
    split
    · exact Ends.settled (zoneFreed_holds (x := noUnit) u _) r
    · exact settle_ends _ _
  · have busy : (r.su.units.get u).zoneBusy = true := by rw [same.su]; exact was
    rw [fed, busy, free, if_pos (show (true && !false) = true from rfl)]
    obtain ⟨holders, cycle⟩ := zoneFreed_settled (u := u) (s := r.setSu u y) r
    refine ⟨holders, fun c stands latch none unfinished => ?_⟩
    have units : ∀ v, (r.setSu u y).unit v = s.unit v := fun v => same.unit v
    have known : c.unfinished (r.setSu u y) := by
      obtain ⟨v, m, member, n⟩ := unfinished
      exact ⟨v, m, member, by rw [units]; exact n⟩
    have now := cycle c (by rw [show (r.setSu u y).bu = s.bu from same.bu]; exact stands)
      (by rw [show (r.setSu u y).iu = s.iu from iu]; exact latch) (by rw [show (r.setSu u y).iu = s.iu from iu]; exact none) known
    have frames : ∀ k p, (r.setSu u y).frames k p = s.frames k p := fun k p => by
      rw [frames_eq, show (r.setSu u y).lc = s.lc from lc, ← frames_eq]
    rw [show (r.setSu u y).seq = s.seq from same.seq, show (r.setSu u y).lc = s.lc from lc] at now
    simp only [frames] at now
    exact now

theorem zone_occ {sample : Presence} {occ : Bool} (h : occ = true ↔ sample = .occupied) : Presence.zone sample = occ := by
  rw [Bool.eq_iff_iff, h]
  cases sample <;> decide

theorem endHold_cycle {c : CloseCycle} {car : Nat} (h : s.bu.cycle = some c) :
    endHold car s = sendHold 2 car (s.setCycle (some { c with holds := c.holds.filter fun h => h.car != car })) := by
  unfold endHold
  rw [h]

theorem endHold_ends (car : Nat) (s : State) : Ends s (endHold car s) := by
  unfold endHold
  split
  · exact Ends.refl s
  · next c h => exact (setCycle_holds _ s h).trans (enqueue_sends .hold _ _).ends

theorem deadline_clause {car : Nat} {h : OwnHold} (loaded : s.loaded = true) (own : s.ownHold car = some h) :
    ∃ t, Sys2Proof.Machine.exec (.ownHoldDeadline car) s = .next t ∧
      t = settle (s.reach h.deadline) (endHold car (s.reach h.deadline)) ∧
      (s.lc.queue.length < 16 →
        (endHold car (s.reach h.deadline)).lc.queue = insertByClass ⟨.hold, [s.seq, 2, byte car], none, false⟩ s.lc.queue) ∧
      (∀ c, t.bu.cycle = some c → ∀ x ∈ c.holds, x.car ≠ car) ∧ Ends (s.reach h.deadline) t := by
  obtain ⟨c, stands, -⟩ := Option.bind_eq_some_iff.1 own
  have same := reached_of h.deadline s
  have reached : (s.reach h.deadline).bu.cycle = some c := by
    rw [same.bu]
    exact stands
  have exec : Sys2Proof.Machine.exec (.ownHoldDeadline car) s =
      .next (settle (s.reach h.deadline) (endHold car (s.reach h.deadline))) :=
    congrArg Host.Outcome.next (expiry_loaded (timer := (s.ownHold car).map OwnHold.deadline) loaded (by rw [own]; rfl)
      fun s' => settle s' (endHold car s'))
  refine ⟨_, exec, rfl, fun room => ?_, fun c' now x m => ?_, (endHold_ends _ _).settled _⟩
  · have queue : (s.reach h.deadline).lc.queue = s.lc.queue := congrArg LineController.queue (reach_lc ..)
    rw [endHold_cycle reached, sendHold, enqueue_joins (k := .hold) (.inl fun e => nomatch e) (by
      show (s.reach h.deadline).lc.queue.length < 16
      rw [queue]
      exact room)]
    show insertByClass (newEntry .hold [(s.reach h.deadline).seq, 2, byte car]) (s.reach h.deadline).lc.queue = _
    rw [queue, same.seq]
    rfl
  · obtain ⟨-, c0, was, -, holds⟩ := settle_cycle _ now
    rw [endHold_cycle reached, sendHold, (enqueue_sends .hold _ _).bu] at was
    cases was
    rw [holds] at m
    simpa using (List.mem_filter.1 m).2

/-- Settles O51: a zone sample moves the filter, a zone that becomes FREE gives its holds up, and an own hold ends with its deadline. -/
theorem zonesAndOwnHolds : Obligations.ZonesAndOwnHolds := by
  unfold Obligations.ZonesAndOwnHolds
  refine ⟨fun u s senses i occ busy r y which form filter => ?sample, fun u s rests => ⟨fun sample => ?_, ?_⟩,
    fun car h s loaded own => deadline_clause loaded own⟩
  case sample =>
    rcases which with ⟨sample, rfl, occupied, rfl, timer⟩ | ⟨e, rfl, rfl, runs, rfl, timer⟩
    · have exec : Sys2Proof.Machine.exec (.zoneSample u sample) r =
          .next (settle r (feedZone u occ (r.modSu u fun x => { x with zoneTimer := some (after r.now 200) }))) := by
        rw [← zone_occ occupied]
        exact congrArg _ (if_pos senses)
      obtain ⟨t, rfl, outcome⟩ := zoneSample_settled (Reached.refl r) rfl rfl timer form filter
      exact ⟨_, exec, outcome⟩
    · have exec : Sys2Proof.Machine.exec (.zoneSampleTimeout u) s =
          .next (settle (s.reach e) (feedZone u false ((s.reach e).modSu u fun x => { x with zoneTimer := some (after (s.reach e).now 100) }))) := by
        refine congrArg Host.Outcome.next ((if_pos senses).trans ?_)
        rw [runs, onExpiry]
        rfl
      obtain ⟨t, rfl, outcome⟩ := zoneSample_settled (reached_of e s) (reach_lc ..) (reach_iu ..) timer form filter
      exact ⟨_, exec, outcome⟩
  · exact congrArg _ (if_neg (by rw [rests]; exact Bool.false_ne_true))
  · exact congrArg _ (if_neg (by rw [rests]; exact Bool.false_ne_true))

end Sys2Proof.Machine

/-! The open request, the entry to the latch and what ends it (sections 7.2, 10.5 and 10.6). -/

namespace Sys2Proof.Machine

variable {i : Instr} {u v : UnitNo} {s t : State}

/-! ### An open request, state by state (R119, R121, R129, R133) -/

theorem openRequest_ignored (h : OpenIgnored (s.permit u) s u) : openRequest u s = countIgnored u s := by
  unfold openRequest
  rcases h with ⟨locked, refused⟩ | member
  · rw [locked]
    dsimp only
    rw [refused, if_neg Bool.false_ne_true]
  · split <;> first | rfl | (next e => rw [e] at member; exact absurd member (by decide))

theorem enterReversing_counters (g : ReverseTarget) (u : UnitNo) (s : State) : (enterReversing g u s).fr.unitCounters = s.fr.unitCounters := by
  have done : ∀ x, (reverseDone u x).fr.unitCounters = x.fr.unitCounters := fun x => by
    unfold reverseDone
    split <;> exact moveUnit_unitCounters u _ x
  rw [enterReversing_eq]
  split
  · rw [done, moveUnit_unitCounters]
  · exact moveUnit_unitCounters u _ s

theorem enterUnlocking_counters (u : UnitNo) (s : State) : (enterUnlocking u s).fr.unitCounters = s.fr.unitCounters := by
  unfold enterUnlocking takeHeldDriveFault
  split
  · rw [enterFault, report_unitCounters, moveUnit_unitCounters, moveUnit_unitCounters]
  · exact moveUnit_unitCounters u _ s

theorem openRequest_uncounted (h : ¬OpenIgnored (s.permit u) s u) : (openRequest u s).fr.unitCounters = s.fr.unitCounters := by
  unfold OpenIgnored at h
  rw [not_or] at h
  unfold openRequest
  split
  case h_1 e =>
    split
    · exact enterUnlocking_counters u s
    · next refused => exact absurd ⟨e, Bool.eq_false_iff.2 refused⟩ h.1
  case h_3 | h_6 | h_4 | h_16 => rfl
  case h_5 => exact enterReversing_counters .opened u s
  case h_7 => exact moveUnit_unitCounters u _ s
  all_goals
    next e =>
      rw [e] at h
      exact absurd (by decide) h.2

/-- A unit CLOSED_LOCKED under its permit unlocks, or a drive fault held sends it to FAULT at once. -/
theorem enterUnlocking_channel (u : UnitNo) (s : State) :
    (s.driveFault u = false → (enterUnlocking u s).dc.get u = unlocked s u) ∧
      (s.driveFault u = true → (enterUnlocking u s).dc.get u = { (s.dc.get u).into .fault with attempt := 0 }) := by
  have fault : (moveUnit u (unlocked s u) s).driveFault u = s.driveFault u := by
    rw [State.driveFault, moveUnit_channel, (moveUnit_holds u _ s).2.2]
    rfl
  have enter : enterUnlocking u s = takeHeldDriveFault u (moveUnit u (unlocked s u) s) := rfl
  rw [enter, takeHeldDriveFault, fault]
  refine ⟨fun none => ?_, fun held => ?_⟩
  · rw [none, if_neg Bool.false_ne_true, moveUnit_channel]
  · rw [held, if_pos rfl, enterFault_channel, moveUnit_channel]
    rfl

theorem openRequest_locked (h : s.unit u = .closedLocked) (permit : s.permit u = true) : openRequest u s = enterUnlocking u s := by
  unfold openRequest
  rw [h]
  exact if_pos permit

theorem openRequest_opening (h : s.unit u = .opening) : openRequest u s = s.modDc u fun d => { d with pendingClose := false } := by
  unfold openRequest
  rw [h]

theorem openRequest_opened (h : s.unit u = .opened) : openRequest u s = s := by
  unfold openRequest
  rw [h]

theorem openRequest_closing (h : s.unit u = .closing) : openRequest u s = enterReversing .opened u s := by
  unfold openRequest
  rw [h]

theorem openRequest_reversing (h : s.unit u = .reversing) : openRequest u s = s.modDc u fun d => { d with target := .opened, attempt := 0 } := by
  unfold openRequest
  rw [h]

theorem openRequest_reopenWait (h : s.unit u = .reopenWait) : openRequest u s = standOpen u s := by
  unfold openRequest
  rw [h]

theorem standOpen_channel (u : UnitNo) (s : State) : (standOpen u s).dc.get u = { (s.dc.get u).into .opened with attempt := 0 } :=
  moveUnit_channel u _ s

theorem openRequest_taken (u : UnitNo) (s : State) : OpenTaken (s.permit u) s (openRequest u s) u where
  ignored h := by
    rw [openRequest_ignored h]
    exact ⟨rfl, Quad.get_set_self ..⟩
  uncounted h := by rw [openRequest_uncounted h]
  unlocks h permit fault := by
    rw [openRequest_locked h permit]
    exact (enterUnlocking_channel u s).1 fault
  faults h permit fault := by
    rw [openRequest_locked h permit]
    exact (enterUnlocking_channel u s).2 fault
  opening h := by
    rw [openRequest_opening h]
    exact Quad.get_set_self ..
  opened h := by rw [openRequest_opened h]
  closing h short := by
    rw [openRequest_closing h, enterReversing_short short, moveUnit_channel]
    rfl
  atFullTravel h full := by
    rw [openRequest_closing h, enterReversing_full full, reverseDone_open (by rw [moveUnit_channel]; rfl), State.unit, standOpen_channel]
    exact ⟨rfl, rfl⟩
  reversing h := by
    rw [openRequest_reversing h]
    exact Quad.get_set_self ..
  reopenWait h := by
    rw [openRequest_reopenWait h, standOpen_channel]

/-- What an open request to unit `u` is judged by stands. -/
structure OpenSeen (u : UnitNo) (a b : State) : Prop where
  dc : b.dc.get u = a.dc.get u
  counters : b.fr.unitCounters.get u = a.fr.unitCounters.get u
  driveFault : b.driveFault u = a.driveFault u
  now : b.now = a.now
  cl : b.cl = a.cl

theorem UnitStands.openSeen {a b : State} (h : UnitStands u a b) : OpenSeen u a b :=
  ⟨h.dc, h.counters, by rw [State.driveFault, h.dc, h.pins]; rfl, h.now, h.cl⟩

theorem OpenSeen.trans {a b c : State} (h : OpenSeen u a b) (k : OpenSeen u b c) : OpenSeen u a c :=
  ⟨k.dc.trans h.dc, k.counters.trans h.counters, k.driveFault.trans h.driveFault, k.now.trans h.now, k.cl.trans h.cl⟩

/-- A request taken between what leaves the unit before it and what leaves it after. -/
theorem OpenTaken.within {p : Bool} {a b c d : State} (h : OpenTaken p b c u) (before : OpenSeen u a b) (after : ChannelStands u c d) :
    OpenTaken p a d u := by
  have unit : b.unit u = a.unit u := congrArg DoorChannel.st before.dc
  have remaining : b.remainingOpen u = a.remainingOpen u := by rw [State.remainingOpen, before.dc, before.cl]; rfl
  have ignored : OpenIgnored p b u ↔ OpenIgnored p a u := by rw [OpenIgnored, unit]; rfl
  obtain ⟨h1, h2, h3, h4, h5, h6, h7, h8, h9, h10⟩ := h
  rw [ignored, before.dc, before.counters, ← after.dc, ← after.counters] at h1
  rw [ignored, before.counters, ← after.counters] at h2
  rw [unit, before.driveFault, ← after.dc] at h3
  rw [unit, before.driveFault, before.dc, ← after.dc] at h4
  rw [unit, before.dc, ← after.dc] at h5 h6 h9 h10
  rw [unit, remaining, before.dc, before.now, before.cl, ← after.dc] at h7
  rw [unit, remaining, ← after.unit, ← after.dc] at h8
  refine ⟨h1, h2, fun at_ permit fault => (h3 at_ permit fault).trans ?_, h4, h5, h6, h7, h8, h9, h10⟩
  rw [unlocked, before.dc, before.now]
  rfl

/-! ### The marks of units open for access -/

theorem clearAccess_noMark (h : s.iu.accessMarks.get v = false) : (clearAccess u s).iu.accessMarks.get v = false := by
  unfold clearAccess
  split
  · have kept : ∀ x : State, (dropAccessMember u x).iu.accessMarks = x.iu.accessMarks := fun x => by
      unfold dropAccessMember
      split <;> rfl
    rw [kept]
    by_cases own : u = v
    · subst own
      exact Quad.get_set_self ..
    · exact (Quad.get_set_ne _ _ own).trans h
  · exact h

theorem restSensing_iu (u : UnitNo) (s : State) : (restSensing u s).iu = s.iu := by
  unfold restSensing
  dsimp only
  split
  · unfold zoneFreed
    split
    · rfl
    · exact (foldl_sendHold_sends _ 2 _).iu
  · rfl

theorem moveUnit_noMark {d : DoorChannel} (h : s.iu.accessMarks.get v = false) : (moveUnit u d s).iu.accessMarks.get v = false := by
  have start : (syncOwnRelease (s.setDc u d)).iu.accessMarks.get v = false := h
  rw [moveUnit_eq, (checkAlarm_iu_ae u _).1]
  generalize syncOwnRelease (s.setDc u d) = x at *
  unfold hangs
  dsimp only
  have two : ∀ b b' b'' : Bool,
      (if b'' then emptyRun u (if b' then restSensing u (if b then startSensing u x else x) else if b then startSensing u x else x)
        else if b' then restSensing u (if b then startSensing u x else x) else if b then startSensing u x else x).iu = x.iu := fun b b' b'' =>
    (guard_keeps State.iu (f := emptyRun u) rfl).trans
      ((guard_keeps State.iu (f := restSensing u) (restSensing_iu u _)).trans (guard_keeps State.iu (f := startSensing u) rfl))
  split
  · rw [dropCovered_iu]
    refine clearAccess_noMark ?_
    rw [two]
    exact start
  · rw [two]
    exact start

theorem enterReversing_noMark {g : ReverseTarget} (h : s.iu.accessMarks.get v = false) : (enterReversing g u s).iu.accessMarks.get v = false := by
  rw [enterReversing_eq]
  split
  · unfold reverseDone
    split <;> exact moveUnit_noMark (moveUnit_noMark h)
  · exact moveUnit_noMark h

theorem enterUnlocking_noMark (h : s.iu.accessMarks.get v = false) : (enterUnlocking u s).iu.accessMarks.get v = false := by
  unfold enterUnlocking takeHeldDriveFault
  split
  · rw [enterFault, (report_sends ..).iu]
    exact moveUnit_noMark (moveUnit_noMark h)
  · exact moveUnit_noMark h

theorem openRequest_noMark (h : s.iu.accessMarks.get v = false) : (openRequest u s).iu.accessMarks.get v = false := by
  unfold openRequest
  split
  case h_1 =>
    split
    · exact enterUnlocking_noMark h
    · exact h
  case h_5 => exact enterReversing_noMark h
  case h_7 => exact moveUnit_noMark h
  all_goals exact h

/-! ### Requests withheld under the latch (R89) -/

/-- The channels, the counters and the IU stand. -/
structure Withheld (s t : State) : Prop where
  dc : t.dc = s.dc
  fr : t.fr = s.fr
  iu : t.iu = s.iu

theorem Withheld.refl (s : State) : Withheld s s := ⟨rfl, rfl, rfl⟩

theorem Withheld.trans {a b c : State} (h : Withheld a b) (k : Withheld b c) : Withheld a c :=
  ⟨k.dc.trans h.dc, k.fr.trans h.fr, k.iu.trans h.iu⟩

theorem berthCloseRequest_latched (h : s.iu.latch = true) : berthCloseRequest u s = s := by
  rw [berthCloseRequest, h, if_pos rfl]

theorem judgeMember_withheld (h : s.iu.latch = true) : Withheld s (judgeMember u s) := by
  have set : ∀ c, Withheld s (berthCloseRequest u (s.setCycle c)) := fun c => by
    have latched : (s.setCycle c).iu.latch = true := h
    rw [berthCloseRequest_latched latched]
    exact ⟨rfl, rfl, rfl⟩
  unfold judgeMember
  split
  · exact .refl s
  · split
    · exact .refl s
    · split
      · exact set _
      · exact .refl s

theorem dropCovered_withheld (u : UnitNo) (s : State) : Withheld s (dropCovered u s) :=
  ⟨dropCovered_dc u s, dropCovered_fr u s, dropCovered_iu u s⟩

theorem judgeCovered_withheld (h : s.iu.latch = true) : Withheld s (judgeCovered u s) := by
  unfold judgeCovered
  split
  · exact .refl s
  · split
    · have latched : (dropCovered u s).iu.latch = true := by rw [dropCovered_iu]; exact h
      rw [berthCloseRequest_latched latched]
      exact dropCovered_withheld u s
    · exact .refl s

theorem judgeEmergencyMember_absent (h : s.iu.emergencyClose = none) : judgeEmergencyMember u s = s := by
  unfold judgeEmergencyMember
  rw [h]

theorem judgeAccessMember_absent (h : s.iu.accessClose = none) : judgeAccessMember u s = s := by
  unfold judgeAccessMember
  rw [h]

theorem forUnits_fixed {f : UnitNo → State → State} (h : ∀ u, f u s = s) : forUnits f s = s := by
  unfold forUnits
  simp only [h]

theorem forUnits_withheld {f : UnitNo → State → State} (step : ∀ u s, s.iu.latch = true → Withheld s (f u s)) (h : s.iu.latch = true) :
    Withheld s (forUnits f s) := by
  have next : ∀ a, Withheld s a → ∀ u, Withheld s (f u a) := fun a k u => k.trans (step u a (by rw [k.iu]; exact h))
  exact next _ (next _ (next _ (next _ (.refl s) .u0) .u1) .u2) .u3

/-- Under the latch, with no close of the IU, the judging moves no channel and counts nothing. -/
theorem judgedMembers_withheld (h : s.iu.latch = true) (emergency : s.iu.emergencyClose = none) (access : s.iu.accessClose = none) :
    Withheld s (judgedMembers s) := by
  have one := forUnits_withheld (fun u _ => judgeMember_withheld (u := u)) h
  have two := one.trans (forUnits_withheld (fun u _ => judgeCovered_withheld (u := u)) (by rw [one.iu]; exact h))
  unfold judgedMembers
  rw [forUnits_fixed (f := judgeEmergencyMember) (fun u => judgeEmergencyMember_absent (by rw [two.iu]; exact emergency)),
    forUnits_fixed (f := judgeAccessMember) (fun u => judgeAccessMember_absent (by rw [two.iu]; exact access))]
  exact two

theorem settle_withheld (s0 : State) (h : s.iu.latch = true) (emergency : s.iu.emergencyClose = none) (access : s.iu.accessClose = none)
    (u : UnitNo) : ChannelStands u s (settle s0 s) := by
  have withheld := judgedMembers_withheld h emergency access
  exact ChannelStands.trans (b := judgedMembers s) ⟨by rw [withheld.dc], by rw [withheld.fr]⟩ (settle_channel u s0 s)

/-! ### The entry to the latch (R176, R177) -/

/-- The latch as its entry sets it, before the requests. -/
def latched (s : State) : State :=
  s.modIu fun i => { i with latch := true, emergencyClose := none, accessClose := none, accessMarks := Quad.same false }

theorem enterLatch_eq (s : State) : enterLatch s = forUnits latchRequest (latched s) := rfl

theorem latchRequest_holds (u : UnitNo) (s : State) : Holds (only u) s (latchRequest u s) := by
  unfold latchRequest
  split
  · exact openRequest_holds u s
  · exact Holds.refl _ s

theorem latchRequest_stands (h : v ≠ u) (s : State) : UnitStands u s (latchRequest v s) := by
  unfold latchRequest
  split
  · exact openRequest_stands h s
  · exact .refl u s

theorem latchRequest_noMark (h : s.iu.accessMarks.get v = false) : (latchRequest u s).iu.accessMarks.get v = false := by
  unfold latchRequest
  split
  · exact openRequest_noMark h
  · exact h

theorem latched_holds (s : State) :
    Holds anyUnit { s with iu := { s.iu with latch := true, emergencyClose := none, accessClose := none } } (latched s) :=
  ⟨⟨{ Leaves.refl anyUnit (latched s) with accessMarks := fun _ e => absurd e (Ne.symm Bool.false_ne_true) }, fun _ _ _ => rfl⟩, rfl, rfl⟩

/-- With the latch newly set the Secure Contact opens as the event ends (R168, R169). -/
theorem settle_latched_contact {s0 : State} (clear : s0.iu.latch = false) (h : s.iu.latch = true) : (settle s0 s).out.contact = false := by
  have latch : (settleCloses s).iu.latch = true := (settleCloses_ends s).1.latch.trans h
  have inputs : ((settleCloses s).contactInputs == s0.contactInputs) = false := by
    rw [beq_eq_false_iff_ne]
    intro same
    have marks : (settleCloses s).iu.latch = s0.iu.latch := congrArg (fun x => x.2.2.2) same
    rw [latch, clear] at marks
    cases marks
  rw [settle_eq, finish_out]
  show (judged s0 s).out.contact = false
  unfold judged
  dsimp only
  rw [inputs, if_neg Bool.false_ne_true]
  show (settleCloses s).contactCondition = false
  rw [State.contactCondition, latch, Bool.not_true, Bool.and_false]

/-- The latch has been entered out of `s`, and the event has ended. -/
structure LatchEntered (s t : State) : Prop where
  contact : t.out.contact = false
  noEmergencyClose : t.iu.emergencyClose = none
  noAccessClose : t.iu.accessClose = none
  marks : ∀ v, t.iu.accessMarks.get v = false
  taken : ∀ v, s.configured v = true → (s.unit v).spared = false → OpenTaken true s t v
  spares : ∀ v, s.configured v = false ∨ (s.unit v).spared = true → t.dc.get v = s.dc.get v
  holds : Holds anyUnit { s with iu := { s.iu with latch := true, emergencyClose := none, accessClose := none } } t

theorem enterLatch_holds (s : State) : Holds anyUnit (latched s) (enterLatch s) :=
  forUnits_any (fun u s => (latchRequest_holds u s).any) (latched s)

/-- One unit through the requests of the entry. -/
theorem enterLatch_at (u : UnitNo) (s : State) :
    ∃ m, UnitStands u (latched s) m ∧ ChannelStands u (latchRequest u m) (enterLatch s) := by
  obtain ⟨m, before, behind⟩ := forUnits_at (UnitStands.refl u) UnitStands.trans u (fun v s n => latchRequest_stands n s) (latched s)
  exact ⟨m, before, behind.channel⟩

theorem latched_openSeen (u : UnitNo) (s : State) : OpenSeen u s (latched s) := ⟨rfl, rfl, rfl, rfl, rfl⟩

theorem UnitStands.configured {a b : State} (h : UnitStands u a b) : b.configured u = a.configured u := by
  rw [State.configured, h.cl]
  rfl

theorem enterLatch_entered {s0 : State} (clear : s0.iu.latch = false) (s : State) : LatchEntered s (settle s0 (enterLatch s)) := by
  have holds := enterLatch_holds s
  have latch : (enterLatch s).iu.latch = true := holds.1.latch
  have emergency : (enterLatch s).iu.emergencyClose = none := holds.1.noEmergencyClose rfl
  have access : (enterLatch s).iu.accessClose = none := holds.1.noAccessClose rfl
  have ends := settle_ends s0 (enterLatch s)
  have still := settle_withheld s0 latch emergency access
  refine ⟨settle_latched_contact clear latch, ends.1.noEmergencyClose emergency, ends.1.noAccessClose access, fun v => ?_, fun v conf asked => ?_,
    fun v left => ?_, ((latched_holds s).trans holds).trans ⟨ends.1.weaken, ends.2⟩⟩
  · rw [ends.1.accessMarks v rfl, enterLatch_eq]
    have start : (latched s).iu.accessMarks.get v = false := by cases v <;> rfl
    exact latchRequest_noMark (latchRequest_noMark (latchRequest_noMark (latchRequest_noMark start)))
  · obtain ⟨m, before, behind⟩ := enterLatch_at v s
    have permit : m.permit v = true := by
      rw [State.permit, before.latch, show (latched s).iu.latch = true from rfl, Bool.or_true, Bool.true_or]
    have request : latchRequest v m = openRequest v m := if_pos (by
      rw [before.configured, before.unit, show (latched s).configured v = true from conf, show ((latched s).unit v).spared = false from asked]
      rfl)
    have taken := openRequest_taken v m
    rw [permit, ← request] at taken
    exact taken.within ((latched_openSeen v s).trans before.openSeen) (behind.trans (still v))
  · obtain ⟨m, before, behind⟩ := enterLatch_at v s
    have request : latchRequest v m = m := if_neg (by
      rw [before.configured, before.unit]
      rcases left with conf | spared
      · rw [show (latched s).configured v = false from conf]
        exact Bool.false_ne_true
      · rw [show ((latched s).unit v).spared = true from spared, Bool.not_true, Bool.and_false]
        exact Bool.false_ne_true)
    rw [request] at behind
    rw [(still v).dc, behind.dc, before.dc]
    rfl

theorem spared_iff {st : UnitState} : st.spared = true ↔ st = .isolated ∨ st = .fault ∨ st = .manualReleased := by
  cases st <;> decide

theorem spared_of_ne {st : UnitState} (h : st ≠ .isolated) (h1 : st ≠ .fault) (h2 : st ≠ .manualReleased) : st.spared = false := by
  rw [← Bool.not_eq_true, spared_iff, not_or, not_or]
  exact ⟨h, h1, h2⟩

theorem latchIfClear_set (h : s.iu.latch = true) : latchIfClear s = s := if_pos h

theorem latchIfClear_clear (h : s.iu.latch = false) : latchIfClear s = enterLatch s := if_neg (by rw [h]; exact Bool.false_ne_true)

/-! ### STATION_EMERGENCY (R16, R176, R179, R180) -/

theorem exec_stationEmergencyOpen {src : Node} (h : Accepted ⟨src, .stationEmergency, [1]⟩ s) :
    Sys2Proof.Machine.exec (.stationEmergencyOpen src) s = .next (settle s (takeOpenCall (noteActivity src false s))) := by
  show Host.Outcome.next (onFrameSettling _ _ s) = _
  rw [onFrameSettling_of_accepted h]
  rfl

theorem takeOpenCall_listen (h : s.cl.phase = .listen) : takeOpenCall s = setLine true s := if_pos h

theorem takeOpenCall_running (h : s.cl.phase = .running) : takeOpenCall s = latchIfClear (setLine true s) := by
  unfold takeOpenCall
  rw [if_neg (by rw [h]; exact fun e => nomatch e), if_pos (show s.running = true from beq_iff_eq.2 h)]

/-- Settles O23: the entry to the latch asks each unit that can take it, and the rest of the event leaves the units alone. -/
theorem emergencyOpens : Obligations.EmergencyOpens := by
  unfold Obligations.EmergencyOpens
  intro src s accepted
  have exec := exec_stationEmergencyOpen accepted
  refine ⟨fun listen => ⟨_, exec, ?_⟩, fun running set => ⟨_, exec, ?_⟩, fun running clear => ⟨_, exec, ?_⟩⟩
  · rw [takeOpenCall_listen (s := noteActivity src false s) listen]
    exact settle_ends _ _
  · rw [takeOpenCall_running (s := noteActivity src false s) running, latchIfClear_set (s := setLine true (noteActivity src false s)) set]
    exact settle_ends _ _
  · rw [takeOpenCall_running (s := noteActivity src false s) running, latchIfClear_clear (s := setLine true (noteActivity src false s)) clear]
    obtain ⟨contact, emergency, access, marks, taken, spares, holds⟩ := enterLatch_entered clear (setLine true (noteActivity src false s))
    have seen : ∀ u, OpenSeen u s (setLine true (noteActivity src false s)) := fun u => ⟨rfl, rfl, rfl, rfl, rfl⟩
    have asked : ∀ u, s.configured u = true → s.unit u ≠ .isolated → s.unit u ≠ .fault → s.unit u ≠ .manualReleased →
        OpenTaken true s (settle s (enterLatch (setLine true (noteActivity src false s)))) u := fun u conf h h1 h2 =>
      (taken u conf (spared_of_ne h h1 h2)).within (seen u) ⟨rfl, rfl⟩
    refine ⟨contact, emergency, access, marks, holds.2.1, holds.2.2, fun u conf locked none => ?_, asked, fun u left => ?_, holds.1⟩
    · exact (asked u conf (by rw [locked]; exact fun e => nomatch e) (by rw [locked]; exact fun e => nomatch e)
        (by rw [locked]; exact fun e => nomatch e)).unlocks locked rfl none
    · refine spares u (left.imp_right fun st => ?_)
      exact spared_iff.2 st

/-! ### The exit from the latch (R179, R180) -/

theorem judgeEmergencyMember_idle {e : EmergencyClose} (h : s.iu.emergencyClose = some e) (idle : e.members.get u ≠ some .waiting) :
    judgeEmergencyMember u s = s := by
  unfold judgeEmergencyMember
  rw [h]
  dsimp only
  split
  · next waiting => exact absurd waiting idle
  · rfl

theorem closeRequest_emergency (u : UnitNo) (s : State) : (closeRequest u s).iu.emergencyClose = s.iu.emergencyClose := by
  obtain ⟨d, r, c, form⟩ := closeRequest_requested u s
  rw [form]

theorem berthCloseRequest_emergency (u : UnitNo) (s : State) : (berthCloseRequest u s).iu.emergencyClose = s.iu.emergencyClose := by
  obtain ⟨d, r, c, form⟩ := berthCloseRequest_requested u s
  rw [form]

theorem judgeMember_emergency (u : UnitNo) (s : State) : (judgeMember u s).iu.emergencyClose = s.iu.emergencyClose := by
  unfold judgeMember
  split
  · rfl
  · split
    · rfl
    · split
      · exact berthCloseRequest_emergency u _
      · rfl

theorem judgeCovered_emergency (u : UnitNo) (s : State) : (judgeCovered u s).iu.emergencyClose = s.iu.emergencyClose := by
  unfold judgeCovered
  split
  · rfl
  · split
    · rw [berthCloseRequest_emergency, dropCovered_iu]
    · rfl

theorem judgeAccessMember_emergency (u : UnitNo) (s : State) : (judgeAccessMember u s).iu.emergencyClose = s.iu.emergencyClose := by
  have drop : (dropAccessMember u s).iu.emergencyClose = s.iu.emergencyClose := by
    unfold dropAccessMember
    split <;> rfl
  unfold judgeAccessMember
  split
  · rfl
  · split
    · rfl
    · split
      · rw [closeRequest_emergency, drop]
      · rfl

/-- An emergency close cycle without a WAITING member is left by the judging. -/
theorem judgedMembers_emergencyIdle {e : EmergencyClose} (h : s.iu.emergencyClose = some e) (idle : ∀ u, e.members.get u ≠ some .waiting) :
    (judgedMembers s).iu.emergencyClose = some e := by
  have one := (forUnits_keeps (fun x => x.iu.emergencyClose) judgeMember_emergency s).trans h
  have two := (forUnits_keeps (fun x => x.iu.emergencyClose) judgeCovered_emergency (forUnits judgeMember s)).trans one
  have three : forUnits judgeEmergencyMember (forUnits judgeCovered (forUnits judgeMember s)) = forUnits judgeCovered (forUnits judgeMember s) :=
    forUnits_fixed fun u => judgeEmergencyMember_idle two (idle u)
  unfold judgedMembers
  rw [three]
  exact (forUnits_keeps (fun x => x.iu.emergencyClose) judgeAccessMember_emergency _).trans two

/-- The judging and the completion of the cycle leave the emergency close and what its members are judged by. -/
theorem completeCycle_emergency (u : UnitNo) (s : State) :
    (completeCycle s).iu = s.iu ∧ (completeCycle s).unit u = s.unit u := by
  refine ⟨?_, (completeCycle_channel u s).unit⟩
  rcases completeCycle_cases s with same | secured
  · rw [same]
  · rw [secured, secure_iu]

theorem settle_iu (s0 s : State) : (settle s0 s).iu = (settleCloses s).iu := by
  rw [settle_eq, (finish_sends _).iu, judged_eq]
  rfl

theorem settle_warning (s0 s : State) : (settle s0 s).out.warning = (settleCloses s).warningRunning := by
  rw [settle_eq, finish_out]
  show (judged s0 s).warningRunning = _
  rw [judged_eq]
  rfl

/-- An emergency close cycle stands while a member is not done. -/
theorem settleCloses_emergencyStands {k : MemberStatus} (member : s.emergencyStatus u = some k) (n : memberDone (s.unit u) k = false) :
    (settleCloses s).iu.emergencyClose = (judgedMembers s).iu.emergencyClose := by
  obtain ⟨k', stands, still⟩ := (judgedMembers_unitJudged u s).emergency_notDone member n
  obtain ⟨iu, unit⟩ := completeCycle_emergency u (judgedMembers s)
  have whole := completeEmergency_stands (s := completeCycle (judgedMembers s)) (u := u) (k := k')
    (by rw [State.emergencyStatus, iu]; exact stands) (by rw [unit]; exact still)
  rw [settleCloses_judged, whole, iu]

theorem completeEmergency_done {e : EmergencyClose} (h : s.iu.emergencyClose = some e) (done : ∀ u k, e.members.get u = some k → memberDone (s.unit u) k = true) :
    completeEmergency s = emergencyNotice (s.modIu fun i => { i with emergencyClose := none }) := by
  have finished : ¬e.unfinished s := fun ⟨u, k, member, n⟩ => absurd ((done u k member).symm.trans n) (Ne.symm Bool.false_ne_true)
  rw [EmergencyClose.unfinished_iff, Bool.not_eq_false] at finished
  unfold completeEmergency
  rw [h]
  exact if_pos finished

theorem emergencyNotice_iu (s : State) : (emergencyNotice s).iu = s.iu := by
  rcases emergencyNotice_cases s with same | secured
  · rw [same]
  · rw [secured, secure_iu]

theorem settleCloses_emergencyDone {e : EmergencyClose} (h : (judgedMembers s).iu.emergencyClose = some e)
    (done : ∀ u k, e.members.get u = some k → memberDone ((judgedMembers s).unit u) k = true) : (settleCloses s).iu.emergencyClose = none := by
  have units := fun u => (completeCycle_emergency u (judgedMembers s)).2
  have iu := (completeCycle_emergency .u0 (judgedMembers s)).1
  rw [settleCloses_judged, completeEmergency_done (e := e) (by rw [iu]; exact h) fun u k member => by rw [units]; exact done u k member,
    emergencyNotice_iu]
  rfl

/-- The emergency close cycle as the exit from the latch starts it. -/
def startedEmergency (s : State) : EmergencyClose :=
  { warning := s.newWarning
    members := Quad.build fun u => if s.configured u && (s.unit u).emergencyMember then some .underWarning else none }

theorem exitLatch_emergency (s : State) : (exitLatch s).iu.emergencyClose = some (startedEmergency s) := rfl

theorem startedEmergency_get (u : UnitNo) (s : State) :
    (startedEmergency s).members.get u = if s.configured u && (s.unit u).emergencyMember then some .underWarning else none := by
  cases u <;> rfl

theorem startedEmergency_idle (u : UnitNo) (s : State) : (startedEmergency s).members.get u ≠ some .waiting := by
  rw [startedEmergency_get]
  split <;> exact fun e => nomatch e

theorem emergencyMember_notDone {st : UnitState} (h : st.emergencyMember = true) : memberDone st .underWarning = false := by
  cases st <;> first | rfl | cases h

theorem exitLatch_stands (s0 : State) (h : ∃ u, s.configured u = true ∧ (s.unit u).emergencyMember = true) :
    (settle s0 (exitLatch s)).out.warning = true ∧ (settle s0 (exitLatch s)).iu.emergencyClose = some (startedEmergency s) := by
  obtain ⟨u, conf, member⟩ := h
  have place : (exitLatch s).emergencyStatus u = some .underWarning := by
    rw [State.emergencyStatus, exitLatch_emergency]
    show (startedEmergency s).members.get u = _
    rw [startedEmergency_get, conf, member]
    rfl
  have stands : (settleCloses (exitLatch s)).iu.emergencyClose = some (startedEmergency s) := by
    rw [settleCloses_emergencyStands place (emergencyMember_notDone (st := (exitLatch s).unit u) member)]
    exact judgedMembers_emergencyIdle (exitLatch_emergency s) fun v => startedEmergency_idle v s
  refine ⟨?_, by rw [settle_iu]; exact stands⟩
  rw [settle_warning, State.warningRunning, stands]
  exact Bool.or_eq_true_iff.2 (.inl (Bool.or_eq_true_iff.2 (.inr rfl)))

theorem exitLatch_ends (s0 : State) (h : ∀ u, s.configured u = false ∨ (s.unit u).emergencyMember = false) :
    (settle s0 (exitLatch s)).iu.emergencyClose = none := by
  rw [settle_iu]
  refine settleCloses_emergencyDone (judgedMembers_emergencyIdle (exitLatch_emergency s) fun v => startedEmergency_idle v s) fun u k member => ?_
  rw [startedEmergency_get, if_neg (by
    rw [Bool.and_eq_true]
    rintro ⟨conf, asked⟩
    rcases h u with n | n
    · exact absurd (conf.symm.trans n) (Ne.symm Bool.false_ne_true)
    · exact absurd (asked.symm.trans n) (Ne.symm Bool.false_ne_true))] at member
  cases member

theorem exec_stationEmergencyReset {src : Node} (h : Accepted ⟨src, .stationEmergency, [2]⟩ s) :
    Sys2Proof.Machine.exec (.stationEmergencyReset src) s = .next (settle s (takeResetCall (noteActivity src false s))) := by
  show Host.Outcome.next (onFrameSettling _ _ s) = _
  rw [onFrameSettling_of_accepted h]
  rfl

theorem takeResetCall_listen (h : s.cl.phase = .listen) : takeResetCall s = setLine false s := if_pos h

theorem takeResetCall_running (h : s.cl.phase = .running) :
    takeResetCall s = if s.iu.latch then if s.su.wire.level then countDiscard s else exitLatch s else s := by
  unfold takeResetCall
  rw [if_neg (by rw [h]; exact fun e => nomatch e), show s.running = true from beq_iff_eq.2 h, Bool.true_and]

/-- Settles O24: the latch is left where the wire does not stand asserted, and the emergency close cycle it starts stands while it has a
member. -/
theorem emergencyResets : Obligations.EmergencyResets := by
  unfold Obligations.EmergencyResets
  intro src s accepted
  have exec := exec_stationEmergencyReset accepted
  have running' : s.cl.phase = .running → takeResetCall (noteActivity src false s) = _ := fun running =>
    takeResetCall_running (s := noteActivity src false s) running
  refine ⟨fun listen => ⟨_, exec, ?_⟩, fun running clear => ⟨_, exec, ?_⟩, fun running set wire => ⟨_, exec, ?_⟩, fun running set wire => ⟨_, exec, ?_⟩⟩
  · rw [takeResetCall_listen (s := noteActivity src false s) listen]
    exact settle_ends _ _
  · rw [running' running, if_neg (by rw [show (noteActivity src false s).iu.latch = false from clear]; exact Bool.false_ne_true)]
    exact settle_ends _ _
  · rw [running' running, if_pos (show (noteActivity src false s).iu.latch = true from set),
      if_pos (show (noteActivity src false s).su.wire.level = true from wire)]
    exact settle_ends _ _
  · rw [running' running, if_pos (show (noteActivity src false s).iu.latch = true from set),
      if_neg (by rw [show (noteActivity src false s).su.wire.level = false from wire]; exact Bool.false_ne_true)]
    exact ⟨exitLatch_stands s (s := noteActivity src false s), exitLatch_ends s (s := noteActivity src false s), settle_ends _ _⟩

end Sys2Proof.Machine

/-! The debounced inputs: the sensitive edge and the emergency wire (sections 2.4, 8.3 and 10.5). -/

namespace Sys2Proof.Machine

variable {i : Instr} {u v : UnitNo} {s t : State}

/-! ### The raw levels (R29) -/

theorem edge_followed (u : UnitNo) (level : Bool) (h : s.senses u = true) :
    Sys2Proof.Machine.exec (.debouncedInputChange (.edge u) level) s =
      .next
        ((s.modPins u fun p => { p with edge := level }).setSu u
          { s.su.units.get u with
            edge :=
              ⟨s.edgeAsserted u,
                if level = s.edgeAsserted u then none
                else if (s.su.units.get u).edge.timer.isSome then (s.su.units.get u).edge.timer else some (after s.now 10)⟩ }) :=
  congrArg Host.Outcome.next (if_pos (show (setRaw (.edge u) level s).senses u = true from h))

theorem edge_set (u : UnitNo) (level : Bool) (h : s.senses u = false) :
    Sys2Proof.Machine.exec (.debouncedInputChange (.edge u) level) s = .next (s.modPins u fun p => { p with edge := level }) :=
  congrArg Host.Outcome.next (if_neg (by
    rw [show (setRaw (.edge u) level s).senses u = false from h]
    exact Bool.false_ne_true))

theorem wire_followed (level : Bool) (h : s.loaded = true) :
    Sys2Proof.Machine.exec (.debouncedInputChange .wire level) s =
      .next
        { s with
          pins := { s.pins with wire := level }
          su :=
            { s.su with
              wire :=
                ⟨s.su.wire.level,
                  if level = s.su.wire.level then none
                  else if s.su.wire.timer.isSome then s.su.wire.timer else some (after s.now 50)⟩ } } :=
  congrArg Host.Outcome.next (if_pos (show (setRaw .wire level s).loaded = true from h))

/-! ### The conditioned edge (R145, R146) -/

/-- The level read and the cell at rest, before the channel is told. -/
def edged (u : UnitNo) (level : Bool) (s : State) : State :=
  (s.modPins u fun p => { p with edge := level }).setSu u { s.su.units.get u with edge := ⟨level, none⟩ }

theorem changeEdge_eq (u : UnitNo) (level : Bool) (s : State) :
    changeEdge u level s = if level then obstacle u (edged u level s) else edged u level s := rfl

theorem edged_holds (u : UnitNo) (level : Bool) (s : State) : Keeps (only u) s (edged u level s) ∧ (edged u level s).now = s.now := by
  have set := modSu_holds u (fun _ => { s.su.units.get u with edge := ⟨level, none⟩ }) (s.modPins u fun p => { p with edge := level })
  exact ⟨(modPins_keeps u _ s).trans set.1, set.2.1⟩

theorem edged_level (u : UnitNo) (level : Bool) (s : State) : (edged u level s).edgeAsserted u = level := by
  rw [State.edgeAsserted, edged, setSu_unit]

theorem enteredSensing_same {old new : UnitState} {raw : Bool} {now : Time} {x : UnitSensing} (h : old ≠ .isolated) (h1 : new ≠ .isolated) :
    enteredSensing old new raw now x = x := by
  rw [enteredSensing, if_neg fun c => h c.1, if_neg fun c => h1 c.2]

theorem enterFault_sensing {k : FaultKind} (h : s.unit u ≠ .isolated) : (enterFault k u s).su.units.get u = s.su.units.get u := by
  rw [enterFault, (report_sends ..).su, moveUnit_sensing]
  · exact enteredSensing_same h fun e => nomatch e
  · exact .inl fun e => nomatch e

/-- An obstacle leaves the unit's sensing. -/
theorem obstacle_sensing (u : UnitNo) (s : State) : (obstacle u s).su.units.get u = s.su.units.get u := by
  unfold obstacle
  split
  · next h =>
    obtain ⟨d, r, c, form⟩ := reverseOnObstacle_requested (u := u) (s := s) (by rw [h]; exact fun e => nomatch e)
    rw [form]
  · next h =>
    unfold stopOnObstacle
    dsimp only
    split
    · rfl
    · split
      · exact enterFault_sensing (by rw [h]; exact fun e => nomatch e)
      · rfl
  · rfl

theorem settle_edge (s0 : State) (u : UnitNo) (s : State) : (settle s0 s).edgeAsserted u = s.edgeAsserted u := by
  rw [State.edgeAsserted, State.edgeAsserted]
  rcases (settle_ends s0 s).1.sensing u rfl with same | ⟨-, trap⟩
  · rw [same]
  · rw [trap]

theorem changeEdge_level (s0 : State) (u : UnitNo) (level : Bool) (s : State) : (settle s0 (changeEdge u level s)).edgeAsserted u = level := by
  rw [settle_edge, changeEdge_eq]
  split
  · rw [State.edgeAsserted, obstacle_sensing]
    exact edged_level u level s
  · exact edged_level u level s

theorem changeEdge_now (s0 : State) (u : UnitNo) (level : Bool) (s : State) : (settle s0 (changeEdge u level s)).now = s.now := by
  rw [(settle_ends s0 _).2.1, changeEdge_eq]
  split
  · exact (obstacle_holds u _).2.1
  · rfl

/-- The clauses of a conditioned edge, out of a state `r` that differs from `s` in node time alone. -/
theorem changeEdge_settled {r : State} (same : Reached s r) (u : UnitNo) (level : Bool) (s0 : State) :
    (level = true → s.unit u = .closing →
      Reversed (s.dc.get u) s (settle s0 (changeEdge u level r)) u ∧ Keeps (only u) r (settle s0 (changeEdge u level r))) ∧
    (level = true → s.unit u = .homing → (s.dc.get u).phase ≠ .hold → (s.dc.get u).retries < 3 →
      ((settle s0 (changeEdge u level r)).dc.get u).phase = .hold ∧ ((settle s0 (changeEdge u level r)).dc.get u).setpoint = 0 ∧
        ((settle s0 (changeEdge u level r)).dc.get u).pauseTimer = some (after r.now 2000) ∧ Keeps (only u) r (settle s0 (changeEdge u level r))) ∧
    (level = true → s.unit u = .homing → (s.dc.get u).phase ≠ .hold → 3 ≤ (s.dc.get u).retries →
      (settle s0 (changeEdge u level r)).dc.get u = { (s.dc.get u).into .fault with attempt := 0 } ∧
        Reported .severe ⟨.homeFail, some u, s.seq, r.now⟩ s.fr (settle s0 (changeEdge u level r)).fr ∧
        Keeps (only u) r (settle s0 (changeEdge u level r))) ∧
    (level = false ∨ (s.unit u ≠ .closing ∧ s.unit u ≠ .homing) ∨ (s.unit u = .homing ∧ (s.dc.get u).phase = .hold) →
      Ends (edged u level r) (settle s0 (changeEdge u level r))) := by
  have unit : (edged u level r).unit u = s.unit u := same.unit u
  have dc : (edged u level r).dc = s.dc := same.dc
  obtain ⟨keeps, now⟩ := edged_holds u level r
  refine ⟨fun asserted at_ => ?closing, fun asserted at_ driven few => ?stops, fun asserted at_ driven spent => ?fails, fun quiet => ?quiet⟩
  case closing =>
    subst asserted
    rw [changeEdge_eq, if_pos rfl, obstacle_closing (unit.trans at_)]
    have turned := obstacle_reversed (s := s) (u := u) (x := edged u true r) s0 same.cl (by rw [show (edged u true r).fr = s.fr from same.fr])
    rw [dc] at turned
    exact ⟨turned, keeps.trans (settled_keeps (reverseOnObstacle_holds u _) s0).1⟩
  case stops =>
    subst asserted
    rw [changeEdge_eq, if_pos rfl, obstacle_homing (unit.trans at_),
      stopOnObstacle_stops (by rw [dc]; exact driven) (by rw [dc]; exact few), dc]
    have ends := settled_keeps (setDc_holds u { s.dc.get u with phase := .hold, setpoint := 0, pauseTimer := some (after r.now 2000) } (edged u true r)) s0
    have rests := settle_unmoved (u := u) s0
      (s := (edged u true r).setDc u { s.dc.get u with phase := .hold, setpoint := 0, pauseTimer := some (after r.now 2000) }) (by
        rw [State.unit, setDc_channel, show ({ s.dc.get u with phase := .hold, setpoint := 0, pauseTimer := some (after r.now 2000) } : DoorChannel).st =
          .homing from at_]
        rfl)
    rw [setDc_channel] at rests
    rw [now, rests]
    exact ⟨rfl, rfl, rfl, keeps.trans ends.1⟩
  case fails =>
    subst asserted
    rw [changeEdge_eq, if_pos rfl, obstacle_homing (unit.trans at_),
      stopOnObstacle_fails (by rw [dc]; exact driven) (by rw [dc]; exact spent)]
    obtain ⟨channel, -, reported, kept⟩ := homeFail_severe (u := u) (Reached.refl (edged u true r)) s0
    rw [show (edged u true r).seq = s.seq from same.seq, show (edged u true r).fr = s.fr from same.fr, now] at reported
    rw [dc] at channel
    exact ⟨channel, reported, keeps.trans kept⟩
  case quiet =>
    have rests : changeEdge u level r = edged u level r := by
      rw [changeEdge_eq]
      rcases quiet with rfl | ⟨n, n'⟩ | ⟨at_, held⟩
      · exact if_neg Bool.false_ne_true
      · rw [obstacle_elsewhere (by rw [unit]; exact n) (by rw [unit]; exact n')]
        exact ite_self _
      · rw [obstacle_homing (unit.trans at_), stopOnObstacle_waits (by rw [dc]; exact held)]
        exact ite_self _
    rw [rests]
    exact settle_ends _ _

theorem exec_sensitiveEdgeChange {e : Time} {level : Bool} (senses : s.senses u = true) (differs : s.edgeAsserted u = !level)
    (runs : (s.su.units.get u).edge.timer = some e) :
    Sys2Proof.Machine.exec (.sensitiveEdgeChange u level) s = .next (settle (s.reach e) (changeEdge u level (s.reach e))) := by
  have reached : s.debounced (s.su.units.get u).edge = s.reach e := by
    unfold State.debounced
    rw [runs]
  show Host.Outcome.next (if s.senses u && s.edgeAsserted u != level then
    settle (s.debounced (s.su.units.get u).edge) (changeEdge u level (s.debounced (s.su.units.get u).edge)) else s) = _
  rw [reached, if_pos (by rw [senses, differs]; cases level <;> rfl)]

/-! ### The conditioned wire (R19, R176, R177) -/

theorem moveUnit_lc {d : DoorChannel} (h : d.st ≠ .isolated) (h1 : d.st ≠ .closedLocked) (s : State) : (moveUnit u d s).lc = s.lc :=
  (moveUnit_silent h h1 s).2.1

theorem enterUnlocking_lc (u : UnitNo) (s : State) : (enterUnlocking u s).lc = s.lc := by
  unfold enterUnlocking takeHeldDriveFault
  split
  · rw [enterFault, report_lc, moveUnit_lc, moveUnit_lc] <;> exact fun e => nomatch e
  · refine moveUnit_lc ?_ ?_ s <;> exact fun e => nomatch e

theorem enterReversing_lc (g : ReverseTarget) (u : UnitNo) (s : State) : (enterReversing g u s).lc = s.lc := by
  have turned : (moveUnit u (reversingTo g u s) s).lc = s.lc := by refine moveUnit_lc ?_ ?_ s <;> exact fun e => nomatch e
  have done : ∀ x, (reverseDone u x).lc = x.lc := fun x => by
    unfold reverseDone
    split
    · refine moveUnit_lc ?_ ?_ x <;> exact fun e => nomatch e
    · refine moveUnit_lc ?_ ?_ x <;> exact fun e => nomatch e
  rw [enterReversing_eq]
  split
  · rw [done, turned]
  · exact turned

/-- An open request enqueues nothing. -/
theorem openRequest_lc (u : UnitNo) (s : State) : (openRequest u s).lc = s.lc := by
  unfold openRequest
  split
  case h_1 =>
    split
    · exact enterUnlocking_lc u s
    · rfl
  case h_5 => exact enterReversing_lc .opened u s
  case h_7 => refine moveUnit_lc ?_ ?_ s <;> exact fun e => nomatch e
  all_goals rfl

theorem latchRequest_lc (u : UnitNo) (s : State) : (latchRequest u s).lc = s.lc := by
  unfold latchRequest
  split
  · exact openRequest_lc u s
  · rfl

theorem enterLatch_lc (s : State) : (enterLatch s).lc = s.lc := forUnits_keeps State.lc latchRequest_lc (latched s)

theorem latchIfClear_lc (s : State) : (latchIfClear s).lc = s.lc := by
  unfold latchIfClear
  split
  · rfl
  · exact enterLatch_lc s

/-- The wire's ALERT is no trap's. -/
theorem settle_wireAlert (s0 s : State) (q : Byte) : (settle s0 s).frames .alert [5, 255, q] = s.frames .alert [5, 255, q] :=
  settle_alerts s0 fun _ _ e => by cases e

theorem assertWire_acts (h : s.wireActs = true) : assertWire s = latchIfClear (setWire (changeWire true s)) :=
  if_pos (show (changeWire true s).wireActs = true from h)

theorem assertWire_rests (h : s.wireActs = false) : assertWire s = changeWire true s :=
  if_neg (by
    rw [show (changeWire true s).wireActs = false from h]
    exact Bool.false_ne_true)

theorem exec_emergencyWireAssert {e : Time} (loaded : s.loaded = true) (wire : s.su.wire = ⟨false, some e⟩) :
    Sys2Proof.Machine.exec .emergencyWireAssert s = .next (settle (s.reach e) (assertWire (s.reach e))) := by
  have reached : s.debounced s.su.wire = s.reach e := by
    unfold State.debounced
    rw [wire]
  show Host.Outcome.next (if s.loaded && !s.su.wire.level then
    settle (s.debounced s.su.wire) (assertWire (s.debounced s.su.wire)) else s) = _
  rw [reached, if_pos (by rw [loaded, wire]; rfl)]

theorem exec_emergencyWireClear {e : Time} (loaded : s.loaded = true) (wire : s.su.wire = ⟨true, some e⟩) :
    Sys2Proof.Machine.exec .emergencyWireClear s = .next (settle (s.reach e) (clearWire (s.reach e))) := by
  have reached : s.debounced s.su.wire = s.reach e := by
    unfold State.debounced
    rw [wire]
  show Host.Outcome.next (if s.loaded && s.su.wire.level then
    settle (s.debounced s.su.wire) (clearWire (s.debounced s.su.wire)) else s) = _
  rw [reached, if_pos (by rw [loaded, wire]; rfl)]

theorem wireActs_of (h : s.cl.phase = .running ∨ s.faultServing = true) : s.wireActs = true := by
  rw [State.wireActs, Bool.or_eq_true]
  exact h.imp_left fun e => beq_iff_eq.2 e

theorem wireActs_not (h : s.cl.phase = .listen ∨ (s.cl.phase = .configFault ∧ s.faultServing = false)) : s.wireActs = false := by
  rw [State.wireActs, State.running]
  rcases h with e | ⟨e, n⟩
  · rw [State.faultServing, e]
    rfl
  · rw [n, e]
    rfl

/-- The wire's mark and cell once its assertion has been acted on, before the latch. -/
def wireSet (r : State) : State := setWire (changeWire true r)

theorem wireSet_sends (r : State) : Sends ((changeWire true r).modIu fun i => { i with wireMark := true }) (wireSet r) := alert_sends ..

theorem setWire_frames (room : s.lc.queue.length < 16) :
    (setWire s).frames .alert [5, 255, s.seq] = s.frames .alert [5, 255, s.seq] + 1 := by
  refine (frames_enqueue_room (s := s.modIu fun i => { i with wireMark := true }) (k := .alert) (p := [5, 255, s.seq]) (k' := .alert)
    (p' := [5, 255, s.seq]) (fun e => nomatch e) room).trans ?_
  rw [if_pos rfl]
  rfl

/-- The latch entered at the wire, seen from the state that the wire's time was reached in. -/
theorem wire_entered {r s0 : State} (clear : s0.iu.latch = false) :
    LatchEntered (wireSet r) (settle s0 (enterLatch (wireSet r))) ∧ (∀ v, OpenSeen v r (wireSet r)) ∧
      Keeps anyUnit
        { r with
          su := { r.su with wire := ⟨true, none⟩ }
          iu := { r.iu with latch := true, wireMark := true, emergencyClose := none, accessClose := none } }
        (settle s0 (enterLatch (wireSet r))) := by
  have sends := wireSet_sends r
  have entered := enterLatch_entered clear (wireSet r)
  have counters : (wireSet r).fr.unitCounters = r.fr.unitCounters := enqueue_unitCounters ..
  refine ⟨entered, fun v => ⟨by rw [sends.dc]; rfl, by rw [counters], ?_, sends.now, sends.cl⟩, ?_⟩
  · rw [State.driveFault, sends.dc, sends.pins]
    rfl
  · have set : Sends
        { (changeWire true r) with iu := { r.iu with latch := true, wireMark := true, emergencyClose := none, accessClose := none } }
        { (wireSet r) with iu := { r.iu with latch := true, wireMark := true, emergencyClose := none, accessClose := none } } :=
      { sends with iu := rfl }
    have whole := entered.holds.1
    rw [sends.iu] at whole
    have pins : Keeps anyUnit
        { r with
          su := { r.su with wire := ⟨true, none⟩ }
          iu := { r.iu with latch := true, wireMark := true, emergencyClose := none, accessClose := none } }
        { (changeWire true r) with iu := { r.iu with latch := true, wireMark := true, emergencyClose := none, accessClose := none } } :=
      ⟨{ Leaves.refl anyUnit _ with }, fun _ _ _ => rfl⟩
    exact (pins.trans (set.holds anyUnit).1).trans whole

theorem latchIfClear_pins (s : State) : (latchIfClear s).now = s.now ∧ (latchIfClear s).pins = s.pins := by
  unfold latchIfClear
  split
  · exact ⟨rfl, rfl⟩
  · exact (enterLatch_holds s).2

theorem assertWire_pins (r : State) : (assertWire r).now = r.now ∧ (assertWire r).pins = { r.pins with wire := true } := by
  have set := wireSet_sends r
  obtain ⟨now, pins⟩ := latchIfClear_pins (wireSet r)
  rcases acts : r.wireActs with _ | _
  · rw [assertWire_rests acts]
    exact ⟨rfl, rfl⟩
  · rw [assertWire_acts acts]
    exact ⟨now.trans set.now, pins.trans set.pins⟩

theorem wire_asserted {e : Time} (loaded : s.loaded = true) (wire : s.su.wire = ⟨false, some e⟩) :
    ∃ t, Sys2Proof.Machine.exec .emergencyWireAssert s = .next t ∧ t.now = (s.reach e).now ∧
      t.pins = { s.pins with wire := true } ∧
      (s.cl.phase = .running ∨ s.faultServing = true → s.lc.queue.length < 16 →
        t.frames .alert [5, 255, s.seq] = s.frames .alert [5, 255, s.seq] + 1) ∧
      (s.cl.phase = .listen ∨ (s.cl.phase = .configFault ∧ s.faultServing = false) → s.lc.queue.length < 16 →
        t.frames .alert [5, 255, s.seq] = s.frames .alert [5, 255, s.seq]) ∧
      (s.cl.phase = .listen ∨ (s.cl.phase = .configFault ∧ s.faultServing = false) →
        Ends { s.reach e with pins := { s.pins with wire := true }, su := { s.su with wire := ⟨true, none⟩ } } t) ∧
      (s.cl.phase = .running ∨ s.faultServing = true → s.iu.latch = true →
        Ends
          { s.reach e with
            pins := { s.pins with wire := true }, su := { s.su with wire := ⟨true, none⟩ }
            iu := { s.iu with wireMark := true } } t) ∧
      (s.cl.phase = .running ∨ s.faultServing = true → s.iu.latch = false →
        t.out.contact = false ∧ t.iu.emergencyClose = none ∧ t.iu.accessClose = none ∧
          (∀ v, t.iu.accessMarks.get v = false) ∧
          (∀ v, s.configured v = true → s.unit v = .closedLocked → s.driveFault v = false →
            t.dc.get v = { (s.dc.get v).into .unlocking with lockTimer := some (after t.now 400) }) ∧
          (∀ v, s.configured v = true → s.unit v ≠ .isolated → s.unit v ≠ .fault → s.unit v ≠ .manualReleased →
            OpenTaken true (s.reach e) t v) ∧
          (∀ v, s.configured v = false ∨ s.unit v = .isolated ∨ s.unit v = .fault ∨ s.unit v = .manualReleased →
            t.dc.get v = s.dc.get v) ∧
          Keeps anyUnit
            { s.reach e with
              su := { s.su with wire := ⟨true, none⟩ }
              iu := { s.iu with latch := true, wireMark := true, emergencyClose := none, accessClose := none } } t) := by
  have same := reached_of e s
  have iu : (s.reach e).iu = s.iu := reach_iu ..
  have lc : (s.reach e).lc = s.lc := reach_lc ..
  have acts : (s.reach e).wireActs = s.wireActs := by
    rw [State.wireActs, State.running, State.faultServing, State.strapOk, same.cl]
    rfl
  have cell : changeWire true (s.reach e) = { s.reach e with pins := { s.pins with wire := true }, su := { s.su with wire := ⟨true, none⟩ } } := by
    rw [← same.pins, ← same.su]
    rfl
  have frames : (settle (s.reach e) (assertWire (s.reach e))).frames .alert [5, 255, s.seq] =
      (assertWire (s.reach e)).frames .alert [5, 255, s.seq] := settle_wireAlert _ _ _
  have queue : (changeWire true (s.reach e)).lc.queue = s.lc.queue := congrArg LineController.queue lc
  have seq : (changeWire true (s.reach e)).seq = s.seq := same.seq
  have set := wireSet_sends (s.reach e)
  have latch : (wireSet (s.reach e)).iu.latch = s.iu.latch := by
    rw [set.iu, ← iu]
    rfl
  have ends := settle_ends (s.reach e) (assertWire (s.reach e))
  obtain ⟨now, pins⟩ := assertWire_pins (s.reach e)
  have wireFrames : ∀ p, (changeWire true (s.reach e)).frames .alert p = s.frames .alert p := fun p => by
    rw [frames_eq, queue, ← frames_eq]
  refine ⟨_, exec_emergencyWireAssert loaded wire, ends.2.1.trans now, ends.2.2.trans (pins.trans (by rw [same.pins])),
    fun serving room => ?alert, fun quiet _ => ?noAlert, fun quiet => ?quiet, fun serving on => ?marked, fun serving clear => ?entered⟩
  case alert =>
    have one := setWire_frames (s := changeWire true (s.reach e)) (by rw [queue]; exact room)
    rw [seq, wireFrames] at one
    rw [frames, assertWire_acts (acts.trans (wireActs_of serving)), frames_eq, latchIfClear_lc, ← frames_eq]
    exact one
  case noAlert =>
    rw [frames, assertWire_rests (acts.trans (wireActs_not quiet))]
    exact wireFrames _
  case quiet =>
    rw [assertWire_rests (acts.trans (wireActs_not quiet)), cell]
    exact settle_ends _ _
  case marked =>
    rw [assertWire_acts (acts.trans (wireActs_of serving)), show setWire (changeWire true (s.reach e)) = wireSet (s.reach e) from rfl,
      latchIfClear_set (latch.trans on)]
    have sent := set.ends.settled (s.reach e)
    rw [cell] at sent
    rw [← iu]
    exact sent
  case entered =>
    obtain ⟨⟨contact, emergency, access, marks, taken, spares, holds⟩, seen, keeps⟩ := wire_entered (r := s.reach e) (s0 := s.reach e) (by rw [iu]; exact clear)
    rw [assertWire_acts (acts.trans (wireActs_of serving)), show setWire (changeWire true (s.reach e)) = wireSet (s.reach e) from rfl,
      latchIfClear_clear (latch.trans clear)]
    have units : ∀ v, (wireSet (s.reach e)).unit v = s.unit v := fun v => (set.unit v).trans (same.unit v)
    have conf : ∀ v, (wireSet (s.reach e)).configured v = s.configured v := fun v => by
      rw [State.configured, set.cl]
      show decide (v.val < (s.reach e).cl.config.unitCount) = _
      rw [same.cl]
      rfl
    have asked : ∀ v, s.configured v = true → s.unit v ≠ .isolated → s.unit v ≠ .fault → s.unit v ≠ .manualReleased →
        OpenTaken true (s.reach e) (settle (s.reach e) (enterLatch (wireSet (s.reach e)))) v := fun v c h h1 h2 =>
      (taken v ((conf v).trans c) (by rw [units]; exact spared_of_ne h h1 h2)).within (seen v) ⟨rfl, rfl⟩
    refine ⟨contact, emergency, access, marks, fun v c locked none => ?_, asked, fun v left => ?_, ?_⟩
    · have unlocks := (asked v c (by rw [locked]; exact fun e => nomatch e) (by rw [locked]; exact fun e => nomatch e)
        (by rw [locked]; exact fun e => nomatch e)).unlocks ((same.unit v).trans locked) rfl (by
          rw [State.driveFault, same.pins, same.dc]
          exact none)
      rw [unlocks, unlocked, same.dc, holds.2.1, set.now]
      rfl
    · refine (spares v (left.imp (fun c => (conf v).trans c) fun st => ?_)).trans ?_
      · rw [units]
        exact spared_iff.2 st
      · rw [set.dc, ← same.dc]
        rfl
    · rw [← same.su, ← iu]
      exact keeps

/-- Settles O52: a cell follows its raw level, and its change is handed to the unit, or to the latch. -/
theorem edgeAndWire : Obligations.EdgeAndWire := by
  unfold Obligations.EdgeAndWire
  intro u s loaded
  refine ⟨fun level => ⟨edge_followed u level, edge_set u level, wire_followed level loaded⟩, fun e level senses differs runs => ?edge,
    fun e wire => wire_asserted loaded wire, fun e wire => ?clear⟩
  case edge =>
    have same := reached_of e s
    obtain ⟨closing, stops, fails, quiet⟩ := changeEdge_settled same u level (s.reach e)
    have now := changeEdge_now (s.reach e) u level (s.reach e)
    refine ⟨_, exec_sensitiveEdgeChange senses differs runs, changeEdge_level _ u level _, now, closing, ?_, ?_, ?_⟩
    · rw [now]
      exact stops
    · rw [now]
      exact fails
    · have cells : edged u level (s.reach e) = ((s.reach e).modPins u fun p => { p with edge := level }).setSu u
          { s.su.units.get u with edge := ⟨level, none⟩ } := by
        rw [edged, same.su]
      rw [← cells]
      exact quiet
  case clear =>
    have same := reached_of e s
    have cleared : clearWire (s.reach e) =
        { s.reach e with
          pins := { s.pins with wire := false }, su := { s.su with wire := ⟨false, none⟩ }
          iu := { s.iu with wireMark := false } } := by
      rw [← same.pins, ← same.su, ← reach_iu e s]
      rfl
    refine ⟨_, exec_emergencyWireClear loaded wire, ?_⟩
    rw [cleared]
    exact settle_ends _ _

end Sys2Proof.Machine

/-! The isolated list and the announcement of a berth (sections 5.1 and 5.3). -/

namespace Sys2Proof.Machine

variable {i : Instr} {u v : UnitNo} {s t : State}

/-! ### One index and the list (R73, R74) -/

/-- An isolated list and DISCARDED_FRAMES once an index has come to them, with `doors` train doors. -/
def indexTaken (doors : Nat) (p : List Nat × Counter 16) (x : Byte) : List Nat × Counter 16 :=
  if x.toNat = 0 ∨ x.toNat ∈ p.1 then p
  else if doors < x.toNat ∨ 10 ≤ p.1.length then (p.1, p.2.bump)
  else (p.1 ++ [x.toNat], p.2)

/-- A state with its isolated list and DISCARDED_FRAMES replaced. -/
def State.withIndices (s : State) (p : List Nat × Counter 16) : State :=
  { s with
    bu := { s.bu with berth := { s.bu.berth with isolated := p.1 } }
    fr := { s.fr with nodeCounters := { s.fr.nodeCounters with discardedFrames := p.2 } } }

/-- The isolated list and DISCARDED_FRAMES. -/
def State.indices (s : State) : List Nat × Counter 16 := (s.bu.berth.isolated, s.fr.nodeCounters.discardedFrames)

theorem addIndex_eq (s : State) (x : Byte) : addIndex s x = s.withIndices (indexTaken s.doorCount s.indices x) := by
  unfold addIndex indexTaken
  dsimp only
  split
  · next h => rw [if_pos (show x.toNat = 0 ∨ x.toNat ∈ s.indices.1 from h)]; rfl
  · next h =>
    rw [if_neg (show ¬(x.toNat = 0 ∨ x.toNat ∈ s.indices.1) from h)]
    split
    · next k => rw [if_pos (show s.doorCount < x.toNat ∨ 10 ≤ s.indices.1.length from k)]; rfl
    · next k => rw [if_neg (show ¬(s.doorCount < x.toNat ∨ 10 ≤ s.indices.1.length) from k)]; rfl

theorem addIndices_eq (l : List Byte) (s : State) :
    addIndices l s = s.withIndices (l.foldl (indexTaken s.doorCount) s.indices) := by
  unfold addIndices
  induction l generalizing s with
  | nil => rfl
  | cons x l ih =>
    rw [List.foldl_cons, List.foldl_cons, ih, addIndex_eq]
    rfl

/-- What the indices of a frame do to a list, counted or joined (R73, R74). -/
structure IndicesTaken (doors : Nat) (l : List Byte) (p q : List Nat × Counter 16) : Prop where
  extends_ : p.1 <+: q.1
  nodup : p.1.Nodup → q.1.Nodup
  room : p.1.length ≤ 10 → q.1.length ≤ 10
  full : 10 ≤ p.1.length → q.1 = p.1
  sources : ∀ k, k ∈ q.1 → k ∈ p.1 ∨ (1 ≤ k ∧ k ≤ doors ∧ ∃ d ∈ l, k = d.toNat)
  complete : q.1.length < 10 → ∀ d ∈ l, 1 ≤ d.toNat → d.toNat ≤ doors → d.toNat ∈ q.1
  counted : q.2 = Counter.bump^[l.countP fun d => d != 0 && !q.1.contains d.toNat] p.2
  sublist : ∃ m, q.1 = p.1 ++ m ∧ m.Sublist (l.map BitVec.toNat)

theorem indicesTaken (doors : Nat) (l : List Byte) (p : List Nat × Counter 16) : IndicesTaken doors l p (l.foldl (indexTaken doors) p) := by
  induction l generalizing p with
  | nil => exact ⟨List.prefix_refl _, id, id, fun _ => rfl, fun _ m => .inl m, fun _ _ m => (nomatch m), rfl, [], by simp, .slnil⟩
  | cons x l ih =>
    rw [List.foldl_cons]
    generalize hq : l.foldl (indexTaken doors) (indexTaken doors p x) = q
    have rest := ih (indexTaken doors p x)
    rw [hq] at rest
    have zero : x.toNat = 0 ↔ x = 0 := ⟨fun e => BitVec.eq_of_toNat_eq e, fun e => by rw [e]; rfl⟩
    obtain ⟨m, parts, sub⟩ := rest.sublist
    by_cases known : x.toNat = 0 ∨ x.toNat ∈ p.1
    · -- the index is 0 or stands in the list: it is passed over
      have same : indexTaken doors p x = p := if_pos known
      rw [same] at rest parts
      have passed : (x != 0 && !q.1.contains x.toNat) = false := by
        rcases known with e | m
        · simp [zero.1 e]
        · have stands : x.toNat ∈ q.1 := rest.extends_.subset m
          simp [stands]
      refine ⟨rest.extends_, rest.nodup, rest.room, rest.full, fun k m => ?_, fun open_ d m one few => ?_, ?_, m, parts, sub.cons _⟩
      · exact (rest.sources k m).imp_right fun ⟨one, few, d, m, e⟩ => ⟨one, few, d, List.mem_cons_of_mem _ m, e⟩
      · rcases List.mem_cons.1 m with rfl | m
        · rcases known with e | m
          · omega
          · exact rest.extends_.subset m
        · exact rest.complete open_ d m one few
      · rw [List.countP_cons, passed, if_neg Bool.false_ne_true, Nat.add_zero]
        exact rest.counted
    · rw [not_or] at known
      by_cases ignored : doors < x.toNat ∨ 10 ≤ p.1.length
      · -- the index is no train door's or finds the list full: it is counted
        have same : indexTaken doors p x = (p.1, p.2.bump) := (if_neg (not_or.2 known)).trans (if_pos ignored)
        rw [same] at rest parts
        have absent : x.toNat ∉ q.1 := fun m => by
          rcases ignored with beyond | full
          · rcases rest.sources _ m with m | ⟨-, few, -⟩
            · exact known.2 m
            · omega
          · rw [rest.full full] at m
            exact known.2 m
        have nonzero : ¬x = 0 := mt zero.2 known.1
        have counts : (x != 0 && !q.1.contains x.toNat) = true := by
          rw [Bool.and_eq_true, bne_iff_ne, Bool.not_eq_true', List.contains_eq_mem, decide_eq_false_iff_not]
          exact ⟨nonzero, absent⟩
        refine ⟨rest.extends_, rest.nodup, rest.room, rest.full, fun k m => ?_, fun open_ d m one few => ?_, ?_, m, parts, sub.cons _⟩
        · exact (rest.sources k m).imp_right fun ⟨one, few, d, m, e⟩ => ⟨one, few, d, List.mem_cons_of_mem _ m, e⟩
        · rcases List.mem_cons.1 m with rfl | m
          · rcases ignored with beyond | full
            · omega
            · rw [rest.full full] at open_
              exact absurd open_ (not_lt.2 full)
          · exact rest.complete open_ d m one few
        · rw [List.countP_cons, counts, if_pos rfl, Function.iterate_succ_apply]
          exact rest.counted
      · -- the index joins
        rw [not_or] at ignored
        have joins : indexTaken doors p x = (p.1 ++ [x.toNat], p.2) := (if_neg (not_or.2 known)).trans (if_neg (not_or.2 ignored))
        rw [joins] at rest parts
        have stands : x.toNat ∈ q.1 := rest.extends_.subset (List.mem_append_right _ (List.mem_singleton_self _))
        have passed : (x != 0 && !q.1.contains x.toNat) = false := by simp [stands]
        refine ⟨(List.prefix_append _ _).trans rest.extends_, fun distinct => rest.nodup ?_, fun _ => rest.room ?_, fun full => absurd full ignored.2,
          fun k m => ?_, fun open_ d m one few => ?_, ?_, x.toNat :: m, ?_, sub.cons_cons _⟩
        · exact List.Nodup.append distinct (List.nodup_singleton _) fun k m n => known.2 (List.mem_singleton.1 n ▸ m)
        · simp only [List.length_append, List.length_singleton]
          omega
        · rcases rest.sources k m with m | ⟨one, few, d, m, e⟩
          · rcases List.mem_append.1 m with m | m
            · exact .inl m
            · exact .inr ⟨by rw [List.mem_singleton.1 m]; omega, by rw [List.mem_singleton.1 m]; omega, x, List.mem_cons_self, List.mem_singleton.1 m⟩
          · exact .inr ⟨one, few, d, List.mem_cons_of_mem _ m, e⟩
        · rcases List.mem_cons.1 m with rfl | m
          · exact stands
          · exact rest.complete open_ d m one few
        · rw [List.countP_cons, passed, if_neg Bool.false_ne_true, Nat.add_zero]
          exact rest.counted
        · rw [parts, List.append_assoc]
          rfl

/-! ### BERTH_EXT (R74) -/

theorem Ends.discardedFrames (h : Ends s t) : t.fr.nodeCounters.discardedFrames = s.fr.nodeCounters.discardedFrames := by
  have kept := congrArg NodeCounters.discardedFrames h.1.nodeCounters
  exact kept

theorem Ends.isolated (h : Ends s t) : t.bu.berth.isolated = s.bu.berth.isolated := by
  have kept := congrArg Berth.isolated h.1.record
  exact kept

theorem exec_berthExt {src : Node} {seq d1 d2 d3 d4 d5 d6 d7 : Byte} (h : AcceptedRunning ⟨src, .berthExt, [seq, d1, d2, d3, d4, d5, d6, d7]⟩ s)
    (same : seq = s.seq) :
    Sys2Proof.Machine.exec (.berthExt src seq d1 d2 d3 d4 d5 d6 d7) s =
      .next (finish (onBerthExt [d1, d2, d3, d4, d5, d6, d7] (noteActivity src false s))) := by
  have delivered := onFrame_of_acceptedRunning h (onSequence seq (onBerthExt [d1, d2, d3, d4, d5, d6, d7]))
  rw [onSequence_same (by rw [noteActivity_seq]; exact same)] at delivered
  exact congrArg Host.Outcome.next delivered

/-- Settles O27: the frame's indices come to the list one by one, and what comes in a later state is ignored. -/
theorem berthExtAdds : Obligations.BerthExtAdds := by
  unfold Obligations.BerthExtAdds
  intro src seq d1 d2 d3 d4 d5 d6 d7 s accepted same
  have exec := exec_berthExt accepted same
  refine ⟨fun early => ⟨_, exec, ?_⟩, fun late => ⟨_, exec, ?_⟩⟩
  · have adds : onBerthExt [d1, d2, d3, d4, d5, d6, d7] (noteActivity src false s) = addIndices [d1, d2, d3, d4, d5, d6, d7] (noteActivity src false s) :=
      if_pos (by
        show (s.berthState == .announced || s.berthState == .fusing) = true
        rcases early with e | e <;> rw [e] <;> rfl)
    have form : addIndices [d1, d2, d3, d4, d5, d6, d7] (noteActivity src false s) =
        (noteActivity src false s).withIndices ([d1, d2, d3, d4, d5, d6, d7].foldl (indexTaken s.doorCount) s.indices) := addIndices_eq _ _
    have taken := indicesTaken s.doorCount [d1, d2, d3, d4, d5, d6, d7] s.indices
    rw [adds, form]
    generalize List.foldl _ _ _ = q at *
    have ends := finish_ends ((noteActivity src false s).withIndices q)
    have list : (finish ((noteActivity src false s).withIndices q)).bu.berth.isolated = q.1 := ends.isolated
    have count : (finish ((noteActivity src false s).withIndices q)).fr.nodeCounters.discardedFrames = q.2 := ends.discardedFrames
    rw [list, count]
    exact ⟨taken.extends_, taken.nodup, taken.room, taken.sources, taken.complete, taken.counted, ends⟩
  · have ignored : onBerthExt [d1, d2, d3, d4, d5, d6, d7] (noteActivity src false s) = noteActivity src false s :=
      if_neg (by
        show ¬(s.berthState == .announced || s.berthState == .fusing) = true
        rcases late with e | e | e | e <;> rw [e] <;> exact Bool.false_ne_true)
    rw [ignored]
    exact finish_ends _

/-! ### The access close joined (R77, R184) -/

/-- Unit `u` of `q` is no member of the access close yet. -/
def State.joinsAccess (s : State) (q : Quad Bool) (u : UnitNo) : Bool := q.get u && (s.accessMembers.get u).isNone

/-- The access close once the units of `q` have joined it. -/
def State.joinedAccess (s : State) (q : Quad Bool) : Option AccessClose :=
  if UnitNo.all.any (s.joinsAccess q) then
    some
      { warnings := s.accessWarnings ++ [s.newWarning]
        members := Quad.build fun u =>
          if s.joinsAccess q u then some ⟨s.accessWarnings.length, .underWarning⟩ else s.accessMembers.get u }
  else s.iu.accessClose

theorem joinAccess_eq (q : Quad Bool) (s : State) : joinAccess q s = s.modIu fun i => { i with accessClose := s.joinedAccess q } := by
  have same : s = s.modIu fun i => { i with accessClose := s.iu.accessClose } := rfl
  unfold joinAccess State.joinedAccess
  dsimp only
  by_cases h : UnitNo.all.any (s.joinsAccess q) = true
  · rw [if_pos h]
    exact if_pos h
  · rw [if_neg h]
    exact if_neg h

theorem Quad.build_get {α : Type} (f : UnitNo → α) (u : UnitNo) : (Quad.build f).get u = f u := by cases u <;> rfl

theorem joinedAccess_member {q : Quad Bool} (h : s.joinsAccess q u = true) :
    ∃ a, s.joinedAccess q = some a ∧ a.members.get u = some ⟨s.accessWarnings.length, .underWarning⟩ ∧
      a.warnings = s.accessWarnings ++ [s.newWarning] := by
  have some_ : UnitNo.all.any (s.joinsAccess q) = true := (UnitNo.all_any _).2 ⟨u, h⟩
  refine ⟨_, if_pos some_, ?_, rfl⟩
  rw [Quad.build_get, if_pos h]

theorem settleCloses_access (s : State) : (settleCloses s).iu.accessClose = (judgedMembers s).iu.accessClose := by
  have completed := (completeCycle_completed (judgedMembers s)).trans (completeEmergency_completed (completeCycle (judgedMembers s)))
  rw [← settleCloses_judged] at completed
  exact completed.access

/-- A member of the access close under its warning stands through the end of an event. -/
theorem settle_underWarning {w : List Warning} {m : Member} (s0 : State) (h : s.accessMember u = some (w, m)) (under : m.status = .underWarning) :
    (∃ a, (settle s0 s).iu.accessClose = some a ∧ a.members.get u = some m ∧ a.warnings = w) ∧
      (w.any Warning.running = true → (settle s0 s).out.warning = true) := by
  have stands : (judgedMembers s).accessMember u = some (w, m) := by
    rcases (judgedMembers_unitJudged u s).access with same | ⟨-, waiting⟩
    · exact same.trans h
    · exact absurd (under.symm.trans (waiting w m h)) fun e => nomatch e
  obtain ⟨a, close, place⟩ := Option.bind_eq_some_iff.1 stands
  obtain ⟨m', member, pair⟩ := Option.map_eq_some_iff.1 place
  cases pair
  refine ⟨⟨a, (settle_completed s0 s).access.trans close, member, rfl⟩, fun running => ?_⟩
  rw [settle_warning, State.warningRunning, settleCloses_access, close]
  exact Bool.or_eq_true_iff.2 (.inr running)

/-- The units that have joined the access close stand in it under the new warning as the event ends. -/
theorem joined_settled {x : State} {q : Quad Bool} (s0 : State) (close : x.iu.accessClose = s.joinedAccess q) (joins : s.joinsAccess q u = true) :
    (settle s0 x).out.warning = true ∧
      ∃ a k, (settle s0 x).iu.accessClose = some a ∧ a.members.get u = some ⟨k, .underWarning⟩ ∧ a.warnings[k]? = some s.newWarning := by
  obtain ⟨a, joined, member, warnings⟩ := joinedAccess_member joins
  have place : x.accessMember u = some (a.warnings, ⟨s.accessWarnings.length, .underWarning⟩) := by
    rw [State.accessMember, close, joined, Option.bind_some, member]
    rfl
  obtain ⟨⟨a', stands, member', warnings'⟩, running⟩ := settle_underWarning s0 place rfl
  refine ⟨running ?_, a', _, stands, member', ?_⟩
  · rw [warnings, List.any_append]
    exact Bool.or_eq_true_iff.2 (.inr rfl)
  · rw [warnings', warnings]
    exact List.getElem?_concat_length

/-! ### BERTH (R72 to R77, R91) -/

/-- The record and the AE of a berth taken, before its train doors are isolated. -/
def berthTaken (seq consist : Byte) (s0 : BitVec 24) (s : State) : State :=
  alignTake seq consist.toNat s0.toNat
    (s.modBerth fun _ => { Berth.none with seq := seq, consist := some consist.toNat, s0 := some s0.toNat, state := .announced })

theorem doorCount_of {c : Consist} {n : Nat} (consist : s.bu.berth.consist = some n) (h : s.cl.config.consists[n]? = some c) :
    s.doorCount = c.doors.length := by
  unfold State.doorCount
  rw [consist, Option.bind_some, h]

theorem takeBerth_eq (seq consist : Byte) (s0 : BitVec 24) (doors : List Byte) {c : Consist} (h : s.cl.config.consists[consist.toNat]? = some c) :
    takeBerth seq consist s0 doors s =
      (berthTaken seq consist s0 s).withIndices (doors.foldl (indexTaken c.doors.length) ([], s.fr.nodeCounters.discardedFrames)) := by
  have count := doorCount_of
    (s := s.modBerth fun _ => { Berth.none with seq := seq, consist := some consist.toNat, s0 := some s0.toNat, state := .announced }) rfl h
  unfold takeBerth
  dsimp only
  rw [addIndices_eq, count]
  rfl

/-- The slots of a BERTH taken into an empty list, fewer than ten. -/
theorem indicesTaken_slots {c : Consist} {l : List Byte} {n : Counter 16} {q : List Nat × Counter 16}
    (taken : IndicesTaken c.doors.length l ([], n) q) (few : l.length < 10) :
    q.1.Nodup ∧ q.1.Sublist (l.map BitVec.toNat) ∧
      (∀ k, k ∈ q.1 ↔ 1 ≤ k ∧ k ≤ c.doors.length ∧ k ∈ l.map BitVec.toNat) ∧
      q.2 = Counter.bump^[l.countP fun d => decide (c.doors.length < d.toNat)] n := by
  obtain ⟨m, parts, sub⟩ := taken.sublist
  have sublist : q.1.Sublist (l.map BitVec.toNat) := by
    rw [parts]
    exact sub
  have short : q.1.length < 10 := (sublist.length_le.trans_eq (List.length_map _)).trans_lt few
  have known : ∀ k, k ∈ q.1 → 1 ≤ k ∧ k ≤ c.doors.length ∧ k ∈ l.map BitVec.toNat := fun k m => by
    rcases taken.sources k m with none | ⟨one, within, d, m, e⟩
    · exact absurd none List.not_mem_nil
    · exact ⟨one, within, e ▸ List.mem_map_of_mem m⟩
  refine ⟨taken.nodup List.nodup_nil, sublist, fun k => ⟨known k, fun ⟨one, within, m⟩ => ?_⟩, taken.counted.trans ?_⟩
  · obtain ⟨d, member, rfl⟩ := List.mem_map.1 m
    exact taken.complete short d member one within
  · rw [List.countP_congr fun d m => ?_]
    rw [Bool.and_eq_true, bne_iff_ne, Bool.not_eq_true', List.contains_eq_mem, decide_eq_false_iff_not, decide_eq_true_iff]
    refine ⟨fun ⟨nonzero, absent⟩ => ?_, fun beyond => ⟨fun e => ?_, fun m => ?_⟩⟩
    · by_contra within
      have one : d.toNat ≠ 0 := fun e => nonzero (BitVec.eq_of_toNat_eq e)
      exact absent (taken.complete short d m (by omega) (by omega))
    · rw [e] at beyond
      exact absurd beyond (Nat.not_lt_zero _)
    · obtain ⟨-, within, -⟩ := known _ m
      omega

theorem preemptAccess_none (h : ∀ u, s.iu.accessMarks.get u = false) : preemptAccess s = s := by
  unfold preemptAccess
  rw [List.find?_eq_none.2 fun u _ => by rw [h u]; exact Bool.false_ne_true]

theorem preemptAccess_some (h : UnitNo.all.find? s.iu.accessMarks.get = some u) :
    preemptAccess s = report .accessPreempted .minor (some u) (joinAccess s.iu.accessMarks s) := by
  unfold preemptAccess
  rw [h]

/-- What the IU does as a BERTH is taken, but for the report. -/
theorem preemptAccess_sends (s : State) :
    Sends (s.modIu fun i => { i with accessClose := s.joinedAccess s.iu.accessMarks }) (preemptAccess s) := by
  rw [← joinAccess_eq]
  rcases h : UnitNo.all.find? s.iu.accessMarks.get with _ | u
  · have clear : ∀ u, s.iu.accessMarks.get u = false := fun u =>
      Bool.not_eq_true _ ▸ (List.find?_eq_none.1 h u (mem_units u))
    have none : UnitNo.all.any (s.joinsAccess s.iu.accessMarks) = false := by
      rw [← Bool.not_eq_true, UnitNo.all_any]
      rintro ⟨u, joins⟩
      rw [State.joinsAccess, clear u, Bool.false_and] at joins
      cases joins
    rw [preemptAccess_none clear, joinAccess_eq, State.joinedAccess, none, if_neg Bool.false_ne_true]
    exact Sends.refl s
  · rw [preemptAccess_some h]
    exact report_sends _ _ _ _

theorem exec_berth {src : Node} {seq consist : Byte} {s0 : BitVec 24} {d1 d2 d3 : Byte}
    (h : AcceptedRunning ⟨src, .berth, [seq, consist] ++ bytes3 s0 ++ [d1, d2, d3]⟩ s) :
    Sys2Proof.Machine.exec (.berth src seq consist s0 d1 d2 d3) s =
      .next (settle s (onBerth seq consist s0 [d1, d2, d3] (noteActivity src false s))) :=
  congrArg Host.Outcome.next (onFrameSettling_of_acceptedRunning h (onBerth seq consist s0 [d1, d2, d3]))

theorem consistPresent_of {c : Consist} {n : Nat} (h : s.cl.config.consists[n]? = some c) : s.consistPresent n = true := by
  obtain ⟨within, -⟩ := List.getElem?_eq_some_iff.1 h
  exact decide_eq_true within

theorem onBerth_idle {seq consist : Byte} {s0 : BitVec 24} {l : List Byte} (idle : s.berthState = .idle) (present : s.consistPresent consist.toNat = true) :
    onBerth seq consist s0 l s = preemptAccess (takeBerth seq consist s0 l s) := by
  unfold onBerth
  rw [idle, if_pos (show (BerthState.idle == BerthState.idle) = true from rfl), if_pos present]

theorem onBerth_replaces {seq consist : Byte} {s0 : BitVec 24} {l : List Byte} (n : s.berthState ≠ .idle) (other : seq ≠ s.seq)
    (h : (s.berthState.replaceable && s.unitsShut && s.consistPresent consist.toNat) = true) :
    onBerth seq consist s0 l s = takeBerth seq consist s0 l (endForReplacement s) := by
  unfold onBerth
  rw [if_neg (by rw [beq_iff_eq]; exact n), if_neg other, if_pos h]

theorem onBerth_again {seq consist : Byte} {s0 : BitVec 24} {l : List Byte} (n : s.berthState ≠ .idle) (same : seq = s.seq) :
    onBerth seq consist s0 l s = s := by
  unfold onBerth
  rw [if_neg (by rw [beq_iff_eq]; exact n), if_pos same]

theorem onBerth_absent {seq consist : Byte} {s0 : BitVec 24} {l : List Byte} (idle : s.berthState = .idle) (absent : s.consistPresent consist.toNat = false) :
    onBerth seq consist s0 l s = refuseBerth s := by
  unfold onBerth
  rw [idle, if_pos (show (BerthState.idle == BerthState.idle) = true from rfl), absent, if_neg Bool.false_ne_true]

theorem onBerth_refused {seq consist : Byte} {s0 : BitVec 24} {l : List Byte} (n : s.berthState ≠ .idle) (other : seq ≠ s.seq)
    (h : (s.berthState.replaceable && s.unitsShut && s.consistPresent consist.toNat) = false) :
    onBerth seq consist s0 l s = refuseBerth s := by
  unfold onBerth
  rw [if_neg (by rw [beq_iff_eq]; exact n), if_neg other, h, if_neg Bool.false_ne_true]

theorem unitsShut_iff : s.unitsShut = true ↔ ∀ u, s.configured u = true → s.unit u = .closedLocked ∨ s.unit u = .isolated := by
  unfold State.unitsShut
  rw [UnitNo.all_all]
  refine forall_congr' fun u => ?_
  rw [Bool.or_eq_true, Bool.or_eq_true, Bool.not_eq_true', beq_iff_eq, beq_iff_eq, or_assoc, ← Bool.not_eq_true, imp_iff_not_or]

/-- A BERTH taken in IDLE, before the units open for access are handed on. -/
def announced (src : Node) (seq consist : Byte) (s0 : BitVec 24) (q : List Nat × Counter 16) (s : State) : State :=
  (berthTaken seq consist s0 (noteActivity src false s)).withIndices q

theorem berth_taken {src : Node} {seq consist : Byte} {s0 : BitVec 24} {l : List Byte} {c : Consist}
    (h : s.cl.config.consists[consist.toNat]? = some c) (few : l.length < 10) :
    ∃ q, takeBerth seq consist s0 l (noteActivity src false s) = announced src seq consist s0 q s ∧
      q.1.Nodup ∧ q.1.Sublist (l.map BitVec.toNat) ∧ (∀ k, k ∈ q.1 ↔ 1 ≤ k ∧ k ≤ c.doors.length ∧ k ∈ l.map BitVec.toNat) ∧
      q.2 = Counter.bump^[l.countP fun d => decide (c.doors.length < d.toNat)] s.fr.nodeCounters.discardedFrames :=
  ⟨_, takeBerth_eq (s := noteActivity src false s) seq consist s0 l h, indicesTaken_slots (indicesTaken _ l _) few⟩

/-- The clauses of a BERTH taken in IDLE. -/
theorem berth_idle {src : Node} {seq consist : Byte} {s0 : BitVec 24} {q : List Nat × Counter 16} (x : State)
    (hx : x = preemptAccess (announced src seq consist s0 q s)) :
    Ends
        { announced src seq consist s0 q s with
          iu := { s.iu with accessClose := s.joinedAccess s.iu.accessMarks } } (settle s x) ∧
      (∀ u, UnitNo.all.find? s.iu.accessMarks.get = some u → Reported .minor ⟨.accessPreempted, some u, seq, s.now⟩ s.fr (settle s x).fr) ∧
      ((∀ u, s.iu.accessMarks.get u = false) → (settle s x).fr.minor = s.fr.minor) ∧
      (∀ u, s.preempted u = true → (settle s x).out.warning = true ∧
        ∃ a k, (settle s x).iu.accessClose = some a ∧ a.members.get u = some ⟨k, .underWarning⟩ ∧ a.warnings[k]? = some s.newWarning) := by
  have sends := preemptAccess_sends (announced src seq consist s0 q s)
  rw [← hx] at sends
  refine ⟨sends.ends.settled s, fun u found => ?_, fun clear => ?_, fun u joins => ?_⟩
  · rw [hx, preemptAccess_some (s := announced src seq consist s0 q s) found, joinAccess_eq]
    have made := report_reported .accessPreempted .minor (some u)
      ((announced src seq consist s0 q s).modIu fun i =>
        { i with accessClose := (announced src seq consist s0 q s).joinedAccess (announced src seq consist s0 q s).iu.accessMarks })
    exact (made.before (s := s) rfl rfl).settled fun e => nomatch e
  · rw [hx, preemptAccess_none (s := announced src seq consist s0 q s) clear]
    have calm : (announced src seq consist s0 q s).unsecurable := unsecurable_of (b := .announced) rfl (fun e => nomatch e) fun e => nomatch e
    exact (settle_unsecurable s calm).1.slots .minor fun _ => rfl
  · exact joined_settled (s := s) s (by rw [sends.iu]; rfl) joins

theorem refuseBerth_ends (src : Node) (s : State) :
    Ends
      { noteActivity src false s with
        pm := { (noteActivity src false s).pm with lastRefusal := .conflict }
        fr :=
          { s.fr with
            nodeCounters := { s.fr.nodeCounters with berthConflict := s.fr.nodeCounters.berthConflict.bump } } }
      (settle s (refuseBerth (noteActivity src false s))) := settle_ends _ _

/-- Settles O25: in IDLE the berth is taken and the units open for access handed on, outside it the tests are applied in their order. -/
theorem berthsAnnounced : Obligations.BerthsAnnounced := by
  unfold Obligations.BerthsAnnounced
  intro src seq consist s0 d1 d2 d3 s accepted
  have exec := exec_berth accepted
  refine ⟨fun c present => ⟨fun idle => ?idle, fun state other shut => ?replaced⟩, fun n same => ?again, fun refused => ?refused⟩
  case idle =>
    obtain ⟨q, form, slots⟩ := berth_taken (src := src) (seq := seq) (s0 := s0) (l := [d1, d2, d3]) present (show 3 < 10 by decide)
    have taken : onBerth seq consist s0 [d1, d2, d3] (noteActivity src false s) = preemptAccess (announced src seq consist s0 q s) := by
      rw [onBerth_idle (s := noteActivity src false s) idle (consistPresent_of (s := noteActivity src false s) present), form]
    rw [taken] at exec
    obtain ⟨ends, reported, quiet, joined⟩ := berth_idle _ (Eq.refl (preemptAccess (announced src seq consist s0 q s)))
    have list : (settle s (preemptAccess (announced src seq consist s0 q s))).bu.berth.isolated = q.1 := ends.isolated
    have count : (settle s (preemptAccess (announced src seq consist s0 q s))).fr.nodeCounters.discardedFrames = q.2 := ends.discardedFrames
    refine ⟨_, exec, ends.berthState_eq (fun e => nomatch e) (fun e => nomatch e), ?_, reported, quiet, joined, ?_⟩
    · rw [SlotsTaken, list, count]
      exact slots
    · rw [list, count]
      exact ends
  case replaced =>
    obtain ⟨q, form, slots⟩ := berth_taken (s := { s with ae := AlignEngine.reset, bu := { s.bu with cycle := none, holdList := [] } }) (src := src)
      (seq := seq) (s0 := s0) (l := [d1, d2, d3]) present (show 3 < 10 by decide)
    have taken : onBerth seq consist s0 [d1, d2, d3] (noteActivity src false s) =
        announced src seq consist s0 q { s with ae := AlignEngine.reset, bu := { s.bu with cycle := none, holdList := [] } } := by
      rw [onBerth_replaces (s := noteActivity src false s) (by
          show s.berthState ≠ .idle
          rcases state with e | e | e | e <;> rw [e] <;> exact fun e => nomatch e) other (by
          rw [show (noteActivity src false s).unitsShut = true from unitsShut_iff.2 shut, consistPresent_of (s := noteActivity src false s) present]
          show (s.berthState.replaceable && true && true) = true
          rcases state with e | e | e | e <;> rw [e] <;> rfl), ← form]
      rfl
    rw [taken] at exec
    have ends := settle_ends s (announced src seq consist s0 q { s with ae := AlignEngine.reset, bu := { s.bu with cycle := none, holdList := [] } })
    have calm : (announced src seq consist s0 q { s with ae := AlignEngine.reset, bu := { s.bu with cycle := none, holdList := [] } }).unsecurable :=
      unsecurable_of (b := .announced) rfl (fun e => nomatch e) fun e => nomatch e
    have minor := (settle_unsecurable s calm).1.slots .minor fun _ => rfl
    generalize settle s (announced src seq consist s0 q _) = t at *
    have list : t.bu.berth.isolated = q.1 := ends.isolated
    have count : t.fr.nodeCounters.discardedFrames = q.2 := ends.discardedFrames
    refine ⟨t, exec, ends.berthState_eq (fun e => nomatch e) (fun e => nomatch e), ?_, minor, ?_⟩
    · rw [SlotsTaken, list, count]
      exact slots
    · rw [list, count]
      exact ends
  case again =>
    rw [onBerth_again (s := noteActivity src false s) n same] at exec
    exact ⟨_, exec, settle_ends _ _⟩
  case refused =>
    have form : onBerth seq consist s0 [d1, d2, d3] (noteActivity src false s) = refuseBerth (noteActivity src false s) := by
      rcases refused with ⟨idle, absent⟩ | ⟨n, other, why⟩
      · exact onBerth_absent (s := noteActivity src false s) idle (decide_eq_false (not_lt.2 absent))
      · refine onBerth_refused (s := noteActivity src false s) n other ?_
        show (s.berthState.replaceable && s.unitsShut && s.consistPresent consist.toNat) = false
        rcases why with absent | e | e | ⟨u, conf, locked, isolated⟩
        · rw [show s.consistPresent consist.toNat = false from decide_eq_false (not_lt.2 absent), Bool.and_false]
        · rw [e]
          rfl
        · rw [e]
          rfl
        · have open_ : s.unitsShut = false := by
            rw [← Bool.not_eq_true, unitsShut_iff]
            exact fun all => (all u conf).elim locked isolated
          rw [open_, Bool.and_false, Bool.false_and]
    rw [form] at exec
    exact ⟨_, exec, refuseBerth_ends src s⟩

end Sys2Proof.Machine

/-! The Hold List, and the own holds formed as a warning of the close cycle ends (sections 9.1 to 9.3). -/

namespace Sys2Proof.Machine

variable {i : Instr} {u v : UnitNo} {s t : State}

/-! ### HOLD (R161) -/

theorem onHold_taken {src : Node} {seq : Byte} {g : State → State} (same : seq = s.seq) (live : (s.slot src).state = .live) :
    onHold src seq g s = g s := if_pos ⟨same, live⟩

theorem onHold_other {src : Node} {seq : Byte} {g : State → State} (h : seq ≠ s.seq ∨ (s.slot src).state ≠ .live) :
    onHold src seq g s = countDiscard s := if_neg fun k => h.elim (fun n => n k.1) fun n => n k.2

theorem noted_live {src : Node} (room : s.pm.slots.length = 64) (h : (s.slot src).state ≠ .silent) :
    ((noteActivity src false s).slot src).state = .live := by
  rw [noteActivity, setSlot_same room, Slot.note_live (.inl h)]

theorem noted_silent {src : Node} (room : s.pm.slots.length = 64) (h : (s.slot src).state = .silent) (bay : isBay src = true) :
    ((noteActivity src false s).slot src).state ≠ .live := by
  rw [noteActivity, setSlot_same room, bay, Slot.note_silent h, h]
  exact fun e => nomatch e

/-- A HOLD delivered: by `g` where it is the record's and its sender is not SILENT, and otherwise counted. -/
theorem hold_settled {src : Node} {seq : Byte} (g : State → State) (room : s.pm.slots.length = 64) :
    (seq = s.seq → (s.slot src).state ≠ .silent →
      settle s (onHold src seq g (noteActivity src false s)) = settle s (g (noteActivity src false s))) ∧
    (seq ≠ s.seq ∨ ((s.slot src).state = .silent ∧ isBay src = true) →
      Ends (countDiscard (noteActivity src false s)) (settle s (onHold src seq g (noteActivity src false s)))) := by
  refine ⟨fun same live => ?_, fun other => ?_⟩
  · rw [onHold_taken (s := noteActivity src false s) same (noted_live room live)]
  · rw [onHold_other (s := noteActivity src false s) (other.imp_right fun ⟨silent, bay⟩ => noted_silent room silent bay)]
    exact settle_ends _ _

/-- A START at the Hold List (R161). -/
theorem holdStartList_eq (src : Node) (car : Nat) (s : State) :
    holdStartList src car s =
      { s with
        bu :=
          { s.bu with
            holdList :=
              (if s.bu.holdList.any (HoldEntry.hasKey src car) then s.bu.holdList.filter fun h => !HoldEntry.hasKey src car h
              else if s.bu.holdList.length < 16 then s.bu.holdList
              else s.bu.holdList.drop 1) ++ [⟨src, car, s.now⟩] }
        fr :=
          { s.fr with
            nodeCounters :=
              { s.fr.nodeCounters with
                holdEvictions :=
                  if s.bu.holdList.any (HoldEntry.hasKey src car) || decide (s.bu.holdList.length < 16) then s.fr.nodeCounters.holdEvictions
                  else s.fr.nodeCounters.holdEvictions.bump } } } := by
  unfold holdStartList
  dsimp only
  rcases key : s.bu.holdList.any (HoldEntry.hasKey src car) with _ | _
  · rw [if_neg Bool.false_ne_true, if_neg Bool.false_ne_true, Bool.false_or]
    by_cases room : s.bu.holdList.length < 16
    · rw [if_pos room, if_pos room, if_pos (decide_eq_true room)]
      rfl
    · rw [if_neg room, if_neg room, if_neg (by rw [decide_eq_true_iff]; exact room)]
      rfl
  · rw [if_pos rfl, if_pos rfl, Bool.true_or, if_pos rfl]
    rfl

/-! ### The own holds formed as a warning ends (R158) -/

theorem forUnits_induction {P : List UnitNo → State → Prop} {f : UnitNo → State → State} (start : P [] s)
    (step : ∀ l a u, P l a → u ∉ l → P (l ++ [u]) (f u a)) : P UnitNo.all (forUnits f s) :=
  step _ _ .u3 (step _ _ .u2 (step _ _ .u1 (step _ _ .u0 start (by decide)) (by decide)) (by decide)) (by decide)

/-- Unit `u` is found busy with `car` under the warning `n` of the cycle `c` that ends. -/
def FoundBusy (s : State) (c : CloseCycle) (n : Nat) (u : UnitNo) (car : Nat) : Prop :=
  c.endsUnder n u = true ∧ s.findsBusy u = true ∧ 0 < s.cl.config.params.holdMax ∧ s.car u = some car

/-- The HOLD STARTs of a list of cars. -/
def holdStarts (seq : Byte) (l : List Nat) : List (FrameKind × List Byte) := l.map fun car => (.hold, [seq, 1, byte car])

/-- The holds formed by the units of `l` out of `y`, whose cycle `c` stands. -/
structure HoldsFormed (c : CloseCycle) (busy : UnitNo → Nat → Prop) (y : State) (l : List UnitNo) (x : State) : Prop where
  cycle : ∃ hs, x.bu.cycle = some { c with holds := hs } ∧
    (∀ car, (∃ h ∈ hs, h.car = car) ↔ (∃ h ∈ c.holds, h.car = car) ∨ ∃ u ∈ l, busy u car) ∧
    ∀ u ∈ l, ∀ car, busy u car → ∃ h ∈ hs, h.car = car ∧ h.holders.get u = true
  sent : ∃ cars : List Nat, Enqueued (holdStarts y.seq cars) y x ∧ cars.Nodup ∧ cars.length ≤ l.length ∧
    ∀ car, car ∈ cars ↔ (¬∃ h ∈ c.holds, h.car = car) ∧ ∃ u ∈ l, busy u car
  same : Sends (y.setCycle x.bu.cycle) x

theorem holdFor_isSome {c : CloseCycle} {car : Nat} : (c.holdFor car).isSome = true ↔ ∃ h ∈ c.holds, h.car = car := by
  rw [CloseCycle.holdFor, List.find?_isSome]
  simp

theorem car_congr {x y : State} (h : x.ae = y.ae) (u : UnitNo) : x.car u = y.car u := by
  rw [State.car, h]
  rfl

theorem findsBusy_congr {x y : State} (ae : x.ae = y.ae) (dc : x.dc = y.dc) (su : x.su = y.su) (u : UnitNo) : x.findsBusy u = y.findsBusy u := by
  unfold State.findsBusy State.served State.unit
  rw [ae, dc, su]

theorem HoldsFormed.refl {c : CloseCycle} {busy : UnitNo → Nat → Prop} {y : State} (h : y.bu.cycle = some c) : HoldsFormed c busy y [] y := by
  refine ⟨⟨c.holds, h, fun car => ?_, fun _ m => (nomatch m)⟩, ⟨[], Enqueued.refl y, List.nodup_nil, le_refl _, fun car => ?_⟩, ?_⟩
  · exact ⟨.inl, fun k => k.elim id fun ⟨_, m, _⟩ => nomatch m⟩
  · exact ⟨fun m => (nomatch m), fun ⟨_, _, m, _⟩ => nomatch m⟩
  · exact Sends.refl y

theorem Sends.setCycle {x y : State} {c : Option CloseCycle} (h : Sends (y.setCycle c) x) (c' : Option CloseCycle) :
    Sends (y.setCycle c') (x.setCycle c') :=
  { h with bu := congrArg (fun b : BerthUnit => { b with cycle := c' }) h.bu }

/-- A unit that is not found busy forms no hold. -/
theorem HoldsFormed.pass {c : CloseCycle} {busy : UnitNo → Nat → Prop} {y x : State} {l : List UnitNo} (h : HoldsFormed c busy y l x)
    (n : ∀ car, ¬busy u car) : HoldsFormed c busy y (l ++ [u]) x := by
  have same : ∀ car, (∃ v ∈ l ++ [u], busy v car) ↔ ∃ v ∈ l, busy v car := fun car => by
    refine ⟨fun ⟨v, m, b⟩ => ?_, fun ⟨v, m, b⟩ => ⟨v, List.mem_append_left _ m, b⟩⟩
    rcases List.mem_append.1 m with m | m
    · exact ⟨v, m, b⟩
    · rw [List.mem_singleton.1 m] at b
      exact absurd b (n car)
  obtain ⟨hs, stands, cars, holders⟩ := h.cycle
  obtain ⟨sent, frames, distinct, few, which⟩ := h.sent
  refine ⟨⟨hs, stands, fun car => by rw [same]; exact cars car, fun v m car b => ?_⟩,
    ⟨sent, frames, distinct, few.trans (by rw [List.length_append]; exact Nat.le_add_right _ _), fun car => by rw [same]; exact which car⟩, h.same⟩
  rcases List.mem_append.1 m with m | m
  · exact holders v m car b
  · rw [List.mem_singleton.1 m] at b
    exact absurd b (n car)

/-- A unit found busy joins the hold of its car, or makes one. -/
theorem HoldsFormed.join {c c' : CloseCycle} {busy : UnitNo → Nat → Prop} {y x : State} {l : List UnitNo} {car : Nat} {deadline : Time}
    (h : HoldsFormed c busy y l x) (cx : x.bu.cycle = some c') (b : busy u car) (only : ∀ k, busy u k → k = car) :
    HoldsFormed c busy y (l ++ [u]) (joinHold u car deadline c' x) := by
  obtain ⟨hs, stands, cars, holders⟩ := h.cycle
  obtain ⟨sent, frames, distinct, few, which⟩ := h.sent
  rw [cx] at stands
  cases stands
  have more : ∀ k, (∃ v ∈ l ++ [u], busy v k) ↔ (∃ v ∈ l, busy v k) ∨ k = car := fun k => by
    refine ⟨fun ⟨v, m, b'⟩ => ?_, fun e => ?_⟩
    · rcases List.mem_append.1 m with m | m
      · exact .inl ⟨v, m, b'⟩
      · rw [List.mem_singleton.1 m] at b'
        exact .inr (only k b')
    · rcases e with ⟨v, m, b'⟩ | rfl
      · exact ⟨v, List.mem_append_left _ m, b'⟩
      · exact ⟨u, List.mem_append_right _ (List.mem_singleton_self u), b⟩
  have seq : x.seq = y.seq := by
    rw [State.seq, h.same.bu]
    rfl
  have longer : l.length ≤ (l ++ [u]).length := by rw [List.length_append]; exact Nat.le_add_right _ _
  unfold joinHold
  split
  · next has =>
    -- the car's hold stands: the unit joins it, and nothing is sent
    have there := holdFor_isSome.1 has
    refine ⟨⟨_, rfl, fun k => ?_, fun v m k b' => ?_⟩, ⟨sent, frames.after rfl, distinct, few.trans longer, fun k => ?_⟩, h.same.setCycle _⟩
    · rw [more, ← or_assoc, ← cars]
      refine ⟨fun ⟨x, m, e⟩ => ?_, fun e => ?_⟩
      · obtain ⟨x, member, rfl⟩ := List.mem_map.1 m
        refine .inl ⟨x, member, ?_⟩
        split at e <;> exact e
      · have known : ∃ x ∈ hs, x.car = k := e.elim id fun e => e ▸ there
        obtain ⟨x, m, e⟩ := known
        refine ⟨_, List.mem_map_of_mem m, ?_⟩
        split <;> exact e
    · rcases List.mem_append.1 m with m | m
      · obtain ⟨x, m, e, set⟩ := holders v m k b'
        refine ⟨_, List.mem_map_of_mem m, ?_, ?_⟩
        · split <;> exact e
        · split
          · by_cases own : u = v
            · rw [own]
              exact Quad.get_set_self ..
            · exact (Quad.get_set_ne _ _ own).trans set
          · exact set
      · rw [List.mem_singleton.1 m] at b' ⊢
        obtain rfl := only k b'
        obtain ⟨x, m, e⟩ := there
        refine ⟨_, List.mem_map_of_mem m, ?_, ?_⟩
        · split <;> exact e
        · rw [if_pos e]
          exact Quad.get_set_self ..
    · rw [which, more]
      refine ⟨fun ⟨n, b'⟩ => ⟨n, .inl b'⟩, fun ⟨n, b'⟩ => ⟨n, b'.elim id fun e => ?_⟩⟩
      rcases (cars k).1 (e ▸ there) with known | b'
      · exact absurd known n
      · exact b'
  · next fresh =>
    -- the car is new: the unit makes a hold with a HOLD START
    have absent : ¬∃ h ∈ hs, h.car = car := fun e => fresh (holdFor_isSome.2 e)
    have new : ¬((∃ h ∈ c.holds, h.car = car) ∨ ∃ v ∈ l, busy v car) := fun e => absent ((cars car).2 e)
    have one := enqueue_sends .hold [x.seq, 1, byte car] (x.setCycle (some { c with holds := hs ++ [⟨car, (Quad.same false).set u true, deadline⟩] }))
    refine ⟨⟨_, congrArg BerthUnit.cycle one.bu, fun k => ?_, fun v m k b' => ?_⟩,
      ⟨sent ++ [car], ?_, ?_, ?_, fun k => ?_⟩, ?_⟩
    · rw [more, ← or_assoc, ← cars]
      simp only [List.mem_append, List.mem_singleton]
      refine ⟨fun ⟨x, m, e⟩ => ?_, fun e => ?_⟩
      · rcases m with m | rfl
        · exact .inl ⟨x, m, e⟩
        · exact .inr e.symm
      · rcases e with ⟨x, m, e⟩ | rfl
        · exact ⟨x, .inl m, e⟩
        · exact ⟨_, .inr rfl, rfl⟩
    · rcases List.mem_append.1 m with m | m
      · obtain ⟨x, m, e, set⟩ := holders v m k b'
        exact ⟨x, List.mem_append_left _ m, e, set⟩
      · rw [List.mem_singleton.1 m] at b' ⊢
        obtain rfl := only k b'
        exact ⟨_, List.mem_append_right _ (List.mem_singleton_self _), rfl, Quad.get_set_self ..⟩
    · rw [holdStarts, List.map_append, ← seq]
      have start := enqueue_enqueued .hold [x.seq, 1, byte car]
        (x.setCycle (some { c with holds := hs ++ [⟨car, (Quad.same false).set u true, deadline⟩] }))
      rw [← seq] at frames
      exact frames.trans (start.before rfl)
    · refine List.Nodup.append distinct (List.nodup_singleton _) fun k m n => ?_
      rw [List.mem_singleton.1 n] at m
      exact new (.inr ((which car).1 m).2)
    · simp only [List.length_append, List.length_singleton]
      omega
    · rw [List.mem_append, List.mem_singleton, which, more]
      refine ⟨fun e => ?_, fun ⟨n, b'⟩ => ?_⟩
      · rcases e with ⟨n, b'⟩ | rfl
        · exact ⟨n, .inl b'⟩
        · exact ⟨fun known => new (.inl known), .inr rfl⟩
      · exact b'.imp (fun b' => ⟨n, b'⟩) id
    · have set := h.same.setCycle (some { c with holds := hs ++ [⟨car, (Quad.same false).set u true, deadline⟩] })
      have now : (sendHold 1 car (x.setCycle (some { c with holds := hs ++ [⟨car, (Quad.same false).set u true, deadline⟩] }))).bu.cycle =
          some { c with holds := hs ++ [⟨car, (Quad.same false).set u true, deadline⟩] } := congrArg BerthUnit.cycle one.bu
      rw [now]
      exact set.trans one

/-- The cycle once its warning `n` has ended. -/
def CloseCycle.warned (c : CloseCycle) (n : Nat) : CloseCycle :=
  { c with warnings := endWarning c.warnings n, members := waitMembers n c.members }

/-- The own holds formed as warning `n` ends, by the units found busy. -/
theorem endCycleWarning_formed (c : CloseCycle) (n : Nat) (s : State) :
    HoldsFormed (c.warned n) (FoundBusy s c n) (s.setCycle (some (c.warned n))) UnitNo.all (endCycleWarning c n s) := by
  refine forUnits_induction (P := fun l x => HoldsFormed (c.warned n) (FoundBusy s c n) (s.setCycle (some (c.warned n))) l x)
    (f := fun u x => if c.endsUnder n u then formHold (s.deadline (warningAt c.warnings n)) u x else x) (HoldsFormed.refl rfl) fun l x u formed _ => ?_
  obtain ⟨hs, stands, -⟩ := formed.cycle
  have busy : x.findsBusy u = s.findsBusy u := findsBusy_congr formed.same.ae formed.same.dc formed.same.su u
  have car : x.car u = s.car u := car_congr formed.same.ae u
  have max : x.cl.config.params.holdMax = s.cl.config.params.holdMax := by
    rw [formed.same.cl]
    rfl
  rcases under : c.endsUnder n u with _ | _
  · rw [if_neg Bool.false_ne_true]
    exact formed.pass fun k b => absurd (under.symm.trans b.1) Bool.false_ne_true
  · rw [if_pos rfl]
    unfold formHold
    rw [stands, car, busy, max]
    rcases at_ : s.car u with _ | k
    · exact formed.pass fun k b => by
        obtain ⟨-, -, -, car⟩ := b
        rw [at_] at car
        cases car
    · dsimp only
      by_cases due : (s.findsBusy u && decide (0 < s.cl.config.params.holdMax)) = true
      · rw [if_pos due]
        rw [Bool.and_eq_true, decide_eq_true_iff] at due
        refine formed.join stands ⟨under, due.1, due.2, at_⟩ fun k' b => ?_
        obtain ⟨-, -, -, car⟩ := b
        rw [at_] at car
        exact (Option.some.inj car).symm
      · rw [if_neg due]
        rw [Bool.and_eq_true, decide_eq_true_iff] at due
        exact formed.pass fun k b => due ⟨b.2.1, b.2.2.1⟩

theorem byte_car_inj {a b : Nat} (ha : a ≤ 10) (hb : b ≤ 10) (h : byte a = byte b) : a = b := by
  have e := congrArg BitVec.toNat h
  simp only [byte, BitVec.toNat_ofNat] at e
  omega

theorem holdStarts_count {seq : Byte} {cars : List Nat} {car : Nat} (distinct : cars.Nodup) (small : ∀ k ∈ cars, k ≤ 10) (h : car ≤ 10) :
    (holdStarts seq cars).count (.hold, [seq, 1, byte car]) = if car ∈ cars then 1 else 0 := by
  have alone : ∀ k ∈ cars, (FrameKind.hold, [seq, 1, byte k]) = (FrameKind.hold, [seq, 1, byte car]) ↔ k = car := fun k m => by
    refine ⟨fun e => byte_car_inj (small k m) h ?_, fun e => by rw [e]⟩
    simpa using e
  have same : (holdStarts seq cars).count (.hold, [seq, 1, byte car]) = cars.count car := by
    rw [holdStarts, List.count, List.countP_map, List.count]
    refine List.countP_congr fun k m => ?_
    rw [Function.comp, beq_iff_eq, beq_iff_eq]
    exact alone k m
  rw [same]
  split
  · next m => exact List.count_eq_one_of_mem distinct m
  · next n => exact List.count_eq_zero.2 n

theorem endsUnder_iff {c : CloseCycle} {n : Nat} : c.endsUnder n u = true ↔ c.members.get u = some ⟨n, .underWarning⟩ := by
  unfold CloseCycle.endsUnder
  rcases c.members.get u with _ | ⟨w, status⟩
  · exact ⟨fun e => (nomatch e), fun e => nomatch e⟩
  · dsimp only
    rw [Bool.and_eq_true, beq_iff_eq, beq_iff_eq]
    simp

theorem exec_closeCycleWarningEnd {c : CloseCycle} {n : Nat} (loaded : s.loaded = true) (stands : s.bu.cycle = some c)
    (first : firstRunning c.warnings = some n) :
    Sys2Proof.Machine.exec .closeCycleWarningEnd s =
      .next (settle (s.reach (warningAt c.warnings n).stop) (endCycleWarning c n (s.reach (warningAt c.warnings n).stop))) := by
  show Host.Outcome.next (match s.bu.cycle with
    | none => s
    | some c =>
      match firstRunning c.warnings with
      | none => s
      | some i =>
        let s' := s.reach (warningAt c.warnings i).stop
        if s.loaded then settle s' (endCycleWarning c i s') else s) = _
  rw [stands]
  dsimp only
  rw [first]
  dsimp only
  rw [if_pos loaded]

/-- The HOLD STARTs at the end of a warning. -/
theorem holdsStarted {c : CloseCycle} {n : Nat} (e : Time) (room : s.lc.queue.length ≤ 12) (small : ∀ u k, s.car u = some k → k ≤ 10) :
    (s.cl.config.params.holdMax = 0 → (endCycleWarning c n (s.reach e)).lc.queue = s.lc.queue) ∧
      (0 < s.cl.config.params.holdMax → ∀ car, car ≤ 10 →
        (endCycleWarning c n (s.reach e)).frames .hold [s.seq, 1, byte car] = s.frames .hold [s.seq, 1, byte car] +
            if (c.holdFor car).isNone && UnitNo.all.any fun u =>
                c.members.get u == some ⟨n, .underWarning⟩ && s.findsBusy u && s.car u == some car then 1
            else 0) := by
  have same := reached_of e s
  obtain ⟨cars, frames, distinct, few, which⟩ := (endCycleWarning_formed c n (s.reach e)).sent
  have busy : ∀ u k, FoundBusy (s.reach e) c n u k ↔ FoundBusy s c n u k := fun u k => by
    unfold FoundBusy
    rw [findsBusy_congr (reach_ae e s) same.dc same.su, car_congr (reach_ae e s), same.cl]
  have queue : ((s.reach e).setCycle (some (c.warned n))).lc.queue = s.lc.queue := congrArg LineController.queue (reach_lc ..)
  refine ⟨fun none => ?_, fun some_ car within => ?_⟩
  · have empty : cars = [] := List.eq_nil_iff_forall_not_mem.2 fun k m => by
      obtain ⟨-, u, -, b⟩ := (which k).1 m
      obtain ⟨-, -, max, -⟩ := (busy u k).1 b
      omega
    rw [empty] at frames
    exact (show (endCycleWarning c n (s.reach e)).lc.queue = ((s.reach e).setCycle (some (c.warned n))).lc.queue from frames).trans queue
  · have limits : ∀ k ∈ cars, k ≤ 10 := fun k m => by
      obtain ⟨-, u, -, b⟩ := (which k).1 m
      exact small u k ((busy u k).1 b).2.2.2
    have count := frames.frames_room (k := .hold) (p := [s.seq, 1, byte car]) (by
      rw [queue, holdStarts, List.length_map]
      have four : UnitNo.all.length = 4 := rfl
      omega) fun e => nomatch e
    rw [show ((s.reach e).setCycle (some (c.warned n))).seq = s.seq from same.seq, holdStarts_count distinct limits within] at count
    rw [count, frames_eq, queue, ← frames_eq]
    congr 1
    refine if_congr ?_ rfl rfl
    rw [which, Bool.and_eq_true, Option.isNone_iff_eq_none, ← Option.not_isSome_iff_eq_none, holdFor_isSome, UnitNo.all_any]
    refine and_congr_right fun _ => exists_congr fun u => ?_
    rw [busy, FoundBusy, endsUnder_iff, Bool.and_eq_true, Bool.and_eq_true, beq_iff_eq, beq_iff_eq]
    exact ⟨fun ⟨_, a, b, _, d⟩ => ⟨⟨a, b⟩, d⟩, fun ⟨⟨a, b⟩, d⟩ => ⟨mem_units u, a, b, some_, d⟩⟩

/-- Settles O32: a HOLD moves the list it is given, and the units found busy as a warning ends form the own holds one by one. -/
theorem holdsListed : Obligations.HoldsListed := by
  unfold Obligations.HoldsListed
  refine ⟨fun src seq car s room => ⟨fun accepted => ?start, fun accepted => ?end_⟩, fun s s' c n loaded stands first reached small cars => ?holds⟩
  case start =>
    have exec : Sys2Proof.Machine.exec (.holdStart src seq car) s =
        .next (settle s (onHold src seq (holdStartList src car.toNat) (noteActivity src false s))) :=
      congrArg Host.Outcome.next (onFrameSettling_of_acceptedRunning accepted (onHold src seq (holdStartList src car.toNat)))
    obtain ⟨taken, counted⟩ := hold_settled (s := s) (src := src) (seq := seq) (holdStartList src car.toNat) room
    refine ⟨fun same live => ⟨_, exec, ?_⟩, fun other => ⟨_, exec, counted other⟩⟩
    rw [taken same live, holdStartList_eq]
    exact settle_ends _ _
  case end_ =>
    have exec : Sys2Proof.Machine.exec (.holdEnd src seq car) s =
        .next (settle s (onHold src seq (holdEndList src car.toNat) (noteActivity src false s))) :=
      congrArg Host.Outcome.next (onFrameSettling_of_acceptedRunning accepted (onHold src seq (holdEndList src car.toNat)))
    obtain ⟨taken, counted⟩ := hold_settled (s := s) (src := src) (seq := seq) (holdEndList src car.toNat) room
    refine ⟨fun same live => ⟨_, exec, ?_⟩, fun other => ⟨_, exec, counted other⟩⟩
    rw [taken same live]
    exact settle_ends _ _
  case holds =>
    subst reached
    exact ⟨_, exec_closeCycleWarningEnd loaded stands first, rfl, holdsStarted _ small cars⟩

end Sys2Proof.Machine

/-! O49: the closing speeds. -/

namespace Sys2Proof.Machine

/-! ### The energy cap (R126) -/

/-- `r` is the integer square root of `x`. -/
def RootOf (x r : Nat) : Prop := r * r ≤ x ∧ x < (r + 1) * (r + 1)

theorem isqrtBits_rootOf {x : Nat} : ∀ {n acc : Nat}, acc * acc ≤ x → x < (acc + 2 ^ n) * (acc + 2 ^ n) → RootOf x (isqrtBits x n acc)
  | 0, _, low, high => ⟨low, high⟩
  | n + 1, acc, low, high => by
    unfold isqrtBits
    split
    · next fits =>
      refine isqrtBits_rootOf fits ?_
      rwa [Nat.add_assoc, ← Nat.mul_two, ← Nat.pow_succ]
    · next large => exact isqrtBits_rootOf low (Nat.lt_of_not_le large)

theorem isqrt_rootOf {x : Nat} (small : x < 2 ^ 32) : RootOf x (isqrt x) :=
  isqrtBits_rootOf (Nat.zero_le _) (by omega)

theorem energyCap_bounds {energy mass : Nat} (heavy : 0 < mass) (small : 2000000 * energy / mass < 2 ^ 32) :
    mass * (energyCap energy mass * energyCap energy mass) ≤ 2000000 * energy ∧
      2000000 * energy < mass * ((energyCap energy mass + 1) * (energyCap energy mass + 1)) := by
  obtain ⟨low, high⟩ := isqrt_rootOf small
  rw [Nat.le_div_iff_mul_le heavy] at low
  rw [Nat.div_lt_iff_lt_mul heavy] at high
  exact ⟨(Nat.mul_comm ..).trans_le low, high.trans_eq (Nat.mul_comm ..)⟩

/-! ### The cruise of an attempt (R126) -/

theorem attemptFactor_le (n : Nat) : attemptFactor n ≤ 4 := by
  unfold attemptFactor
  split
  · exact Nat.le_refl _
  · split <;> decide

theorem attemptFactor_antitone (n : Nat) : attemptFactor (n + 1) ≤ attemptFactor n := by
  unfold attemptFactor
  split_ifs <;> omega

theorem cruise_le_capped (energy : Option Nat) (g : UnitGeometry) (n : Nat) :
    cappedCruise energy g * attemptFactor n / 4 ≤ cappedCruise energy g := by
  have := Nat.mul_le_mul_left (cappedCruise energy g) (attemptFactor_le n)
  omega

/-- A cruise above the creep speed stays under every cap. -/
theorem closingCruise_le_capped {energy : Option Nat} {g : UnitGeometry} {n : Nat} (above : g.profile.creep < closingCruise energy g n) :
    closingCruise energy g n ≤ cappedCruise energy g := by
  have := cruise_le_capped energy g n
  unfold closingCruise at *
  omega

theorem closingCruise_antitone (energy : Option Nat) (g : UnitGeometry) (n : Nat) :
    closingCruise energy g (n + 1) ≤ closingCruise energy g n :=
  max_le_max_left _ (Nat.div_le_div_right (Nat.mul_le_mul_left _ (attemptFactor_antitone n)))

theorem closingCruise_first (energy : Option Nat) (g : UnitGeometry) :
    closingCruise energy g 1 = max g.profile.creep (cappedCruise energy g) := by
  show max g.profile.creep (cappedCruise energy g * 4 / 4) = _
  rw [Nat.mul_div_cancel _ (by decide)]

theorem closingCruise_later (energy : Option Nat) (g : UnitGeometry) {n : Nat} (h : 3 ≤ n) :
    closingCruise energy g n = max g.profile.creep (cappedCruise energy g * 2 / 4) := by
  have factor : attemptFactor n = 2 := by
    unfold attemptFactor
    rw [if_neg (by omega), if_neg (by omega)]
  rw [closingCruise, factor]

/-! ### The phases of a driven period (R124) -/

section
variable {p : Profile} {cruise remaining v : Int} {phase : MotionPhase}

theorem nextMotion_back (back : v < 0) : nextMotion p cruise remaining .accelerate v = (.accelerate, min (v + speedStep p) cruise) :=
  if_pos back

/-- A driven period that has reached the creep distance. -/
theorem nextMotion_near (h : phase = .accelerate ∧ 0 ≤ v ∨ phase = .cruise) (near : remaining ≤ p.creepDistance) :
    nextMotion p cruise remaining phase v = (.creep, (p.creep : Int)) := by
  obtain ⟨rfl, forth⟩ | rfl := h
  · exact (if_neg (Int.not_lt.2 forth)).trans (if_pos near)
  · exact if_pos near

/-- A driven period within the braking point. -/
theorem nextMotion_braking (h : phase = .accelerate ∧ 0 ≤ v ∨ phase = .cruise) (far : p.creepDistance < remaining)
    (within_ : remaining ≤ brakingPoint p v) : nextMotion p cruise remaining phase v = brakeStep p v := by
  obtain ⟨rfl, forth⟩ | rfl := h
  · exact (if_neg (Int.not_lt.2 forth)).trans ((if_neg (Int.not_le.2 far)).trans (if_pos within_))
  · exact (if_neg (Int.not_le.2 far)).trans (if_pos within_)

/-- A driven period before the braking point. -/
theorem nextMotion_free (h : phase = .accelerate ∧ 0 ≤ v ∨ phase = .cruise) (far : p.creepDistance < remaining)
    (before : brakingPoint p v < remaining) :
    nextMotion p cruise remaining phase v =
      if phase = .accelerate ∧ v + speedStep p < cruise then (.accelerate, v + speedStep p) else (.cruise, cruise) := by
  obtain ⟨rfl, forth⟩ | rfl := h
  · refine ((if_neg (Int.not_lt.2 forth)).trans ((if_neg (Int.not_le.2 far)).trans (if_neg (Int.not_le.2 before)))).trans ?_
    by_cases slow : v + speedStep p < cruise
    · rw [if_pos ⟨rfl, slow⟩, min_eq_left slow.le]
      exact congrArg (·, v + speedStep p) (if_neg slow.ne)
    · rw [if_neg fun e => slow e.2, min_eq_right (Int.not_lt.1 slow)]
      exact congrArg (·, cruise) (if_pos rfl)
  · rw [if_neg fun e => nomatch e.1]
    exact (if_neg (Int.not_le.2 far)).trans (if_neg (Int.not_le.2 before))

/-- Braking brings the speed down, and no lower than the creep speed. -/
theorem brakeStep_speed : (brakeStep p v).2 = max (v - speedStep p) p.creep := rfl

theorem speedStep_nonneg (p : Profile) : 0 ≤ speedStep p := Int.ediv_nonneg (Int.natCast_nonneg _) (by decide)

/-- The next speed of a driven period stands between 0 and the cruise. -/
theorem nextMotion_bounds (creep : (p.creep : Int) ≤ cruise) (forth : 0 ≤ v) (slow : v ≤ cruise) :
    0 ≤ (nextMotion p cruise remaining phase v).2 ∧ (nextMotion p cruise remaining phase v).2 ≤ cruise := by
  have step := speedStep_nonneg p
  have creeping : 0 ≤ (p.creep : Int) := Int.natCast_nonneg _
  have braked : 0 ≤ (brakeStep p v).2 ∧ (brakeStep p v).2 ≤ cruise := by
    rw [brakeStep_speed]
    omega
  have driven (h : phase = .accelerate ∧ 0 ≤ v ∨ phase = .cruise) :
      0 ≤ (nextMotion p cruise remaining phase v).2 ∧ (nextMotion p cruise remaining phase v).2 ≤ cruise := by
    rcases lt_or_ge (p.creepDistance : Int) remaining with far | near
    · rcases lt_or_ge (brakingPoint p v) remaining with before | within_
      · rw [nextMotion_free h far before]
        split
        · next e => exact ⟨by omega, e.2.le⟩
        · exact ⟨forth.trans slow, le_refl _⟩
      · rw [nextMotion_braking h far within_]
        exact braked
    · rw [nextMotion_near h near]
      exact ⟨creeping, creep⟩
  cases phase with
  | accelerate => exact driven (.inl ⟨rfl, forth⟩)
  | cruise => exact driven (.inr rfl)
  | brake => exact braked
  | creep => exact ⟨creeping, creep⟩
  | pause => exact ⟨le_refl _, forth.trans slow⟩
  | hold => exact ⟨le_refl _, forth.trans slow⟩

/-- A movement that starts within the braking point begins at the creep speed. -/
theorem nextMotion_short (h : remaining ≤ p.creepDistance ∨ remaining ≤ brakingPoint p 0) :
    nextMotion p cruise remaining .accelerate 0 = (.creep, (p.creep : Int)) := by
  rcases lt_or_ge (p.creepDistance : Int) remaining with far | near
  · have least : max ((0 : Int) - speedStep p) p.creep = p.creep := by
      have := speedStep_nonneg p
      omega
    rw [nextMotion_braking (.inl ⟨rfl, le_refl _⟩) far (h.resolve_left (Int.not_le.2 far)), brakeStep, least, if_pos rfl]
  · exact nextMotion_near (.inl ⟨rfl, le_refl _⟩) near

end

/-- Settles O49: the root by bits, the factors of the attempts, and the phases one by one. -/
theorem closingSpeeds : Obligations.ClosingSpeeds := by
  unfold Obligations.ClosingSpeeds
  refine ⟨fun _ _ heavy small => energyCap_bounds heavy small, fun energy g c capped => ?_, fun energy n g heavy small above => ?_,
    fun energy n g => ⟨le_max_left _ _, closingCruise_antitone energy g n⟩,
    fun p cruise remaining v phase creep forth slow => nextMotion_bounds creep forth slow,
    fun p cruise remaining v step braking slower stepped point slowed => ?_⟩
  · have capped : c = cappedCruise energy g := capped.trans (by cases energy <;> rfl)
    rw [capped]
    exact ⟨closingCruise_first energy g, rfl, fun n h => closingCruise_later energy g h⟩
  · have cap : cappedCruise (some energy) g = min (min g.profile.closeCruise (energyCap energy g.mass)) 800 := rfl
    have under := closingCruise_le_capped above
    have slow : closingCruise (some energy) g n ≤ energyCap energy g.mass := by omega
    exact ⟨(Nat.mul_le_mul_left _ (Nat.mul_le_mul slow slow)).trans (energyCap_bounds heavy small).1, by omega, by omega⟩
  · have stepped : step = speedStep p := stepped
    have point : braking = brakingPoint p v := point
    subst stepped point slowed
    refine ⟨fun phase h => ⟨nextMotion_near h, nextMotion_braking h, nextMotion_free h⟩, nextMotion_back, rfl, rfl, rfl, rfl, fun still h => ?_⟩
    subst still
    exact nextMotion_short h

end Sys2Proof.Machine

/-! O35: the weighted median, the fused stop and the verdict. -/

namespace Sys2Proof.Machine

/-! ### The weighted median (R106) -/

theorem smallest_eq_min? : ∀ l : List Nat, smallest l = l.min?
  | [] => rfl
  | x :: l => by
    unfold smallest
    rw [smallest_eq_min? l, List.min?_cons]
    cases l.min? <;> rfl

/-- A sample's stop at which twice the running weight reaches the total. -/
def Reaches (l : List Sample) (m : Nat) : Prop := (∃ y ∈ l, y.stop = m) ∧ totalWeight l ≤ 2 * runningWeight l m

theorem mem_reaching {l : List Sample} {m : Nat} :
    m ∈ (l.filter fun x => decide (totalWeight l ≤ 2 * runningWeight l x.stop)).map Sample.stop ↔ Reaches l m := by
  simp only [List.mem_map, List.mem_filter, decide_eq_true_eq]
  exact ⟨fun ⟨y, ⟨held, reached⟩, stop⟩ => ⟨⟨y, held, stop⟩, stop ▸ reached⟩,
    fun ⟨⟨y, held, stop⟩, reached⟩ => ⟨y, ⟨held, stop ▸ reached⟩, stop⟩⟩

/-- The median found is the weighted median, and the only one. -/
theorem median_eq_some {l : List Sample} {m : Nat} : median l = some m ↔ WeightedMedian l m := by
  unfold median WeightedMedian
  rw [smallest_eq_min?, List.min?_eq_some_iff, mem_reaching]
  refine ⟨fun ⟨⟨at_, reached⟩, least⟩ => ⟨at_, reached, fun y held below => ?_⟩, fun ⟨at_, reached, before⟩ => ⟨⟨at_, reached⟩, fun k hk => ?_⟩⟩
  · by_contra enough
    exact Nat.not_le.2 below (least _ (mem_reaching.2 ⟨⟨y, held, rfl⟩, Nat.le_of_not_lt enough⟩))
  · obtain ⟨⟨y, held, rfl⟩, enough⟩ := mem_reaching.1 hk
    by_contra below
    exact Nat.not_lt.2 enough (before y held (Nat.lt_of_not_le below))

theorem retained_of_median {l : List Sample} {m : Nat} (h : WeightedMedian l m) :
    retained l = l.filter fun y => decide (((y.stop : Int) - m).natAbs ≤ 150) := by
  unfold retained
  rw [median_eq_some.2 h]

/-- Where something is retained, it stands within 150 mm of the median. -/
theorem retained_within {l : List Sample} (some_ : 0 < totalWeight (retained l)) :
    ∃ m, WeightedMedian l m ∧ ∀ y ∈ retained l, y ∈ l ∧ y.stop ≤ m + 150 ∧ m ≤ y.stop + 150 := by
  rcases found : median l with _ | m
  · have empty : retained l = [] := by
      unfold retained
      rw [found]
    rw [empty] at some_
    exact absurd some_ (Nat.lt_irrefl 0)
  · have median := median_eq_some.1 found
    refine ⟨m, median, fun y held => ?_⟩
    rw [retained_of_median median, List.mem_filter, decide_eq_true_iff] at held
    exact ⟨held.1, by omega, by omega⟩

/-! ### The fused stop (R107) -/

/-- The stops of a set, each as often as it weighs. -/
def weighedStops (r : List Sample) : Nat := (r.map fun y => y.weight * y.stop).sum

theorem weighedStops_ge {low : Nat} : ∀ {r : List Sample}, (∀ y ∈ r, low ≤ y.stop) → totalWeight r * low ≤ weighedStops r
  | [], _ => (Nat.zero_mul low).le
  | y :: r, h => by
    have rest := weighedStops_ge fun z held => h z (List.mem_cons_of_mem y held)
    have first := Nat.mul_le_mul_left y.weight (h y List.mem_cons_self)
    simp only [totalWeight, weighedStops, List.map_cons, List.sum_cons, Nat.add_mul] at rest ⊢
    exact Nat.add_le_add first rest

theorem weighedStops_le {high : Nat} : ∀ {r : List Sample}, (∀ y ∈ r, y.stop ≤ high) → weighedStops r ≤ totalWeight r * high
  | [], _ => (Nat.zero_mul high).ge
  | y :: r, h => by
    have rest := weighedStops_le fun z held => h z (List.mem_cons_of_mem y held)
    have first := Nat.mul_le_mul_left y.weight (h y List.mem_cons_self)
    simp only [totalWeight, weighedStops, List.map_cons, List.sum_cons, Nat.add_mul] at rest ⊢
    exact Nat.add_le_add first rest

theorem fusedStop_ge {r : List Sample} {low : Nat} (some_ : 0 < totalWeight r) (h : ∀ y ∈ r, low ≤ y.stop) : low ≤ fusedStop r := by
  have weighed := weighedStops_ge h
  unfold weighedStops at weighed
  unfold fusedStop
  rw [Nat.le_div_iff_mul_le (by omega)]
  calc low * (2 * totalWeight r) = 2 * (totalWeight r * low) := by ring
    _ ≤ _ := by omega

theorem fusedStop_le {r : List Sample} {high : Nat} (some_ : 0 < totalWeight r) (h : ∀ y ∈ r, y.stop ≤ high) : fusedStop r ≤ high := by
  have weighed := weighedStops_le h
  unfold weighedStops at weighed
  unfold fusedStop
  rw [← Nat.lt_add_one_iff, Nat.div_lt_iff_lt_mul (by omega)]
  calc _ < 2 * (totalWeight r * high) + 2 * totalWeight r := by omega
    _ = _ := by ring

/-- The fused stop lies between two of the stops it is the mean of. -/
theorem fusedStop_between {r : List Sample} (some_ : 0 < totalWeight r) :
    (∃ y ∈ r, y.stop ≤ fusedStop r) ∧ ∃ y ∈ r, fusedStop r ≤ y.stop := by
  constructor
  · by_contra above
    have := fusedStop_ge (low := fusedStop r + 1) some_ fun y held => Nat.lt_of_not_le fun e => above ⟨y, held, e⟩
    omega
  · by_contra below
    have beneath (y) (held : y ∈ r) : y.stop < fusedStop r := Nat.lt_of_not_le fun e => below ⟨y, held, e⟩
    have := fusedStop_le (high := fusedStop r - 1) some_ fun y held => by have := beneath y held; omega
    obtain ⟨y, held⟩ : ∃ y, y ∈ r := List.exists_mem_of_ne_nil r fun e => by
      rw [e] at some_
      exact Nat.lt_irrefl 0 some_
    have := beneath y held
    omega

/-! ### The verdict (R108) -/

section
variable {l : List Sample} {own : Node} {s0 tol : Nat}

theorem computeFix_eq (l : List Sample) (own : Node) (s0 tol : Nat) :
    computeFix l own s0 tol =
      if totalWeight (retained l) < 3 then ⟨.unaligned, none, none⟩
      else if tol < ((fusedStop (retained l) : Int) - s0).natAbs then ⟨.outOfTolerance, some (fusedStop (retained l)), none⟩
      else if 8 ≤ totalWeight (retained l) ∧ (∃ y ∈ retained l, y.source = own) ∧ ∃ y ∈ retained l, y.source ≠ own then
        ⟨.aligned, some (fusedStop (retained l)), some 40⟩
      else ⟨.degraded, some (fusedStop (retained l)), some 120⟩ := by
  unfold computeFix
  simp only [Bool.and_eq_true, decide_eq_true_eq, List.any_eq_true, beq_iff_eq, bne_iff_ne, and_assoc]

theorem computeFix_light (light : totalWeight (retained l) < 3) : computeFix l own s0 tol = ⟨.unaligned, none, none⟩ := by
  rw [computeFix_eq, if_pos light]

theorem computeFix_far (heavy : 3 ≤ totalWeight (retained l)) (far : tol < ((fusedStop (retained l) : Int) - s0).natAbs) :
    computeFix l own s0 tol = ⟨.outOfTolerance, some (fusedStop (retained l)), none⟩ := by
  rw [computeFix_eq, if_neg (Nat.not_lt.2 heavy), if_pos far]

/-- A fix near enough to the berth's stop opens units, aligned or degraded. -/
theorem computeFix_near (heavy : 3 ≤ totalWeight (retained l)) (near : ¬tol < ((fusedStop (retained l) : Int) - s0).natAbs) :
    computeFix l own s0 tol =
      if 8 ≤ totalWeight (retained l) ∧ (∃ y ∈ retained l, y.source = own) ∧ ∃ y ∈ retained l, y.source ≠ own then
        ⟨.aligned, some (fusedStop (retained l)), some 40⟩
      else ⟨.degraded, some (fusedStop (retained l)), some 120⟩ := by
  rw [computeFix_eq, if_neg (Nat.not_lt.2 heavy), if_neg near]

/-- A fused stop is the mean of a retained set of weight 3 or more. -/
theorem computeFix_sHat {x : Nat} (h : (computeFix l own s0 tol).sHat = some x) :
    3 ≤ totalWeight (retained l) ∧ x = fusedStop (retained l) := by
  rcases Nat.lt_or_ge (totalWeight (retained l)) 3 with light | heavy
  · rw [computeFix_light light] at h
    cases h
  · refine ⟨heavy, ?_⟩
    by_cases far : tol < ((fusedStop (retained l) : Int) - s0).natAbs
    · rw [computeFix_far heavy far] at h
      exact (Option.some.inj h).symm
    · rw [computeFix_near heavy far] at h
      split at h <;> exact (Option.some.inj h).symm

theorem computeFix_unaligned : (computeFix l own s0 tol).verdict = .unaligned ↔ totalWeight (retained l) < 3 := by
  refine ⟨fun h => ?_, fun light => by rw [computeFix_light light]⟩
  by_contra heavy
  have heavy := Nat.le_of_not_lt heavy
  by_cases far : tol < ((fusedStop (retained l) : Int) - s0).natAbs
  · rw [computeFix_far heavy far] at h
    cases h
  · rw [computeFix_near heavy far] at h
    split at h <;> cases h

/-- What a verdict that opens units rests on. -/
theorem computeFix_opens (h : (computeFix l own s0 tol).verdict.opens = true) :
    3 ≤ totalWeight (retained l) ∧ ¬tol < ((fusedStop (retained l) : Int) - s0).natAbs := by
  rcases Nat.lt_or_ge (totalWeight (retained l)) 3 with light | heavy
  · rw [computeFix_light light] at h
    cases h
  · refine ⟨heavy, fun far => ?_⟩
    rw [computeFix_far heavy far] at h
    cases h

end

/-- Settles O35: the median is the smallest stop that reaches, the mean stands between its terms, and the tests follow in order. -/
theorem fusedStopBounds : Obligations.FusedStopBounds := by
  unfold Obligations.FusedStopBounds
  refine fun l own s0 tol => ⟨fun x h => ?_, fun h => ?_, computeFix_unaligned, fun empty => by rw [empty]; rfl, fun m x r median set mean => ?_⟩
  · obtain ⟨heavy, rfl⟩ := computeFix_sHat h
    have some_ : 0 < totalWeight (retained l) := by omega
    obtain ⟨m, median, within_⟩ := retained_within some_
    have low := fusedStop_ge (low := m - 150) some_ fun y held => by have := within_ y held; omega
    have high := fusedStop_le some_ fun y held => (within_ y held).2.1
    obtain ⟨⟨y, held, below⟩, z, member, above⟩ := fusedStop_between some_
    exact ⟨m, median, high, by omega, ⟨y, (within_ y held).1, below⟩, z, (within_ z member).1, above⟩
  · obtain ⟨heavy, near⟩ := computeFix_opens h
    refine ⟨fusedStop (retained l), ?_, by omega, by omega, heavy, ?_⟩
    · rw [computeFix_near heavy near]
      split <;> rfl
    · rw [computeFix_near heavy near]
      split
      · next e => exact .inl ⟨rfl, rfl, e⟩
      · exact .inr ⟨rfl, rfl⟩
  · subst set mean
    rw [← retained_of_median median]
    exact computeFix_eq ..

end Sys2Proof.Machine

/-! O36: the matched train door and the Door Service Map's entries. -/

namespace Sys2Proof.Machine
variable {u : UnitNo} {s : State}

/-! ### The first of the least -/

section
variable {α : Type} {f : α → Int} {g : α → Nat}

theorem pickLeast_cons_isSome (x : α) (l : List α) : ∃ y, pickLeast f (x :: l) = some y := by
  unfold pickLeast
  rcases pickLeast f l with _ | y
  · exact ⟨x, rfl⟩
  · dsimp only
    split
    · exact ⟨y, rfl⟩
    · exact ⟨x, rfl⟩

/-- `x` has the least value of `f` in `l`, and the least number `g` of those. -/
def LeastIn (f : α → Int) (g : α → Nat) (l : List α) (x : α) : Prop :=
  x ∈ l ∧ ∀ y ∈ l, f x ≤ f y ∧ (f y = f x → g x ≤ g y)

/-- In a list numbered in its order, what is picked is the one of least value with the least number. -/
theorem pickLeast_leastIn : ∀ {l : List α} {x : α}, l.Pairwise (fun a b => g a < g b) → pickLeast f l = some x → LeastIn f g l x
  | [], _, _, h => nomatch h
  | a :: l, x, ordered, h => by
    obtain ⟨first, ordered⟩ := List.pairwise_cons.1 ordered
    unfold pickLeast at h
    rcases rest : pickLeast f l with _ | y
    · rw [rest] at h
      obtain rfl := Option.some.inj h
      refine ⟨List.mem_cons_self, fun z m => ?_⟩
      rcases l with _ | ⟨b, l⟩
      · rw [List.mem_singleton.1 m]
        exact ⟨le_refl _, fun _ => le_refl _⟩
      · obtain ⟨y, found⟩ := pickLeast_cons_isSome (f := f) b l
        exact nomatch rest.symm.trans found
    · obtain ⟨held, least⟩ := pickLeast_leastIn ordered rest
      rw [rest] at h
      dsimp only at h
      split at h
      · next less =>
        obtain rfl := Option.some.inj h
        refine ⟨List.mem_cons_of_mem _ held, fun z m => ?_⟩
        rcases List.mem_cons.1 m with rfl | m
        · exact ⟨less.le, fun e => absurd (e ▸ less) (lt_irrefl _)⟩
        · exact least z m
      · next less =>
        obtain rfl := Option.some.inj h
        refine ⟨List.mem_cons_self, fun z m => ?_⟩
        rcases List.mem_cons.1 m with rfl | m
        · exact ⟨le_refl _, fun _ => le_refl _⟩
        · exact ⟨(Int.not_lt.1 less).trans (least z m).1, fun _ => (first z m).le⟩

/-- What has the least value with the least number is picked. -/
theorem pickLeast_of_leastIn {l : List α} {x : α} (ordered : l.Pairwise fun a b => g a < g b) (h : LeastIn f g l x) :
    pickLeast f l = some x := by
  obtain ⟨held, least⟩ := h
  obtain ⟨y, found⟩ : ∃ y, pickLeast f l = some y := by
    rcases l with _ | ⟨a, l⟩
    · cases held
    · exact pickLeast_cons_isSome a l
  obtain ⟨member, under⟩ := pickLeast_leastIn ordered found
  have value : f y = f x := le_antisymm (under x held).1 (least y member).1
  have number : g x = g y := le_antisymm ((least y member).2 value) ((under x held).2 value.symm)
  rw [found]
  have distinct : (l.map g).Nodup := List.pairwise_map.2 (ordered.imp Nat.ne_of_lt)
  rw [List.inj_on_of_nodup_map distinct member held number.symm]

end

/-! ### The train's doors -/

theorem trainDoors_ordered (s : State) : s.trainDoors.Pairwise fun a b => a.2 < b.2 := by
  unfold State.trainDoors
  rcases s.trainConsist with _ | c
  · exact List.Pairwise.nil
  · have numbers : ((c.doors.zipIdx 1).map Prod.snd).Pairwise (· < ·) := by
      rw [List.zipIdx_map_snd]
      exact List.pairwise_lt_range'
    exact List.pairwise_map.1 numbers

/-! ### The best door (R111) -/

theorem bestDoor_leastIn {sHat : Nat} {d : TrainDoor} {k : Nat} :
    LeastIn (fun e : TrainDoor × Nat => -overlap (s.cl.config.units.get u) sHat e.1) Prod.snd s.trainDoors (d, k) ↔
      BestDoor s sHat u d k := by
  refine and_congr_right fun _ => ⟨fun least d' k' m => ?_, fun best e m => ?_⟩
  · obtain ⟨value, number⟩ := least (d', k') m
    exact ⟨Int.neg_le_neg_iff.1 value, fun same => number (congrArg Neg.neg same)⟩
  · obtain ⟨value, number⟩ := best e.1 e.2 m
    exact ⟨Int.neg_le_neg_iff.2 value, fun same => number (Int.neg_inj.1 same)⟩

/-- The best door is found where it overlaps. -/
theorem bestDoor_eq_some {sHat : Nat} {d : TrainDoor} {k : Nat} :
    bestDoor (s.cl.config.units.get u) sHat s.trainDoors = some (d, k) ↔
      BestDoor s sHat u d k ∧ 0 < overlap (s.cl.config.units.get u) sHat d := by
  unfold bestDoor
  rw [Option.filter_eq_some_iff, decide_eq_true_iff, ← bestDoor_leastIn]
  exact and_congr_left fun _ => ⟨pickLeast_leastIn (trainDoors_ordered s), pickLeast_of_leastIn (trainDoors_ordered s)⟩

theorem bestDoor_eq_none {sHat : Nat} (apart : ∀ d k, (d, k) ∈ s.trainDoors → overlap (s.cl.config.units.get u) sHat d ≤ 0) :
    bestDoor (s.cl.config.units.get u) sHat s.trainDoors = none := by
  rcases found : bestDoor (s.cl.config.units.get u) sHat s.trainDoors with _ | ⟨d, k⟩
  · rfl
  · obtain ⟨⟨held, -⟩, overlaps⟩ := bestDoor_eq_some.1 found
    exact absurd (apart d k held) (Int.not_le.2 overlaps)

/-! ### The car (R14) -/

/-- The car a span search gives is the first whose span contains the chainage. -/
theorem findCar_iff {stop : Nat} {x : Int} : ∀ {l : List (Nat × Nat)} {n j : Nat},
    (l.zipIdx n).findSome? (fun ((front, rear), j) => if (stop : Int) - rear < x ∧ x ≤ (stop : Int) - front then some j else none) =
        some j ↔
      FirstAt (fun j => n ≤ j ∧ ∃ front rear, l[j - n]? = some (front, rear) ∧ (stop : Int) - rear < x ∧ x ≤ (stop : Int) - front) j
  | [], n, j => ⟨fun h => (nomatch h), fun ⟨⟨_, _, _, h, _⟩, _⟩ => nomatch h⟩
  | (front, rear) :: l, n, j => by
    rw [List.zipIdx_cons, List.findSome?_cons]
    dsimp only
    by_cases inside : (stop : Int) - rear < x ∧ x ≤ (stop : Int) - front
    · rw [if_pos inside]
      have here : n ≤ n ∧ ∃ a b, ((front, rear) :: l)[n - n]? = some (a, b) ∧ (stop : Int) - b < x ∧ x ≤ (stop : Int) - a :=
        ⟨le_refl _, front, rear, by rw [Nat.sub_self]; rfl, inside⟩
      refine ⟨fun h => ?_, fun ⟨⟨above, _⟩, none_before⟩ => ?_⟩
      · obtain rfl := Option.some.inj h
        exact ⟨here, fun k less at_ => Nat.not_le.2 less at_.1⟩
      · rcases Nat.lt_or_ge n j with less | least
        · exact absurd here (none_before n less)
        · rw [Nat.le_antisymm above least]
    · rw [if_neg inside]
      dsimp only
      rw [findCar_iff]
      have shift (k : Nat) :
          (n ≤ k ∧ ∃ a b, ((front, rear) :: l)[k - n]? = some (a, b) ∧ (stop : Int) - b < x ∧ x ≤ (stop : Int) - a) ↔
            n + 1 ≤ k ∧ ∃ a b, l[k - (n + 1)]? = some (a, b) ∧ (stop : Int) - b < x ∧ x ≤ (stop : Int) - a := by
        rcases Nat.lt_trichotomy k n with less | rfl | more
        · exact ⟨fun h => absurd h.1 (Nat.not_le.2 less), fun h => absurd h.1 (by omega)⟩
        · refine ⟨fun ⟨_, a, b, at_, span⟩ => ?_, fun h => absurd h.1 (by omega)⟩
          rw [Nat.sub_self] at at_
          obtain ⟨rfl, rfl⟩ := Prod.mk.inj (Option.some.inj at_)
          exact absurd span inside
        · rw [show k - n = k - (n + 1) + 1 by omega, List.getElem?_cons_succ]
          exact and_congr_left fun _ => ⟨fun _ => more, fun _ => more.le⟩
      unfold FirstAt
      simp only [shift]

theorem carAt_iff {c : Consist} {stop x j : Nat} : carAt c.lengths stop x = some j ↔ FirstAt (InCar c stop x) j := by
  have span (k : Nat) :
      (1 ≤ k ∧ ∃ front rear, (c.lengths.zip c.lengths.tail)[k - 1]? = some (front, rear) ∧ (stop : Int) - rear < x ∧ (x : Int) ≤ stop - front) ↔
        InCar c stop x k := by
    refine and_congr_right fun first => exists_congr fun front => exists_congr fun rear => ?_
    rw [List.getElem?_zip_eq_some, List.getElem?_tail, show k - 1 + 1 = k by omega, and_assoc]
  unfold carAt
  rw [findCar_iff]
  unfold FirstAt
  simp only [span]

/-! ### The entries (R110 to R113) -/

section
variable {sHat margin : Nat}

/-- The entry of a unit that a train door overlaps. -/
theorem placedEntry_matched {d : TrainDoor} {k : Nat} (best : BestDoor s sHat u d k)
    (overlaps : 0 < overlap (s.cl.config.units.get u) sHat d) :
    placedEntry s sHat margin u =
      { reason :=
          if s.unit u = .isolated then .unitIsolated
          else if s.unit u = .fault then .unitFault
          else if k ∈ s.bu.berth.isolated then .trainDoorIsolated
          else if overlap (s.cl.config.units.get u) sHat d - margin - (s.cl.config.units.get u).skew < s.cl.config.params.minClear then
            .partialWidth
          else .served
        door := some k, car := some d.car, overlap := some (overlap (s.cl.config.units.get u) sHat d)
        width := some (overlap (s.cl.config.units.get u) sHat d - margin - (s.cl.config.units.get u).skew) } := by
  unfold placedEntry
  dsimp only
  rw [bestDoor_eq_some.2 ⟨best, overlaps⟩]
  simp only [mapReason, List.contains_iff_mem]

/-- The entry of a unit that no train door overlaps. -/
theorem placedEntry_unmatched (apart : ∀ d k, (d, k) ∈ s.trainDoors → overlap (s.cl.config.units.get u) sHat d ≤ 0) :
    placedEntry s sHat margin u =
      { reason := if s.unit u = .isolated then .unitIsolated else if s.unit u = .fault then .unitFault else .noTrainDoor
        door := none, car := s.trainConsist.bind fun c => carAt c.lengths sHat (s.cl.config.units.get u).centre
        overlap := none, width := none } := by
  unfold placedEntry
  dsimp only
  rw [bestDoor_eq_none apart]
  rfl

/-- A SERVED entry is that of a unit some train door overlaps. -/
theorem placedEntry_served (h : (placedEntry s sHat margin u).reason = .served) :
    ∃ d k, BestDoor s sHat u d k ∧ 0 < overlap (s.cl.config.units.get u) sHat d := by
  rcases found : bestDoor (s.cl.config.units.get u) sHat s.trainDoors with _ | ⟨d, k⟩
  · unfold placedEntry at h
    dsimp only at h
    rw [found] at h
    simp only [mapReason] at h
    split_ifs at h
  · exact ⟨d, k, bestDoor_eq_some.1 found⟩

theorem mapEntry_closed {f : Fix} (h : f.verdict.opens = false) : mapEntry s f u = ⟨.verdict, none, none, none, none⟩ := by
  unfold mapEntry
  rw [h]

theorem mapEntry_opens {f : Fix} (h : f.verdict.opens = true) (fused : f.sHat = some sHat) (m : f.margin = some margin) :
    mapEntry s f u = placedEntry s sHat margin u := by
  unfold mapEntry
  rw [h, fused, m]

end

/-- Settles O36: the entry by whether a train door overlaps, and SERVED as the last of the reasons. -/
theorem servedMeans : Obligations.ServedMeans := by
  unfold Obligations.ServedMeans
  intro s sHat margin u g e minClear geometry entry clear
  subst geometry entry clear
  refine ⟨fun served => ?_, fun d k c o w best centre opening overlaps width => ?_, fun apart => ?_, fun f => ⟨mapEntry_closed, mapEntry_opens⟩⟩
  · obtain ⟨d, k, best, overlaps⟩ := placedEntry_served served
    rw [placedEntry_matched best overlaps] at served
    dsimp only at served
    split_ifs at served with isolated fault listed narrow
    refine ⟨isolated, fault, d, k, best, ?_, ?_, overlaps, listed, Int.not_lt.1 narrow⟩ <;> rw [placedEntry_matched best overlaps]
  · subst width opening centre
    exact placedEntry_matched best overlaps
  · rw [placedEntry_unmatched apart]
    refine ⟨rfl, fun j => ?_⟩
    rw [Option.bind_eq_some_iff]
    exact exists_congr fun c => and_congr_right fun _ => carAt_iff

end Sys2Proof.Machine

/-! O34: the runs of readings, the end of a search and its EDGE. -/

namespace Sys2Proof.Machine
variable {u : UnitNo} {s t : State} {a b : Int} {q : Nat}

/-! ### The matched door (R97) -/

theorem matchedDoor_leastIn {d : TrainDoor} {k : Nat} :
    LeastIn (fun e : TrainDoor × Nat => ((s.doorDistance u a b e.1 : Nat) : Int)) Prod.snd s.trainDoors (d, k) ↔ MatchedDoor s u a b d k := by
  refine and_congr_right fun _ => ⟨fun least d' k' m => ?_, fun best e m => ?_⟩
  · obtain ⟨near, number⟩ := least (d', k') m
    exact ⟨Int.ofNat_le.1 near, fun same => number (congrArg Nat.cast same)⟩
  · obtain ⟨near, number⟩ := best e.1 e.2 m
    exact ⟨Int.ofNat_le.2 near, fun same => number (Int.ofNat_inj.1 same)⟩

/-- What a stable reading comes to once its door is matched. -/
def State.sampleOf (s : State) (u : UnitNo) (a b : Int) (q : Nat) (d : TrainDoor) (k : Nat) : Except SearchOutcome (Sample × Nat) :=
  let quality := checkedQuality (b - a) d.halfWidth q
  let stop := s.observedCentre u a b + d.distance
  if s.cl.config.params.stopTol + 300 < s.doorDistance u a b d then .error .noMatch
  else if quality = 0 then .error .lowQuality
  else if stop < 0 ∨ 400000 < stop then .error .noMatch
  else .ok (⟨s.cl.own, u.val, k, stop.toNat, qualityWeight quality⟩, quality)

theorem deriveSample_picked : deriveSample s u a b q =
    match pickLeast (fun e : TrainDoor × Nat => ((s.doorDistance u a b e.1 : Nat) : Int)) s.trainDoors with
    | none => .error .noMatch
    | some e => s.sampleOf u a b q e.1 e.2 := by
  have tol (d : TrainDoor) : ((s.cl.config.params.stopTol : Int) + 300 < (s.doorDistance u a b d : Nat)) ↔
      s.cl.config.params.stopTol + 300 < s.doorDistance u a b d := by omega
  show (match pickLeast (fun e : TrainDoor × Nat => ((s.doorDistance u a b e.1 : Nat) : Int)) s.trainDoors with
    | none => Except.error SearchOutcome.noMatch
    | some e =>
      if (s.cl.config.params.stopTol : Int) + 300 < (s.doorDistance u a b e.1 : Nat) then .error .noMatch
      else if checkedQuality (b - a) e.1.halfWidth q = 0 then .error .lowQuality
      else if s.observedCentre u a b + e.1.distance < 0 ∨ 400000 < s.observedCentre u a b + e.1.distance then .error .noMatch
      else .ok ((⟨s.cl.own, u.val, e.2, (s.observedCentre u a b + e.1.distance).toNat,
        qualityWeight (checkedQuality (b - a) e.1.halfWidth q)⟩ : Sample), checkedQuality (b - a) e.1.halfWidth q)) = _
  rcases pickLeast (fun e : TrainDoor × Nat => ((s.doorDistance u a b e.1 : Nat) : Int)) s.trainDoors with _ | e
  · rfl
  · exact if_congr (tol e.1) rfl rfl

theorem deriveSample_noDoor (h : s.trainDoors = []) : deriveSample s u a b q = .error .noMatch := by
  rw [deriveSample_picked, h]
  rfl

theorem deriveSample_matched {d : TrainDoor} {k : Nat} (h : MatchedDoor s u a b d k) : deriveSample s u a b q = s.sampleOf u a b q d k := by
  rw [deriveSample_picked, pickLeast_of_leastIn (trainDoors_ordered s) (matchedDoor_leastIn.2 h)]

/-- A search that ends without a sample ends in NO_MATCH or LOW_QUALITY. -/
theorem sampleOf_cases (d : TrainDoor) (k : Nat) :
    s.sampleOf u a b q d k = .error .noMatch ∨ s.sampleOf u a b q d k = .error .lowQuality ∨
      ∃ x quality, s.sampleOf u a b q d k = .ok (x, quality) ∧ x.source = s.cl.own ∧ x.unit = u.val ∧ x.stop ≤ 400000 := by
  unfold State.sampleOf
  dsimp only
  split
  · exact .inl rfl
  · split
    · exact .inr (.inl rfl)
    · split
      · exact .inl rfl
      · exact .inr (.inr ⟨_, _, rfl, rfl, rfl, by show Int.toNat _ ≤ 400000; omega⟩)

theorem deriveSample_cases (s : State) (u : UnitNo) (a b : Int) (q : Nat) :
    deriveSample s u a b q = .error .noMatch ∨ deriveSample s u a b q = .error .lowQuality ∨
      ∃ x quality, deriveSample s u a b q = .ok (x, quality) ∧ x.source = s.cl.own ∧ x.unit = u.val ∧ x.stop ≤ 400000 := by
  rw [deriveSample_picked]
  rcases pickLeast (fun e : TrainDoor × Nat => ((s.doorDistance u a b e.1 : Nat) : Int)) s.trainDoors with _ | e
  · exact .inl rfl
  · exact sampleOf_cases e.1 e.2

section
variable {d : TrainDoor} {k : Nat}

theorem sampleOf_far (far : s.cl.config.params.stopTol + 300 < s.doorDistance u a b d) : s.sampleOf u a b q d k = .error .noMatch :=
  if_pos far

theorem sampleOf_low (near : s.doorDistance u a b d ≤ s.cl.config.params.stopTol + 300) (low : checkedQuality (b - a) d.halfWidth q = 0) :
    s.sampleOf u a b q d k = .error .lowQuality :=
  (if_neg (Nat.not_lt.2 near)).trans (if_pos low)

theorem sampleOf_off (near : s.doorDistance u a b d ≤ s.cl.config.params.stopTol + 300) (good : checkedQuality (b - a) d.halfWidth q ≠ 0)
    (off : s.observedCentre u a b + d.distance < 0 ∨ 400000 < s.observedCentre u a b + d.distance) :
    s.sampleOf u a b q d k = .error .noMatch :=
  (if_neg (Nat.not_lt.2 near)).trans ((if_neg good).trans (if_pos off))

theorem sampleOf_ok (near : s.doorDistance u a b d ≤ s.cl.config.params.stopTol + 300) (good : checkedQuality (b - a) d.halfWidth q ≠ 0)
    (on : ¬(s.observedCentre u a b + d.distance < 0 ∨ 400000 < s.observedCentre u a b + d.distance)) :
    s.sampleOf u a b q d k =
      .ok (⟨s.cl.own, u.val, k, (s.observedCentre u a b + d.distance).toNat, qualityWeight (checkedQuality (b - a) d.halfWidth q)⟩,
        checkedQuality (b - a) d.halfWidth q) :=
  (if_neg (Nat.not_lt.2 near)).trans ((if_neg good).trans (if_neg on))

end

/-- The readings that end a search without a sample. -/
theorem deriveSample_discards {o : SearchOutcome} (quality : 1 ≤ q)
    (h : (s.trainDoors = [] ∧ o = .noMatch) ∨
      ∃ d k, MatchedDoor s u a b d k ∧
        ((s.cl.config.params.stopTol + 300 < s.doorDistance u a b d ∧ o = .noMatch) ∨
          (s.doorDistance u a b d ≤ s.cl.config.params.stopTol + 300 ∧
            ((q = 1 ∧ 200 < (b - a - 2 * (d.halfWidth : Int)).natAbs ∧ o = .lowQuality) ∨
              ((q ≠ 1 ∨ (b - a - 2 * (d.halfWidth : Int)).natAbs ≤ 200) ∧
                (s.observedCentre u a b + d.distance < 0 ∨ 400000 < s.observedCentre u a b + d.distance) ∧ o = .noMatch))))) :
    deriveSample s u a b q = .error o := by
  rcases h with ⟨none, rfl⟩ | ⟨d, k, door, h⟩
  · exact deriveSample_noDoor none
  · rw [deriveSample_matched door]
    rcases h with ⟨far, rfl⟩ | ⟨near, ⟨low, wide, rfl⟩ | ⟨good, off, rfl⟩⟩
    · exact sampleOf_far far
    · refine sampleOf_low near ?_
      unfold checkedQuality
      split <;> omega
    · refine sampleOf_off near ?_ off
      unfold checkedQuality
      split <;> omega

/-! ### A reading's effect on the AE (R93) -/

/-- Unit `u`'s search stands with an outcome and a run, and the Sample Set as given. -/
def State.searched (s : State) (u : UnitNo) (samples : List Sample) (x : Search) : State :=
  { s with ae := { s.ae with samples := samples, searches := s.ae.searches.set u x } }

theorem takeReading_other {r : Option (Int × Int × Nat)} (h : (s.ae.searches.get u).outcome ≠ .seeking) : takeReading u r s = s :=
  if_pos (bne_iff_ne.2 h)

theorem setRun_seeking (h : (s.ae.searches.get u).outcome = .seeking) (run : List Int) :
    setRun u run s = s.searched u s.ae.samples ⟨.seeking, run⟩ := by
  rw [← h]
  rfl

theorem takeReading_seeking {r : Option (Int × Int × Nat)} (h : (s.ae.searches.get u).outcome = .seeking) :
    takeReading u r s =
      if s.unit u == .isolated || s.unit u == .fault then setRun u [] s
      else
        match r with
        | none => setRun u [] s
        | some (a, b, q) =>
          if stableRun (joinRun (s.ae.searches.get u).run (centreOffset a b)) then takeStable u a b q s
          else setRun u (joinRun (s.ae.searches.get u).run (centreOffset a b)) s :=
  if_neg fun e => bne_iff_ne.1 e h

theorem takeReading_empties {r : Option (Int × Int × Nat)} (h : (s.ae.searches.get u).outcome = .seeking)
    (none : r = none ∨ s.unit u = .isolated ∨ s.unit u = .fault) : takeReading u r s = s.searched u s.ae.samples ⟨.seeking, []⟩ := by
  rw [takeReading_seeking h, setRun_seeking h]
  rcases none with rfl | stands
  · exact ite_self _
  · exact if_pos (by simpa using stands)

theorem takeReading_inView (h : (s.ae.searches.get u).outcome = .seeking) (isolated : s.unit u ≠ .isolated) (fault : s.unit u ≠ .fault) :
    takeReading u (some (a, b, q)) s =
      if stableRun (joinRun (s.ae.searches.get u).run (centreOffset a b)) then takeStable u a b q s
      else s.searched u s.ae.samples ⟨.seeking, joinRun (s.ae.searches.get u).run (centreOffset a b)⟩ := by
  rw [takeReading_seeking h, ← setRun_seeking h]
  exact if_neg (by simp [isolated, fault])

/-! ### The end of a search (R97 to R101) -/

theorem takeStable_error {o : SearchOutcome} (h : deriveSample s u a b q = .error o) :
    takeStable u a b q s = s.searched u s.ae.samples ⟨o, []⟩ := by
  unfold takeStable
  rw [h]
  rfl

theorem takeStable_ok {x : Sample} {quality : Nat} (h : deriveSample s u a b q = .ok (x, quality)) :
    takeStable u a b q s =
      if s.pm.identityConflict then s.searched u (joinSample x s.ae.samples) ⟨.sampled, []⟩
      else sendEdge x quality (s.searched u (joinSample x s.ae.samples) ⟨.sampled, []⟩) := by
  unfold takeStable
  rw [h]
  rfl

theorem takeStable_sends {x : Sample} {quality : Nat} (h : deriveSample s u a b q = .ok (x, quality)) :
    Sends (s.searched u (joinSample x s.ae.samples) ⟨.sampled, []⟩) (takeStable u a b q s) := by
  rw [takeStable_ok h]
  split
  · exact Sends.refl _
  · exact enqueue_sends ..

/-- An entry joins a queue in class order behind those of its own kind, where its class is that kind's alone. -/
theorem filter_insertByClass_kind {e : TxEntry} {q : List TxEntry} (sorted : q.Pairwise fun a b => a.kind.cls ≤ b.kind.cls) :
    (insertByClass e q).filter (fun y => y.kind == e.kind) = (q.filter fun y => y.kind == e.kind) ++ [e] := by
  obtain ⟨l, r, rfl, -, above, place⟩ := insertByClass_split e sorted
  have none : r.filter (fun y => y.kind == e.kind) = [] := List.filter_eq_nil_iff.2 fun y m same => by
    have higher := above y m
    rw [beq_iff_eq.1 same] at higher
    exact Nat.lt_irrefl _ higher
  rw [place, List.filter_append, List.filter_append, List.filter_cons_of_pos (p := fun y : TxEntry => y.kind == e.kind) (beq_self_eq_true e.kind), none,
    List.append_nil]

/-- A search that ends: the outcome, the Sample Set, and the EDGE frames of the queue. -/
structure SearchEnded (u : UnitNo) (o : SearchOutcome) (samples : List Sample) (s t : State) : Prop where
  outcome : (t.ae.searches.get u).outcome = o
  set : t.ae.samples = samples
  ends : Ends (s.searched u samples ⟨o, []⟩) t

theorem SearchEnded.of_sends {o : SearchOutcome} {samples : List Sample} (h : Sends (s.searched u samples ⟨o, []⟩) t) :
    SearchEnded u o samples s t where
  outcome := by
    rw [h.ae]
    exact congrArg Search.outcome (Quad.get_set_self ..)
  set := congrArg AlignEngine.samples h.ae
  ends := h.ends

/-- The frame of a search's end, in the outcome and the set that it leaves. -/
theorem SearchEnded.frame {o : SearchOutcome} {samples : List Sample} (h : SearchEnded u o samples s t) :
    Ends (s.searched u t.ae.samples ⟨(t.ae.searches.get u).outcome, []⟩) t := by
  rw [h.outcome, h.set]
  exact h.ends

theorem stable_discarded {o : SearchOutcome} (h : deriveSample s u a b q = .error o) :
    SearchEnded u o s.ae.samples s (finish (takeStable u a b q s)) ∧
      (s.lc.queue.length < 15 →
        ((finish (takeStable u a b q s)).lc.queue.filter fun y => y.kind == .edge) = s.lc.queue.filter fun y => y.kind == .edge) := by
  rw [takeStable_error h]
  refine ⟨.of_sends (finish_sends _), fun room => ?_⟩
  exact finish_filter (s := s.searched u s.ae.samples ⟨o, []⟩) (by decide) (show s.lc.queue.length < 16 by omega)

theorem stable_sampled {x : Sample} {quality : Nat} (h : deriveSample s u a b q = .ok (x, quality)) :
    SearchEnded u .sampled (joinSample x s.ae.samples) s (finish (takeStable u a b q s)) ∧
      (QueueOk s.lc.queue → s.lc.queue.length < 15 →
        ((finish (takeStable u a b q s)).lc.queue.filter fun y => y.kind == .edge) =
          (s.lc.queue.filter fun y => y.kind == .edge) ++
            if s.pm.identityConflict then []
            else
              [newEntry .edge ([s.seq, nibbles (BitVec.ofNat 4 x.unit) (BitVec.ofNat 4 quality), byte x.door] ++
                bytes3 (BitVec.ofNat 24 x.stop))]) := by
  refine ⟨.of_sends ((takeStable_sends h).trans (finish_sends _)), fun ok room => ?_⟩
  rw [takeStable_ok h]
  split
  · rw [List.append_nil]
    exact finish_filter (s := s.searched u (joinSample x s.ae.samples) ⟨.sampled, []⟩) (by decide) (show s.lc.queue.length < 16 by omega)
  · obtain ⟨-, sorted, -⟩ := ok
    have joined : (sendEdge x quality (s.searched u (joinSample x s.ae.samples) ⟨.sampled, []⟩)).lc.queue =
        insertByClass (newEntry .edge ([s.seq, nibbles (BitVec.ofNat 4 x.unit) (BitVec.ofNat 4 quality), byte x.door] ++
          bytes3 (BitVec.ofNat 24 x.stop))) s.lc.queue :=
      congrArg (fun y : State => y.lc.queue)
        (enqueue_joins (k := .edge) (s := s.searched u (joinSample x s.ae.samples) ⟨.sampled, []⟩) (.inl fun e => nomatch e)
          (show s.lc.queue.length < 16 by omega))
    have size : (sendEdge x quality (s.searched u (joinSample x s.ae.samples) ⟨.sampled, []⟩)).lc.queue.length < 16 := by
      rw [joined, (insertByClass_perm _ _).length_eq, List.length_cons]
      omega
    rw [finish_filter (by decide) size, joined]
    exact filter_insertByClass_kind (e := newEntry .edge _) sorted

/-- A stable run ends its search, with one more sample or without. -/
theorem stable_ended (s : State) (u : UnitNo) (a b : Int) (q : Nat) :
    ∃ o samples, SearchEnded u o samples s (finish (takeStable u a b q s)) ∧
      (samples = s.ae.samples ∧ (o = .noMatch ∨ o = .lowQuality) ∨
        o = .sampled ∧ ∃ x : Sample, x.source = s.cl.own ∧ x.unit = u.val ∧ x.stop ≤ 400000 ∧ samples = joinSample x s.ae.samples) := by
  rcases deriveSample_cases s u a b q with h | h | ⟨x, quality, h, own, unit, stop⟩
  · exact ⟨_, _, (stable_discarded h).1, .inl ⟨rfl, .inl rfl⟩⟩
  · exact ⟨_, _, (stable_discarded h).1, .inl ⟨rfl, .inr rfl⟩⟩
  · exact ⟨_, _, (stable_sampled h).1, .inr ⟨rfl, x, own, unit, stop, rfl⟩⟩

/-! ### The commands -/

theorem checkReading_quality {r : Reading} (h : checkReading r = some (a, b, q)) : 1 ≤ q := by
  unfold checkReading at h
  split at h
  · cases h
  · cases h
  · split at h
    · next fits =>
      obtain ⟨-, -, -, -, -, least, -⟩ := fits
      cases h
      exact least
    · cases h

theorem exec_alignmentReading (active : s.active u = true) (reading : Reading) :
    Sys2Proof.Machine.exec (.alignmentReading u reading) s = .next (finish (takeReading u (checkReading reading) (restartAlign u 40 s))) :=
  congrArg Host.Outcome.next (if_pos active)

theorem exec_alignmentReadingTimeout {e : Time} (active : s.active u = true) (runs : (s.su.units.get u).alignTimer = some e) :
    Sys2Proof.Machine.exec (.alignmentReadingTimeout u) s = .next (finish (takeReading u none (restartAlign u 20 (s.reach e)))) := by
  refine congrArg Host.Outcome.next ((if_pos active).trans ?_)
  rw [runs]
  rfl

/-- Settles O34: a reading joins its run, and a stable run ends the search by the sample its door gives. -/
theorem readingsTaken : Obligations.ReadingsTaken := by
  unfold Obligations.ReadingsTaken
  intro u s active i r s' taken
  obtain ⟨n, y, base, exec, good⟩ : ∃ n y, s' = State.setSu u y { s with now := n } ∧
      Sys2Proof.Machine.exec i s = .next (finish (takeReading u r s')) ∧ ∀ a b q, r = some (a, b, q) → 1 ≤ q := by
    rcases taken with ⟨reading, rfl, rfl, rfl⟩ | ⟨e, rfl, runs, rfl, rfl⟩
    · exact ⟨s.now, _, rfl, exec_alignmentReading active reading, fun a b q => checkReading_quality⟩
    · refine ⟨(s.reach e).now, { s.su.units.get u with alignTimer := some (after (s.reach e).now 20) }, ?_, ?_, fun a b q none => nomatch none⟩
      · conv_lhs => rw [reach_eq]
      · rw [exec_alignmentReadingTimeout active runs]
        refine congrArg (fun x => Host.Outcome.next (finish (takeReading u none (State.setSu u x (s.reach e))))) ?_
        rw [← reach_su e s]
        rfl
  refine ⟨_, exec, fun other => ?_, fun seeking none => ?_, fun a b q inView seeking isolated fault => ?_⟩
  · subst base
    rw [takeReading_other (by exact other)]
    exact finish_ends _
  · subst base
    rw [takeReading_empties (by exact seeking) (by exact none)]
    exact finish_ends _
  · have quality := good a b q inView
    subst base inView
    rw [takeReading_inView (by exact seeking) (by exact isolated) (by exact fault)]
    refine ⟨fun unstable => ?_, fun stable => ?_⟩
    · rw [if_neg (by exact Bool.eq_false_iff.1 unstable)]
      exact finish_ends _
    · rw [if_pos (by exact stable)]
      obtain ⟨o, samples, ended, how⟩ := stable_ended (State.setSu u y { s with now := n }) u a b q
      refine ⟨?_, fun other => ?_, fun sampled => ?_, fun o h => ?_, fun d k quality' door near width high low far => ?_, ended.frame⟩
      · rw [ended.outcome]
        rcases how with ⟨-, rfl | rfl⟩ | ⟨rfl, -⟩
        · exact .inr (.inl rfl)
        · exact .inr (.inr rfl)
        · exact .inl rfl
      · rw [ended.outcome] at other
        rw [ended.set]
        exact (how.resolve_right fun e => other e.1).1
      · rw [ended.outcome] at sampled
        rw [ended.set]
        rcases how with ⟨-, rfl | rfl⟩ | ⟨-, x, own, unit, stop, rfl⟩
        · cases sampled
        · cases sampled
        · refine ⟨x, own, unit, stop, ?_⟩
          rw [joinSample, own, unit]
          rfl
      · obtain ⟨ended, edges⟩ := stable_discarded (s := State.setSu u y { s with now := n }) (deriveSample_discards quality h)
        exact ⟨ended.outcome, edges⟩
      · have checked : checkedQuality (b - a) d.halfWidth q = quality' := width.symm
        have ok := sampleOf_ok (k := k) near (by rw [checked]; omega) (by omega)
        rw [checked] at ok
        obtain ⟨ended, edges⟩ := stable_sampled (s := State.setSu u y { s with now := n }) ((deriveSample_matched door).trans ok)
        exact ⟨ended.outcome, ended.set, edges⟩

end Sys2Proof.Machine

/-! O30: CLOSE by the state of the berth. -/

namespace Sys2Proof.Machine
variable {u v : UnitNo} {s t : State}

/-! ### The cycle as the end of an event leaves it -/

theorem settle_bu (s0 s : State) : (settle s0 s).bu = (settleCloses s).bu := by
  rw [settle_eq, (finish_sends _).bu, judged_eq]
  rfl

/-- The warning output is the running of the warnings that stand. -/
theorem settle_warning_eq (s0 s : State) : (settle s0 s).out.warning = (settle s0 s).warningRunning := by
  rw [settle_warning, State.warningRunning, State.warningRunning, settle_bu, settle_iu]

/-- A member still under its warning stays so. -/
theorem UnitJudged.cycleMember_eq (h : UnitJudged u s t) (other : ∀ m, s.cycleMember u = some m → m.status ≠ .waiting) :
    t.cycleMember u = s.cycleMember u := by
  rcases h.member with same | ⟨m, was, waiting, -⟩
  · exact same
  · exact absurd waiting (other m was)

/-- The judging leaves a member's warning. -/
theorem UnitJudged.cycleWarning (h : UnitJudged u s t) : (t.cycleMember u).map Member.warning = (s.cycleMember u).map Member.warning := by
  rcases h.member with same | ⟨m, was, -, started, -⟩
  · rw [same]
  · rw [was, started]
    rfl

theorem cycleMember_of {c : CloseCycle} (h : s.bu.cycle = some c) (u : UnitNo) : s.cycleMember u = c.members.get u := by
  rw [State.cycleMember, h]
  rfl

theorem CloseCycle.eq_of {c d : CloseCycle} (warnings : c.warnings = d.warnings) (holds : c.holds = d.holds)
    (members : ∀ u, c.members.get u = d.members.get u) : c = d := by
  rcases c with ⟨cw, cm, ch⟩
  rcases d with ⟨dw, dm, dh⟩
  obtain rfl : cw = dw := warnings
  obtain rfl : ch = dh := holds
  obtain rfl : cm = dm := Quad.ext_get members
  rfl

/-- A cycle no member of which waits is left by the judging. -/
theorem judgedMembers_cycle {c : CloseCycle} (h : s.bu.cycle = some c) (idle : ∀ u m, c.members.get u = some m → m.status ≠ .waiting) :
    (judgedMembers s).bu.cycle = some c := by
  have kept := (judgedMembers_judged s).cycle
  rw [h] at kept
  obtain ⟨c', stands, pair⟩ := Option.map_eq_some_iff.1 kept
  rw [stands]
  refine congrArg some (CloseCycle.eq_of (congrArg Prod.fst pair) (congrArg Prod.snd pair) fun u => ?_)
  rw [← cycleMember_of stands, ← cycleMember_of h]
  exact (judgedMembers_unitJudged u s).cycleMember_eq fun m place => idle u m ((cycleMember_of h u).symm.trans place)

/-- While a unit standing open is under its warning and no emergency close runs, nothing completes. -/
theorem settleCloses_underWarning {m : Member} (none : s.iu.emergencyClose = none) (member : s.cycleMember u = some m)
    (under : m.status = .underWarning) (n : memberDone (s.unit u) .underWarning = false) : settleCloses s = judgedMembers s := by
  have judged := judgedMembers_unitJudged u s
  have stands : (judgedMembers s).cycleMember u = some m := by
    rw [judged.cycleMember_eq fun m' place => ?_, member]
    rw [member] at place
    cases place
    rw [under]
    exact fun e => nomatch e
  rw [settleCloses_judged, completeCycle_stands stands (by rw [under]; exact judged.moved.notDone n),
    completeEmergency_none (judgedMembers_noEmergency none)]

/-- The cycle ends as its last member is done, and the berth is SECURED. -/
theorem completeCycle_done {c : CloseCycle} (closing : s.berthState = .closing) (h : s.bu.cycle = some c)
    (done : ∀ u m, c.members.get u = some m → memberDone (s.unit u) m.status = true) :
    completeCycle s = setBerthState .secured (endCycle true s) := by
  have finished : ¬c.unfinished s := fun ⟨u, m, member, n⟩ => absurd ((done u m member).symm.trans n) (Ne.symm Bool.false_ne_true)
  rw [CloseCycle.unfinished_iff, Bool.not_eq_false] at finished
  unfold completeCycle
  rw [h]
  dsimp only
  refine if_pos ?_
  rw [closing, Bool.and_eq_true]
  exact ⟨rfl, finished⟩

/-- A berth SECURED hears nothing more of an emergency close that completes. -/
theorem completeEmergency_secured (h : s.berthState = .secured) :
    (completeEmergency s).bu = s.bu := by
  rcases completeEmergency_cases s with same | ends
  · rw [same]
  · rw [ends]
    unfold emergencyNotice
    rw [show (s.modIu fun i => { i with emergencyClose := none }).berthState = .secured from h]
    rfl

/-- A cycle whose members are all done as the event ends is over. -/
theorem settle_finished (s0 : State) {c : CloseCycle} (closing : s.berthState = .closing) (h : (judgedMembers s).bu.cycle = some c)
    (done : ∀ u m, c.members.get u = some m → memberDone ((judgedMembers s).unit u) m.status = true) :
    (settle s0 s).bu.cycle = none ∧ (settle s0 s).berthState = .secured := by
  have shut : (judgedMembers s).berthState = .closing := (congrArg Berth.state (judgedMembers_judged s).berth).trans closing
  have ended : (settle s0 s).bu = (setBerthState .secured (endCycle true (judgedMembers s))).bu := by
    rw [settle_bu, settleCloses_judged, completeCycle_done shut h done, completeEmergency_secured (by rw [State.berthState, secure_bu])]
  rw [State.berthState, ended, secure_bu]
  exact ⟨rfl, rfl⟩

/-! ### The start of the cycle (R157) -/

/-- The cycle that a CLOSE in RELEASED starts. -/
def State.firstCycle (s : State) : CloseCycle :=
  { warnings := [s.newWarning]
    members := Quad.build fun u =>
      if s.configured u && (s.unit u == .opened || s.unit u == .heldOpen) then some ⟨0, .underWarning⟩ else none
    holds := [] }

theorem firstCycle_member (s : State) (u : UnitNo) :
    s.firstCycle.members.get u =
      if s.configured u && (s.unit u == .opened || s.unit u == .heldOpen) then some ⟨0, .underWarning⟩ else none := Quad.build_get ..

theorem firstCycle_under {m : Member} (h : s.firstCycle.members.get u = some m) : m = ⟨0, .underWarning⟩ := by
  rw [firstCycle_member] at h
  split at h
  · exact (Option.some.inj h).symm
  · cases h

/-- The berth closes under the cycle `c`. -/
def State.closes (c : CloseCycle) (s : State) : State :=
  { s with bu := { s.bu with berth := { s.bu.berth with state := .closing }, cycle := some c } }

/-- A cycle of no member, where no other close runs, is over without a judging. -/
theorem judgedMembers_alone {c : CloseCycle} (h : s.bu.cycle = some c) (alone : ∀ u, c.members.get u = none) (departure : s.bu.departure = none)
    (emergency : s.iu.emergencyClose = none) (access : s.iu.accessClose = none) : judgedMembers s = s := by
  have member (u : UnitNo) : judgeMember u s = s := by
    unfold judgeMember
    rw [h]
    dsimp only
    rw [alone]
  have covered (u : UnitNo) : judgeCovered u s = s := by
    unfold judgeCovered
    rw [departure]
  unfold judgedMembers
  rw [forUnits_fixed member, forUnits_fixed covered, forUnits_fixed fun u => judgeEmergencyMember_absent emergency,
    forUnits_fixed fun u => judgeAccessMember_absent access]

theorem firstCycle_congr (now : t.now = s.now) (cl : t.cl = s.cl) (dc : t.dc = s.dc) : t.firstCycle = s.firstCycle := by
  have configured (u : UnitNo) : t.configured u = s.configured u := by
    unfold State.configured
    rw [cl]
  have unit (u : UnitNo) : t.unit u = s.unit u := by rw [State.unit, dc, State.unit]
  unfold State.firstCycle State.newWarning
  simp only [now, cl, configured, unit]

/-- The start of a close cycle: the berth closes under its first warning. -/
theorem startCycle_ends (s : State) : Ends (s.closes s.firstCycle) (startCycle (setBerthState .closing s)) := by
  have ends := setBerthState_ends .closing s
  have same : (setBerthState .closing s).firstCycle = s.firstCycle := firstCycle_congr ends.2.1 ends.1.cl (setBerthState_dc ..)
  have form : startCycle (setBerthState .closing s) = forUnits intrusionToTrap (s.closes s.firstCycle) := by
    show (setBerthState .closing s).setCycle (some (setBerthState .closing s).firstCycle) = _
    rw [same]
    exact (traps_modBu (f := BerthUnit.withCycle (some s.firstCycle)) (fun _ => rfl) _).symm
  rw [form]
  exact forUnits_ends intrusionToTrap_ends _

/-- The frame of an event that leaves a close cycle, with the cycle as it stands at its end. -/
theorem Ends.cycleAtEnd {c : CloseCycle} (h : Ends (s.closes c) t)
    (still : t.bu.cycle = none → s.bu.departure = none → s.iu.emergencyClose = none → s.iu.accessClose = none → t.dc = s.dc) :
    Ends { s with bu := { s.bu with berth := { s.bu.berth with state := .closing }, cycle := t.bu.cycle } } t := by
  refine ⟨{ h.1 with noCycle := id, cycleEnded := fun stands none => ?_, still := fun ⟨cycle, departure, emergency, access⟩ v _ => ?_ }, h.2⟩
  · rw [none] at stands
    cases stands
  · rw [still cycle departure emergency access]

/-! ### CLOSE in RELEASED (R83, R157, R166) -/

theorem startCycle_first (s : State) : (startCycle s).bu.cycle = some s.firstCycle := rfl

theorem startCycle_state (s : State) : (startCycle s).berthState = s.berthState := rfl

theorem startCycle_cycle (s : State) : (startCycle (setBerthState .closing s)).bu.cycle = some s.firstCycle := by
  have ends := setBerthState_ends .closing s
  have same : (setBerthState .closing s).firstCycle = s.firstCycle := firstCycle_congr ends.2.1 ends.1.cl (setBerthState_dc ..)
  exact (startCycle_first _).trans (congrArg some same)

theorem startCycle_berthState (s : State) : (startCycle (setBerthState .closing s)).berthState = .closing := by
  rw [startCycle_state, State.berthState, setBerthState_bu]
  rfl

theorem startCycle_same (s : State) : (startCycle s).dc = s.dc ∧ (startCycle s).iu = s.iu ∧ (startCycle s).bu.departure = s.bu.departure :=
  ⟨rfl, rfl, rfl⟩

theorem startCycle_dc (s : State) : (startCycle (setBerthState .closing s)).dc = s.dc :=
  (startCycle_same (setBerthState .closing s)).1.trans (setBerthState_dc ..)

theorem startCycle_iu (s : State) : (startCycle (setBerthState .closing s)).iu = s.iu :=
  (startCycle_same (setBerthState .closing s)).2.1.trans (setBerthState_iu ..)

theorem firstCycle_idle (s : State) (u : UnitNo) (m : Member) (h : s.firstCycle.members.get u = some m) : m.status ≠ .waiting := by
  rw [firstCycle_under h]
  exact fun e => nomatch e

/-- The cycle stands under its warning where some unit stands open. -/
theorem startCycle_stands (s0 : State) (emergency : s.iu.emergencyClose = none)
    (some_ : ∃ u, s.configured u = true ∧ (s.unit u = .opened ∨ s.unit u = .heldOpen)) :
    (settle s0 (startCycle (setBerthState .closing s))).out.warning = true ∧
      (settle s0 (startCycle (setBerthState .closing s))).bu.cycle = some s.firstCycle := by
  obtain ⟨u, configured, standing⟩ := some_
  have member : s.firstCycle.members.get u = some ⟨0, .underWarning⟩ := by
    rw [firstCycle_member, if_pos]
    simpa [configured] using standing
  have whole : settleCloses (startCycle (setBerthState .closing s)) = judgedMembers (startCycle (setBerthState .closing s)) := by
    refine settleCloses_underWarning (u := u) (by rw [startCycle_iu]; exact emergency) ((cycleMember_of (startCycle_cycle s) u).trans member) rfl ?_
    rw [State.unit, startCycle_dc]
    rcases standing with e | e <;> rw [State.unit] at e <;> rw [e] <;> rfl
  have cycle : (settle s0 (startCycle (setBerthState .closing s))).bu.cycle = some s.firstCycle := by
    rw [settle_bu, whole]
    exact judgedMembers_cycle (startCycle_cycle s) (firstCycle_idle s)
  refine ⟨?_, cycle⟩
  rw [settle_warning_eq, State.warningRunning, cycle]
  rfl

/-- Without a unit standing open the cycle is over as it starts. -/
theorem startCycle_over (s0 : State) (none : ∀ u, s.configured u = true → s.unit u ≠ .opened ∧ s.unit u ≠ .heldOpen) :
    (settle s0 (startCycle (setBerthState .closing s))).bu.cycle = Option.none ∧
      (settle s0 (startCycle (setBerthState .closing s))).berthState = .secured := by
  refine settle_finished s0 (startCycle_berthState s) (judgedMembers_cycle (startCycle_cycle s) (firstCycle_idle s)) fun u m member => ?_
  rw [firstCycle_member] at member
  split at member
  · next standing =>
    simp only [Bool.and_eq_true, Bool.or_eq_true, beq_iff_eq] at standing
    obtain ⟨opened, held⟩ := none u standing.1
    exact absurd standing.2 (not_or.2 ⟨opened, held⟩)
  · cases member

/-- Where no other close runs, a CLOSE in RELEASED that leaves no cycle moves no channel. -/
theorem startCycle_still (s0 : State) (over_ : (settle s0 (startCycle (setBerthState .closing s))).bu.cycle = none)
    (departure : s.bu.departure = none) (emergency : s.iu.emergencyClose = none) (access : s.iu.accessClose = none) :
    (settle s0 (startCycle (setBerthState .closing s))).dc = s.dc := by
  have alone (u : UnitNo) : s.firstCycle.members.get u = none := by
    rw [firstCycle_member]
    refine if_neg fun standing => ?_
    simp only [Bool.and_eq_true, Bool.or_eq_true, beq_iff_eq] at standing
    have stands := (startCycle_stands s0 emergency ⟨u, standing⟩).2
    rw [over_] at stands
    cases stands
  have idle : judgedMembers (startCycle (setBerthState .closing s)) = startCycle (setBerthState .closing s) := by
    refine judgedMembers_alone (startCycle_cycle s) alone ?_ (by rw [startCycle_iu]; exact emergency) (by rw [startCycle_iu]; exact access)
    rw [(startCycle_same (setBerthState .closing s)).2.2, setBerthState_bu]
    exact departure
  refine Quad.ext_get fun u => ?_
  rw [settle_dc_judged, idle, startCycle_dc]

theorem onClose_released (h : s.berthState = .released) : onClose s = startCycle (setBerthState .closing s) := by
  unfold onClose
  rw [h]

theorem onClose_closing (h : s.berthState = .closing) : onClose s = repeatClose s := by
  unfold onClose
  rw [h]

theorem onClose_fixed (h : s.berthState = .fixed) : onClose s = setBerthState .secured s := by
  unfold onClose
  rw [h]

theorem onClose_fusing (h : s.berthState = .fusing) : onClose s = s.modBerth fun b => { b with pendingRelease := false } := by
  unfold onClose
  rw [h]

theorem onClose_other (h : s.berthState = .announced ∨ s.berthState = .secured) : onClose s = s := by
  unfold onClose
  rcases h with h | h <;> rw [h]

theorem exec_close {src : Node} (accepted : AcceptedRunning ⟨src, .close, [s.seq]⟩ s) :
    Sys2Proof.Machine.exec (.close src s.seq) s = .next (settle s (onClose (noteActivity src false s))) := by
  refine (congrArg Host.Outcome.next (onFrameSettling_of_acceptedRunning accepted (onSequence s.seq onClose))).trans ?_
  exact congrArg (fun x => Host.Outcome.next (settle s x)) (if_pos rfl)

/-! ### CLOSE in CLOSING (R165) -/

/-- The cycle with a new warning over the units in HELD_OPEN. -/
def State.repeated (c : CloseCycle) (s : State) : CloseCycle :=
  { c with
    warnings := c.warnings ++ [s.newWarning]
    members := Quad.build fun u => if s.heldOpen u then some ⟨c.warnings.length, .underWarning⟩ else c.members.get u }

theorem heldOpen_iff : s.heldOpen u = true ↔ s.configured u = true ∧ s.unit u = .heldOpen := by
  rw [State.heldOpen, Bool.and_eq_true, beq_iff_eq]

theorem repeatClose_held {c : CloseCycle} (h : s.bu.cycle = some c) (held : ∃ u, s.configured u = true ∧ s.unit u = .heldOpen) :
    repeatClose s = s.setCycle (some (s.repeated c)) := by
  unfold repeatClose
  rw [h]
  exact if_pos ((UnitNo.all_any ..).2 (held.imp fun _ => heldOpen_iff.2))

theorem repeatClose_none (none : ∀ u, s.configured u = true → s.unit u ≠ .heldOpen) : repeatClose s = s := by
  unfold repeatClose
  split
  · rfl
  · refine if_neg fun any => ?_
    obtain ⟨u, held⟩ := (UnitNo.all_any ..).1 any
    exact none u (heldOpen_iff.1 held).1 (heldOpen_iff.1 held).2

theorem repeated_member (c : CloseCycle) (held : s.configured u = true ∧ s.unit u = .heldOpen) :
    (s.repeated c).members.get u = some ⟨c.warnings.length, .underWarning⟩ :=
  (Quad.build_get ..).trans (if_pos (heldOpen_iff.2 held))

/-- The repeated cycle stands under its new warning. -/
theorem repeatClose_stands (s0 : State) {c : CloseCycle} (emergency : s.iu.emergencyClose = none) (h : s.bu.cycle = some (t.repeated c))
    (dc : s.dc = t.dc) (held : ∃ u, t.configured u = true ∧ t.unit u = .heldOpen) :
    (settle s0 s).out.warning = true ∧ ∃ c', (settle s0 s).bu.cycle = some c' ∧ c'.warnings = c.warnings ++ [t.newWarning] ∧
      ∀ u, t.configured u = true → t.unit u = .heldOpen → c'.members.get u = some ⟨c.warnings.length, .underWarning⟩ := by
  have member (u : UnitNo) (held : t.configured u = true ∧ t.unit u = .heldOpen) : s.cycleMember u = some ⟨c.warnings.length, .underWarning⟩ :=
    (cycleMember_of h u).trans (repeated_member c held)
  obtain ⟨v, held⟩ := held
  have whole : settleCloses s = judgedMembers s := by
    refine settleCloses_underWarning emergency (member v held) rfl ?_
    rw [State.unit, dc, ← State.unit, held.2]
    rfl
  have kept := (judgedMembers_judged s).cycle
  rw [h] at kept
  obtain ⟨c', stands, pair⟩ := Option.map_eq_some_iff.1 kept
  have warnings : c'.warnings = c.warnings ++ [t.newWarning] := congrArg Prod.fst pair
  have cycle : (settle s0 s).bu.cycle = some c' := by rw [settle_bu, whole, stands]
  refine ⟨?_, c', cycle, warnings, fun u configured held => ?_⟩
  · rw [settle_warning_eq, State.warningRunning, cycle]
    dsimp only
    rw [warnings, List.any_append]
    simp [State.newWarning]
  · rw [← cycleMember_of stands, (judgedMembers_unitJudged u s).cycleMember_eq fun m place => ?_]
    · exact member u ⟨configured, held⟩
    · rw [member u ⟨configured, held⟩] at place
      cases place
      exact fun e => nomatch e

/-- A cycle already standing may be replaced by another in the frame of an event. -/
theorem Ends.recycled {c c' : CloseCycle} (h : s.bu.cycle = some c) (ends : Ends (s.setCycle (some c')) t) : Ends s t :=
  ⟨{ ends.1 with
      noCycle := fun none => nomatch none.symm.trans h
      cycleEnded := fun _ => ends.1.cycleEnded rfl
      still := fun none => nomatch none.1.symm.trans h }, ends.2⟩

/-- The cycle that stands as an event ends has the warnings it had, each member under its own. -/
theorem settle_cycleWarnings (s0 : State) {c' : CloseCycle} (h : (settle s0 s).bu.cycle = some c') :
    ∃ c, s.bu.cycle = some c ∧ c'.warnings = c.warnings ∧
      ∀ u, (c'.members.get u).map Member.warning = (c.members.get u).map Member.warning := by
  obtain ⟨stands, c, was, warnings, -⟩ := settle_cycle s0 h
  refine ⟨c, was, warnings, fun u => ?_⟩
  rw [← cycleMember_of stands, ← cycleMember_of was]
  exact (judgedMembers_unitJudged u s).cycleWarning

/-- Settles O30: each state of the berth by its own lemma, and in RELEASED by whether a unit stands open. -/
theorem closeByState : Obligations.CloseByState := by
  unfold Obligations.CloseByState
  intro src s accepted
  have exec := exec_close accepted
  refine ⟨fun released => ⟨_, exec, ?_⟩, fun closing c stands held => ⟨_, exec, ?_⟩, fun closing none => ⟨_, exec, ?_⟩,
    fun fixed => ⟨_, exec, ?_⟩, fun fusing => ⟨_, exec, ?_⟩, fun other => ⟨_, exec, ?_⟩⟩
  · rw [onClose_released (by exact released)]
    have ends := (startCycle_ends (noteActivity src false s)).trans (settle_ends s _)
    refine ⟨fun emergency some_ => startCycle_stands (s := noteActivity src false s) s emergency some_, fun none => ?_, ends.cycleAtEnd ?_⟩
    · have finished := startCycle_over (s := noteActivity src false s) s none
      refine ⟨finished.1, finished.2, fun departure emergency access => ?_⟩
      rw [settle_warning_eq, State.warningRunning, finished.1, ends.1.noDeparture departure, ends.1.noEmergencyClose emergency,
        ends.1.noAccessClose access]
      rfl
    · exact startCycle_still s
  · rw [onClose_closing (by exact closing), repeatClose_held (s := noteActivity src false s) stands held]
    have ends := settle_ends s ((noteActivity src false s).setCycle (some ((noteActivity src false s).repeated c)))
    exact ⟨ends.recycled stands, fun emergency => repeatClose_stands s emergency rfl rfl held⟩
  · rw [onClose_closing (by exact closing), repeatClose_none (s := noteActivity src false s) none]
    exact ⟨settle_ends s _, fun c' h => settle_cycleWarnings (s := noteActivity src false s) s h⟩
  · rw [onClose_fixed (by exact fixed)]
    exact (setBerthState_ends .secured (noteActivity src false s)).trans (settle_ends s _)
  · rw [onClose_fusing (by exact fusing)]
    exact settle_ends s _
  · rw [onClose_other (by exact other)]
    exact settle_ends s _

end Sys2Proof.Machine

/-! The open requests of a release and of a REOPEN (R82, R84, R88, R89). -/

namespace Sys2Proof.Machine
variable {u v : UnitNo} {s t : State}

/-! ### What an open request does to the BU -/

/-- The BU stands, but that unit `u` may have left the covered set. -/
structure Uncovers (u : UnitNo) (a b : State) : Prop where
  berth : b.bu.berth = a.bu.berth
  cycle : b.bu.cycle = a.bu.cycle
  others : ∀ v, u ≠ v → b.coveredUnder v = a.coveredUnder v
  own : a.coveredUnder u = none → b.coveredUnder u = none

theorem Uncovers.refl (u : UnitNo) (s : State) : Uncovers u s s := ⟨rfl, rfl, fun _ _ => rfl, id⟩

theorem Uncovers.trans {a b c : State} (h : Uncovers u a b) (k : Uncovers u b c) : Uncovers u a c :=
  ⟨k.berth.trans h.berth, k.cycle.trans h.cycle, fun v n => (k.others v n).trans (h.others v n), k.own ∘ h.own⟩

theorem Uncovers.of_bu {a b : State} (h : b.bu = a.bu) : Uncovers u a b := by
  have covered (v : UnitNo) : b.coveredUnder v = a.coveredUnder v := by rw [State.coveredUnder, h]; rfl
  exact ⟨by rw [h], by rw [h], fun v _ => covered v, fun none => (covered u).trans none⟩

theorem dropCovered_uncovers (u : UnitNo) (s : State) : Uncovers u s (dropCovered u s) := by
  refine ⟨?_, ?_, fun v n => (dropCovered_viewed n s).covered, fun _ => dropCovered_coveredUnder u s⟩ <;>
  · unfold dropCovered
    split <;> rfl

theorem clearAccess_bu (u : UnitNo) (s : State) : (clearAccess u s).bu = s.bu := by
  unfold clearAccess dropAccessMember
  split
  · split <;> rfl
  · rfl

theorem Uncovers.guard {a b : State} (c : Prop) [Decidable c] {f : State → State} (h : Uncovers u a b) (k : ∀ x, Uncovers u x (f x)) :
    Uncovers u a (if c then f b else b) := by
  split
  · exact h.trans (k b)
  · exact h

/-- A unit that enters a state with its sensing running and no alarm leaves the BU, but for the covered set it may leave. -/
theorem moveUnit_uncovers {d : DoorChannel} (h : d.st ≠ .isolated) (h1 : d.st ≠ .closedLocked) (s : State) : Uncovers u s (moveUnit u d s) := by
  rw [moveUnit_noAlarm (.inl h1)]
  unfold hangs
  dsimp only
  rw [beq_eq_false_iff_ne.2 h, Bool.and_false, if_neg Bool.false_ne_true]
  refine Uncovers.guard (f := fun x => dropCovered u (clearAccess u x)) _ (Uncovers.guard (f := emptyRun u) _
    (Uncovers.guard (f := startSensing u) _ (.of_bu rfl) fun _ => .of_bu rfl) fun _ => .of_bu rfl) fun x => ?_
  exact (Uncovers.of_bu (clearAccess_bu u x)).trans (dropCovered_uncovers u _)

theorem enterFault_uncovers (k : FaultKind) (u : UnitNo) (s : State) : Uncovers u s (enterFault k u s) := by
  refine Uncovers.trans (moveUnit_uncovers ?_ ?_ s) (.of_bu (report_sends ..).bu) <;> exact fun e => nomatch e

theorem enterUnlocking_uncovers (u : UnitNo) (s : State) : Uncovers u s (enterUnlocking u s) := by
  have moved : Uncovers u s (moveUnit u (unlocked s u) s) := by refine moveUnit_uncovers ?_ ?_ s <;> exact fun e => nomatch e
  exact moved.guard (_ = true) fun x => enterFault_uncovers .driveFault u x

theorem reverseDone_uncovers (u : UnitNo) (s : State) : Uncovers u s (reverseDone u s) := by
  unfold reverseDone
  split <;> refine moveUnit_uncovers ?_ ?_ s <;> exact fun e => nomatch e

theorem enterReversing_uncovers (g : ReverseTarget) (u : UnitNo) (s : State) : Uncovers u s (enterReversing g u s) := by
  have moved : Uncovers u s (moveUnit u (reversingTo g u s) s) := by refine moveUnit_uncovers ?_ ?_ s <;> exact fun e => nomatch e
  rw [enterReversing_eq]
  exact moved.guard _ (reverseDone_uncovers u)

theorem openRequest_uncovers (u : UnitNo) (s : State) : Uncovers u s (openRequest u s) := by
  unfold openRequest
  split
  case h_1 =>
    split
    · exact enterUnlocking_uncovers u s
    · exact .of_bu rfl
  case h_5 => exact enterReversing_uncovers .opened u s
  case h_7 => refine moveUnit_uncovers ?_ ?_ s <;> exact fun e => nomatch e
  all_goals exact .of_bu rfl

/-- The BU's open request takes its unit out of the covered set, whether the IU withholds it or not. -/
theorem berthOpenRequest_uncovers (u : UnitNo) (s : State) :
    Uncovers u s (berthOpenRequest u s) ∧ (berthOpenRequest u s).coveredUnder u = none := by
  unfold berthOpenRequest
  split
  · exact ⟨dropCovered_uncovers u s, dropCovered_coveredUnder u s⟩
  · have request := openRequest_uncovers u (dropCovered u s)
    exact ⟨(dropCovered_uncovers u s).trans request, request.own (dropCovered_coveredUnder u s)⟩

theorem berthOpenRequest_holds (u : UnitNo) (s : State) : Holds (only u) s (berthOpenRequest u s) := by
  unfold berthOpenRequest
  split
  · exact dropCovered_holds u s
  · exact (dropCovered_holds u s).trans (openRequest_holds u _)

/-! ### The requests to the served units, as one unit sees them -/

/-- What an open request to unit `u` rests on stands, whatever moves the other units. -/
structure OpenSpared (u : UnitNo) (a b : State) : Prop extends UnitStands u a b where
  covered : b.coveredUnder u = a.coveredUnder u
  cycle : b.bu.cycle = a.bu.cycle
  berth : b.bu.berth = a.bu.berth
  holds : Holds (fun v => v != u) a b

theorem OpenSpared.refl (u : UnitNo) (s : State) : OpenSpared u s s := ⟨.refl u s, rfl, rfl, rfl, .refl _ s⟩

theorem OpenSpared.trans {a b c : State} (h : OpenSpared u a b) (k : OpenSpared u b c) : OpenSpared u a c :=
  ⟨h.toUnitStands.trans k.toUnitStands, k.covered.trans h.covered, k.cycle.trans h.cycle, k.berth.trans h.berth, h.holds.trans k.holds⟩

/-- A frame in which one unit may act. -/
theorem Holds.of_only {P : UnitNo → Bool} (h : Holds (only v) s t) (acts : P v = true) : Holds P s t :=
  ⟨h.1.mono fun _ n => beq_eq_false_iff_ne.2 fun same => absurd (acts.symm.trans (same ▸ n)) (Ne.symm Bool.false_ne_true), h.2⟩

theorem berthOpenRequest_spared (h : v ≠ u) (s : State) : OpenSpared u s (berthOpenRequest v s) := by
  have kept := (berthOpenRequest_uncovers v s).1
  refine ⟨?_, kept.others u h, kept.cycle, kept.berth, (berthOpenRequest_holds v s).of_only (bne_iff_ne.2 h)⟩
  unfold berthOpenRequest
  split
  · exact dropCovered_stands v s
  · exact (dropCovered_stands v s).trans (openRequest_stands h _)

theorem openServed_spared (h : v ≠ u) (s : State) : OpenSpared u s (openServed v s) := by
  unfold openServed
  split
  · exact berthOpenRequest_spared h s
  · exact .refl u s

theorem Holds.configured {P : UnitNo → Bool} (h : Holds P s t) (u : UnitNo) : t.configured u = s.configured u := by
  unfold State.configured
  rw [h.1.cl]

theorem Holds.map {P : UnitNo → Bool} (h : Holds P s t) : t.ae.map = s.ae.map := by
  have kept := congrArg AlignEngine.map h.1.align
  exact kept

theorem Holds.served {P : UnitNo → Bool} (h : Holds P s t) (u : UnitNo) : t.served u = s.served u := by
  unfold State.served
  rw [h.map]

/-- The permit of a unit that others' requests spare. -/
theorem OpenSpared.permit (h : OpenSpared u s t) : t.permit u = s.permit u := by
  have mark : t.iu.accessMarks.get u = s.iu.accessMarks.get u := h.holds.1.accessMarks u (bne_self_eq_false u)
  unfold State.permit State.berthPermit State.accessPermit State.berthState
  rw [h.berth, h.holds.served, h.holds.1.identityConflict, h.holds.1.cl, h.holds.1.latch, mark]

/-- The served units that an open request is sent to. -/
def State.asked (s : State) (u : UnitNo) : Bool := s.configured u && s.served u

/-- The requests of a release move no unit but those asked. -/
theorem openServed_holds (s : State) : Holds s.asked s (forUnits openServed s) := by
  have step (x : State) (h : Holds s.asked s x) (u : UnitNo) : Holds s.asked s (openServed u x) := by
    unfold openServed
    split
    · next asked =>
      rw [h.configured, h.served] at asked
      exact h.trans ((berthOpenRequest_holds u x).of_only asked)
    · exact h
  exact step _ (step _ (step _ (step _ (.refl _ s) .u0) .u1) .u2) .u3

/-- Unit `u` among those asked: its request lies between what spares it. -/
theorem openServed_at (asked : s.asked u = true) :
    ∃ m, OpenSpared u s m ∧ OpenSpared u (berthOpenRequest u m) (forUnits openServed s) := by
  obtain ⟨m, before, behind⟩ := forUnits_at (OpenSpared.refl u) OpenSpared.trans u (fun v x n => openServed_spared n x) s
  have own : openServed u m = berthOpenRequest u m := if_pos (by rw [before.holds.configured, before.holds.served]; exact asked)
  exact ⟨m, before, own ▸ behind⟩

theorem openServed_coveredUnder (asked : s.asked u = true) : (forUnits openServed s).coveredUnder u = none := by
  obtain ⟨m, -, behind⟩ := openServed_at asked
  rw [behind.covered]
  exact (berthOpenRequest_uncovers u m).2

/-- With the latch clear each unit asked takes one open request. -/
theorem openServed_taken (asked : s.asked u = true) (clear : s.iu.latch = false) : OpenTaken (s.permit u) s (forUnits openServed s) u := by
  obtain ⟨m, before, behind⟩ := openServed_at asked
  have drop := dropCovered_uncovers u m
  have free : m.iu.latch = false := before.latch.trans clear
  have request : berthOpenRequest u m = openRequest u (dropCovered u m) := if_neg (by rw [free]; exact Bool.false_ne_true)
  rw [request] at behind
  have taken := openRequest_taken u (dropCovered u m)
  have permit : (dropCovered u m).permit u = s.permit u := by
    rw [← before.permit]
    have holds : Holds noUnit m (dropCovered u m) := dropCovered_holds u m
    unfold State.permit State.berthPermit State.accessPermit State.berthState
    rw [drop.berth, holds.served, holds.1.identityConflict, holds.1.cl, holds.1.latch, holds.1.accessMarks u rfl]
  rw [permit] at taken
  exact taken.within (before.openSeen.trans (dropCovered_stands u m).openSeen) behind.channel

/-- The requests of a release leave the record and the cycle. -/
theorem openServed_kept (s : State) :
    (forUnits openServed s).bu.berth = s.bu.berth ∧ (forUnits openServed s).bu.cycle = s.bu.cycle := by
  have step (u : UnitNo) (x : State) : (openServed u x).bu.berth = x.bu.berth ∧ (openServed u x).bu.cycle = x.bu.cycle := by
    unfold openServed
    split
    · exact ⟨(berthOpenRequest_uncovers u x).1.berth, (berthOpenRequest_uncovers u x).1.cycle⟩
    · exact ⟨rfl, rfl⟩
  exact ⟨forUnits_keeps (fun x => x.bu.berth) (fun u x => (step u x).1) s, forUnits_keeps (fun x => x.bu.cycle) (fun u x => (step u x).2) s⟩

end Sys2Proof.Machine

/-! The end of an event at a unit without a place in any close, and the requests of a release as it leaves them. -/

namespace Sys2Proof.Machine
variable {u v : UnitNo} {s t : State}

/-! ### A unit without a place in a close -/

/-- Unit `u` has no place in any close. -/
structure Unplaced (u : UnitNo) (s : State) : Prop where
  cycle : s.cycleMember u = none
  covered : s.coveredUnder u = none
  emergency : s.emergencyStatus u = none
  access : s.accessMember u = none

theorem Unplaced.viewed {a b : State} (h : Unplaced u a) (k : UnitViewed u a b) : Unplaced u b :=
  ⟨k.cycle.trans h.cycle, k.covered.trans h.covered, k.emergency.trans h.emergency, k.access.trans h.access⟩

theorem judgeMember_unplaced (h : Unplaced u s) : judgeMember u s = s := by
  unfold judgeMember
  split
  · rfl
  · next c hc =>
    rw [← cycleMember_of hc, h.cycle]

theorem judgeCovered_unplaced (h : Unplaced u s) : judgeCovered u s = s := by
  unfold judgeCovered
  split
  · rfl
  · next d hd =>
    have out : d.covered.get u = false := by
      have none := h.covered
      rw [State.coveredUnder, hd, Option.bind_some] at none
      split at none
      · cases none
      · next out => exact Bool.eq_false_iff.2 out
    rw [out, Bool.and_false]
    rfl

theorem judgeEmergencyMember_unplaced (h : Unplaced u s) : judgeEmergencyMember u s = s := by
  unfold judgeEmergencyMember
  split
  · rfl
  · next e he =>
    have out : e.members.get u = none := by
      have none := h.emergency
      rw [State.emergencyStatus, he] at none
      exact none
    rw [out]

theorem judgeAccessMember_unplaced (h : Unplaced u s) : judgeAccessMember u s = s := by
  unfold judgeAccessMember
  split
  · rfl
  · next a ha =>
    have out : a.members.get u = none := by
      have none := h.access
      rw [State.accessMember, ha, Option.bind_some] at none
      exact Option.map_eq_none_iff.1 none
    rw [out]

theorem forUnits_unplaced {f : UnitNo → State → State} (others : ∀ v s, v ≠ u → UnitViewed u s (f v s))
    (own : ∀ s, Unplaced u s → f u s = s) (h : Unplaced u s) : UnitViewed u s (forUnits f s) := by
  obtain ⟨m, before, behind⟩ := forUnits_at (UnitViewed.refl u) UnitViewed.trans u others s
  rw [own m (h.viewed before)] at behind
  exact before.trans behind

/-- The judging of the closes passes by a unit without a place in them. -/
theorem judgedMembers_unplaced (h : Unplaced u s) : UnitViewed u s (judgedMembers s) := by
  have one := forUnits_unplaced (f := judgeMember) (fun _ s n => judgeMember_viewed n s) (fun _ => judgeMember_unplaced) h
  have two := one.trans (forUnits_unplaced (f := judgeCovered) (fun _ s n => judgeCovered_viewed n s) (fun _ => judgeCovered_unplaced) (h.viewed one))
  have three := two.trans (forUnits_unplaced (f := judgeEmergencyMember) (fun _ s n => judgeEmergencyMember_viewed n s)
    (fun _ => judgeEmergencyMember_unplaced) (h.viewed two))
  exact three.trans (forUnits_unplaced (f := judgeAccessMember) (fun _ s n => judgeAccessMember_viewed n s)
    (fun _ => judgeAccessMember_unplaced) (h.viewed three))

theorem settle_unplaced (s0 : State) (h : Unplaced u s) : ChannelStands u s (settle s0 s) :=
  (judgedMembers_unplaced h).channel.trans (settle_channel u s0 s)

/-- A unit that has left the covered set stays out of it. -/
theorem settle_coveredUnder (s0 : State) (h : s.coveredUnder u = none) : (settle s0 s).coveredUnder u = none := by
  rw [State.coveredUnder, (settle_completed s0 s).departure, ← State.coveredUnder]
  rcases (judgedMembers_unitJudged u s).covered with same | none
  · exact same.trans h
  · exact none

theorem not_covered {d : DepartureClose} (h : s.coveredUnder u = none) (stands : s.bu.departure = some d) : d.covered.get u = false := by
  rw [State.coveredUnder, stands, Option.bind_some] at h
  split at h
  · cases h
  · next out => exact Bool.eq_false_iff.2 out

/-! ### The requests of a release at the end of its event -/

/-- The frame of the requests, through the end of the event. -/
theorem openServed_settled (s0 s : State) : Holds s.asked s (settle s0 (forUnits openServed s)) :=
  (openServed_holds s).trans (settle_ends s0 _).holds

/-- A unit asked leaves the covered set. -/
theorem openServed_uncovered (s0 : State) (asked : s.asked u = true) {d : DepartureClose}
    (stands : (settle s0 (forUnits openServed s)).bu.departure = some d) : d.covered.get u = false :=
  not_covered (settle_coveredUnder s0 (openServed_coveredUnder asked)) stands

/-- A locked unit asked under an open permit unlocks, and no close moves it. -/
theorem openServed_unlocks (s0 : State) (asked : s.asked u = true) (clear : s.iu.latch = false) (permit : s.permit u = true)
    (locked : s.unit u = .closedLocked) (fault : s.driveFault u = false) :
    (settle s0 (forUnits openServed s)).dc.get u = unlocked s u := by
  have taken := (openServed_taken asked clear).unlocks locked permit fault
  rw [settle_unmoved s0, taken]
  rw [State.unit, taken]
  rfl

/-- Where no close but a departure close runs, a unit asked takes its request and is left by the closes. -/
theorem openServed_unclosed (s0 : State) (asked : s.asked u = true) (clear : s.iu.latch = false) (cycle : s.bu.cycle = none)
    (emergency : s.iu.emergencyClose = none) (access : s.iu.accessClose = none) :
    OpenTaken (s.permit u) s (settle s0 (forUnits openServed s)) u := by
  have holds := openServed_holds s
  refine (openServed_taken asked clear).within (UnitStands.refl u s).openSeen (settle_unplaced s0 ⟨?_, openServed_coveredUnder asked, ?_, ?_⟩)
  · rw [State.cycleMember, (openServed_kept s).2, cycle]
    rfl
  · rw [State.emergencyStatus, holds.1.noEmergencyClose emergency]
    rfl
  · rw [State.accessMember, holds.1.noAccessClose access]
    rfl

/-- The berth stays RELEASED where no emergency close runs. -/
theorem openServed_released (s0 : State) (released : s.berthState = .released) (emergency : s.iu.emergencyClose = none) :
    (settle s0 (forUnits openServed s)).berthState = .released := by
  have same : (forUnits openServed s).berthState = .released := (congrArg Berth.state (openServed_kept s).1).trans released
  have none := (openServed_holds s).1.noEmergencyClose emergency
  rcases (settle_ends s0 (forUnits openServed s)).1.berthState with kept | ⟨-, closing | ⟨-, runs⟩⟩
  · exact kept.trans same
  · exact absurd (closing.symm.trans same) (fun e => nomatch e)
  · rw [none] at runs
    cases runs

/-- The berth's permit of a served unit in RELEASED. -/
theorem released_permit (released : s.berthState = .released) (served : s.served u = true) (own : s.pm.identityConflict = false) :
    s.permit u = (s.cl.phase != .configFault || s.iu.latch) := by
  unfold State.permit State.berthPermit State.accessPermit
  rw [released, served, own]
  cases s.cl.phase != .configFault <;> cases s.iu.latch <;> simp

end Sys2Proof.Machine

/-! O29: RELEASE, the fusion window close and a held release. -/

namespace Sys2Proof.Machine
variable {u v : UnitNo} {s t b y : State}

/-! ### A release acted on (R80, R82) -/

/-- `y` is `b`, its intrusions become traps or not yet. -/
def Trapped (b y : State) : Prop := y = b ∨ y = forUnits intrusionToTrap b

theorem Trapped.ends (h : Trapped b y) : Ends b y := by
  rcases h with rfl | rfl
  · exact Ends.refl _
  · exact forUnits_ends intrusionToTrap_ends b

theorem Trapped.bu (h : Trapped b y) : y.bu = b.bu := by
  rcases h with rfl | rfl
  · rfl
  · exact traps_bu b

theorem intrusionToTrap_iu (u : UnitNo) (s : State) : (intrusionToTrap u s).iu = s.iu := by
  unfold intrusionToTrap
  split
  · exact (alert_sends ..).iu.trans (report_sends ..).iu
  · rfl

theorem Trapped.iu (h : Trapped b y) : y.iu = b.iu := by
  rcases h with rfl | rfl
  · rfl
  · exact forUnits_keeps State.iu intrusionToTrap_iu b

theorem Trapped.openSeen (h : Trapped b y) (u : UnitNo) : OpenSeen u b y := by
  have ends := h.ends
  have dc : y.dc = b.dc := by
    rcases h with rfl | rfl
    · rfl
    · exact forUnits_keeps State.dc (fun u x => intrusionToTrap_dc u x) b
  have counters : y.fr.unitCounters = b.fr.unitCounters := by
    rcases h with rfl | rfl
    · rfl
    · exact forUnits_keeps (fun x => x.fr.unitCounters) intrusionToTrap_unitCounters b
  exact ⟨by rw [dc], by rw [counters], by rw [State.driveFault, dc, ends.2.2]; rfl, ends.2.1, ends.1.cl⟩

/-- The berth of `b` enters RELEASED, its intrusions traps. -/
theorem Trapped.released (h : Trapped b y) : Trapped (b.modBu (BerthUnit.enter .released)) (setBerthState .released y) ∨
    Ends (b.modBu (BerthUnit.enter .released)) (setBerthState .released y) := by
  rcases h with rfl | rfl
  · exact .inl (.inr rfl)
  · right
    have form : setBerthState .released (forUnits intrusionToTrap b) =
        forUnits intrusionToTrap (forUnits intrusionToTrap (b.modBu (BerthUnit.enter .released))) := by
      rw [traps_modBu (f := BerthUnit.enter .released) fun _ => rfl]
      rfl
    rw [form]
    exact (forUnits_ends intrusionToTrap_ends _).trans (forUnits_ends intrusionToTrap_ends _)

theorem Trapped.released_ends (h : Trapped b y) : Ends (b.modBu (BerthUnit.enter .released)) (setBerthState .released y) :=
  h.released.elim Trapped.ends id

theorem setBerthState_openSeen (st : BerthState) (s : State) (u : UnitNo) : OpenSeen u s (setBerthState st s) := by
  have ends := setBerthState_ends st s
  exact ⟨by rw [setBerthState_dc], by rw [setBerthState_unitCounters], by rw [State.driveFault, setBerthState_dc, ends.2.2]; rfl, ends.2.1,
    ends.1.cl⟩

theorem Holds.asked {P : UnitNo → Bool} (h : Holds P s t) : t.asked = s.asked := by
  funext u
  rw [State.asked, State.asked, h.configured, h.served]

/-- A release acted on at the end of its event, from the state `b` to the state `t`. -/
structure ReleaseActed (b t : State) : Prop where
  released : b.iu.emergencyClose = none → t.berthState = .released
  uncovered : ∀ u, b.asked u = true → ∀ d, t.bu.departure = some d → d.covered.get u = false
  unlocks : ∀ u, b.asked u = true → b.cl.phase ≠ .configFault → b.unit u = .closedLocked → b.driveFault u = false → t.dc.get u = unlocked b u
  taken : ∀ u, b.asked u = true → b.bu.cycle = none → b.iu.emergencyClose = none → b.iu.accessClose = none →
    OpenTaken (b.cl.phase != .configFault) b t u
  frame : Holds b.asked (b.modBu (BerthUnit.enter .released)) t

theorem setBerthState_entered (st : BerthState) (s : State) : (setBerthState st s).berthState = st := by
  rw [State.berthState, setBerthState_bu]
  rfl

/-- The permit of a unit asked, as the release is acted on. -/
theorem asked_permit {x : State} (released : x.berthState = .released) (asked : x.asked u = true) (own : x.pm.identityConflict = false)
    (clear : x.iu.latch = false) : x.permit u = (x.cl.phase != .configFault) := by
  rw [released_permit released (Bool.and_eq_true_iff.1 asked).2 own, clear, Bool.or_false]

theorem OpenSeen.unlocked {a c : State} (h : OpenSeen u a c) : unlocked c u = unlocked a u := by
  rw [Machine.unlocked, h.dc, h.now]
  rfl

theorem OpenSeen.unit {a c : State} (h : OpenSeen u a c) : c.unit u = a.unit u := congrArg DoorChannel.st h.dc

theorem release_acted (h : Trapped b y) (s0 : State) (own : b.pm.identityConflict = false) (clear : b.iu.latch = false) :
    ReleaseActed b (settle s0 (actRelease y)) := by
  have entered := h.released_ends
  have seen (u : UnitNo) := (h.openSeen u).trans (setBerthState_openSeen .released y u)
  have asked : (setBerthState .released y).asked = b.asked := entered.holds (x := noUnit) |>.asked
  have own' : (setBerthState .released y).pm.identityConflict = false := entered.1.identityConflict.trans own
  have clear' : (setBerthState .released y).iu.latch = false := entered.1.latch.trans clear
  have iu : (setBerthState .released y).iu = b.iu := (setBerthState_iu ..).trans h.iu
  have cycle : (setBerthState .released y).bu.cycle = b.bu.cycle := by
    rw [setBerthState_bu, ← h.bu]
    rfl
  have permit (u : UnitNo) (m : (setBerthState .released y).asked u = true) : (setBerthState .released y).permit u = (b.cl.phase != .configFault) := by
    rw [asked_permit (setBerthState_entered ..) m own' clear', (seen u).cl]
  have stands : (setBerthState .released y).berthState = .released := setBerthState_entered ..
  unfold actRelease
  generalize setBerthState .released y = z at *
  rw [asked] at permit
  refine ⟨fun emergency => ?_, fun u m d => ?_, fun u m phase locked fault => ?_, fun u m none emergency access => ?_, ?_⟩
  · exact openServed_released s0 stands (by rw [iu]; exact emergency)
  · exact openServed_uncovered s0 (by rw [asked]; exact m)
  · rw [openServed_unlocks s0 (by rw [asked]; exact m) clear' (by rw [permit u m]; exact bne_iff_ne.2 phase) ((seen u).unit.trans locked)
      ((seen u).driveFault.trans fault), (seen u).unlocked]
  · rw [← permit u m]
    exact (openServed_unclosed s0 (by rw [asked]; exact m) clear' (cycle.trans none) (by rw [iu]; exact emergency)
      (by rw [iu]; exact access)).within (seen u) (.refl u _)
  · have holds := openServed_settled s0 z
    rw [asked] at holds
    exact entered.holds.trans holds

/-! ### RELEASE (R80) -/

theorem opens_iff {v : Verdict} : v.opens = true ↔ v = .aligned ∨ v = .degraded := by
  cases v <;> simp [Verdict.opens]

theorem not_opens {v : Verdict} (h : v ≠ .aligned) (h1 : v ≠ .degraded) : v.opens = false :=
  Bool.eq_false_iff.2 fun opens => (opens_iff.1 opens).elim h h1

theorem releaseByVerdict_opens (h : s.bu.berth.verdict.opens = true) : releaseByVerdict s = actRelease s := if_pos h

theorem releaseByVerdict_refused (h : s.bu.berth.verdict.opens = false) : releaseByVerdict s = refuse .verdict s :=
  if_neg (by rw [h]; exact Bool.false_ne_true)

theorem onRelease_ignored (h : s.berthState = .released ∨ s.berthState = .closing ∨ s.berthState = .secured) : onRelease s = s := by
  unfold onRelease
  rcases h with h | h | h <;> rw [h]

/-- RELEASE before the units are open, by its tests in order. -/
theorem onRelease_tested (h : s.berthState = .announced ∨ s.berthState = .fusing ∨ s.berthState = .fixed) :
    onRelease s =
      if s.pm.identityConflict then refuse .nodeState s
      else if s.iu.latch then refuse .emergency s
      else if s.berthState = .announced then refuse .noStandstill s
      else if s.berthState = .fusing then s.modBerth fun r => { r with pendingRelease := true }
      else releaseByVerdict s := by
  unfold onRelease
  rcases h with h | h | h <;> rw [h] <;> rfl

theorem onRelease_refused {code : RefusalCode} (h : s.berthState = .announced ∨ s.berthState = .fusing ∨ s.berthState = .fixed)
    (tests : if s.pm.identityConflict then code = .nodeState
      else if s.iu.latch then code = .emergency
      else if s.berthState = .announced then code = .noStandstill
      else s.berthState = .fixed ∧ s.bu.berth.verdict ≠ .aligned ∧ s.bu.berth.verdict ≠ .degraded ∧ code = .verdict) :
    onRelease s = refuse code s := by
  rw [onRelease_tested h]
  split at tests
  · next e => rw [if_pos e, tests]
  · next e =>
    rw [if_neg e]
    split at tests
    · next e => rw [if_pos e, tests]
    · next e =>
      rw [if_neg e]
      split at tests
      · next e => rw [if_pos e, tests]
      · next e =>
        obtain ⟨fixed, aligned, degraded, rfl⟩ := tests
        rw [if_neg e, if_neg (by rw [fixed]; exact fun e => nomatch e), releaseByVerdict_refused (not_opens aligned degraded)]

theorem exec_release {src : Node} (accepted : AcceptedRunning ⟨src, .release, [s.seq]⟩ s) :
    Sys2Proof.Machine.exec (.release src s.seq) s = .next (settle s (onRelease (noteActivity src false s))) := by
  refine (congrArg Host.Outcome.next (onFrameSettling_of_acceptedRunning accepted (onSequence s.seq onRelease))).trans ?_
  exact congrArg (fun x => Host.Outcome.next (settle s x)) (if_pos rfl)

/-! ### A held release (R81) -/

/-- A held release judged, by its tests in order. -/
theorem judgeHeld_refused {code : RefusalCode} (h : y.modBerth (fun r => { r with pendingRelease := false }) = s)
    (tests : if s.pm.identityConflict then code = .nodeState
      else if s.iu.latch then code = .emergency
      else s.bu.berth.verdict ≠ .aligned ∧ s.bu.berth.verdict ≠ .degraded ∧ code = .verdict) : judgeHeld y = refuse code s := by
  unfold judgeHeld
  dsimp only
  rw [h]
  split at tests
  · next e => rw [if_pos e, tests]
  · next e =>
    rw [if_neg e]
    split at tests
    · next e => rw [if_pos e, tests]
    · next e =>
      obtain ⟨aligned, degraded, rfl⟩ := tests
      rw [if_neg e, releaseByVerdict_refused (not_opens aligned degraded)]

theorem judgeHeld_acts (h : y.modBerth (fun r => { r with pendingRelease := false }) = s) (own : s.pm.identityConflict = false)
    (clear : s.iu.latch = false) (verdict : s.bu.berth.verdict = .aligned ∨ s.bu.berth.verdict = .degraded) : judgeHeld y = actRelease s := by
  unfold judgeHeld
  dsimp only
  rw [h, own, if_neg Bool.false_ne_true, clear, if_neg Bool.false_ne_true, releaseByVerdict_opens (opens_iff.2 verdict)]

/-! ### The window close (R79, R81, R95, R105) -/

/-- The state once the window has closed at `n`, the release no longer held. -/
def State.windowClosed (s : State) (n : Time) : State :=
  { s with
    now := n
    bu :=
      { s.bu with
        berth :=
          { s.bu.berth with
            state := .fixed, pendingRelease := false, verdict := s.fix.verdict, sHat := s.fix.sHat.map (min 400000) } }
    ae :=
      { s.ae with
        window := none, verdict := s.fix.verdict, sHat := s.fix.sHat, margin := s.fix.margin
        searches := Quad.build fun u =>
          ⟨if (s.ae.searches.get u).outcome = .seeking then .notFound else (s.ae.searches.get u).outcome, []⟩
        map := Quad.build fun u => if s.configured u then some (mapEntry s s.fix u) else none } }

/-- The record's mark of a held release is `p`. -/
def BerthUnit.pending (p : Bool) (b : BerthUnit) : BerthUnit := { b with berth := { b.berth with pendingRelease := p } }

theorem copyFix_closed (s : State) (n : Time) :
    copyFix (fixBerth { s with now := n }) =
      forUnits intrusionToTrap ((s.windowClosed n).modBu (BerthUnit.pending s.bu.berth.pendingRelease)) := rfl

theorem closeWindow_free {n : Time} (none : s.bu.berth.pendingRelease = false) :
    closeWindow { s with now := n } = forUnits intrusionToTrap (s.windowClosed n) := by
  have form := copyFix_closed s n
  have mark : (copyFix (fixBerth { s with now := n })).bu.berth.pendingRelease = s.bu.berth.pendingRelease := by
    rw [form, traps_bu]
    rfl
  have same : (s.windowClosed n).modBu (BerthUnit.pending s.bu.berth.pendingRelease) = s.windowClosed n := by
    rw [none]
    rfl
  unfold closeWindow
  dsimp only
  rw [mark, none, if_neg Bool.false_ne_true, form, same]

theorem closeWindow_held {n : Time} (held : s.bu.berth.pendingRelease = true) :
    ∃ y, closeWindow { s with now := n } = judgeHeld y ∧
      y.modBerth (fun r => { r with pendingRelease := false }) = forUnits intrusionToTrap (s.windowClosed n) := by
  have form := copyFix_closed s n
  have mark : (copyFix (fixBerth { s with now := n })).bu.berth.pendingRelease = s.bu.berth.pendingRelease := by
    rw [form, traps_bu]
    rfl
  refine ⟨copyFix (fixBerth { s with now := n }), ?_, ?_⟩
  · unfold closeWindow
    dsimp only
    rw [mark, held, if_pos rfl]
  · rw [form]
    show (forUnits intrusionToTrap _).modBu (BerthUnit.pending false) = _
    rw [← traps_modBu (f := BerthUnit.pending false) fun _ => rfl]
    rfl

theorem exec_fusionWindowExpiry {e : Time} (loaded : s.loaded = true) (runs : s.ae.window = some e) :
    Sys2Proof.Machine.exec .fusionWindowExpiry s =
      .next (settle { s with now := (s.reach e).now } (closeWindow { s with now := (s.reach e).now })) := by
  refine congrArg Host.Outcome.next ((if_pos loaded).trans ?_)
  unfold onWindow onExpiry
  rw [runs]
  dsimp only
  rw [← reach_eq]

theorem exec_heldRelease (loaded : s.loaded = true) (held : s.bu.berth.pendingRelease = true) :
    Sys2Proof.Machine.exec .heldRelease s =
      .next (match s.berthState with
        | .fusing => onWindow s
        | .fixed => settle s (judgeHeld s)
        | _ => s) :=
  congrArg Host.Outcome.next (if_pos (by rw [loaded, held]; rfl))

/-- The refusal of a held release. -/
theorem Ends.refused {code : RefusalCode} (h : Ends s t) : Ends (refuse code s) (refuse code t) := by
  obtain ⟨⟨leaves, still⟩, now, pins⟩ := h
  exact ⟨⟨{ leaves with lastRefusal := rfl }, still⟩, now, pins⟩

theorem windowClosed_asked (s : State) (n : Time) :
    (s.windowClosed n).asked = fun u => s.configured u && (mapEntry s s.fix u).reason == .served := by
  funext u
  have entry : (s.windowClosed n).ae.map.get u = if s.configured u then some (mapEntry s s.fix u) else none := Quad.build_get ..
  have configured : (s.windowClosed n).configured u = s.configured u := rfl
  unfold State.asked State.served
  rw [entry, configured]
  cases s.configured u <;> rfl

theorem asked_of (configured : s.configured u = true) (served : s.served u = true) : s.asked u = true :=
  Bool.and_eq_true_iff.2 ⟨configured, served⟩

theorem phase_free (h : s.cl.phase = .running) : (s.cl.phase != .configFault) = true := by
  rw [h]
  rfl

/-- Settles O29: a release acted on is the same from a frame, at the window close and when held; the tests before it refuse in order. -/
theorem releasesJudged : Obligations.ReleasesJudged := by
  unfold Obligations.ReleasesJudged
  refine ⟨fun src s accepted => ⟨fun ignored => ?_, fun before => ⟨fun code tests => ?_, fun own clear fusing => ?_, fun own clear fixed verdict => ?_⟩⟩,
    fun s b e loaded runs base => ?_, fun s b loaded base => ⟨fun none => ?_, fun held fixed => ⟨fun code tests => ?_, fun own clear verdict => ?_⟩⟩⟩
  · refine ⟨_, exec_release accepted, ?_⟩
    rw [onRelease_ignored (by exact ignored)]
    exact settle_ends s _
  · refine ⟨_, exec_release accepted, ?_⟩
    rw [onRelease_refused (s := noteActivity src false s) before tests]
    have ends := settle_ends s (refuse code (noteActivity src false s))
    have early : s.berthState ≠ .closing ∧ s.berthState ≠ .released := by
      rcases before with e | e | e <;> rw [e] <;> exact ⟨(fun e => nomatch e), fun e => nomatch e⟩
    exact ⟨ends.berthState_eq early.1 early.2, ends⟩
  · refine ⟨_, exec_release accepted, ?_⟩
    have held : onRelease (noteActivity src false s) = (noteActivity src false s).modBu (BerthUnit.pending true) := by
      rw [onRelease_tested (by exact before), if_neg (by show ¬s.pm.identityConflict = true; rw [own]; exact Bool.false_ne_true),
        if_neg (by show ¬s.iu.latch = true; rw [clear]; exact Bool.false_ne_true),
        if_neg (by show ¬s.berthState = .announced; rw [fusing]; exact fun e => nomatch e), if_pos (by exact fusing)]
      rfl
    rw [held]
    have ends := settle_ends s ((noteActivity src false s).modBu (BerthUnit.pending true))
    have state : ((noteActivity src false s).modBu (BerthUnit.pending true)).berthState = .fusing := fusing
    exact ⟨(ends.berthState_eq (by rw [state]; exact fun e => nomatch e) (by rw [state]; exact fun e => nomatch e)).trans state, ends⟩
  · refine ⟨_, exec_release accepted, ?_⟩
    have acts : onRelease (noteActivity src false s) = actRelease (noteActivity src false s) := by
      rw [onRelease_tested (by exact before), if_neg (by show ¬s.pm.identityConflict = true; rw [own]; exact Bool.false_ne_true),
        if_neg (by show ¬s.iu.latch = true; rw [clear]; exact Bool.false_ne_true),
        if_neg (by show ¬s.berthState = .announced; rw [fixed]; exact fun e => nomatch e),
        if_neg (by show ¬s.berthState = .fusing; rw [fixed]; exact fun e => nomatch e)]
      exact releaseByVerdict_opens (s := noteActivity src false s) (opens_iff.2 verdict)
    rw [acts]
    have acted := release_acted (b := noteActivity src false s) (.inl rfl) s own clear
    have running : s.cl.phase = .running := accepted.2
    have asked (u : UnitNo) (configured : s.configured u = true) (served : s.served u = true) : (noteActivity src false s).asked u = true :=
      asked_of (s := noteActivity src false s) configured served
    refine ⟨acted.frame.2.1, acted.frame.2.2, acted.released, fun u configured served => ?_, acted.frame.1⟩
    refine ⟨acted.uncovered u (asked u configured served), fun locked fault => ?_, fun cycle emergency access => ?_⟩
    · exact acted.unlocks u (asked u configured served) (by show s.cl.phase ≠ _; rw [running]; exact fun e => nomatch e) locked fault
    · have taken := acted.taken u (asked u configured served) cycle emergency access
      rw [phase_free (s := noteActivity src false s) running] at taken
      exact taken.within ⟨rfl, rfl, rfl, rfl, rfl⟩ (.refl u _)
  · have base : b = s.windowClosed (s.reach e).now := by
      rw [base, reach_eq]
      rfl
    subst base
    have exec := exec_fusionWindowExpiry loaded runs
    have trapped : Trapped (s.windowClosed (s.reach e).now) (forUnits intrusionToTrap (s.windowClosed (s.reach e).now)) := .inr rfl
    refine ⟨fun none => ⟨_, exec, ?_⟩, fun held fusing => ?_, fun held => ⟨fun code tests => ⟨_, exec, ?_⟩, fun own clear verdict => ⟨_, exec, ?_⟩⟩⟩
    · rw [closeWindow_free none]
      have ends := trapped.ends.settled { s with now := (s.reach e).now }
      exact ⟨ends.berthState_eq (fun e => nomatch e) (fun e => nomatch e), ends⟩
    · rw [exec_heldRelease loaded held, fusing]
      exact congrArg Host.Outcome.next (if_pos loaded).symm
    · obtain ⟨y, form, unheld⟩ := closeWindow_held (n := (s.reach e).now) held
      rw [form, judgeHeld_refused (code := code) unheld]
      · have ends := (trapped.ends.refused (code := code)).settled { s with now := (s.reach e).now }
        exact ⟨ends.berthState_eq (fun e => nomatch e) (fun e => nomatch e), ends⟩
      · rw [trapped.ends.1.identityConflict, trapped.iu, trapped.bu]
        exact tests
    · obtain ⟨y, form, unheld⟩ := closeWindow_held (n := (s.reach e).now) held
      rw [form, judgeHeld_acts unheld (trapped.ends.1.identityConflict.trans own) (by rw [trapped.iu]; exact clear) (by rw [trapped.bu]; exact verdict)]
      have acted := release_acted trapped { s with now := (s.reach e).now } own clear
      have frame := acted.frame
      rw [windowClosed_asked] at frame
      refine ⟨frame.2.1, frame.2.2, acted.released, fun u configured served => ?_, frame.1⟩
      have asked : (s.windowClosed (s.reach e).now).asked u = true := by
        rw [windowClosed_asked]
        exact Bool.and_eq_true_iff.2 ⟨configured, beq_iff_eq.2 served⟩
      exact ⟨acted.uncovered u asked, acted.unlocks u asked, acted.taken u asked⟩
  · refine congrArg Host.Outcome.next (if_neg ?_)
    rw [none, Bool.and_false]
    exact Bool.false_ne_true
  · subst base
    have exec := exec_heldRelease loaded held
    rw [fixed] at exec
    refine ⟨_, exec, ?_⟩
    dsimp only
    rw [judgeHeld_refused (s := s.modBu (BerthUnit.pending false)) rfl tests]
    have ends := settle_ends s (refuse code (s.modBu (BerthUnit.pending false)))
    have state : (refuse code (s.modBu (BerthUnit.pending false))).berthState = .fixed := fixed
    exact ⟨(ends.berthState_eq (by rw [state]; exact fun e => nomatch e) (by rw [state]; exact fun e => nomatch e)).trans state, ends⟩
  · subst base
    have exec := exec_heldRelease loaded held
    rw [fixed] at exec
    refine ⟨_, exec, ?_⟩
    dsimp only
    rw [judgeHeld_acts (s := s.modBu (BerthUnit.pending false)) rfl own clear verdict]
    have acted := release_acted (b := s.modBu (BerthUnit.pending false)) (.inl rfl) s own clear
    refine ⟨acted.frame.2.1, acted.frame.2.2, acted.released, fun u configured served => ?_, acted.frame.1⟩
    have asked := asked_of (s := s.modBu (BerthUnit.pending false)) configured served
    exact ⟨acted.uncovered u asked, acted.unlocks u asked, acted.taken u asked⟩

end Sys2Proof.Machine

/-! O31, first part: REOPEN of a berth in CLOSING or SECURED. -/

namespace Sys2Proof.Machine
variable {u v : UnitNo} {s t b y : State}

/-! ### The frames of a REOPEN (R84, R167) -/

/-- An open request leaves every unit's sensing. -/
theorem openRequest_sensing (u v : UnitNo) (s : State) : (openRequest u s).su.units.get v = s.su.units.get v := by
  by_cases other : u = v
  · subst other
    have turned (x : State) (d : DoorChannel) (h : x.unit u ≠ .isolated) (h1 : d.st ≠ .isolated) (h2 : d.st ≠ .closedLocked) :
        (moveUnit u d x).su.units.get u = x.su.units.get u := by
      rw [moveUnit_sensing (.inl h2)]
      exact enteredSensing_same h h1
    unfold openRequest
    split
    case h_1 at_ =>
      split
      · have moved := turned s (unlocked s u) (by rw [at_]; exact fun e => nomatch e) (fun e => nomatch e) fun e => nomatch e
        have unlocking : (moveUnit u (unlocked s u) s).unit u = .unlocking := by
          rw [State.unit, moveUnit_channel]
          rfl
        show (takeHeldDriveFault u (moveUnit u (unlocked s u) s)).su.units.get u = _
        unfold takeHeldDriveFault
        split
        · rw [enterFault_sensing (by rw [unlocking]; exact fun e => nomatch e), moved]
        · exact moved
      · rfl
    case h_5 at_ =>
      have moved := turned s (reversingTo .opened u s) (by rw [at_]; exact fun e => nomatch e) (fun e => nomatch e) fun e => nomatch e
      have reversing : (moveUnit u (reversingTo .opened u s) s).unit u = .reversing := by
        rw [State.unit, moveUnit_channel]
        rfl
      have done := turned (moveUnit u (reversingTo .opened u s) s)
      rw [reversing] at done
      rw [enterReversing_eq]
      split
      · unfold reverseDone
        split <;> refine (done _ ?_ ?_ ?_).trans moved <;> exact fun e => nomatch e
      · exact moved
    case h_7 at_ => exact turned s _ (by rw [at_]; exact fun e => nomatch e) (fun e => nomatch e) fun e => nomatch e
    all_goals rfl
  · exact (openRequest_stands other s).su

theorem dropCovered_lc (u : UnitNo) (s : State) : (dropCovered u s).lc = s.lc := by
  unfold dropCovered
  split <;> rfl

theorem openServed_lc (u : UnitNo) (s : State) : (openServed u s).lc = s.lc := by
  unfold openServed berthOpenRequest
  split
  · split
    · exact dropCovered_lc u s
    · exact (openRequest_lc ..).trans (dropCovered_lc u s)
  · rfl

theorem openServed_sensing (v u : UnitNo) (s : State) : (openServed u s).su.units.get v = s.su.units.get v := by
  unfold openServed berthOpenRequest
  split
  · split
    · rw [dropCovered_su]
    · rw [openRequest_sensing, dropCovered_su]
  · rfl

theorem forUnits_openServed_lc (s : State) : (forUnits openServed s).lc = s.lc := forUnits_keeps State.lc openServed_lc s

theorem intrusions_nil (h : ∀ v, (s.su.units.get v).alarm ≠ .intrusion) : s.intrusions = [] :=
  List.filter_eq_nil_iff.2 fun v _ => by rw [beq_iff_eq]; exact h v

/-- Without own holds and intrusions an event's end sends no HOLD and evicts none. -/
theorem settle_holdFrames (s0 : State) (none : s.bu.cycle = none) (quiet : s.intrusions = []) (p : List Byte) :
    (settle s0 s).frames .hold p = s.frames .hold p := by
  obtain ⟨l, sent, frames⟩ := settle_sent s0 s
  have beacons (f) (m : f ∈ l) : f.1 = .beacon := by
    rcases frames f m with (hold | ⟨v, intrusion, -⟩) | beacon
    · rw [State.ownHolds, none] at hold
      cases hold
    · rw [quiet] at intrusion
      cases intrusion
    · exact beacon
  refine sent.frames_other (fun e => nomatch e) fun f m => ⟨fun e => ?_, ?_⟩
  · cases (congrArg Prod.fst e).symm.trans (beacons f m)
  · rw [beacons f m]
    decide

/-- The state from which the requests of a REOPEN go out: RELEASED, without a cycle. -/
def reopened (s : State) : State := endCycle true (setBerthState .released s)

/-- The traps and the HOLD ENDs of a REOPEN. -/
theorem reopened_enqueued (s : State) :
    Enqueued (s.intrusions.map (trapAlert s.seq) ++ holdEnds s.seq s.ownHolds) s (reopened s) := by
  obtain ⟨traps, seq, -, -⟩ := setBerthState_raised (st := .released) rfl s
  have holds : (setBerthState .released s).ownHolds = s.ownHolds := by
    unfold State.ownHolds
    rw [setBerthState_bu]
    rfl
  have ends := endCycle_enqueued (setBerthState .released s)
  rw [seq, holds] at ends
  exact traps.trans ends

theorem reopened_quiet (s : State) (v : UnitNo) : ((reopened s).su.units.get v).alarm ≠ .intrusion := by
  obtain ⟨-, -, alarms, raised⟩ := setBerthState_raised (st := .released) rfl s
  rw [reopened, (endCycle_su _).1]
  by_cases m : v ∈ s.intrusions
  · rw [raised v m]
    exact fun e => nomatch e
  · rw [alarms v m]
    exact fun intrusion => m (List.mem_filter.2 ⟨mem_units v, beq_iff_eq.2 intrusion⟩)

theorem reopened_bu (s : State) : (reopened s).bu = { (s.bu.enter .released) with cycle := none } := by
  rw [reopened, endCycle_bu, setBerthState_bu]

theorem reopened_iu (s : State) : (reopened s).iu = s.iu := by
  rw [reopened, endCycle_iu, setBerthState_iu]

theorem reopened_ends (s : State) : Ends (s.modBu (BerthUnit.pass .released none)) (reopened s) := by
  have form : (setBerthState .released s).setCycle none = forUnits intrusionToTrap (s.modBu (BerthUnit.pass .released none)) :=
    (traps_modBu (f := BerthUnit.withCycle none) (fun _ => rfl) (s.modBu (BerthUnit.enter .released))).symm
  have sends := endCycle_sends true (setBerthState .released s)
  rw [form] at sends
  exact (forUnits_ends intrusionToTrap_ends _).trans sends.ends

theorem endCycle_openSeen (u : UnitNo) (s : State) : OpenSeen u s (endCycle true s) := by
  have sends := endCycle_sends true s
  exact ⟨congrArg (fun d => d.get u) sends.dc, congrArg (fun c => c.get u) (endCycle_unitCounters true s),
    by rw [State.driveFault, sends.dc, sends.pins]; rfl, sends.now, sends.cl⟩

theorem reopened_openSeen (u : UnitNo) (s : State) : OpenSeen u s (reopened s) :=
  (setBerthState_openSeen .released s u).trans (endCycle_openSeen u _)

/-- The HOLD ENDs that stand in the queue after a REOPEN. -/
theorem reopened_frames (s0 : State) {c : CloseCycle} (stands : s.bu.cycle = some c) (room : s.lc.queue.length + c.holds.length ≤ 8) (car : Byte) :
    (settle s0 (forUnits openServed (reopened s))).frames .hold [s.seq, 2, car] =
      s.frames .hold [s.seq, 2, car] + c.holds.countP fun x => byte x.car == car := by
  have cycle : (forUnits openServed (reopened s)).bu.cycle = none := by
    rw [(openServed_kept _).2, reopened_bu]
  have quiet : (forUnits openServed (reopened s)).intrusions = [] := intrusions_nil fun v => by
    rw [forUnits_keeps (fun x => x.su.units.get v) (openServed_sensing v)]
    exact reopened_quiet s v
  have holds : s.ownHolds = c.holds := by
    unfold State.ownHolds
    rw [stands]
  have few : s.intrusions.length ≤ 4 := List.length_filter_le ..
  have sent := (reopened_enqueued s).frames_room (k := .hold) (p := [s.seq, 2, car]) (by
    rw [List.length_append, List.length_map, holdEnds, List.length_map, holds]
    omega) fun e => nomatch e
  have alerts : (s.intrusions.map (trapAlert s.seq)).count (.hold, [s.seq, 2, car]) = 0 := List.count_eq_zero.2 fun m => by
    obtain ⟨v, -, e⟩ := List.mem_map.1 m
    cases congrArg Prod.fst e
  rw [settle_holdFrames s0 cycle quiet, frames_eq, forUnits_openServed_lc, ← frames_eq, sent, List.count_append, alerts, holdEnds_count, holds,
    Nat.zero_add]

/-! ### The requests under the latch (R89) -/

theorem openServed_withheld (u : UnitNo) (s : State) (latched : s.iu.latch = true) : Withheld s (openServed u s) ∧ Ends s (openServed u s) := by
  unfold openServed berthOpenRequest
  rw [latched]
  split
  · exact ⟨dropCovered_withheld u s, dropCovered_holds u s⟩
  · exact ⟨.refl s, .refl s⟩

/-- Under the latch the requests of a REOPEN are withheld, and its units leave the covered set alone. -/
theorem openServed_latched (latched : s.iu.latch = true) : Withheld s (forUnits openServed s) ∧ Ends s (forUnits openServed s) := by
  have next (a : State) (k : Withheld s a ∧ Ends s a) (u : UnitNo) : Withheld s (openServed u a) ∧ Ends s (openServed u a) := by
    have step := openServed_withheld u a (by rw [k.1.iu]; exact latched)
    exact ⟨k.1.trans step.1, k.2.trans step.2⟩
  exact next _ (next _ (next _ (next _ ⟨.refl s, .refl s⟩ .u0) .u1) .u2) .u3

/-- The frame of an event under the latch, with the departure close as it stands at its end. -/
theorem Ends.departureAtEnd (h : Ends b t) (still : b.iu.emergencyClose = none → b.iu.accessClose = none → ∀ u, t.dc.get u = b.dc.get u) :
    Ends { b with bu := { b.bu with departure := t.bu.departure } } t :=
  ⟨{ h.1 with noDeparture := id, still := fun ⟨_, _, emergency, access⟩ v _ => still emergency access v }, h.2⟩

/-! ### REOPEN (R84) -/

theorem onReopen_opens (h : s.berthState = .closing ∨ s.berthState = .secured) (verdict : s.bu.berth.verdict.opens = true) :
    onReopen s = forUnits openServed (reopened s) := by
  unfold onReopen
  rcases h with h | h <;> rw [h] <;> exact if_pos verdict

theorem onReopen_refused (h : s.berthState = .closing ∨ s.berthState = .secured) (verdict : s.bu.berth.verdict.opens = false) :
    onReopen s = refuse .verdict s := by
  unfold onReopen
  rcases h with h | h <;> rw [h] <;> exact if_neg (Bool.eq_false_iff.1 verdict)

theorem onReopen_ignored (h : s.berthState = .announced ∨ s.berthState = .fusing ∨ s.berthState = .fixed ∨ s.berthState = .released) :
    onReopen s = s := by
  unfold onReopen
  rcases h with h | h | h | h <;> rw [h]

theorem exec_reopen {src : Node} (accepted : AcceptedRunning ⟨src, .reopen, [s.seq]⟩ s) :
    Sys2Proof.Machine.exec (.reopen src s.seq) s = .next (settle s (onReopen (noteActivity src false s))) := by
  refine (congrArg Host.Outcome.next (onFrameSettling_of_acceptedRunning accepted (onSequence s.seq onReopen))).trans ?_
  exact congrArg (fun x => Host.Outcome.next (settle s x)) (if_pos rfl)

/-- A unit's permit in RUNNING, served in RELEASED with the latch clear. -/
theorem running_permit (released : s.berthState = .released) (served : s.served u = true) (running : s.cl.phase = .running)
    (clear : s.iu.latch = false) : s.permit u = !s.pm.identityConflict := by
  unfold State.permit State.berthPermit State.accessPermit
  rw [released, served, running, clear]
  cases s.pm.identityConflict <;> simp

/-- A REOPEN at the end of its event, from the state `y` that hears it. -/
structure Reopened (y t : State) : Prop where
  cycle : t.bu.cycle = none
  released : y.iu.emergencyClose = none → t.berthState = .released
  uncovered : ∀ u, y.asked u = true → ∀ d, t.bu.departure = some d → d.covered.get u = false
  reverses : ∀ u, y.asked u = true → y.iu.latch = false → y.unit u = .closing → 0 < y.remainingOpen u →
    t.unit u = .reversing ∧ (t.dc.get u).target = .opened
  unlocks : ∀ u, y.asked u = true → y.iu.latch = false → y.pm.identityConflict = false → y.unit u = .closedLocked → y.driveFault u = false →
    t.dc.get u = unlocked y u
  taken : ∀ u, y.asked u = true → y.iu.latch = false → y.iu.emergencyClose = none → y.iu.accessClose = none →
    OpenTaken (!y.pm.identityConflict) y t u
  withheld : y.iu.latch = true → Ends { y.modBu (BerthUnit.pass .released none) with
    bu := { (y.modBu (BerthUnit.pass .released none)).bu with departure := t.bu.departure } } t
  frame : Holds y.asked (y.modBu (BerthUnit.pass .released none)) t

theorem reopen_settled (s0 : State) (running : y.cl.phase = .running) : Reopened y (settle s0 (forUnits openServed (reopened y))) := by
  have ends := reopened_ends y
  have seen (u : UnitNo) := reopened_openSeen u y
  have asked : (reopened y).asked = y.asked := ends.holds (x := noUnit) |>.asked
  have own : (reopened y).pm.identityConflict = y.pm.identityConflict := ends.1.identityConflict
  have clear : (reopened y).iu.latch = y.iu.latch := ends.1.latch
  have iu := reopened_iu y
  have cl : (reopened y).cl = y.cl := ends.1.cl
  have bu := reopened_bu y
  generalize reopened y = z at *
  have stands : z.berthState = .released := congrArg (fun b : BerthUnit => b.berth.state) bu
  have cycle : z.bu.cycle = none := congrArg BerthUnit.cycle bu
  have permit (u : UnitNo) (m : y.asked u = true) (free : y.iu.latch = false) : z.permit u = !y.pm.identityConflict := by
    rw [← asked] at m
    rw [running_permit stands (Bool.and_eq_true_iff.1 m).2 (by rw [cl]; exact running) (clear.trans free), own]
  refine ⟨?_, fun emergency => ?_, fun u m d => ?_, fun u m free closing short => ?_, fun u m free unique locked fault => ?_,
    fun u m free emergency access => ?_, fun latched => ?_, ?_⟩
  · exact (settle_ends s0 _).1.noCycle ((openServed_kept z).2.trans cycle)
  · exact openServed_released s0 stands (by rw [iu]; exact emergency)
  · exact openServed_uncovered s0 (by rw [asked]; exact m)
  · have taken := (openServed_taken (by rw [asked]; exact m) (clear.trans free)).within (seen u) (.refl u _)
    have channel := taken.closing closing short
    have reversing : (forUnits openServed z).unit u = .reversing := by
      rw [State.unit, channel]
      rfl
    have stays := settle_unmoved (u := u) s0 (s := forUnits openServed z) (by rw [reversing]; rfl)
    rw [State.unit, stays, channel]
    exact ⟨rfl, rfl⟩
  · rw [openServed_unlocks s0 (by rw [asked]; exact m) (clear.trans free) (by rw [permit u m free, unique]; rfl) ((seen u).unit.trans locked)
      ((seen u).driveFault.trans fault), (seen u).unlocked]
  · rw [← permit u m free]
    exact (openServed_unclosed s0 (by rw [asked]; exact m) (clear.trans free) cycle (by rw [iu]; exact emergency)
      (by rw [iu]; exact access)).within (seen u) (.refl u _)
  · obtain ⟨withheld, kept⟩ := openServed_latched (clear.trans latched)
    refine ((ends.trans kept).settled s0).departureAtEnd fun emergency access u => ?_
    have rests := settle_withheld (s := forUnits openServed z) s0 (by rw [withheld.iu, clear]; exact latched)
      (by rw [withheld.iu, iu]; exact emergency) (by rw [withheld.iu, iu]; exact access) u
    rw [rests.dc, withheld.dc]
    exact (seen u).dc
  · have holds := openServed_settled s0 z
    rw [asked] at holds
    exact ends.holds.trans holds

/-- A REOPEN of the record's sequence, by the state of the berth and its verdict. -/
theorem reopens (src : Node) (s : State) (accepted : AcceptedRunning ⟨src, .reopen, [s.seq]⟩ s) :
    (s.berthState = .closing ∨ s.berthState = .secured →
      (s.bu.berth.verdict ≠ .aligned → s.bu.berth.verdict ≠ .degraded →
        ∃ t, Sys2Proof.Machine.exec (.reopen src s.seq) s = .next t ∧
          Ends
            { noteActivity src false s with pm := { (noteActivity src false s).pm with lastRefusal := .verdict } } t) ∧
      (s.bu.berth.verdict = .aligned ∨ s.bu.berth.verdict = .degraded →
        ∃ t, Sys2Proof.Machine.exec (.reopen src s.seq) s = .next t ∧ Reopened (noteActivity src false s) t ∧
          ∀ c, s.bu.cycle = some c → s.lc.queue.length + c.holds.length ≤ 8 → ∀ car,
            t.frames .hold [s.seq, 2, car] = s.frames .hold [s.seq, 2, car] + c.holds.countP fun x => byte x.car == car)) ∧
    (s.berthState = .announced ∨ s.berthState = .fusing ∨ s.berthState = .fixed ∨ s.berthState = .released →
      ∃ t, Sys2Proof.Machine.exec (.reopen src s.seq) s = .next t ∧ Ends (noteActivity src false s) t) := by
  refine ⟨fun late => ⟨fun aligned degraded => ⟨_, exec_reopen accepted, ?_⟩, fun verdict => ⟨_, exec_reopen accepted, ?_⟩⟩,
    fun early => ⟨_, exec_reopen accepted, ?_⟩⟩
  · rw [onReopen_refused (s := noteActivity src false s) late (not_opens aligned degraded)]
    exact settle_ends s _
  · rw [onReopen_opens (s := noteActivity src false s) late (opens_iff.2 verdict)]
    exact ⟨reopen_settled s accepted.2, fun c stands room car => reopened_frames (s := noteActivity src false s) s stands room car⟩
  · rw [onReopen_ignored (s := noteActivity src false s) early]
    exact settle_ends s _

end Sys2Proof.Machine

/-! O31, second part: DEPART, and the obligation. -/

namespace Sys2Proof.Machine
variable {u v : UnitNo} {s t x : State}

/-! ### A departure close under its warning (R88) -/

theorem judgeCovered_warned {d : DepartureClose} (h : s.bu.departure = some d) (runs : d.warning.running = true) : judgeCovered u s = s := by
  unfold judgeCovered
  rw [h]
  dsimp only
  rw [runs]
  rfl

theorem closeRequest_bu (u : UnitNo) (s : State) : (closeRequest u s).bu = s.bu := by
  obtain ⟨d, r, c, form⟩ := closeRequest_requested u s
  rw [form]

theorem judgeMember_departure (u : UnitNo) (s : State) : (judgeMember u s).bu.departure = s.bu.departure := by
  unfold judgeMember
  split
  · rfl
  · split
    · rfl
    · split
      · rw [berthCloseRequest_bu]
        rfl
      · rfl

theorem judgeEmergencyMember_bu (u : UnitNo) (s : State) : (judgeEmergencyMember u s).bu = s.bu := by
  unfold judgeEmergencyMember
  split
  · rfl
  · split
    · split
      · rw [closeRequest_bu]
        rfl
      · rfl
    · rfl

theorem dropAccessMember_bu (u : UnitNo) (s : State) : (dropAccessMember u s).bu = s.bu := by
  unfold dropAccessMember
  split <;> rfl

theorem judgeAccessMember_bu (u : UnitNo) (s : State) : (judgeAccessMember u s).bu = s.bu := by
  unfold judgeAccessMember
  split
  · rfl
  · split
    · rfl
    · split
      · rw [closeRequest_bu, dropAccessMember_bu]
      · rfl

/-- The IU's closes leave the BU as they are judged. -/
theorem judgedMembers_bu (s : State) : (judgedMembers s).bu = (forUnits judgeCovered (forUnits judgeMember s)).bu :=
  (forUnits_keeps State.bu judgeAccessMember_bu _).trans (forUnits_keeps State.bu judgeEmergencyMember_bu _)

/-- A departure close under its warning stands to the end of the event. -/
theorem settle_departure (s0 : State) {d : DepartureClose} (h : s.bu.departure = some d) (runs : d.warning.running = true) :
    (settle s0 s).bu.departure = some d := by
  have first : (forUnits judgeMember s).bu.departure = some d :=
    (forUnits_keeps (fun x => x.bu.departure) judgeMember_departure s).trans h
  rw [(settle_completed s0 s).departure, judgedMembers_bu, forUnits_fixed fun u => judgeCovered_warned first runs]
  exact first

/-! ### DEPART (R86 to R88) -/

theorem departable_iff (st : UnitState) : (!st.departable) = (st != .closedLocked && st != .isolated && st != .fault) := by
  cases st <;> rfl

/-- The unit that a DEPART reports, of those not secured. -/
theorem unsecured_eq (s : State) :
    s.unsecured = fun v => s.configured v && s.unit v != .closedLocked && s.unit v != .isolated && s.unit v != .fault := by
  funext v
  rw [State.unsecured, departable_iff, Bool.and_assoc, Bool.and_assoc, Bool.and_assoc]

/-- The report of a DEPART's unsecured units, and its ALERT. -/
theorem reportUnsecured_found (h : UnitNo.all.find? s.unsecured = some u) :
    reportUnsecured s = alert .departUnsecured (some u) (report .departUnsecured .severe (some u) s) := by
  unfold reportUnsecured
  rw [h]

theorem reportUnsecured_none (h : ∀ v, s.configured v = false ∨ s.unit v = .closedLocked ∨ s.unit v = .isolated ∨ s.unit v = .fault) :
    reportUnsecured s = s := by
  have none : UnitNo.all.find? s.unsecured = none := List.find?_eq_none.2 fun v _ => by
    rw [unsecured_eq]
    rcases h v with e | e | e | e <;> simp [e]
  unfold reportUnsecured
  rw [none]

theorem reportUnsecured_sends (s : State) : Sends s (reportUnsecured s) := by
  unfold reportUnsecured
  split
  · exact .refl s
  · exact (report_sends ..).trans (alert_sends ..)

/-- What a DEPART ends, in the state `x` that has reported its units. -/
def departed (x : State) (covered : Quad Bool) : State :=
  { x with
    bu :=
      { berth := Berth.none, cycle := none, holdList := []
        departure := if UnitNo.all.any covered.get then some ⟨covered, x.newWarning⟩ else x.bu.departure }
    ae := AlignEngine.reset
    iu := { x.iu with releaseSet := if x.ownReleased && x.strapOk then insertNode x.cl.own [] else eraseNode x.cl.own [] } }

/-- The berth, its train and the Release Set wiped. -/
def wiped (x : State) : State :=
  { x with
    bu := { x.bu with berth := Berth.none, cycle := none, holdList := [] }, ae := AlignEngine.reset, iu := { x.iu with releaseSet := [] } }

theorem syncOwnRelease_wiped (x : State) :
    syncOwnRelease (wiped x) =
      { wiped x with
        iu := { x.iu with releaseSet := if x.ownReleased && x.strapOk then insertNode x.cl.own [] else eraseNode x.cl.own [] } } := by
  have released : (wiped x).ownReleased = x.ownReleased := rfl
  have strap : (wiped x).strapOk = x.strapOk := rfl
  unfold syncOwnRelease
  rw [released, strap]
  rfl

theorem departed_form (x : State) (covered : Quad Bool) : startDeparture covered (syncOwnRelease (wiped x)) = departed x covered := by
  rw [syncOwnRelease_wiped]
  unfold startDeparture noneLeft departed
  generalize (if x.ownReleased && x.strapOk then insertNode x.cl.own [] else eraseNode x.cl.own []) = set
  rcases UnitNo.all.any covered.get
  · rw [if_pos (show (!false) = true from rfl), if_neg Bool.false_ne_true]
    rfl
  · rw [if_neg (show ¬(!true) = true from Bool.false_ne_true), if_pos rfl]
    rfl

theorem onDepart_eq (s : State) : onDepart s = departed (reportUnsecured s) s.coveredUnits := by
  unfold onDepart
  dsimp only
  rw [departed_eq]
  exact departed_form (reportUnsecured s) s.coveredUnits

theorem exec_depart {src : Node} (accepted : AcceptedRunning ⟨src, .depart, [s.seq]⟩ s) :
    Sys2Proof.Machine.exec (.depart src s.seq) s =
      .next (settle s (departed (reportUnsecured (noteActivity src false s)) s.coveredUnits)) := by
  refine (congrArg Host.Outcome.next (onFrameSettling_of_acceptedRunning accepted (onSequence s.seq onDepart))).trans ?_
  refine (congrArg (fun x => Host.Outcome.next (settle s x)) (if_pos rfl)).trans ?_
  exact congrArg (fun x => Host.Outcome.next (settle s x)) (onDepart_eq (noteActivity src false s))

/-- The end of an event brings no unit into or out of its manual release. -/
theorem settle_released (s0 s : State) (u : UnitNo) : ((settle s0 s).unit u).released = (s.unit u).released := by
  rcases (settle_ends s0 s).1.doors u rfl with same | ⟨opening, marked⟩ | ⟨standing, shuts, -⟩
  · rw [State.unit, same]
    rfl
  · rw [State.unit, marked]
    rfl
  · rw [State.unit, State.unit]
    rcases standing with e | e <;> rcases shuts with e' | e' | e' <;> rw [e, e'] <;> rfl

theorem ownReleased_iff (s : State) : s.ownReleased = true ↔ ∃ u, (s.unit u).released = true := UnitNo.all_any ..

theorem departed_member {covered : Quad Bool} (n : Node) :
    n ∈ (departed x covered).iu.releaseSet ↔ n = x.cl.own ∧ x.strapOk = true ∧ ∃ u, (x.unit u).released = true := by
  have set : (departed x covered).iu.releaseSet = if x.ownReleased && x.strapOk then [x.cl.own] else [] := rfl
  rw [set]
  split
  · next own =>
    rw [Bool.and_eq_true, ownReleased_iff] at own
    rw [List.mem_singleton]
    exact ⟨fun e => ⟨e, own.2, own.1⟩, fun e => e.1⟩
  · next own =>
    rw [Bool.and_eq_true, ownReleased_iff] at own
    exact ⟨fun e => (nomatch e), fun ⟨_, strap, released⟩ => absurd ⟨released, strap⟩ own⟩

/-- The Release Set at the end of a DEPART: the own number, while a unit stands manually released. -/
theorem departed_releases (s0 : State) {covered : Quad Bool} (n : Node) :
    n ∈ (settle s0 (departed x covered)).iu.releaseSet ↔ n = x.cl.own ∧ x.strapOk = true ∧ ∃ u, (x.unit u).released = true := by
  by_cases own : n = x.cl.own
  · subst own
    have follows : OwnReleaseFollows (departed x covered) := by
      rw [ownReleaseFollows_iff, ownReleased_iff]
      exact (departed_member x.cl.own).trans (and_iff_right rfl)
    have cl : (settle s0 (departed x covered)).cl = x.cl := (settle_ends s0 (departed x covered)).1.cl
    have ended := settle_ownRelease s0 follows
    rw [ownReleaseFollows_iff, ownReleased_iff, State.strapOk, cl] at ended
    simp only [settle_released] at ended
    exact ended.trans (and_iff_right rfl).symm
  · rw [settle_releases s0 (s := departed x covered) (.inl own)]
    exact departed_member n

/-- A DEPART's report and its ALERT, through the end of the event. -/
theorem departed_reports (s0 : State) {covered : Quad Bool} (found : UnitNo.all.find? s.unsecured = some u) :
    Reported .severe ⟨.departUnsecured, some u, s.seq, s.now⟩ s.fr (settle s0 (departed (reportUnsecured s) covered)).fr ∧
      (s.lc.queue.length < 16 →
        (settle s0 (departed (reportUnsecured s) covered)).frames .alert [6, byte u.val, s.seq] =
          s.frames .alert [6, byte u.val, s.seq] + 1) := by
  have made := (report_reported .departUnsecured .severe (some u) s).after (b := alert .departUnsecured (some u) (report .departUnsecured .severe (some u) s))
    ((alert_sends ..).slot_kept .severe) (alert_spares (p := fun _ _ => false) ..) fun _ => rfl
  have seq : (report .departUnsecured .severe (some u) s).seq = s.seq := by
    rw [State.seq, (report_sends ..).bu]
    rfl
  have lc := report_lc .departUnsecured .severe (some u) s
  rw [reportUnsecured_found found]
  generalize report .departUnsecured .severe (some u) s = r at *
  have queue : (departed (alert .departUnsecured (some u) r) covered).lc.queue = (enqueue .alert [6, byte u.val, r.seq] r).lc.queue := rfl
  refine ⟨Reported.settled (a := departed _ covered) made (fun e => nomatch e), fun room => ?_⟩
  rw [settle_alerts s0, frames_eq, queue, ← frames_eq, frames_enqueue_room (k' := .alert) (fun e => nomatch e) (by rw [lc]; exact room), seq, if_pos rfl,
    frames_eq, lc, ← frames_eq]
  exact fun v _ e => nomatch congrArg List.head? e

/-- Without a unit to report a DEPART leaves the severe slot. -/
theorem departed_severe (s0 : State) (covered : Quad Bool)
    (none : ∀ v, s.configured v = false ∨ s.unit v = .closedLocked ∨ s.unit v = .isolated ∨ s.unit v = .fault) :
    (settle s0 (departed (reportUnsecured s) covered)).fr.severe = s.fr.severe := by
  rw [reportUnsecured_none none]
  have idle : (departed s covered).berthState = .idle := rfl
  exact (settle_unsecurable s0 (unsecurable_of idle (fun e => nomatch e) fun e => nomatch e)).1.slots .severe fun _ => rfl

theorem coveredUnits_any (s : State) :
    UnitNo.all.any s.coveredUnits.get = UnitNo.all.any fun u => s.configured u && (s.unit u).coverable :=
  congrArg UnitNo.all.any (funext fun u => Quad.build_get _ u)

/-- The departure close that a DEPART starts stands under its warning. -/
theorem departed_covers (s0 : State) {covered : Quad Bool} (any : UnitNo.all.any covered.get = true) :
    (settle s0 (departed x covered)).out.warning = true ∧
      (settle s0 (departed x covered)).bu.departure = some ⟨covered, x.newWarning⟩ := by
  have starts : (departed x covered).bu.departure = some ⟨covered, x.newWarning⟩ := if_pos any
  have stands := settle_departure s0 starts rfl
  refine ⟨?_, stands⟩
  rw [settle_warning_eq, State.warningRunning, stands]
  simp [State.newWarning]

theorem departed_sends (h : Sends s x) (covered : Quad Bool) : Sends (departed s covered) (departed x covered) := by
  have warning : x.newWarning = s.newWarning := by
    unfold State.newWarning
    rw [h.now, h.cl]
  have released : x.ownReleased = s.ownReleased := by
    unfold State.ownReleased State.unit
    rw [h.dc]
  have strap : x.strapOk = s.strapOk := by
    unfold State.strapOk
    rw [h.cl]
  refine { h with bu := ?_, ae := rfl, iu := ?_ }
  · unfold departed
    rw [warning, h.bu]
  · unfold departed
    rw [released, strap, h.cl, h.iu]

/-- Settles O31: a REOPEN by the verdict and the latch, and a DEPART that wipes the berth and starts its close. -/
theorem reopensAndDeparts : Obligations.ReopensAndDeparts := by
  unfold Obligations.ReopensAndDeparts
  refine ⟨fun src s accepted => ⟨fun late => ⟨((reopens src s accepted).1 late).1, fun verdict b base => ?_⟩, (reopens src s accepted).2⟩,
    fun src s accepted => ⟨_, exec_depart accepted, ?_⟩⟩
  · obtain ⟨t, exec, done, frames⟩ := ((reopens src s accepted).1 late).2 verdict
    subst base
    refine ⟨t, exec, done.cycle, done.frame.2.1, done.frame.2.2, done.released, fun u configured served => ?_,
      fun c stands room h _ => frames c stands room _, done.withheld, done.frame.1⟩
    have asked := asked_of (s := noteActivity src false s) configured served
    exact ⟨done.uncovered u asked, done.reverses u asked, done.unlocks u asked, fun free emergency access =>
      (done.taken u asked free emergency access).within ⟨rfl, rfl, rfl, rfl, rfl⟩ (.refl u _)⟩
  · have sends := reportUnsecured_sends (noteActivity src false s)
    have ends := ((departed_sends sends s.coveredUnits).ends.trans (settle_ends s _)).withReleases
    refine ⟨?_, fun n => ?_, fun u found => ?_, fun none => ?_, fun ⟨u, configured, coverable⟩ => ?_, ?_⟩
    · exact (departed_sends sends s.coveredUnits).ends.trans (settle_ends s _) |>.berthState_eq (fun e => nomatch e) (fun e => nomatch e)
    · rw [departed_releases]
      have unit (u : UnitNo) : (reportUnsecured (noteActivity src false s)).unit u = s.unit u := by
        rw [State.unit, sends.dc]
        rfl
      rw [State.strapOk, sends.cl]
      simp only [unit]
      rfl
    · exact departed_reports (s := noteActivity src false s) s (by rw [unsecured_eq]; exact found)
    · exact departed_severe (s := noteActivity src false s) s s.coveredUnits none
    · have any : UnitNo.all.any s.coveredUnits.get = true := by
        rw [coveredUnits_any]
        exact (UnitNo.all_any ..).2 ⟨u, Bool.and_eq_true_iff.2 ⟨configured, coverable⟩⟩
      obtain ⟨warning, stands⟩ := departed_covers (x := reportUnsecured (noteActivity src false s)) s any
      rw [State.newWarning, sends.now, sends.cl] at stands
      exact ⟨warning, stands⟩
    · unfold departed at ends
      rw [coveredUnits_any] at ends
      exact ends

end Sys2Proof.Machine

/-! The requests that the closes send, and a unit pressed closed by them (R88, R159, R180, R184). -/

namespace Sys2Proof.Machine
variable {u v : UnitNo} {s t a b c : State}

/-! ### When a judge sends its request -/

theorem coveredUnder_some {w : Warning} (h : s.coveredUnder u = some w) :
    ∃ d, s.bu.departure = some d ∧ d.covered.get u = true ∧ d.warning = w := by
  obtain ⟨d, stands, covers⟩ := Option.bind_eq_some_iff.1 h
  split at covers
  · next covered => exact ⟨d, stands, covered, Option.some.inj covers⟩
  · cases covers

theorem coveredUnder_of {d : DepartureClose} (h : s.bu.departure = some d) (covered : d.covered.get u = true) :
    s.coveredUnder u = some d.warning := by
  rw [State.coveredUnder, h, Option.bind_some, if_pos covered]

theorem accessMember_some {w : List Warning} {m : Member} (h : s.accessMember u = some (w, m)) :
    ∃ a, s.iu.accessClose = some a ∧ a.members.get u = some m ∧ a.warnings = w := by
  obtain ⟨a, stands, place⟩ := Option.bind_eq_some_iff.1 h
  obtain ⟨m', member, pair⟩ := Option.map_eq_some_iff.1 place
  obtain ⟨rfl, rfl⟩ := Prod.mk.inj pair
  exact ⟨a, stands, member, rfl⟩

theorem accessMember_of {a : AccessClose} {m : Member} (h : s.iu.accessClose = some a) (member : a.members.get u = some m) :
    s.accessMember u = some (a.warnings, m) := by
  rw [State.accessMember, h, Option.bind_some, member]
  rfl

theorem emergencyStatus_of {e : EmergencyClose} (h : s.iu.emergencyClose = some e) (u : UnitNo) : s.emergencyStatus u = e.members.get u := by
  rw [State.emergencyStatus, h]
  rfl

theorem judgeCovered_sends {w : Warning} (h : s.coveredUnder u = some w) (over_ : w.running = false) (closable : (s.unit u).closable = true)
    (free : s.gapFree u w = true) : judgeCovered u s = berthCloseRequest u (dropCovered u s) := by
  obtain ⟨d, stands, covered, rfl⟩ := coveredUnder_some h
  unfold judgeCovered
  rw [stands]
  dsimp only
  rw [over_, covered, closable, free]
  rfl

theorem judgeCovered_rests_under {w : Warning} (h : s.coveredUnder u = some w) (rests : w.running = true ∨ (s.unit u).closable = false ∨ s.gapFree u w = false) :
    judgeCovered u s = s := by
  obtain ⟨d, stands, covered, rfl⟩ := coveredUnder_some h
  unfold judgeCovered
  rw [stands]
  refine if_neg fun due => ?_
  simp only [Bool.and_eq_true, Bool.not_eq_true'] at due
  obtain ⟨⟨⟨over_, -⟩, closable⟩, free⟩ := due
  rcases rests with e | e | e
  · exact Bool.false_ne_true (over_.symm.trans e)
  · exact Bool.false_ne_true (e.symm.trans closable)
  · exact Bool.false_ne_true (e.symm.trans free)

/-- The emergency close cycle with member `u` sent its request. -/
def EmergencyClose.started (u : UnitNo) (e : EmergencyClose) : EmergencyClose := { e with members := e.members.set u (some .started) }

theorem judgeEmergencyMember_sends {e : EmergencyClose} (h : s.iu.emergencyClose = some e) (waiting : e.members.get u = some .waiting)
    (moves : (s.unit u).turning = false) (free : s.gapFree u e.warning = true) :
    judgeEmergencyMember u s = closeRequest u (s.modIu fun i => { i with emergencyClose := some (e.started u) }) := by
  unfold judgeEmergencyMember
  rw [h]
  dsimp only
  rw [waiting]
  dsimp only
  rw [moves, free]
  rfl

theorem judgeEmergencyMember_rests_waiting {e : EmergencyClose} (h : s.iu.emergencyClose = some e)
    (rests : (s.unit u).turning = true ∨ s.gapFree u e.warning = false) : judgeEmergencyMember u s = s := by
  unfold judgeEmergencyMember
  rw [h]
  dsimp only
  split
  · refine if_neg fun due => ?_
    simp only [Bool.and_eq_true, Bool.not_eq_true'] at due
    obtain ⟨moves, free⟩ := due
    rcases rests with e | e
    · exact Bool.false_ne_true (moves.symm.trans e)
    · exact Bool.false_ne_true (e.symm.trans free)
  · rfl

theorem judgeAccessMember_sends {w : List Warning} {m : Member} (h : s.accessMember u = some (w, m)) (waiting : m.status = .waiting)
    (closable : (s.unit u).closable = true) (free : s.gapFree u (warningAt w m.warning) = true) :
    judgeAccessMember u s = closeRequest u (dropAccessMember u s) := by
  obtain ⟨a, stands, member, rfl⟩ := accessMember_some h
  unfold judgeAccessMember
  rw [stands]
  dsimp only
  rw [member]
  dsimp only
  rw [waiting, closable, free]
  rfl

theorem judgeAccessMember_rests_under {w : List Warning} {m : Member} (h : s.accessMember u = some (w, m))
    (rests : m.status ≠ .waiting ∨ (s.unit u).closable = false ∨ s.gapFree u (warningAt w m.warning) = false) : judgeAccessMember u s = s := by
  obtain ⟨a, stands, member, rfl⟩ := accessMember_some h
  unfold judgeAccessMember
  rw [stands]
  dsimp only
  rw [member]
  refine if_neg fun due => ?_
  simp only [Bool.and_eq_true, beq_iff_eq] at due
  obtain ⟨⟨waiting, closable⟩, free⟩ := due
  rcases rests with e | e | e
  · exact e waiting
  · exact Bool.false_ne_true (e.symm.trans closable)
  · exact Bool.false_ne_true (e.symm.trans free)

/-- The cycle with member `u` sent its request. -/
def CloseCycle.started (u : UnitNo) (m : Member) (c : CloseCycle) : CloseCycle :=
  { c with members := c.members.set u (some { m with status := .started }) }

theorem judgeMember_sends {c : CloseCycle} {m : Member} (h : s.bu.cycle = some c) (member : c.members.get u = some m) (waiting : m.status = .waiting)
    (free : s.memberFree c u (warningAt c.warnings m.warning) = true) :
    judgeMember u s = berthCloseRequest u (s.setCycle (some (c.started u m))) := by
  unfold judgeMember
  rw [h]
  dsimp only
  rw [member]
  dsimp only
  rw [waiting, free]
  rfl

theorem judgeMember_rests_under {c : CloseCycle} {m : Member} (h : s.bu.cycle = some c) (member : c.members.get u = some m)
    (rests : s.memberFree c u (warningAt c.warnings m.warning) = false) : judgeMember u s = s := by
  unfold judgeMember
  rw [h]
  dsimp only
  rw [member]
  refine if_neg fun due => ?_
  rw [Bool.and_eq_true] at due
  exact Bool.false_ne_true (rests.symm.trans due.2)

/-! ### A unit pressed closed -/

theorem obstructed_gapFree (h : s.obstructed u = false) (w : Warning) : s.gapFree u w = true := by
  unfold State.obstructed at h
  rw [Bool.or_eq_false_iff] at h
  unfold State.gapFree
  rw [h.2]
  rfl

theorem UnitJudged.pressed_eq (h : UnitJudged u a b) :
    b.pressed u = pressedClosed a.now a.cl.config.params.travelTimeout (b.dc.get u) := by
  rw [State.pressed, h.now, h.cl]

/-- What presses the unit after a judging presses it as it stood before. -/
theorem UnitJudged.pressed_from (h : UnitJudged u a b) (free : a.obstructed u = false) : b.pressed u = a.pressed u := by
  rw [h.pressed_eq]
  rcases h.pressed free with same | pressed
  · rw [same]
    rfl
  · rw [pressed]
    exact pressedClosed_idem ..

/-- A unit pressed stays so through what judges it later. -/
theorem UnitJudged.stays_pressed (h : UnitJudged u a b) (k : UnitJudged u b c) (free : a.obstructed u = false) (pressed : b.dc.get u = a.pressed u) :
    c.dc.get u = a.pressed u := by
  rcases k.pressed (h.obstructed.trans free) with same | again
  · exact same.trans pressed
  · exact again.trans (h.pressed_from free)

theorem UnitViewed.pressed (h : UnitViewed u a b) : b.pressed u = a.pressed u := by
  rw [State.pressed, h.now, h.cl, h.dc]
  rfl

theorem UnitViewed.obstructed (h : UnitViewed u a b) : b.obstructed u = a.obstructed u := h.judged.obstructed

theorem dropCovered_pressed (u : UnitNo) (s : State) : (dropCovered u s).pressed u = s.pressed u := by
  have stands := dropCovered_stands (u := u) u s
  rw [State.pressed, stands.now, stands.cl, stands.dc]
  rfl

theorem dropAccessMember_pressed (u : UnitNo) (s : State) : (dropAccessMember u s).pressed u = s.pressed u := by
  have stands := dropAccessMember_stands (u := u) u s
  rw [State.pressed, stands.now, stands.cl, stands.dc]
  rfl

theorem judgeCovered_presses {w : Warning} (free : s.obstructed u = false) (clear : s.iu.latch = false) (h : s.coveredUnder u = some w)
    (over_ : w.running = false) : (judgeCovered u s).dc.get u = s.pressed u := by
  by_cases closable : (s.unit u).closable = true
  · have drop := dropCovered_unitJudged u s
    rw [judgeCovered_sends h over_ closable (obstructed_gapFree free w), berthCloseRequest_clear (drop.latch.trans clear),
      closeRequest_pressed (drop.obstructed.trans free), dropCovered_pressed]
  · have rests := Bool.eq_false_iff.2 closable
    rw [judgeCovered_rests_under h (.inr (.inl rests)), pressed_other rests]

theorem judgeEmergencyMember_presses (free : s.obstructed u = false) (h : s.emergencyStatus u = some .waiting) :
    (judgeEmergencyMember u s).dc.get u = s.pressed u := by
  obtain ⟨e, stands, waiting⟩ := emergencyStatus_some h
  cases moves : (s.unit u).turning
  · rw [judgeEmergencyMember_sends stands waiting moves (obstructed_gapFree free _)]
    exact closeRequest_pressed (s := s.modIu fun i => { i with emergencyClose := some (e.started u) }) free
  · rw [judgeEmergencyMember_rests_waiting stands (.inl moves), pressed_other]
    cases st : s.unit u <;> rw [st] at moves <;> first | rfl | cases moves

theorem judgeAccessMember_presses {w : List Warning} {m : Member} (free : s.obstructed u = false) (h : s.accessMember u = some (w, m))
    (waiting : m.status = .waiting) : (judgeAccessMember u s).dc.get u = s.pressed u := by
  by_cases closable : (s.unit u).closable = true
  · have drop : (dropAccessMember u s).obstructed u = s.obstructed u := by
      have stands := dropAccessMember_stands (u := u) u s
      unfold State.obstructed State.edgeAsserted State.gapAsserted
      rw [stands.su]
    rw [judgeAccessMember_sends h waiting closable (obstructed_gapFree free _), closeRequest_pressed (drop.trans free), dropAccessMember_pressed]
  · have rests := Bool.eq_false_iff.2 closable
    rw [judgeAccessMember_rests_under h (.inr (.inl rests)), pressed_other rests]

/-- A judge over the four units presses the unit it is due at. -/
theorem forUnits_presses {f : UnitNo → State → State} (others : ∀ v s, v ≠ u → UnitViewed u s (f v s))
    (own : ∀ m, UnitViewed u s m → (f u m).dc.get u = m.pressed u) : (forUnits f s).dc.get u = s.pressed u := by
  obtain ⟨m, before, behind⟩ := forUnits_at (UnitViewed.refl u) UnitViewed.trans u others s
  rw [behind.dc, own m before, before.pressed]

/-! ### The judging, close by close -/

/-- The members of the cycle judged. -/
theorem cycleJudged (u : UnitNo) (s : State) : UnitJudged u s (forUnits judgeMember s) :=
  forUnits_unitJudged (fun _ s n => judgeMember_viewed n s) (judgeMember_unitJudged u) s

/-- The covered units judged. -/
theorem coveredJudged (u : UnitNo) (s : State) : UnitJudged u s (forUnits judgeCovered s) :=
  forUnits_unitJudged (fun _ s n => judgeCovered_viewed n s) (judgeCovered_unitJudged u) s

/-- The members of the emergency close cycle judged. -/
theorem emergencyJudged (u : UnitNo) (s : State) : UnitJudged u s (forUnits judgeEmergencyMember s) :=
  forUnits_unitJudged (fun _ s n => judgeEmergencyMember_viewed n s) (judgeEmergencyMember_unitJudged u) s

/-- The members of the access close judged. -/
theorem accessJudged (u : UnitNo) (s : State) : UnitJudged u s (forUnits judgeAccessMember s) :=
  forUnits_unitJudged (fun _ s n => judgeAccessMember_viewed n s) (judgeAccessMember_unitJudged u) s

/-- A covered unit whose warning has ended is pressed closed, while the latch is clear. -/
theorem judgedMembers_coveredPressed {w : Warning} (free : s.obstructed u = false) (clear : s.iu.latch = false) (h : s.coveredUnder u = some w)
    (over_ : w.running = false) : (judgedMembers s).dc.get u = s.pressed u := by
  have one := cycleJudged u s
  have place : (forUnits judgeMember s).coveredUnder u = some w := by
    rw [State.coveredUnder, forUnits_keeps (fun x => x.bu.departure) judgeMember_departure]
    exact h
  have two := coveredJudged u (forUnits judgeMember s)
  have pressed : (forUnits judgeCovered (forUnits judgeMember s)).dc.get u = s.pressed u := by
    rw [forUnits_presses (fun _ s n => judgeCovered_viewed n s) fun m viewed => ?_, one.pressed_from free]
    exact judgeCovered_presses (viewed.obstructed.trans (one.obstructed.trans free)) (viewed.latch.trans (one.latch.trans clear))
      (viewed.covered.trans place) over_
  exact (one.trans two).stays_pressed ((emergencyJudged u _).trans (accessJudged u _)) free pressed

/-- A WAITING member of the emergency close cycle is pressed closed. -/
theorem judgedMembers_emergencyPressed (free : s.obstructed u = false) (h : s.emergencyStatus u = some .waiting) :
    (judgedMembers s).dc.get u = s.pressed u := by
  have two := (cycleJudged u s).trans (coveredJudged u _)
  have place : (forUnits judgeCovered (forUnits judgeMember s)).emergencyStatus u = some .waiting := by
    rw [State.emergencyStatus, forUnits_keeps (fun x => x.iu.emergencyClose) judgeCovered_emergency,
      forUnits_keeps (fun x => x.iu.emergencyClose) judgeMember_emergency]
    exact h
  have pressed : (forUnits judgeEmergencyMember (forUnits judgeCovered (forUnits judgeMember s))).dc.get u = s.pressed u := by
    rw [forUnits_presses (fun _ s n => judgeEmergencyMember_viewed n s) fun m viewed => ?_, two.pressed_from free]
    exact judgeEmergencyMember_presses (viewed.obstructed.trans (two.obstructed.trans free)) (viewed.emergency.trans place)
  exact (two.trans (emergencyJudged u _)).stays_pressed (accessJudged u _) free pressed

theorem closeRequest_access (u : UnitNo) (s : State) : (closeRequest u s).iu.accessClose = s.iu.accessClose := by
  obtain ⟨d, r, c, form⟩ := closeRequest_requested u s
  rw [form]

theorem berthCloseRequest_access (u : UnitNo) (s : State) : (berthCloseRequest u s).iu.accessClose = s.iu.accessClose := by
  obtain ⟨d, r, c, form⟩ := berthCloseRequest_requested u s
  rw [form]

theorem judgeMember_access (u : UnitNo) (s : State) : (judgeMember u s).iu.accessClose = s.iu.accessClose := by
  unfold judgeMember
  split
  · rfl
  · split
    · rfl
    · split
      · exact berthCloseRequest_access u _
      · rfl

theorem judgeCovered_access (u : UnitNo) (s : State) : (judgeCovered u s).iu.accessClose = s.iu.accessClose := by
  unfold judgeCovered
  split
  · rfl
  · split
    · rw [berthCloseRequest_access, dropCovered_iu]
    · rfl

theorem judgeEmergencyMember_access (u : UnitNo) (s : State) : (judgeEmergencyMember u s).iu.accessClose = s.iu.accessClose := by
  unfold judgeEmergencyMember
  split
  · rfl
  · split
    · split
      · exact closeRequest_access u _
      · rfl
    · rfl

/-- A WAITING member of the access close is pressed closed. -/
theorem judgedMembers_accessPressed {w : List Warning} {m : Member} (free : s.obstructed u = false) (h : s.accessMember u = some (w, m))
    (waiting : m.status = .waiting) : (judgedMembers s).dc.get u = s.pressed u := by
  have three := ((cycleJudged u s).trans (coveredJudged u _)).trans (emergencyJudged u _)
  have place : (forUnits judgeEmergencyMember (forUnits judgeCovered (forUnits judgeMember s))).accessMember u = some (w, m) := by
    rw [State.accessMember, forUnits_keeps (fun x => x.iu.accessClose) judgeEmergencyMember_access,
      forUnits_keeps (fun x => x.iu.accessClose) judgeCovered_access, forUnits_keeps (fun x => x.iu.accessClose) judgeMember_access]
    exact h
  have whole : (judgedMembers s).dc.get u = (forUnits judgeEmergencyMember (forUnits judgeCovered (forUnits judgeMember s))).pressed u :=
    forUnits_presses (fun _ s n => judgeAccessMember_viewed n s) fun m viewed =>
      judgeAccessMember_presses (viewed.obstructed.trans (three.obstructed.trans free)) (viewed.access.trans place) waiting
  rw [whole, three.pressed_from free]

/-! ### The warnings that stand as an event ends -/

/-- The departure close and the access close that stand keep their warnings. -/
structure WarningsKept (s t : State) : Prop where
  departure : ∀ d, t.bu.departure = some d → ∃ d0, s.bu.departure = some d0 ∧ d.warning = d0.warning
  access : ∀ a, t.iu.accessClose = some a → ∃ a0, s.iu.accessClose = some a0 ∧ a.warnings = a0.warnings

theorem WarningsKept.of_eq (departure : t.bu.departure = s.bu.departure) (access : t.iu.accessClose = s.iu.accessClose) : WarningsKept s t :=
  ⟨fun d h => ⟨d, departure ▸ h, rfl⟩, fun a h => ⟨a, access ▸ h, rfl⟩⟩

theorem WarningsKept.trans (h : WarningsKept a b) (k : WarningsKept b c) : WarningsKept a c := by
  refine ⟨fun d stands => ?_, fun x stands => ?_⟩
  · obtain ⟨d1, stands, warning⟩ := k.departure d stands
    obtain ⟨d0, stands, warning'⟩ := h.departure d1 stands
    exact ⟨d0, stands, warning.trans warning'⟩
  · obtain ⟨x1, stands, warning⟩ := k.access x stands
    obtain ⟨x0, stands, warning'⟩ := h.access x1 stands
    exact ⟨x0, stands, warning.trans warning'⟩

theorem dropCovered_warnings (u : UnitNo) (s : State) : WarningsKept s (dropCovered u s) := by
  refine ⟨fun d stands => ?_, fun a stands => ⟨a, (dropCovered_iu u s) ▸ stands, rfl⟩⟩
  unfold dropCovered at stands
  split at stands
  · next none =>
    rw [none] at stands
    cases stands
  · next d0 was =>
    dsimp only [State.setDeparture, State.modBu] at stands
    split at stands
    · cases stands
    · exact ⟨d0, was, (congrArg DepartureClose.warning (Option.some.inj stands)).symm⟩

theorem dropAccessMember_warnings (u : UnitNo) (s : State) : WarningsKept s (dropAccessMember u s) := by
  refine ⟨fun d stands => ⟨d, (dropAccessMember_bu u s) ▸ stands, rfl⟩, fun a stands => ?_⟩
  unfold dropAccessMember at stands
  split at stands
  · next none =>
    rw [none] at stands
    cases stands
  · next a0 was =>
    dsimp only [State.modIu] at stands
    split at stands
    · cases stands
    · exact ⟨a0, was, (congrArg AccessClose.warnings (Option.some.inj stands)).symm⟩

theorem judgeCovered_warnings (u : UnitNo) (s : State) : WarningsKept s (judgeCovered u s) := by
  unfold judgeCovered
  split
  · exact .of_eq rfl rfl
  · split
    · exact (dropCovered_warnings u s).trans (.of_eq (by rw [berthCloseRequest_bu]) (berthCloseRequest_access ..))
    · exact .of_eq rfl rfl

theorem judgeAccessMember_warnings (u : UnitNo) (s : State) : WarningsKept s (judgeAccessMember u s) := by
  unfold judgeAccessMember
  split
  · exact .of_eq rfl rfl
  · split
    · exact .of_eq rfl rfl
    · split
      · exact (dropAccessMember_warnings u s).trans (.of_eq (by rw [closeRequest_bu]) (closeRequest_access ..))
      · exact .of_eq rfl rfl

theorem forUnits_warnings {f : UnitNo → State → State} (h : ∀ u s, WarningsKept s (f u s)) (s : State) : WarningsKept s (forUnits f s) :=
  (((h .u0 s).trans (h .u1 _)).trans (h .u2 _)).trans (h .u3 _)

theorem settle_warnings (s0 s : State) : WarningsKept s (settle s0 s) := by
  have judged : WarningsKept s (judgedMembers s) :=
    (((forUnits_warnings (fun u s => .of_eq (judgeMember_departure u s) (judgeMember_access u s)) s).trans
      (forUnits_warnings judgeCovered_warnings _)).trans
      (forUnits_warnings (fun u s => .of_eq (by rw [judgeEmergencyMember_bu]) (judgeEmergencyMember_access u s)) _)).trans
      (forUnits_warnings judgeAccessMember_warnings _)
  exact judged.trans (.of_eq (settle_completed s0 s).departure (settle_completed s0 s).access)

end Sys2Proof.Machine

/-! O54: the ends of the four warnings. -/

namespace Sys2Proof.Machine
variable {u v : UnitNo} {s t r : State}

/-! ### A close that stands, replaced in the frame of its event -/

theorem Ends.redeparted {d d' : DepartureClose} (h : s.bu.departure = some d) (ends : Ends (s.setDeparture (some d')) t) : Ends s t :=
  ⟨{ ends.1 with
      noDeparture := fun none => nomatch none.symm.trans h
      still := fun none => nomatch none.2.1.symm.trans h }, ends.2⟩

theorem Ends.realarmed {e e' : EmergencyClose} (h : s.iu.emergencyClose = some e)
    (ends : Ends (s.modIu fun i => { i with emergencyClose := some e' }) t) : Ends s t :=
  ⟨{ ends.1 with
      berthState := ends.1.berthState.imp id fun ⟨secured, how⟩ => ⟨secured, how.imp id fun ⟨released, _⟩ => ⟨released, by rw [h]; rfl⟩⟩
      noEmergencyClose := fun none => nomatch none.symm.trans h
      still := fun none => nomatch none.2.2.1.symm.trans h }, ends.2⟩

theorem Ends.readmitted {a a' : AccessClose} (h : s.iu.accessClose = some a)
    (ends : Ends (s.modIu fun i => { i with accessClose := some a' }) t) : Ends s t :=
  ⟨{ ends.1 with
      noAccessClose := fun none => nomatch none.symm.trans h
      still := fun none => nomatch none.2.2.2.symm.trans h }, ends.2⟩

/-! ### A unit pressed closed at the end of an event -/

theorem pressed_closes (standing : s.unit u = .opened ∨ s.unit u = .heldOpen) (h : t.dc.get u = s.pressed u) :
    t.unit u = .closing ∧ (t.dc.get u).attempt = 1 := by
  rw [State.unit, h, pressed_standing standing]
  exact ⟨rfl, rfl⟩

theorem pressed_marks (opening : s.unit u = .opening) (h : t.dc.get u = s.pressed u) :
    t.dc.get u = { s.dc.get u with pendingClose := true } := h.trans (pressed_opening opening)

/-! ### The departure close's warning (R88) -/

/-- The end of the departure close's warning, in the state `r` that has come to it. -/
structure DepartureWarned (r t : State) (d : DepartureClose) : Prop where
  ends : Ends r t
  ended : ∀ d', t.bu.departure = some d' → d'.warning.running = false
  pressed : ∀ u, d.covered.get u = true → r.iu.latch = false → r.obstructed u = false → t.dc.get u = r.pressed u

theorem departureWarned (s0 : State) {d : DepartureClose} (h : r.bu.departure = some d) :
    DepartureWarned r (settle s0 (endDepartureWarning r)) d := by
  have form : endDepartureWarning r = r.setDeparture (some { d with warning := d.warning.ended }) := by
    unfold endDepartureWarning
    rw [h]
    rfl
  rw [form]
  refine ⟨(settle_ends s0 _).redeparted h, fun d' stands => ?_, fun u covered clear free => ?_⟩
  · obtain ⟨d0, was, warning⟩ := (settle_warnings s0 _).departure d' stands
    obtain rfl := Option.some.inj was
    rw [warning]
    rfl
  · rw [settle_dc_judged]
    exact judgedMembers_coveredPressed (s := r.setDeparture (some { d with warning := d.warning.ended })) free clear
      (coveredUnder_of rfl covered) rfl

/-! ### The emergency close cycle's warning (R180) -/

/-- The emergency close cycle once its warning has ended. -/
def EmergencyClose.warned (e : EmergencyClose) : EmergencyClose :=
  { warning := e.warning.ended, members := Quad.build fun u => (e.members.get u).map MemberStatus.wait }

theorem EmergencyClose.warned_get (e : EmergencyClose) (u : UnitNo) : e.warned.members.get u = (e.members.get u).map MemberStatus.wait :=
  Quad.build_get ..

theorem warned_notUnder (e : EmergencyClose) (u : UnitNo) : e.warned.members.get u ≠ some .underWarning := by
  rw [EmergencyClose.warned_get]
  rcases e.members.get u with _ | k
  · exact fun e => nomatch e
  · cases k <;> exact fun e => nomatch e

/-- The end of the emergency close cycle's warning, in the state `r` that has come to it. -/
structure EmergencyWarned (r t : State) (e : EmergencyClose) : Prop where
  ends : Ends r t
  ended : ∀ e', t.iu.emergencyClose = some e' → e'.warning.running = false ∧ ∀ u, e'.members.get u ≠ some .underWarning
  pressed : ∀ u, e.members.get u = some .underWarning → r.obstructed u = false → t.dc.get u = r.pressed u

/-- The emergency close cycle that stands as an event ends has the warning it had. -/
theorem settle_emergency (s0 : State) {e : EmergencyClose} (h : (settle s0 s).iu.emergencyClose = some e) :
    (judgedMembers s).iu.emergencyClose = some e ∧ ∃ e0, s.iu.emergencyClose = some e0 ∧ e.warning = e0.warning := by
  have stands : (judgedMembers s).iu.emergencyClose = some e := by
    rcases (settle_completed s0 s).emergency with same | none
    · rw [← same]
      exact h
    · rw [none] at h
      cases h
  have kept := (judgedMembers_judged s).emergency
  rw [stands] at kept
  obtain ⟨e0, was, warning⟩ := Option.map_eq_some_iff.1 kept.symm
  exact ⟨stands, e0, was, warning.symm⟩

theorem emergencyWarned (s0 : State) {e : EmergencyClose} (h : r.iu.emergencyClose = some e) :
    EmergencyWarned r (settle s0 (endEmergencyWarning r)) e := by
  have form : endEmergencyWarning r = r.modIu fun i => { i with emergencyClose := some e.warned } := by
    unfold endEmergencyWarning
    show { r with iu := { r.iu with emergencyClose := r.iu.emergencyClose.map EmergencyClose.warned } } = _
    rw [h]
    rfl
  rw [form]
  refine ⟨(settle_ends s0 _).realarmed h, fun e' stands => ?_, fun u under free => ?_⟩
  · obtain ⟨judged, e0, was, warning⟩ := settle_emergency s0 stands
    obtain rfl := Option.some.inj was
    refine ⟨by rw [warning]; rfl, fun u => ?_⟩
    rw [← emergencyStatus_of judged]
    rcases (judgedMembers_unitJudged u (r.modIu fun i => { i with emergencyClose := some e.warned })).emergency with same | ⟨-, started, -⟩
    · rw [same]
      exact warned_notUnder e u
    · rw [started]
      exact fun e => nomatch e
  · rw [settle_dc_judged]
    refine judgedMembers_emergencyPressed (s := r.modIu fun i => { i with emergencyClose := some e.warned }) free ?_
    exact (e.warned_get u).trans (by rw [under]; rfl)

/-! ### A warning of the access close (R184) -/

/-- The access close once its warning `n` has ended. -/
def AccessClose.warned (n : Nat) (a : AccessClose) : AccessClose :=
  { warnings := endWarning a.warnings n, members := waitMembers n a.members }

theorem waitMembers_get (n : Nat) (q : Quad (Option Member)) (u : UnitNo) : (waitMembers n q).get u = (q.get u).map (Member.wait n) :=
  Quad.build_get ..

/-- The end of a warning of the access close, in the state `r` that has come to it. -/
structure AccessWarned (r t : State) (a : AccessClose) (n : Nat) : Prop where
  ends : Ends r t
  ended : ∀ a', t.iu.accessClose = some a' → a'.warnings = endWarning a.warnings n
  pressed : ∀ u, a.members.get u = some ⟨n, .underWarning⟩ → r.obstructed u = false → t.dc.get u = r.pressed u

theorem accessWarned (s0 : State) {a : AccessClose} {n : Nat} (h : r.iu.accessClose = some a) :
    AccessWarned r (settle s0 (endAccessWarning a n r)) a n := by
  refine ⟨(settle_ends s0 (endAccessWarning a n r)).readmitted h, fun a' stands => ?_, fun u under free => ?_⟩
  · obtain ⟨a0, was, warnings⟩ := (settle_warnings s0 (endAccessWarning a n r)).access a' stands
    obtain rfl := Option.some.inj was
    exact warnings
  · have member : (a.warned n).members.get u = some ⟨n, .waiting⟩ := by
      refine (waitMembers_get ..).trans ?_
      rw [under]
      exact congrArg some (if_pos ⟨rfl, rfl⟩)
    rw [settle_dc_judged]
    exact judgedMembers_accessPressed (s := endAccessWarning a n r) free (accessMember_of (a := a.warned n) rfl member) rfl

/-! ### A warning of the close cycle (R158, R166) -/

theorem CloseCycle.warned_get (c : CloseCycle) (n : Nat) (u : UnitNo) : (c.warned n).members.get u = (c.members.get u).map (Member.wait n) :=
  Quad.build_get ..

theorem Member.wait_warning (n : Nat) (m : Member) : (m.wait n).warning = m.warning := by
  unfold Member.wait
  split <;> rfl

theorem Member.wait_under {n : Nat} {m : Member} (h : m.warning = n) : (m.wait n).status ≠ .underWarning := by
  unfold Member.wait
  split
  · exact fun e => nomatch e
  · next other => exact fun under => other ⟨h, under⟩

theorem Member.wait_other {n : Nat} {m : Member} (h : m.warning ≠ n) : m.wait n = m := if_neg fun e => h e.1

/-- The end of a warning brings no member nearer to done. -/
theorem Member.wait_done (n : Nat) (m : Member) (st : UnitState) : memberDone st (m.wait n).status = memberDone st m.status := by
  unfold Member.wait
  split
  · next under =>
    rw [under.2]
    cases st <;> rfl
  · rfl

/-- The end of a warning of the close cycle, in the state `r` that has come to it. -/
structure CycleWarned (r t : State) (c : CloseCycle) (n : Nat) : Prop where
  ends : Ends r t
  stands : r.iu.latch = false → r.iu.emergencyClose = none → c.unfinished r → t.bu.cycle.isSome = true ∧ t.berthState = r.berthState
  warnings : ∀ c', t.bu.cycle = some c' → c'.warnings = endWarning c.warnings n
  members : ∀ c', t.bu.cycle = some c' → ∀ u m, c.members.get u = some m →
    ∃ m', c'.members.get u = some m' ∧ m'.warning = m.warning ∧ (m.warning = n → m'.status ≠ .underWarning) ∧
      (m.warning ≠ n → m.status = .underWarning → m' = m)
  holds : ∀ c', t.bu.cycle = some c' → ∀ u car, FoundBusy r c n u car → ∃ h ∈ c'.holds, h.car = car ∧ h.holders.get u = true

/-- A member judged keeps its warning, and leaves it no more than it has. -/
theorem UnitJudged.member_after {m : Member} (h : UnitJudged u s t) (member : s.cycleMember u = some m) :
    ∃ m', t.cycleMember u = some m' ∧ m'.warning = m.warning ∧ (m.status ≠ .underWarning → m'.status ≠ .underWarning) ∧
      (m.status = .underWarning → m' = m) := by
  rcases h.member with same | ⟨m0, was, waiting, started, -⟩
  · exact ⟨m, same.trans member, rfl, id, fun _ => rfl⟩
  · obtain rfl := Option.some.inj (member.symm.trans was)
    exact ⟨_, started, rfl, (fun _ => fun e => nomatch e), fun under => nomatch under.symm.trans waiting⟩

theorem cycleWarned (s0 : State) {c : CloseCycle} {n : Nat} (h : r.bu.cycle = some c) : CycleWarned r (settle s0 (endCycleWarning c n r)) c n := by
  have formed := endCycleWarning_formed c n r
  obtain ⟨hs, cycle, -, holders⟩ := formed.cycle
  have same := formed.same
  generalize endCycleWarning c n r = x at *
  have sends : Sends (r.setCycle (some { c.warned n with holds := hs })) x := by
    rw [cycle] at same
    exact same
  have unit (u : UnitNo) : x.unit u = r.unit u := by
    rw [State.unit, sends.dc]
    rfl
  have place (u : UnitNo) {m : Member} (member : c.members.get u = some m) : x.cycleMember u = some (m.wait n) := by
    rw [cycleMember_of cycle]
    exact (c.warned_get n u).trans (by rw [member]; rfl)
  refine ⟨(sends.ends.trans (settle_ends s0 x)).recycled h, fun clear none unfinished => ?_, fun c' stands => ?_, fun c' stands u m member => ?_,
    fun c' stands u car busy => ?_⟩
  · obtain ⟨u, m, member, undone⟩ := unfinished
    have clear' : x.iu.latch = false := (congrArg InterlockUnit.latch sends.iu).trans clear
    have none' : x.iu.emergencyClose = Option.none := (congrArg InterlockUnit.emergencyClose sends.iu).trans none
    have still : memberDone (x.unit u) (m.wait n).status = false := by
      rw [unit, Member.wait_done]
      exact undone
    have whole := settleCloses_unfinished clear' none' (place u member) still
    obtain ⟨m', stands, -⟩ := (judgedMembers_unitJudged u x).member_notDone clear' (place u member) still
    obtain ⟨c', judged, -⟩ := cycleMember_some stands
    have bu := (settle_of_uncompleted s0 whole).1
    refine ⟨?_, ?_⟩
    · rw [bu, judged]
      rfl
    · rw [State.berthState, bu, (judgedMembers_judged x).berth, sends.bu]
      rfl
  · obtain ⟨-, c0, was, warnings, -⟩ := settle_cycle s0 stands
    obtain rfl := Option.some.inj (cycle.symm.trans was)
    exact warnings
  · obtain ⟨judged, -⟩ := settle_cycle s0 stands
    obtain ⟨m', after_, warning, left, stays⟩ := (judgedMembers_unitJudged u x).member_after (place u member)
    rw [cycleMember_of judged] at after_
    refine ⟨m', after_, warning.trans (Member.wait_warning n m), fun own => left (Member.wait_under own), fun other under => ?_⟩
    rw [Member.wait_other other] at stays
    exact stays under
  · obtain ⟨-, c0, was, -, holds⟩ := settle_cycle s0 stands
    obtain rfl := Option.some.inj (cycle.symm.trans was)
    rw [holds]
    exact holders u (mem_units u) car busy

/-! ### The commands -/

theorem exec_departureCloseWarningEnd {d : DepartureClose} (loaded : s.loaded = true) (h : s.bu.departure = some d)
    (runs : d.warning.running = true) :
    Sys2Proof.Machine.exec .departureCloseWarningEnd s =
      .next (settle (s.reach d.warning.stop) (endDepartureWarning (s.reach d.warning.stop))) := by
  have due : s.departureEnd = some d.warning.stop := by
    unfold State.departureEnd
    rw [h, Option.bind_some, if_pos runs]
  refine congrArg Host.Outcome.next ((if_pos loaded).trans ?_)
  rw [due]
  rfl

theorem exec_emergencyCloseWarningEnd {e : EmergencyClose} (loaded : s.loaded = true) (h : s.iu.emergencyClose = some e)
    (runs : e.warning.running = true) :
    Sys2Proof.Machine.exec .emergencyCloseWarningEnd s =
      .next (settle (s.reach e.warning.stop) (endEmergencyWarning (s.reach e.warning.stop))) := by
  have due : s.emergencyEnd = some e.warning.stop := by
    unfold State.emergencyEnd
    rw [h, Option.bind_some, if_pos runs]
  refine congrArg Host.Outcome.next ((if_pos loaded).trans ?_)
  rw [due]
  rfl

theorem exec_accessCloseWarningEnd {a : AccessClose} {n : Nat} (loaded : s.loaded = true) (h : s.iu.accessClose = some a)
    (first : firstRunning a.warnings = some n) :
    Sys2Proof.Machine.exec .accessCloseWarningEnd s =
      .next (settle (s.reach (warningAt a.warnings n).stop) (endAccessWarning a n (s.reach (warningAt a.warnings n).stop))) := by
  show Host.Outcome.next (match s.iu.accessClose with
    | none => s
    | some a =>
      match firstRunning a.warnings with
      | none => s
      | some i =>
        let s' := s.reach (warningAt a.warnings i).stop
        if s.loaded then settle s' (endAccessWarning a i s') else s) = _
  rw [h]
  dsimp only
  rw [first]
  dsimp only
  rw [if_pos loaded]

/-- Settles O54: each warning's end makes its members wait, and the judging that follows presses those with nothing in the doorway. -/
theorem warningsEnd : Obligations.WarningsEnd := by
  unfold Obligations.WarningsEnd
  refine fun s loaded => ⟨fun c n stands first => ⟨_, exec_closeCycleWarningEnd loaded stands first, ?_⟩,
    fun d stands runs => ⟨_, exec_departureCloseWarningEnd loaded stands runs, ?_⟩,
    fun e stands runs => ⟨_, exec_emergencyCloseWarningEnd loaded stands runs, ?_⟩,
    fun a n stands first => ⟨_, exec_accessCloseWarningEnd loaded stands first, ?_⟩⟩
  · rw [reach_eq]
    have warned := cycleWarned (r := { s with now := (s.reach (warningAt c.warnings n).stop).now })
      { s with now := (s.reach (warningAt c.warnings n).stop).now } (n := n) stands
    refine ⟨warned.ends, warned.ends.1.cycleEnded (by rw [show _ = some c from stands]; rfl), warned.stands, fun c' after_ =>
      ⟨warned.warnings c' after_, fun u m member => ⟨warned.members c' after_ u m member, fun own under busy max car at_ => ?_⟩⟩⟩
    exact warned.holds c' after_ u car ⟨endsUnder_iff.2 (by rw [member]; cases m; cases own; cases under; rfl), busy, max, at_⟩
  · rw [reach_eq]
    have warned := departureWarned (r := { s with now := (s.reach d.warning.stop).now }) { s with now := (s.reach d.warning.stop).now } stands
    refine ⟨warned.ends, warned.ended, fun u covered clear free => ?_⟩
    have pressed := warned.pressed u covered clear free
    exact ⟨fun standing => pressed_closes (s := { s with now := (s.reach d.warning.stop).now }) standing pressed,
      fun opening => pressed_marks (s := { s with now := (s.reach d.warning.stop).now }) opening pressed⟩
  · rw [reach_eq]
    have warned := emergencyWarned (r := { s with now := (s.reach e.warning.stop).now }) { s with now := (s.reach e.warning.stop).now } stands
    refine ⟨warned.ends, warned.ended, fun u under free => ?_⟩
    have pressed := warned.pressed u under free
    exact ⟨fun standing => pressed_closes (s := { s with now := (s.reach e.warning.stop).now }) standing pressed,
      fun opening => pressed_marks (s := { s with now := (s.reach e.warning.stop).now }) opening pressed⟩
  · rw [reach_eq]
    have warned := accessWarned (r := { s with now := (s.reach (warningAt a.warnings n).stop).now })
      { s with now := (s.reach (warningAt a.warnings n).stop).now } (n := n) stands
    refine ⟨warned.ends, warned.ended, fun u under free => ?_⟩
    have pressed := warned.pressed u under free
    exact ⟨fun standing => pressed_closes (s := { s with now := (s.reach (warningAt a.warnings n).stop).now }) standing pressed,
      fun opening => pressed_marks (s := { s with now := (s.reach (warningAt a.warnings n).stop).now }) opening pressed⟩

end Sys2Proof.Machine

/-! A unit sent its close request, as the event ends (R88, R120, R159, R180, R184). -/

namespace Sys2Proof.Machine
variable {u v : UnitNo} {s t r a b c m : State}

/-! ### What the judging may do to a unit -/

/-- A judging of the members keeps of a unit what other units' requests keep and its own request keeps. -/
theorem judgedMembers_keeps {Q : State → State → Prop} (trans : ∀ {a b c}, Q a b → Q b c → Q a c) (stands : ∀ {a b}, UnitStands u a b → Q a b)
    (asked : ∀ {m}, Q s m → Q m (closeRequest u m)) : Q s (judgedMembers s) := by
  have berth {m : State} (h : Q s m) : Q m (berthCloseRequest u m) := by
    unfold berthCloseRequest
    split
    · exact stands (.refl u m)
    · exact asked h
  have refl (x : State) : Q x x := stands (.refl u x)
  have next {f : UnitNo → State → State} (others : ∀ v s, v ≠ u → UnitStands u s (f v s)) (own : ∀ {m}, Q s m → Q m (f u m)) {x : State} (h : Q s x) :
      Q s (forUnits f x) := by
    obtain ⟨m, before, behind⟩ := forUnits_at (UnitStands.refl u) UnitStands.trans u others x
    have middle := trans h (stands before)
    exact trans middle (trans (own middle) (stands behind))
  refine next (fun v s ne => judgeAccessMember_stands ne s) (fun {m} h => ?_) (next (fun v s ne => judgeEmergencyMember_stands ne s) (fun {m} h => ?_)
    (next (fun v s ne => judgeCovered_stands ne s) (fun {m} h => ?_) (next (fun v s ne => judgeMember_stands ne s) (fun {m} h => ?_) (refl s))))
  · unfold judgeAccessMember
    split
    · exact refl m
    · split
      · exact refl m
      · split
        · have drop := stands (dropAccessMember_stands u m)
          exact trans drop (asked (trans h drop))
        · exact refl m
  · unfold judgeEmergencyMember
    split
    · exact refl m
    · split
      · split
        · have started {e : EmergencyClose} : Q m (m.modIu fun i => { i with emergencyClose := some (e.started u) }) := stands ⟨⟨rfl, rfl, rfl, rfl, rfl⟩, rfl, rfl⟩
          exact trans started (asked (trans h started))
        · exact refl m
      · exact refl m
  · unfold judgeCovered
    split
    · exact refl m
    · split
      · have drop := stands (dropCovered_stands u m)
        exact trans drop (berth (trans h drop))
      · exact refl m
  · unfold judgeMember
    split
    · exact refl m
    · next c _ =>
      split
      · exact refl m
      · next k _ =>
        split
        · have started : Q m (m.setCycle (some (c.started u k))) := stands ⟨⟨rfl, rfl, rfl, rfl, rfl⟩, rfl, rfl⟩
          exact trans started (berth (trans h started))
        · exact refl m

/-- Another close's request to a unit marked to close leaves it. -/
theorem settle_marked (s0 : State) (opening : s.unit u = .opening) (marked : (s.dc.get u).pendingClose = true) : ChannelStands u s (settle s0 s) := by
  refine ChannelStands.trans (b := judgedMembers s) ?_ (settle_channel u s0 s)
  refine judgedMembers_keeps ChannelStands.trans UnitStands.channel fun {m} same => ?_
  rw [closeRequest_opening (same.unit.trans opening)]
  refine ⟨(Quad.get_set_self ..).trans ?_, rfl⟩
  show { m.dc.get u with pendingClose := true } = m.dc.get u
  rw [same.dc, ← marked]

/-- A unit's channel stands, and its reversals with it. -/
structure Unreversed (u : UnitNo) (a b : State) : Prop where
  dc : b.dc.get u = a.dc.get u
  reversals : (b.fr.unitCounters.get u).reversals = (a.fr.unitCounters.get u).reversals

theorem Unreversed.trans (h : Unreversed u a b) (k : Unreversed u b c) : Unreversed u a c :=
  ⟨k.dc.trans h.dc, k.reversals.trans h.reversals⟩

theorem UnitStands.unreversed (h : UnitStands u a b) : Unreversed u a b := ⟨h.dc, by rw [h.counters]⟩

theorem ChannelStands.unreversed (h : ChannelStands u a b) : Unreversed u a b := ⟨h.dc, by rw [h.counters]⟩

theorem countIgnored_unreversed (u : UnitNo) (s : State) : Unreversed u s (countIgnored u s) :=
  by
  refine ⟨rfl, ?_⟩
  have counted : (countIgnored u s).fr.unitCounters.get u = _ := Quad.get_set_self ..
  rw [counted]

/-- The states in which a close request is ignored (R120). -/
def UnitState.ignoresClose (st : UnitState) : Prop :=
  st ∈ [.closedLocked, .unlocking, .closing, .reversing, .locking, .homing, .manualReleased, .releaseRestored, .isolated, .fault, .unknown]

theorem closeRequest_ignored (h : (s.unit u).ignoresClose) : closeRequest u s = countIgnored u s := by
  unfold closeRequest
  unfold UnitState.ignoresClose at h
  generalize s.unit u = st at *
  cases st <;> first | rfl | simp at h

/-- A close request to a unit that does not stand open and does not open counts it at most. -/
theorem closeRequest_unreversed (h : (s.unit u).closable = false) : Unreversed u s (closeRequest u s) := by
  by_cases ignored : (s.unit u).ignoresClose
  · rw [closeRequest_ignored ignored]
    exact countIgnored_unreversed u s
  · have same : closeRequest u s = s := by
      unfold closeRequest
      unfold UnitState.ignoresClose at ignored
      generalize s.unit u = st at *
      cases st <;> simp [UnitState.closable] at h ignored ⊢
    rw [same]
    exact (UnitStands.refl u s).unreversed

/-- A unit that no request moves keeps its reversals as an event ends. -/
theorem settle_unreversed (s0 : State) (h : (s.unit u).closable = false) : Unreversed u s (settle s0 s) := by
  refine Unreversed.trans (b := judgedMembers s) ?_ (settle_channel u s0 s).unreversed
  refine judgedMembers_keeps Unreversed.trans UnitStands.unreversed fun {m} same => closeRequest_unreversed ?_
  rw [State.unit, same.dc]
  exact h

/-- A unit that no request moves, and that no WAITING member of the emergency close cycle stands for, is left as an event ends. -/
theorem settle_uncalled (s0 : State) (h : (s.unit u).closable = false) (called : s.emergencyStatus u ≠ some .waiting) : ChannelStands u s (settle s0 s) := by
  have st : ((s.unit u) ≠ .opened ∧ (s.unit u) ≠ .heldOpen) ∧ (s.unit u).closable = false := by
    refine ⟨⟨fun e => ?_, fun e => ?_⟩, h⟩ <;> (rw [e] at h; cases h)
  have one := forUnits_stands (p := fun st => (st ≠ .opened ∧ st ≠ .heldOpen) ∧ st.closable = false) (fun v s ne => judgeMember_stands ne s)
    (fun s t => judgeMember_rests t.1) st
  have two := one.trans (forUnits_stands (p := fun st => st.closable = false) (fun v s ne => judgeCovered_stands ne s)
    (fun s t => judgeCovered_rests t) (one.unit.symm ▸ h))
  have idle : (forUnits judgeCovered (forUnits judgeMember s)).emergencyStatus u ≠ some .waiting := by
    rw [State.emergencyStatus, forUnits_keeps (fun x => x.iu.emergencyClose) judgeCovered_emergency,
      forUnits_keeps (fun x => x.iu.emergencyClose) judgeMember_emergency]
    exact called
  have rest {x : State} (k : x.emergencyStatus u ≠ some .waiting) : judgeEmergencyMember u x = x := by
    unfold judgeEmergencyMember
    split
    · rfl
    · next e he =>
      rw [emergencyStatus_of he] at k
      split
      · next waiting => exact absurd waiting k
      · rfl
  obtain ⟨m, before, behind⟩ := forUnits_at (UnitViewed.refl u) UnitViewed.trans u (fun _ s n => judgeEmergencyMember_viewed n s)
    (forUnits judgeCovered (forUnits judgeMember s))
  rw [rest (before.emergency.symm ▸ idle)] at behind
  have three := two.trans (before.trans behind).toUnitStands
  have four := three.trans (forUnits_stands (p := fun st => st.closable = false) (fun v s ne => judgeAccessMember_stands ne s)
    (fun s t => judgeAccessMember_rests t) (three.unit.symm ▸ h))
  exact four.channel.trans (settle_channel u s0 s)

/-! ### A unit sent its request -/

/-- In `b` unit `u` has taken a close request where it stood as in `r`. -/
def Sent (u : UnitNo) (r b : State) : Prop := ∃ m, UnitStands u r m ∧ UnitStands u (closeRequest u m) b

theorem UnitStands.obstructed (h : UnitStands u a b) : b.obstructed u = a.obstructed u := by
  unfold State.obstructed State.edgeAsserted State.gapAsserted
  rw [h.su]

theorem UnitStands.closingFirst (h : UnitStands u a b) : closingFirst b u = closingFirst a u := by
  unfold Sys2Proof.Machine.closingFirst
  rw [h.dc, h.now, h.cl]

theorem standsOpen_out {st : UnitState} (h : st.standsOpen) : st ≠ .isolated := by
  rcases h with e | e <;> rw [e] <;> exact fun e => nomatch e

theorem Sent.shuts (h : Sent u r b) (standing : (r.unit u).standsOpen) : (b.unit u).shutting := by
  obtain ⟨m, before, behind⟩ := h
  rw [behind.unit]
  exact closeRequest_shuts (before.unit.symm ▸ standing)

/-- A unit standing open with nothing in the doorway. -/
theorem Sent.closes (h : Sent u r b) (s0 : State) (standing : (r.unit u).standsOpen) (free : r.obstructed u = false) :
    (settle s0 b).dc.get u = closingFirst r u ∧ ((settle s0 b).fr.unitCounters.get u).reversals = (r.fr.unitCounters.get u).reversals := by
  obtain ⟨m, before, behind⟩ := h
  have stands : (m.unit u).standsOpen := before.unit.symm ▸ standing
  have clear := before.obstructed.trans free
  have form := closeRequest_standing stands
  rw [enterClosing_clear (standsOpen_out stands) clear] at form
  have channel : b.dc.get u = closingFirst r u := by
    rw [behind.dc, form, moveUnit_channel, ← before.closingFirst]
    rfl
  have counters : b.fr.unitCounters.get u = r.fr.unitCounters.get u := by
    rw [behind.counters, form, moveUnit_unitCounters, before.counters]
  have settled := settle_unreversed s0 (s := b) (u := u) (by rw [State.unit, channel]; rfl)
  exact ⟨settled.dc.trans channel, settled.reversals.trans (by rw [counters])⟩

/-- A unit in CLOSING that has met an obstacle in `x` has turned by the end of the event. -/
theorem obstacle_turned {x : State} (s0 : State) (stands : UnitStands u (reverseOnObstacle u x) b) (cl : x.cl = s.cl)
    (counters : x.fr.unitCounters.get u = s.fr.unitCounters.get u) : Reversed (x.dc.get u) s (settle s0 b) u := by
  obtain ⟨turns, passes⟩ := reverseOnObstacle_channel u x
  have turned : (b.unit u).turning = true := by
    rw [stands.unit, State.unit]
    rcases lt_or_ge (x.dc.get u).position ((x.cl.config.units.get u).travel : Int) with short | full
    · rw [turns short]
      rfl
    · rw [passes full]
      rfl
  have settled := settle_turning s0 turned
  have now : (settle s0 b).now = x.now := (settle_ends s0 b).2.1.trans (stands.now.trans (reverseOnObstacle_holds u x).2.1)
  refine ⟨?_, fun short => ?_, fun full => ?_⟩
  · rw [settled.counters, stands.counters, reverseOnObstacle_counted, counters]
  · rw [settled.dc, now, ← cl, stands.dc, turns (by rw [cl]; exact short)]
  · rw [settled.dc, now, ← cl, stands.dc, passes (by rw [cl]; exact full)]

/-- A unit standing open with something in the doorway. -/
theorem Sent.turns (h : Sent u r b) (s0 : State) (standing : (r.unit u).standsOpen) (obstructed : r.obstructed u = true) (cl : r.cl = s.cl)
    (fr : r.fr = s.fr) : Reversed (closingFirst r u) s (settle s0 b) u := by
  obtain ⟨m, before, behind⟩ := h
  have stands : (m.unit u).standsOpen := before.unit.symm ▸ standing
  have form := closeRequest_standing stands
  rw [enterClosing_obstructed (standsOpen_out stands) (before.obstructed.trans obstructed)] at form
  rw [form] at behind
  have channel : (moveUnit u (closingIn 1 u m) m).dc.get u = closingFirst r u := by
    rw [moveUnit_channel, ← before.closingFirst]
    rfl
  rw [← channel]
  exact obstacle_turned s0 behind ((moveUnit_holds u _ m).1.cl.trans (before.cl.trans cl))
    (by rw [moveUnit_unitCounters, before.counters, fr])

/-- A unit that opens, marked to close. -/
theorem Sent.marks (h : Sent u r b) (s0 : State) (opening : r.unit u = .opening) :
    (settle s0 b).dc.get u = { r.dc.get u with pendingClose := true } ∧
      (settle s0 b).fr.unitCounters.get u = r.fr.unitCounters.get u := by
  obtain ⟨m, before, behind⟩ := h
  rw [closeRequest_opening (before.unit.trans opening)] at behind
  have channel : b.dc.get u = { r.dc.get u with pendingClose := true } := by
    rw [behind.dc, ← before.dc]
    exact Quad.get_set_self ..
  have settled := settle_marked s0 (s := b) (u := u) (by rw [State.unit, channel]; exact opening) (by rw [channel])
  exact ⟨settled.dc.trans channel, settled.counters.trans (behind.counters.trans before.counters)⟩

/-- A unit that ignores the request counts it. -/
theorem Sent.ignores (h : Sent u r b) (s0 : State) (ignored : (r.unit u).ignoresClose) (started : b.emergencyStatus u ≠ some .waiting) :
    (settle s0 b).dc.get u = r.dc.get u ∧ (settle s0 b).fr.unitCounters.get u =
      { r.fr.unitCounters.get u with requestIgnored := (r.fr.unitCounters.get u).requestIgnored.bump } := by
  obtain ⟨m, before, behind⟩ := h
  rw [closeRequest_ignored (before.unit.symm ▸ ignored)] at behind
  have channel : b.dc.get u = r.dc.get u := behind.dc.trans before.dc
  have rests : (b.unit u).closable = false := by
    rw [State.unit, channel]
    unfold UnitState.ignoresClose State.unit at ignored
    generalize (r.dc.get u).st = st at ignored
    cases st <;> first | rfl | simp at ignored
  have settled := settle_uncalled s0 rests started
  refine ⟨settled.dc.trans channel, ?_⟩
  rw [settled.counters, behind.counters, ← before.counters]
  exact Quad.get_set_self ..

end Sys2Proof.Machine

/-! A close request that is due, as its command sends it (R88, R159, R180, R184). -/

namespace Sys2Proof.Machine
variable {i : Instr} {u v : UnitNo} {s t r a b c m : State}

/-! ### Deadlines -/

theorem reach_reached (e : Time) (s : State) : (s.reach e).reached e = true := by
  unfold State.reach
  split
  · unfold State.reached earlier
    simp
  · next late =>
    unfold State.reached
    rw [Bool.eq_false_iff.2 late]
    rfl

theorem reach_deadline (e : Time) (w : Warning) (s : State) : (s.reach e).deadline w = s.deadline w := by
  rw [State.deadline, reach_cl]
  rfl

theorem gapFree_deadline (u : UnitNo) (w : Warning) (s : State) : (s.reach (s.deadline w)).gapFree u w = true := by
  unfold State.gapFree
  rw [reach_deadline, reach_reached, Bool.or_true]

theorem boardingHold_deadline (k : CloseCycle) (u : UnitNo) (w : Warning) (s : State) : (s.reach (s.deadline w)).boardingHold k u w = false := by
  unfold State.boardingHold
  rw [reach_deadline, reach_reached]
  rfl

theorem memberDeadline_some {e : Time} (h : s.memberDeadline u = some e) :
    ∃ k n, s.bu.cycle = some k ∧ k.members.get u = some n ∧ n.status = .waiting ∧ s.deadline (warningAt k.warnings n.warning) = e := by
  unfold State.memberDeadline at h
  split at h
  · cases h
  · next k stands =>
    split at h
    · cases h
    · next n member =>
      split at h
      · next waiting => exact ⟨k, n, stands, member, waiting, Option.some.inj h⟩
      · cases h

theorem emergencyDeadline_some {e : Time} (h : s.emergencyDeadline u = some e) :
    ∃ k, s.iu.emergencyClose = some k ∧ k.members.get u = some .waiting ∧ s.deadline k.warning = e := by
  obtain ⟨k, stands, due⟩ := Option.bind_eq_some_iff.1 h
  split at due
  · next waiting => exact ⟨k, stands, waiting, Option.some.inj due⟩
  · cases due

theorem accessDeadline_some {e : Time} (h : s.accessDeadline u = some e) :
    ∃ k n, s.iu.accessClose = some k ∧ k.members.get u = some n ∧ n.status = .waiting ∧ s.deadline (warningAt k.warnings n.warning) = e := by
  unfold State.accessDeadline at h
  split at h
  · cases h
  · next k stands =>
    split at h
    · cases h
    · next n member =>
      split at h
      · next waiting => exact ⟨k, n, stands, member, waiting, Option.some.inj h⟩
      · cases h

/-! ### The commands -/

theorem exec_memberRelease (active : s.active u = true) : Sys2Proof.Machine.exec (.memberRelease u) s = .next (settle s (judgeMember u s)) :=
  exec_onUnit rfl active

theorem exec_departureCloseRequest (active : s.active u = true) :
    Sys2Proof.Machine.exec (.departureCloseRequest u) s = .next (settle s (judgeCovered u s)) := exec_onUnit rfl active

theorem exec_emergencyCloseRequest (active : s.active u = true) :
    Sys2Proof.Machine.exec (.emergencyCloseRequest u) s = .next (settle s (judgeEmergencyMember u s)) := exec_onUnit rfl active

theorem exec_accessCloseRequest (active : s.active u = true) :
    Sys2Proof.Machine.exec (.accessCloseRequest u) s = .next (settle s (judgeAccessMember u s)) := exec_onUnit rfl active

theorem exec_memberDeadline {e : Time} (loaded : s.loaded = true) (due : s.memberDeadline u = some e) :
    Sys2Proof.Machine.exec (.memberDeadline u) s = .next (settle (s.reach e) (judgeMember u (s.reach e))) := by
  refine congrArg Host.Outcome.next ((if_pos loaded).trans ?_)
  rw [due]
  rfl

theorem exec_emergencyCloseDeadline {e : Time} (loaded : s.loaded = true) (due : s.emergencyDeadline u = some e) :
    Sys2Proof.Machine.exec (.emergencyCloseDeadline u) s = .next (settle (s.reach e) (judgeEmergencyMember u (s.reach e))) := by
  refine congrArg Host.Outcome.next ((if_pos loaded).trans ?_)
  rw [due]
  rfl

theorem exec_accessCloseDeadline {e : Time} (loaded : s.loaded = true) (due : s.accessDeadline u = some e) :
    Sys2Proof.Machine.exec (.accessCloseDeadline u) s = .next (settle (s.reach e) (judgeAccessMember u (s.reach e))) := by
  refine congrArg Host.Outcome.next ((if_pos loaded).trans ?_)
  rw [due]
  rfl

theorem exec_departureCloseDeadline {d : DepartureClose} (loaded : s.loaded = true) (stands : s.bu.departure = some d)
    (over_ : d.warning.running = false) :
    Sys2Proof.Machine.exec .departureCloseDeadline s =
      .next (settle (s.reach (s.deadline d.warning)) (forUnits judgeCovered (s.reach (s.deadline d.warning)))) := by
  have due : s.departureDeadline = some (s.deadline d.warning) := by
    unfold State.departureDeadline
    rw [stands, Option.bind_some, over_, if_neg Bool.false_ne_true]
  refine congrArg Host.Outcome.next ((if_pos loaded).trans ?_)
  rw [due]
  rfl

/-! ### The states in which a request is due -/

theorem cycleDue_cases (h : CycleDue i u s r) (active : s.active u = true) :
    Reached s r ∧ r.iu = s.iu ∧ (i = .memberRelease u ∨ i = .memberDeadline u) ∧
      Sys2Proof.Machine.exec i s = .next (settle r (judgeMember u r)) ∧ r.platformHold = false ∧
      ∃ k n, r.bu.cycle = some k ∧ k.members.get u = some n ∧ n.status = .waiting ∧
        r.boardingHold k u (warningAt k.warnings n.warning) = false ∧ r.gapFree u (warningAt k.warnings n.warning) = true := by
  obtain ⟨off, ⟨rfl, rfl, k, n, stands, member, unbound, free⟩ | ⟨rfl, e, due, rfl⟩⟩ := h
  · exact ⟨.refl _, rfl, .inl rfl, exec_memberRelease active, off, k, _, stands, member, rfl, unbound, free⟩
  · have run := exec_memberDeadline (active_loaded active) due
    obtain ⟨k, n, stands, member, waiting, rfl⟩ := memberDeadline_some due
    refine ⟨reached_of _ s, reach_iu .., .inr rfl, run, ?_, k, n, by rw [reach_bu]; exact stands, member, waiting, boardingHold_deadline .., gapFree_deadline ..⟩
    rw [reach_eq]
    exact off

theorem emergencyDue_cases (h : EmergencyDue i u s r) (active : s.active u = true) :
    Reached s r ∧ r.iu = s.iu ∧ (i = .emergencyCloseRequest u ∨ i = .emergencyCloseDeadline u) ∧
      Sys2Proof.Machine.exec i s = .next (settle r (judgeEmergencyMember u r)) ∧
      ∃ k, r.iu.emergencyClose = some k ∧ k.members.get u = some .waiting ∧ r.gapFree u k.warning = true := by
  obtain ⟨rfl, rfl, k, stands, waiting, free⟩ | ⟨rfl, e, due, rfl⟩ := h
  · exact ⟨.refl _, rfl, .inl rfl, exec_emergencyCloseRequest active, k, stands, waiting, free⟩
  · have run := exec_emergencyCloseDeadline (active_loaded active) due
    obtain ⟨k, stands, waiting, rfl⟩ := emergencyDeadline_some due
    exact ⟨reached_of _ s, reach_iu .., .inr rfl, run, k, by rw [reach_iu]; exact stands, waiting, gapFree_deadline ..⟩

theorem accessDue_cases (h : AccessDue i u s r) (active : s.active u = true) :
    Reached s r ∧ r.iu = s.iu ∧ (i = .accessCloseRequest u ∨ i = .accessCloseDeadline u) ∧
      Sys2Proof.Machine.exec i s = .next (settle r (judgeAccessMember u r)) ∧
      ∃ k n, r.iu.accessClose = some k ∧ k.members.get u = some n ∧ n.status = .waiting ∧ r.gapFree u (warningAt k.warnings n.warning) = true := by
  obtain ⟨rfl, rfl, k, n, stands, member, free⟩ | ⟨rfl, e, due, rfl⟩ := h
  · exact ⟨.refl _, rfl, .inl rfl, exec_accessCloseRequest active, k, _, stands, member, rfl, free⟩
  · have run := exec_accessCloseDeadline (active_loaded active) due
    obtain ⟨k, n, stands, member, waiting, rfl⟩ := accessDeadline_some due
    exact ⟨reached_of _ s, reach_iu .., .inr rfl, run, k, n, by rw [reach_iu]; exact stands, member, waiting, gapFree_deadline ..⟩

/-- What the command of a covered unit judges: that unit, or all of them at the deadline. -/
theorem departureDue_cases (h : DepartureDue i u s r) (active : s.active u = true) :
    Reached s r ∧ r.iu = s.iu ∧ (i = .departureCloseRequest u ∨ i = .departureCloseDeadline) ∧
      ∃ w, r.coveredUnder u = some w ∧ w.running = false ∧ r.gapFree u w = true ∧
        ∃ b, Sys2Proof.Machine.exec i s = .next (settle r b) ∧ (b = judgeCovered u r ∨ b = forUnits judgeCovered r) := by
  obtain ⟨d, stands, over_, covered, ⟨rfl, rfl, free⟩ | ⟨rfl, rfl⟩⟩ := h
  · exact ⟨.refl _, rfl, .inl rfl, d.warning, coveredUnder_of stands covered, over_, free, _, exec_departureCloseRequest active, .inl rfl⟩
  · exact ⟨reached_of _ s, reach_iu .., .inr rfl, d.warning, coveredUnder_of (by rw [reach_bu]; exact stands) covered, over_, gapFree_deadline ..,
      _, exec_departureCloseDeadline (active_loaded active) stands over_, .inr rfl⟩

end Sys2Proof.Machine

/-! What each close does as it sends a request that is due (R88, R159, R166, R180, R184). -/

namespace Sys2Proof.Machine
variable {i : Instr} {u v : UnitNo} {s t r a b c m : State}

theorem UnitStands.gapFree (h : UnitStands u a b) (w : Warning) : b.gapFree u w = a.gapFree u w := by
  unfold State.gapFree State.gapAsserted State.deadline State.reached
  rw [h.su, h.now, h.cl]

/-- The command `i` has sent unit `u` its close request in `r`, which brings `b` before the event ends. -/
structure Pressed (i : Instr) (u : UnitNo) (s r b : State) : Prop where
  exec : Sys2Proof.Machine.exec i s = .next (settle r b)
  reached : Reached s r
  iu : r.iu = s.iu
  ends : Ends r b
  sent : Sent u r b
  cycle : i = .memberRelease u ∨ i = .memberDeadline u →
    ∀ c n, s.bu.cycle = some c → c.members.get u = some n → b.bu.cycle = some (c.started u n)
  departure : i = .departureCloseRequest u ∨ i = .departureCloseDeadline → b.coveredUnder u = none
  emergency : i = .emergencyCloseRequest u ∨ i = .emergencyCloseDeadline u → b.emergencyStatus u = some .started
  access : i = .accessCloseRequest u ∨ i = .accessCloseDeadline u → b.accessMember u = none

theorem closable_of_standsOpen {st : UnitState} (h : st.standsOpen) : st.closable = true := by
  rcases h with e | e <;> rw [e] <;> rfl

theorem moves_of_closable {st : UnitState} (h : st.closable = true) : st.turning = false := by
  cases st <;> first | rfl | cases h

theorem memberFree_of {k : CloseCycle} {w : Warning} (standing : (r.unit u).standsOpen) (unbound : r.boardingHold k u w = false)
    (free : r.gapFree u w = true) (off : r.platformHold = false) : r.memberFree k u w = true := by
  unfold State.memberFree
  rw [unbound, free, off]
  rcases standing with e | e <;> rw [e] <;> rfl

/-- The cycle's request to a member standing open (R159). -/
theorem cycle_requested (h : CycleDue i u s r) (active : s.active u = true) (standing : (s.unit u).standsOpen) (clear : s.iu.latch = false) :
    ∃ b, Pressed i u s r b := by
  obtain ⟨reached, iu, which, run, off, k, n, stands, member, waiting, unbound, free⟩ := cycleDue_cases h active
  have sends := judgeMember_sends stands member waiting (memberFree_of ((reached.unit u).symm ▸ standing) unbound free off)
  have started : UnitStands u r (r.setCycle (some (k.started u n))) := ⟨⟨rfl, rfl, rfl, rfl, rfl⟩, rfl, rfl⟩
  rw [berthCloseRequest_clear (started.latch.trans ((congrArg InterlockUnit.latch iu).trans clear))] at sends
  refine ⟨_, run, reached, iu, judgeMember_ends u r, ⟨_, started, ?_⟩, fun _ c n' was place => ?_, ?_, ?_, ?_⟩
  · rw [sends]
    exact .refl u _
  · obtain rfl := Option.some.inj (stands.symm.trans (reached.bu.symm ▸ was))
    obtain rfl := Option.some.inj (member.symm.trans place)
    rw [sends, closeRequest_bu]
    rfl
  all_goals
    intro other
    rcases which with rfl | rfl <;> rcases other with e | e <;> cases e

/-- The departure close's request to a covered unit that can take one (R88). -/
theorem departure_requested (h : DepartureDue i u s r) (active : s.active u = true) (closable : (s.unit u).closable = true) (clear : s.iu.latch = false) :
    ∃ b, Pressed i u s r b := by
  obtain ⟨reached, iu, which, w, covered, over_, free, b, run, form⟩ := departureDue_cases h active
  have sends {m : State} (viewed : UnitViewed u r m) : judgeCovered u m = closeRequest u (dropCovered u m) := by
    rw [judgeCovered_sends (viewed.covered.trans covered) over_ (by rw [viewed.unit, reached.unit]; exact closable)
      ((viewed.gapFree w).trans free), berthCloseRequest_clear]
    exact (dropCovered_stands (u := u) u m).latch.trans (viewed.latch.trans ((congrArg InterlockUnit.latch iu).trans clear))
  have asked {m : State} (viewed : UnitViewed u r m) : (judgeCovered u m).coveredUnder u = none := by
    rw [sends viewed, State.coveredUnder, closeRequest_bu]
    exact dropCovered_coveredUnder u m
  have sent : Sent u r b ∧ b.coveredUnder u = none ∧ Ends r b := by
    rcases form with rfl | rfl
    · exact ⟨⟨_, dropCovered_stands u r, by rw [sends (.refl u r)]; exact .refl u _⟩, asked (.refl u r), judgeCovered_ends u r⟩
    · obtain ⟨m, before, behind⟩ := forUnits_at (UnitViewed.refl u) UnitViewed.trans u (fun _ s n => judgeCovered_viewed n s) r
      exact ⟨⟨_, before.toUnitStands.trans (dropCovered_stands u m), sends before ▸ behind.toUnitStands⟩, behind.covered.trans (asked before),
        forUnits_ends judgeCovered_ends r⟩
  refine ⟨b, run, reached, iu, sent.2.2, sent.1, ?_, fun _ => sent.2.1, ?_, ?_⟩
  all_goals
    intro other
    rcases which with rfl | rfl <;> rcases other with e | e <;> cases e

/-- The emergency close cycle's request to a member that neither unlocks nor turns (R180). -/
theorem emergency_requested (h : EmergencyDue i u s r) (active : s.active u = true) (moves : (s.unit u).turning = false) :
    ∃ b, Pressed i u s r b := by
  obtain ⟨reached, iu, which, run, k, stands, waiting, free⟩ := emergencyDue_cases h active
  have sends := judgeEmergencyMember_sends stands waiting ((reached.unit u).symm ▸ moves) free
  have started : UnitStands u r (r.modIu fun x => { x with emergencyClose := some (k.started u) }) := ⟨⟨rfl, rfl, rfl, rfl, rfl⟩, rfl, rfl⟩
  refine ⟨_, run, reached, iu, judgeEmergencyMember_ends u r, ⟨_, started, ?_⟩, ?_, ?_, fun _ => ?_, ?_⟩
  · rw [sends]
    exact .refl u _
  case refine_4 =>
    rw [sends, State.emergencyStatus, closeRequest_emergency]
    exact Quad.get_set_self ..
  all_goals
    intro other
    rcases which with rfl | rfl <;> rcases other with e | e <;> cases e

/-- The access close's request to a member that can take one (R184). -/
theorem access_requested (h : AccessDue i u s r) (active : s.active u = true) (closable : (s.unit u).closable = true) :
    ∃ b, Pressed i u s r b := by
  obtain ⟨reached, iu, which, run, k, n, stands, member, waiting, free⟩ := accessDue_cases h active
  have sends := judgeAccessMember_sends (accessMember_of stands member) waiting ((reached.unit u).symm ▸ closable) free
  refine ⟨_, run, reached, iu, judgeAccessMember_ends u r, ⟨_, dropAccessMember_stands u r, ?_⟩, ?_, ?_, ?_, fun _ => ?_⟩
  · rw [sends]
    exact .refl u _
  case refine_5 =>
    rw [sends, State.accessMember, closeRequest_access]
    exact dropAccessMember_accessMember u r
  all_goals
    intro other
    rcases which with rfl | rfl <;> rcases other with e | e <;> cases e

/-! ### The end of the event -/

/-- A member of the cycle sent its request is STARTED and the cycle stands. -/
theorem Pressed.member_started (h : Pressed i u s r b) (standing : (s.unit u).standsOpen) (clear : s.iu.latch = false)
    (which : i = .memberRelease u ∨ i = .memberDeadline u) (none : s.iu.emergencyClose = none) {c : CloseCycle} {n : Member}
    (was : s.bu.cycle = some c) (member : c.members.get u = some n) :
    ∃ c', (settle r b).bu.cycle = some c' ∧ c'.members.get u = some { n with status := .started } ∧ c'.warnings = c.warnings := by
  have stands := h.cycle which c n was member
  have place : b.cycleMember u = some { n with status := .started } := by
    rw [cycleMember_of stands]
    exact Quad.get_set_self ..
  have undone : memberDone (b.unit u) MemberStatus.started = false :=
    memberDone_shutting _ (h.sent.shuts (by rw [h.reached.unit]; exact standing))
  have latch : b.iu.latch = false := h.ends.1.latch.trans (h.iu.symm ▸ clear)
  have whole := settleCloses_unfinished latch (h.ends.1.noEmergencyClose (h.iu.symm ▸ none)) place undone
  have judged : (judgedMembers b).cycleMember u = some { n with status := .started } := by
    rcases (judgedMembers_unitJudged u b).member with same | ⟨n', was, waiting, -⟩
    · exact same.trans place
    · obtain rfl := Option.some.inj (place.symm.trans was)
      cases waiting
  obtain ⟨c', after_, member'⟩ := cycleMember_some judged
  have ended : (settle r b).bu.cycle = some c' := by
    rw [(settle_of_uncompleted r whole).1]
    exact after_
  obtain ⟨-, c0, was', warnings, -⟩ := settle_cycle r ended
  obtain rfl := Option.some.inj (stands.symm.trans was')
  exact ⟨c', ended, member', warnings⟩

/-- A unit the departure close has asked is covered no more. -/
theorem Pressed.uncovered (h : Pressed i u s r b) (which : i = .departureCloseRequest u ∨ i = .departureCloseDeadline) (d : DepartureClose)
    (stands : (settle r b).bu.departure = some d) : d.covered.get u = false :=
  not_covered (settle_coveredUnder r (h.departure which)) stands

/-- A member the emergency close cycle has asked is STARTED as long as the close stands. -/
theorem settle_started (s0 : State) (h : b.emergencyStatus u = some .started) {e : EmergencyClose} (stands : (settle s0 b).iu.emergencyClose = some e) :
    e.members.get u = some .started := by
  obtain ⟨judged, -⟩ := settle_emergency s0 stands
  rw [← emergencyStatus_of judged]
  rcases (judgedMembers_unitJudged u b).emergency with same | ⟨-, started, -⟩
  · exact same.trans h
  · exact started

/-- While the member it has asked shuts, the emergency close cycle stands. -/
theorem Pressed.emergency_stands (h : Pressed i u s r b) (standing : (s.unit u).standsOpen)
    (which : i = .emergencyCloseRequest u ∨ i = .emergencyCloseDeadline u) :
    ∃ e, (settle r b).iu.emergencyClose = some e ∧ e.members.get u = some .started := by
  have started := h.emergency which
  have undone : memberDone (b.unit u) MemberStatus.started = false :=
    memberDone_shutting _ (h.sent.shuts (by rw [h.reached.unit]; exact standing))
  obtain ⟨k, stands, -⟩ := (judgedMembers_unitJudged u b).emergency_notDone started undone
  obtain ⟨e, stands, -⟩ := emergencyStatus_some stands
  have ended : (settle r b).iu.emergencyClose = some e := by
    rw [settle_iu, settleCloses_emergencyStands started undone]
    exact stands
  exact ⟨e, ended, settle_started r started ended⟩

/-- A unit the access close has asked is no member of it any more. -/
theorem Pressed.dismissed (h : Pressed i u s r b) (which : i = .accessCloseRequest u ∨ i = .accessCloseDeadline u) (k : AccessClose)
    (stands : (settle r b).iu.accessClose = some k) : k.members.get u = none := by
  rw [(settle_completed r b).access] at stands
  have none : (judgedMembers b).accessMember u = none := by
    rcases (judgedMembers_unitJudged u b).access with same | ⟨gone, -⟩
    · exact same.trans (h.access which)
    · exact gone
  rw [State.accessMember, stands, Option.bind_some] at none
  exact Option.map_eq_none_iff.1 none

end Sys2Proof.Machine

/-! O55: when a member is sent its close request, and when it is not. -/

namespace Sys2Proof.Machine
variable {i : Instr} {u v : UnitNo} {s t r a b m : State} {c : CloseCycle} {n : Member}

/-! ### Requests withheld under the latch (R89) -/

/-- Under the latch the cycle's request is spent: the member is STARTED and its channel left. -/
theorem cycle_withheld (h : CycleDue i u s r) (active : s.active u = true) (standing : (s.unit u).standsOpen) (latch : s.iu.latch = true) :
    Reached s r ∧ r.iu = s.iu ∧ ∃ k n, r.bu.cycle = some k ∧ k.members.get u = some n ∧
      Sys2Proof.Machine.exec i s = .next (settle r (r.setCycle (some (k.started u n)))) := by
  obtain ⟨reached, iu, -, run, off, k, n, stands, member, waiting, unbound, free⟩ := cycleDue_cases h active
  have sends := judgeMember_sends stands member waiting (memberFree_of ((reached.unit u).symm ▸ standing) unbound free off)
  have latched : (r.setCycle (some (k.started u n))).iu.latch = true := (congrArg InterlockUnit.latch iu).trans latch
  rw [berthCloseRequest_latched latched] at sends
  rw [sends] at run
  exact ⟨reached, iu, k, n, stands, member, run⟩

/-- Under the latch a member sent its request in the cycle is STARTED, unless that completes the cycle. -/
theorem withheld_member (s0 : State) (latch : b.iu.latch = true) (emergency : b.iu.emergencyClose = none) (access : b.iu.accessClose = none)
    (place : b.cycleMember u = some { n with status := .started }) :
    (memberDone (b.unit u) .started = true ∧ (settle s0 b).bu.cycle = none) ∨
      ∃ c', (settle s0 b).bu.cycle = some c' ∧ c'.members.get u = some { n with status := .started } := by
  have withheld := judgedMembers_withheld latch emergency access
  have judged : (judgedMembers b).cycleMember u = some { n with status := .started } := by
    rcases (judgedMembers_unitJudged u b).member with same | ⟨n', was, waiting, -⟩
    · exact same.trans place
    · obtain rfl := Option.some.inj (place.symm.trans was)
      cases waiting
  rcases ended : (settle s0 b).bu.cycle with _ | c'
  · refine .inl ⟨Bool.not_eq_false _ ▸ fun undone => ?_, rfl⟩
    have unit : (judgedMembers b).unit u = b.unit u := by rw [State.unit, withheld.dc]; rfl
    have whole : settleCloses b = judgedMembers b := by
      rw [settleCloses_judged, completeCycle_stands judged (unit.symm ▸ undone), completeEmergency_none (judgedMembers_noEmergency emergency)]
    obtain ⟨k, stands, -⟩ := cycleMember_some judged
    rw [settle_bu, whole, stands] at ended
    cases ended
  · exact .inr ⟨c', rfl, (cycleMember_of (settle_cycle s0 ended).1 u).symm.trans judged⟩

/-- Under the latch the departure close's request is spent: the unit is covered no more and its channel left. -/
theorem departure_withheld (h : DepartureDue i u s r) (active : s.active u = true) (closable : (s.unit u).closable = true) (latch : s.iu.latch = true) :
    Reached s r ∧ r.iu = s.iu ∧ ∃ b, Sys2Proof.Machine.exec i s = .next (settle r b) ∧ Ends r b ∧ Withheld r b ∧ b.coveredUnder u = none := by
  obtain ⟨reached, iu, -, w, covered, over_, free, b, run, form⟩ := departureDue_cases h active
  have latched : r.iu.latch = true := (congrArg InterlockUnit.latch iu).trans latch
  have asked {m : State} (viewed : UnitViewed u r m) : (judgeCovered u m).coveredUnder u = none := by
    have drop : (dropCovered u m).iu.latch = true := (dropCovered_stands (u := u) u m).latch.trans (viewed.latch.trans latched)
    rw [judgeCovered_sends (viewed.covered.trans covered) over_ (by rw [viewed.unit, reached.unit]; exact closable)
      ((viewed.gapFree w).trans free), berthCloseRequest_latched drop]
    exact dropCovered_coveredUnder u m
  rcases form with rfl | rfl
  · exact ⟨reached, iu, _, run, judgeCovered_ends u r, judgeCovered_withheld latched, asked (.refl u r)⟩
  · obtain ⟨m, before, behind⟩ := forUnits_at (UnitViewed.refl u) UnitViewed.trans u (fun _ s n => judgeCovered_viewed n s) r
    exact ⟨reached, iu, _, run, forUnits_ends judgeCovered_ends r, forUnits_withheld (fun u _ => judgeCovered_withheld (u := u)) latched,
      behind.covered.trans (asked before)⟩

/-! ### A request that is not due -/

theorem judgeMember_absent (h : s.bu.cycle = none) : judgeMember u s = s := by
  unfold judgeMember
  rw [h]

theorem judgeCovered_absent (h : s.bu.departure = none) : judgeCovered u s = s := by
  unfold judgeCovered
  rw [h]

/-- A judge that leaves unit `u` alone leaves it among the four. -/
theorem forUnits_held {f : UnitNo → State → State} (viewed : ∀ v s, v ≠ u → UnitViewed u s (f v s)) (judged : ∀ v s, MembersJudged s (f v s))
    (held : ∀ m, UnitViewed u s m → MembersJudged s m → f u m = m) : UnitViewed u s (forUnits f s) := by
  obtain ⟨m, ⟨before, along⟩, behind⟩ := forUnits_at (Q := fun a b => UnitViewed u a b ∧ MembersJudged a b) (fun a => ⟨.refl u a, .refl a⟩)
    (fun h k => ⟨h.1.trans k.1, h.2.trans k.2⟩) u (fun v s ne => ⟨viewed v s ne, judged v s⟩) s
  rw [held m before along] at behind
  exact before.trans behind.1

/-- The member is held back in the cycle: a boarding hold binds it, or its gap filter stands asserted. -/
def State.bound (s : State) (u : UnitNo) : Prop :=
  ∀ c n, s.bu.cycle = some c → c.members.get u = some n →
    s.boardingHold c u (warningAt c.warnings n.warning) = true ∨ s.gapFree u (warningAt c.warnings n.warning) = false

theorem boardingHold_memberFree {w : Warning} (h : s.boardingHold c u w = true ∨ s.gapFree u w = false) : s.memberFree c u w = false := by
  unfold State.memberFree
  rcases h with e | e
  · rw [e, Bool.not_true, Bool.and_false, Bool.false_and, Bool.false_and]
  · rw [e, Bool.and_false, Bool.false_and]

theorem judgeMember_held (h : s.platformHold = true ∨ s.bound u) : judgeMember u s = s := by
  rcases place : s.cycleMember u with _ | n
  · unfold judgeMember
    split
    · rfl
    · next c stands => rw [← cycleMember_of stands, place]
  · obtain ⟨c, stands, member⟩ := cycleMember_some place
    refine judgeMember_rests_under stands member ?_
    rcases h with hold | bound
    · rw [State.memberFree, hold, Bool.not_true, Bool.and_false]
    · exact boardingHold_memberFree (bound c n stands member)

theorem boardingHold_congr {c' : CloseCycle} {w : Warning} (h : MembersJudged a b) (holds : c'.holds = c.holds) :
    b.boardingHold c' u w = a.boardingHold c u w := by
  unfold State.boardingHold State.reached State.deadline State.car CloseCycle.holdFor
  rw [h.now, h.cl, h.ae, h.holdList, holds]

theorem State.bound.judged (h : s.bound u) (viewed : UnitViewed u s m) (judged : MembersJudged s m) : m.bound u := by
  refine fun c' n stands member => ?_
  have kept := judged.cycle
  rw [stands] at kept
  obtain ⟨c, was, same⟩ := Option.map_eq_some_iff.1 kept.symm
  obtain ⟨warnings, holds⟩ := Prod.mk.inj same
  have place : c.members.get u = some n := by
    rw [← cycleMember_of was, ← viewed.cycle, cycleMember_of stands]
    exact member
  rw [boardingHold_congr judged holds.symm, viewed.gapFree, ← warnings]
  exact h c n was place

/-- A member held back keeps its place in the cycle, and its unit its channel, as an event ends with no other close under way. -/
theorem settle_bound (h : s.platformHold = true ∨ s.bound u) (departure : s.bu.departure = none) (emergency : s.iu.emergencyClose = none)
    (access : s.iu.accessClose = none) : UnitViewed u s (judgedMembers s) := by
  rcases h with hold | bound
  · rw [judgedMembers_platformHold hold departure emergency access]
    exact .refl u s
  · have one := forUnits_held (u := u) (fun _ s n => judgeMember_viewed n s) judgeMember_judged fun m viewed judged => judgeMember_held (.inr (bound.judged viewed judged))
    have none : (forUnits judgeMember s).bu.departure = Option.none ∧ (forUnits judgeMember s).iu.emergencyClose = Option.none ∧
        (forUnits judgeMember s).iu.accessClose = Option.none :=
      ⟨(forUnits_keeps (fun x => x.bu.departure) judgeMember_departure s).trans departure,
        (forUnits_keeps (fun x => x.iu.emergencyClose) judgeMember_emergency s).trans emergency,
        (forUnits_keeps (fun x => x.iu.accessClose) judgeMember_access s).trans access⟩
    unfold judgedMembers
    rw [forUnits_fixed (f := judgeCovered) fun _ => judgeCovered_absent none.1,
      forUnits_fixed (f := judgeEmergencyMember) fun _ => judgeEmergencyMember_absent none.2.1,
      forUnits_fixed (f := judgeAccessMember) fun _ => judgeAccessMember_absent none.2.2]
    exact one

theorem judgeCovered_held (h : ∀ w, s.coveredUnder u = some w → w.running = true ∨ s.gapFree u w = false) : judgeCovered u s = s := by
  rcases place : s.coveredUnder u with _ | w
  · unfold judgeCovered
    split
    · rfl
    · next d stands =>
      rw [not_covered place stands, Bool.and_false]
      rfl
  · exact judgeCovered_rests_under place ((h w place).imp id .inr)

theorem judgeEmergencyMember_held (h : ∀ e, s.iu.emergencyClose = some e → s.gapFree u e.warning = false) : judgeEmergencyMember u s = s := by
  rcases stands : s.iu.emergencyClose with _ | e
  · exact judgeEmergencyMember_absent stands
  · exact judgeEmergencyMember_rests_waiting stands (.inr (h e stands))

theorem judgeAccessMember_held (h : ∀ w n, s.accessMember u = some (w, n) → s.gapFree u (warningAt w n.warning) = false) : judgeAccessMember u s = s := by
  rcases place : s.accessMember u with _ | ⟨w, n⟩
  · unfold judgeAccessMember
    split
    · rfl
    · next a stands =>
      rw [State.accessMember, stands, Option.bind_some, Option.map_eq_none_iff] at place
      rw [place]
  · exact judgeAccessMember_rests_under place (.inr (.inr (h w n place)))

theorem judgedMembers_coveredHeld (h : ∀ w, s.coveredUnder u = some w → w.running = true ∨ s.gapFree u w = false) (cycle : s.bu.cycle = none)
    (emergency : s.iu.emergencyClose = none) (access : s.iu.accessClose = none) : UnitViewed u s (judgedMembers s) := by
  have one := forUnits_held (u := u) (fun _ s n => judgeCovered_viewed n s) judgeCovered_judged fun m viewed _ =>
    judgeCovered_held fun w place => by
      rw [viewed.gapFree]
      exact h w (viewed.covered.symm.trans place)
  have none : (forUnits judgeCovered s).iu.emergencyClose = Option.none ∧ (forUnits judgeCovered s).iu.accessClose = Option.none :=
    ⟨(forUnits_keeps (fun x => x.iu.emergencyClose) judgeCovered_emergency s).trans emergency,
      (forUnits_keeps (fun x => x.iu.accessClose) judgeCovered_access s).trans access⟩
  unfold judgedMembers
  rw [forUnits_fixed (f := judgeMember) fun _ => judgeMember_absent cycle,
    forUnits_fixed (f := judgeEmergencyMember) fun _ => judgeEmergencyMember_absent none.1,
    forUnits_fixed (f := judgeAccessMember) fun _ => judgeAccessMember_absent none.2]
  exact one

theorem judgedMembers_emergencyHeld (h : ∀ e, s.iu.emergencyClose = some e → s.gapFree u e.warning = false) (cycle : s.bu.cycle = none)
    (departure : s.bu.departure = none) (access : s.iu.accessClose = none) : UnitViewed u s (judgedMembers s) := by
  have one := forUnits_held (u := u) (s := s) (fun _ s n => judgeEmergencyMember_viewed n s) judgeEmergencyMember_judged fun m viewed judged =>
    judgeEmergencyMember_held fun e stands => by
      have kept := judged.emergency
      rw [stands] at kept
      obtain ⟨e0, was, warning⟩ := Option.map_eq_some_iff.1 kept.symm
      rw [viewed.gapFree, ← warning]
      exact h e0 was
  have none : (forUnits judgeEmergencyMember s).iu.accessClose = Option.none :=
    (forUnits_keeps (fun x => x.iu.accessClose) judgeEmergencyMember_access s).trans access
  unfold judgedMembers
  rw [forUnits_fixed (f := judgeMember) fun _ => judgeMember_absent cycle, forUnits_fixed (f := judgeCovered) fun _ => judgeCovered_absent departure,
    forUnits_fixed (f := judgeAccessMember) fun _ => judgeAccessMember_absent none]
  exact one

theorem judgedMembers_accessHeld (h : ∀ w n, s.accessMember u = some (w, n) → s.gapFree u (warningAt w n.warning) = false) (cycle : s.bu.cycle = none)
    (departure : s.bu.departure = none) (emergency : s.iu.emergencyClose = none) : UnitViewed u s (judgedMembers s) := by
  unfold judgedMembers
  rw [forUnits_fixed (f := judgeMember) fun _ => judgeMember_absent cycle, forUnits_fixed (f := judgeCovered) fun _ => judgeCovered_absent departure,
    forUnits_fixed (f := judgeEmergencyMember) fun _ => judgeEmergencyMember_absent emergency]
  refine forUnits_held (u := u) (fun _ s n => judgeAccessMember_viewed n s) judgeAccessMember_judged fun m viewed _ =>
    judgeAccessMember_held fun w n place => ?_
  rw [viewed.gapFree]
  exact h w n (viewed.access.symm.trans place)

/-! ### The obligation -/

/-- A unit standing open that is sent its request. -/
theorem Pressed.standing_clause (h : Pressed i u s r b) (standing : s.unit u = .opened ∨ s.unit u = .heldOpen)
    (clear : i = .memberRelease u ∨ i = .memberDeadline u → s.iu.latch = false) :
    ∃ t, Sys2Proof.Machine.exec i s = .next t ∧ Ends r t ∧
      (s.obstructed u = false →
        t.dc.get u = closingFirst r u ∧ (t.fr.unitCounters.get u).reversals = (s.fr.unitCounters.get u).reversals) ∧
      (s.obstructed u = true → Reversed (closingFirst r u) s t u) ∧
      (i = .memberRelease u ∨ i = .memberDeadline u → s.iu.emergencyClose = none → ∀ c m, s.bu.cycle = some c →
        c.members.get u = some m →
        ∃ c', t.bu.cycle = some c' ∧ c'.members.get u = some { m with status := .started } ∧ c'.warnings = c.warnings) ∧
      (i = .departureCloseRequest u ∨ i = .departureCloseDeadline →
        ∀ d, t.bu.departure = some d → d.covered.get u = false) ∧
      (i = .emergencyCloseRequest u ∨ i = .emergencyCloseDeadline u →
        ∃ e, t.iu.emergencyClose = some e ∧ e.members.get u = some .started) ∧
      (i = .accessCloseRequest u ∨ i = .accessCloseDeadline u →
        ∀ a, t.iu.accessClose = some a → a.members.get u = none) := by
  have stands : (r.unit u).standsOpen := by
    rw [h.reached.unit]
    exact standing
  have obstructed := h.reached.obstructed u
  refine ⟨_, h.exec, h.ends.trans (settle_ends r b), fun free => ?_, fun met => h.sent.turns r stands (obstructed.trans met) h.reached.cl h.reached.fr,
    fun which none c n was member => h.member_started standing (clear which) which none was member, h.uncovered, h.emergency_stands standing, h.dismissed⟩
  rw [← h.reached.fr]
  exact h.sent.closes r stands (obstructed.trans free)

/-- What every request that is held back leaves, once the judging leaves the unit. -/
theorem held_ends {f : State → State} (run : Sys2Proof.Machine.exec i s = .next (settle s (f s))) (rests : f s = s)
    (viewed : UnitViewed u s (judgedMembers s)) :
    Sys2Proof.Machine.exec i s = .next (settle s s) ∧ Ends s (settle s s) ∧ (settle s s).dc.get u = s.dc.get u :=
  ⟨by rw [run, rests], settle_ends s s, (settle_dc_judged u s s).trans viewed.dc⟩

/-- A member of the cycle held back: a platform hold, a boarding hold or its gap filter (R159, R163, R164). -/
theorem memberRelease_held (active : s.active u = true) (departure : s.bu.departure = none) (emergency : s.iu.emergencyClose = none)
    (access : s.iu.accessClose = none) (held : s.platformHold = true ∨ s.bound u) :
    Sys2Proof.Machine.exec (.memberRelease u) s = .next (settle s s) ∧ Ends s (settle s s) ∧ (settle s s).dc.get u = s.dc.get u ∧
      ∀ c m, s.bu.cycle = some c → c.members.get u = some m → memberDone (s.unit u) m.status = false →
        ∃ c', (settle s s).bu.cycle = some c' ∧ c'.members.get u = some m := by
  have viewed := settle_bound held departure emergency access
  obtain ⟨run, ends, dc⟩ := held_ends (exec_memberRelease active) (judgeMember_held held) viewed
  refine ⟨run, ends, dc, fun c m stands member undone => ?_⟩
  have judged := viewed.cycle.trans ((cycleMember_of stands u).trans member)
  have whole : settleCloses s = judgedMembers s := by
    rw [settleCloses_judged, completeCycle_stands judged (viewed.unit.symm ▸ undone), completeEmergency_none (judgedMembers_noEmergency emergency)]
  rw [settle_bu, whole]
  exact cycleMember_some judged

theorem departureRequest_held (active : s.active u = true) (cycle : s.bu.cycle = none) (emergency : s.iu.emergencyClose = none)
    (access : s.iu.accessClose = none) (held : ∀ d, s.bu.departure = some d → d.warning.running = true ∨ s.gapFree u d.warning = false) :
    Sys2Proof.Machine.exec (.departureCloseRequest u) s = .next (settle s s) ∧ Ends s (settle s s) ∧ (settle s s).dc.get u = s.dc.get u := by
  have rest : ∀ w, s.coveredUnder u = some w → w.running = true ∨ s.gapFree u w = false := fun w place => by
    obtain ⟨d, stands, -, rfl⟩ := coveredUnder_some place
    exact held d stands
  exact held_ends (exec_departureCloseRequest active) (judgeCovered_held rest) (judgedMembers_coveredHeld rest cycle emergency access)

theorem accessRequest_held (active : s.active u = true) (cycle : s.bu.cycle = none) (departure : s.bu.departure = none)
    (emergency : s.iu.emergencyClose = none)
    (held : ∀ a m, s.iu.accessClose = some a → a.members.get u = some m → s.gapFree u (warningAt a.warnings m.warning) = false) :
    Sys2Proof.Machine.exec (.accessCloseRequest u) s = .next (settle s s) ∧ Ends s (settle s s) ∧ (settle s s).dc.get u = s.dc.get u := by
  have rest : ∀ w n, s.accessMember u = some (w, n) → s.gapFree u (warningAt w n.warning) = false := fun w n place => by
    obtain ⟨a, stands, member, rfl⟩ := accessMember_some place
    exact held a n stands member
  exact held_ends (exec_accessCloseRequest active) (judgeAccessMember_held rest) (judgedMembers_accessHeld rest cycle departure emergency)

/-- Under the latch the cycle's request leaves the channel and marks the member (R89). -/
theorem cycle_withheld_clause (due : CycleDue i u s r) (active : s.active u = true) (standing : s.unit u = .opened ∨ s.unit u = .heldOpen)
    (latch : s.iu.latch = true) (emergency : s.iu.emergencyClose = none) (access : s.iu.accessClose = none) :
    ∃ t, Sys2Proof.Machine.exec i s = .next t ∧ Ends r t ∧ t.dc.get u = s.dc.get u ∧ t.fr.unitCounters.get u = s.fr.unitCounters.get u ∧
      ∀ c m, s.bu.cycle = some c → c.members.get u = some m →
        (s.unit u = .heldOpen ∧ t.bu.cycle = none ∧ t.berthState = .secured) ∨
          ∃ c', t.bu.cycle = some c' ∧ c'.members.get u = some { m with status := .started } := by
  obtain ⟨reached, iu, k, n, stands, member, run⟩ := cycle_withheld due active standing latch
  have iu' : (r.setCycle (some (k.started u n))).iu = s.iu := iu
  have place : (r.setCycle (some (k.started u n))).cycleMember u = some { n with status := .started } := Quad.get_set_self ..
  have unit : (r.setCycle (some (k.started u n))).unit u = s.unit u := reached.unit u
  have dc : (r.setCycle (some (k.started u n))).dc = s.dc := reached.dc
  have fr : (r.setCycle (some (k.started u n))).fr = s.fr := reached.fr
  have settled : Ends r (settle r (r.setCycle (some (k.started u n)))) := (settle_ends r _).recycled stands
  generalize r.setCycle (some (k.started u n)) = b at *
  rw [← iu'] at latch emergency access
  have left := settle_withheld r latch emergency access u
  refine ⟨_, run, settled, left.dc.trans (by rw [dc]), left.counters.trans (by rw [fr]), fun c m was at_ => ?_⟩
  obtain rfl := Option.some.inj (stands.symm.trans (reached.bu.symm ▸ was))
  obtain rfl := Option.some.inj (member.symm.trans at_)
  refine (withheld_member r latch emergency access place).imp (fun ⟨done, ended⟩ => ⟨standing.resolve_left fun opened => ?_, ended, ?_⟩) id
  · rw [unit, opened] at done
    cases done
  · exact settled.1.cycleEnded (by rw [stands]; rfl) ended

/-- Settles O55: a request that is due presses its unit and marks its member; one withheld or held back leaves the unit. -/
theorem membersClose : Obligations.MembersClose := by
  unfold Obligations.MembersClose
  refine fun u i s s' active => ⟨fun standing due => ?_, fun opening due => ?_, fun ignored due => ?_, fun standing latch emergency access due => ?_,
    fun held => ?_⟩
  · have pressed : ∃ b, Pressed i u s s' b ∧ (i = .memberRelease u ∨ i = .memberDeadline u → s.iu.latch = false) := by
      have closable := closable_of_standsOpen standing
      rcases due with ⟨clear, due | due⟩ | due | due
      · obtain ⟨b, pressed⟩ := cycle_requested due active standing clear
        exact ⟨b, pressed, fun _ => clear⟩
      · obtain ⟨b, pressed⟩ := departure_requested due active closable clear
        exact ⟨b, pressed, fun _ => clear⟩
      · obtain ⟨b, pressed⟩ := emergency_requested due active (moves_of_closable closable)
        refine ⟨b, pressed, fun which => ?_⟩
        obtain ⟨-, -, own, -⟩ := emergencyDue_cases due active
        rcases own with rfl | rfl <;> rcases which with e | e <;> cases e
      · obtain ⟨b, pressed⟩ := access_requested due active closable
        refine ⟨b, pressed, fun which => ?_⟩
        obtain ⟨-, -, own, -⟩ := accessDue_cases due active
        rcases own with rfl | rfl <;> rcases which with e | e <;> cases e
    obtain ⟨b, pressed, clear⟩ := pressed
    exact pressed.standing_clause standing clear
  · have pressed : ∃ b, Pressed i u s s' b := by
      have closable : (s.unit u).closable = true := by rw [opening]; rfl
      rcases due with ⟨clear, due⟩ | due | due
      · exact departure_requested due active closable clear
      · exact emergency_requested due active (moves_of_closable closable)
      · exact access_requested due active closable
    obtain ⟨b, pressed⟩ := pressed
    have marks := pressed.sent.marks s' ((pressed.reached.unit u).trans opening)
    rw [pressed.reached.dc, pressed.reached.fr] at marks
    exact ⟨_, pressed.exec, pressed.ends.trans (settle_ends s' b), marks⟩
  · have ignores : (s.unit u).ignoresClose ∧ (s.unit u).turning = false := by
      unfold UnitState.ignoresClose
      generalize s.unit u = st at ignored
      simp only [List.mem_cons, List.not_mem_nil, or_false] at ignored
      rcases ignored with rfl | rfl | rfl | rfl | rfl | rfl | rfl | rfl | rfl <;> exact ⟨by simp, rfl⟩
    obtain ⟨b, pressed⟩ := emergency_requested due active ignores.2
    obtain ⟨-, -, which, -⟩ := emergencyDue_cases due active
    have started := pressed.emergency which
    have kept := pressed.sent.ignores s' ((pressed.reached.unit u).symm ▸ ignores.1) (by rw [started]; exact fun e => nomatch e)
    rw [pressed.reached.dc, pressed.reached.fr] at kept
    exact ⟨_, pressed.exec, pressed.ends.trans (settle_ends s' b), kept.1, kept.2, fun e => settle_started s' started⟩
  · rcases due with due | due
    · obtain ⟨t, run, ends, dc, counters, members⟩ := cycle_withheld_clause due active standing latch emergency access
      refine ⟨t, run, ends, dc, counters, fun _ => members, fun which => ?_⟩
      obtain ⟨-, -, own, -⟩ := cycleDue_cases due active
      rcases own with rfl | rfl <;> rcases which with e | e <;> cases e
    · obtain ⟨reached, iu, b, run, ends, withheld, uncovered⟩ := departure_withheld due active (closable_of_standsOpen standing) latch
      have iu' : b.iu = s.iu := withheld.iu.trans iu
      have left := settle_withheld s' (s := b) (by rw [iu']; exact latch) (by rw [iu']; exact emergency) (by rw [iu']; exact access) u
      refine ⟨_, run, ends.trans (settle_ends s' b), left.dc.trans (by rw [withheld.dc, reached.dc]), left.counters.trans (by rw [withheld.fr, reached.fr]),
        ?_, fun _ d stands => not_covered (settle_coveredUnder s' uncovered) stands⟩
      intro which
      obtain ⟨-, -, own, -⟩ := departureDue_cases due active
      rcases own with rfl | rfl <;> rcases which with e | e <;> cases e
  · rcases held with ⟨rfl, departure, emergency, access, held⟩ | ⟨rfl, cycle, emergency, access, held⟩ | ⟨rfl, cycle, departure, access, held⟩ |
      ⟨rfl, cycle, departure, emergency, held⟩
    · have bound : s.platformHold = true ∨ s.bound u := by
        by_cases hold : s.platformHold = true
        · exact .inl hold
        · exact .inr fun c n stands member => (held c n stands member).resolve_left fun ⟨closing, x, inSet, _⟩ => hold (platformHold_of closing inSet)
      obtain ⟨run, ends, dc, members⟩ := memberRelease_held active departure emergency access bound
      exact ⟨_, run, ends, dc, fun _ => members⟩
    · obtain ⟨run, ends, dc⟩ := departureRequest_held active cycle emergency access held
      exact ⟨_, run, ends, dc, fun e => nomatch e⟩
    · obtain ⟨run, ends, dc⟩ := held_ends (exec_emergencyCloseRequest active) (judgeEmergencyMember_held held)
        (judgedMembers_emergencyHeld held cycle departure access)
      exact ⟨_, run, ends, dc, fun e => nomatch e⟩
    · obtain ⟨run, ends, dc⟩ := accessRequest_held active cycle departure emergency held
      exact ⟨_, run, ends, dc, fun e => nomatch e⟩

end Sys2Proof.Machine

/-! The deciding of a COMMAND's units, one after another (R45, R46). -/

namespace Sys2Proof.Machine
variable {u v : UnitNo} {s t a b m : State} {arg : Byte} {g : UnitNo → State → State × RefusalCode} {ρ : UnitNo → RefusalCode}

/-! ### What the deciding of other units leaves of a unit's refusal -/

/-- The code with which a named unit is refused, a unit at or above the unit count with UNIT_STATE (R45). -/
def State.decision (s : State) (ρ : UnitNo → RefusalCode) (u : UnitNo) : RefusalCode := if s.configured u then ρ u else .unitState

/-- The operation decides each unit by `ρ`, whatever it has made of the others, and touches that unit alone. -/
structure DecidesBy (g : UnitNo → State → State × RefusalCode) (ρ : UnitNo → RefusalCode) (s : State) : Prop where
  holds : ∀ u m, Holds (only u) m (g u m).1
  code : ∀ u x m, x u = false → Holds x s m → (g u m).2 = ρ u

/-- The units named before their turn. -/
def namedIn (l : List UnitNo) (s : State) (arg : Byte) (u : UnitNo) : Bool := l.contains u && s.named arg u

/-- What the deciding of the units of `l` has come to. -/
structure DecidedIn (l : List UnitNo) (g : UnitNo → State → State × RefusalCode) (ρ : UnitNo → RefusalCode) (arg : Byte) (s : State) (d : Deciding) : Prop where
  holds : Holds (namedIn l s arg) s d.state
  taken : ∀ u, d.taken.get u = (namedIn l s arg u && ρ u == .none)
  code : d.code = (((l.filter fun u => arg.getLsbD u.val).map (s.decision ρ)).find? fun c => c ≠ .none).getD .none
  turn : ∀ u, namedIn l s arg u = true → ∃ m, Holds (fun v => namedIn l s arg v && v != u) s m ∧
    Holds (fun v => namedIn l s arg v && v != u) (g u m).1 d.state
  idle : (∀ v, namedIn l s arg v = false) → d.state = s
  alone : ∀ u, namedIn l s arg u = true → (∀ v, namedIn l s arg v = true → v = u) → d.state = (g u s).1

theorem Holds.widen {x y : UnitNo → Bool} (h : Holds x s t) (k : ∀ u, x u = true → y u = true) : Holds y s t :=
  ⟨h.1.mono fun u n => Bool.eq_false_iff.2 fun e => Bool.false_ne_true (n.symm.trans (k u e)), h.2⟩

theorem namedIn_append (l : List UnitNo) (s : State) (arg : Byte) (u v : UnitNo) :
    namedIn (l ++ [u]) s arg v = (namedIn l s arg v || (v == u && s.named arg v)) := by
  unfold namedIn
  rw [List.contains_append, Bool.and_or_distrib_right]
  congr 2
  rw [List.contains_cons, List.contains_nil, Bool.or_false]

/-- A unit that the argument does not name. -/
theorem decideUnit_unnamed {d : Deciding} (h : arg.getLsbD u.val = false) : decideUnit arg g d u = d := by
  unfold decideUnit
  rw [h]
  rfl

/-- A unit at or above the unit count. -/
theorem decideUnit_beyond {d : Deciding} (h : arg.getLsbD u.val = true) (beyond : d.state.configured u = false) :
    decideUnit arg g d u = { d with taken := d.taken.set u false, code := if d.code = .none then .unitState else d.code } := by
  unfold decideUnit
  rw [h, beyond]
  rfl

theorem decideUnit_named {d : Deciding} (h : arg.getLsbD u.val = true) (configured : d.state.configured u = true) :
    decideUnit arg g d u =
      { state := (g u d.state).1, taken := d.taken.set u ((g u d.state).2 == .none)
        code := if d.code = .none then (g u d.state).2 else d.code } := by
  unfold decideUnit
  rw [h, configured]
  rfl

/-- The first refusal of a longer row. -/
theorem code_append (l : List RefusalCode) (c : RefusalCode) :
    ((l ++ [c]).find? fun c => c ≠ .none).getD .none =
      if (l.find? fun c => c ≠ .none).getD .none = .none then c else (l.find? fun c => c ≠ .none).getD .none := by
  rw [List.find?_append]
  rcases found : l.find? fun c => decide (c ≠ RefusalCode.none) with _ | k
  · rw [Option.none_or, Option.getD_none, if_pos rfl]
    cases c <;> rfl
  · have nonzero : k ≠ .none := of_decide_eq_true (List.find?_some (p := fun c => decide (c ≠ RefusalCode.none)) found)
    rw [Option.some_or, Option.getD_some, if_neg nonzero]

theorem DecidedIn.next {l : List UnitNo} {d : Deciding} (by_ : DecidesBy g ρ s) (h : DecidedIn l g ρ arg s d) (fresh : u ∉ l) :
    DecidedIn (l ++ [u]) g ρ arg s (decideUnit arg g d u) := by
  have others (v : UnitNo) (ne : v ≠ u) : namedIn (l ++ [u]) s arg v = namedIn l s arg v := by
    rw [namedIn_append, beq_eq_false_iff_ne.2 ne, Bool.false_and, Bool.or_false]
  have out : namedIn l s arg u = false := by
    unfold namedIn
    rw [List.contains_eq_mem, decide_eq_false fresh, Bool.false_and]
  have own : namedIn (l ++ [u]) s arg u = s.named arg u := by
    rw [namedIn_append, out, beq_self_eq_true, Bool.true_and, Bool.false_or]
  by_cases bit_ : arg.getLsbD u.val = true
  · have row : (l ++ [u]).filter (fun u => arg.getLsbD u.val) = l.filter (fun u => arg.getLsbD u.val) ++ [u] := by
      rw [List.filter_append]
      simp [bit_]
    have conf : d.state.configured u = s.configured u := h.holds.configured u
    by_cases configured : s.configured u = true
    · have named : s.named arg u = true := by rw [State.named, bit_, configured]; rfl
      have code : (g u d.state).2 = ρ u := by_.code u _ d.state out h.holds
      have step := by_.holds u d.state
      have wide (v : UnitNo) (e : namedIn l s arg v = true) : namedIn (l ++ [u]) s arg v = true := by rw [namedIn_append, e]; rfl
      rw [decideUnit_named bit_ (conf.trans configured)]
      refine ⟨(h.holds.widen wide).trans (step.of_only (own.trans named)), fun v => ?_, ?_, fun v n => ?_, fun none => ?_, fun v n single => ?_⟩
      · by_cases e : v = u
        · subst e
          rw [own, named, ← code]
          exact Quad.get_set_self ..
        · rw [others v e, ← h.taken v]
          exact Quad.get_set_ne _ _ (Ne.symm e)
      · rw [row, List.map_append, List.map_cons, List.map_nil, code_append, ← h.code, code, State.decision, if_pos configured]
      · by_cases e : v = u
        · subst e
          refine ⟨d.state, h.holds.widen fun w k => ?_, .refl _ _⟩
          have ne : w ≠ v := fun e => Bool.false_ne_true (out.symm.trans (e ▸ k))
          rw [wide w k, bne_iff_ne.2 ne]
          rfl
        · rw [others v e] at n
          obtain ⟨m, before, behind⟩ := h.turn v n
          have wider (w : UnitNo) (k : (namedIn l s arg w && w != v) = true) : (namedIn (l ++ [u]) s arg w && w != v) = true := by
            rw [Bool.and_eq_true] at k ⊢
            exact ⟨wide w k.1, k.2⟩
          refine ⟨m, before.widen wider, (behind.widen wider).trans (step.of_only ?_)⟩
          rw [own, named, bne_iff_ne.2 (Ne.symm e)]
          rfl
      · exact absurd ((none u).symm.trans (own.trans named)) Bool.false_ne_true
      · obtain rfl := single u (own.trans named)
        have none : ∀ v, namedIn l s arg v = false := fun v => by
          by_contra k
          rw [Bool.not_eq_false] at k
          obtain rfl := single v (wide v k)
          exact Bool.false_ne_true (out.symm.trans k)
        show (g u d.state).1 = (g u s).1
        rw [h.idle none]
    · rw [Bool.not_eq_true] at configured
      have unnamed : s.named arg u = false := by rw [State.named, configured, Bool.and_false]
      have same : namedIn (l ++ [u]) s arg = namedIn l s arg := funext fun v => by
        by_cases e : v = u
        · rw [e, own, unnamed, out]
        · exact others v e
      rw [decideUnit_beyond bit_ (conf.trans configured)]
      refine ⟨by rw [same]; exact h.holds, fun v => ?_, ?_, by rw [same]; exact h.turn, by rw [same]; exact h.idle, by rw [same]; exact h.alone⟩
      · by_cases e : v = u
        · subst e
          rw [own, unnamed]
          exact Quad.get_set_self ..
        · rw [others v e, ← h.taken v]
          exact Quad.get_set_ne _ _ (Ne.symm e)
      · rw [row, List.map_append, List.map_cons, List.map_nil, code_append, ← h.code, State.decision, configured]
        rfl
  · rw [Bool.not_eq_true] at bit_
    have unnamed : s.named arg u = false := by rw [State.named, bit_, Bool.false_and]
    have same : namedIn (l ++ [u]) s arg = namedIn l s arg := funext fun v => by
      by_cases e : v = u
      · rw [e, own, unnamed, out]
      · exact others v e
    have row : (l ++ [u]).filter (fun u => arg.getLsbD u.val) = l.filter (fun u => arg.getLsbD u.val) := by
      rw [List.filter_append]
      simp [bit_]
    rw [decideUnit_unnamed bit_]
    exact ⟨by rw [same]; exact h.holds, by rw [same]; exact h.taken, by rw [row]; exact h.code, by rw [same]; exact h.turn,
      by rw [same]; exact h.idle, by rw [same]; exact h.alone⟩

theorem decidedIn_nil (g : UnitNo → State → State × RefusalCode) (ρ : UnitNo → RefusalCode) (arg : Byte) (s : State) :
    DecidedIn [] g ρ arg s ⟨s, Quad.same false, .none⟩ :=
  ⟨.refl _ s, (fun u => by cases u <;> rfl), rfl, (fun _ n => nomatch n), fun _ => rfl, fun _ n => nomatch n⟩

theorem namedIn_all (s : State) (arg : Byte) : namedIn UnitNo.all s arg = s.named arg := funext fun u => by
  unfold namedIn
  rw [List.contains_eq_mem, decide_eq_true (mem_units u), Bool.true_and]

/-- What the deciding of a COMMAND's units comes to. -/
structure Decided (g : UnitNo → State → State × RefusalCode) (ρ : UnitNo → RefusalCode) (arg : Byte) (s : State) (d : Deciding) : Prop where
  holds : Holds (s.named arg) s d.state
  taken : ∀ u, d.taken.get u = (s.named arg u && ρ u == .none)
  code : d.code = (((UnitNo.all.filter fun u => arg.getLsbD u.val).map (s.decision ρ)).find? fun c => c ≠ .none).getD .none
  turn : ∀ u, s.named arg u = true → ∃ m, Holds (fun v => s.named arg v && v != u) s m ∧ Holds (fun v => s.named arg v && v != u) (g u m).1 d.state
  alone : ∀ u, s.named arg u = true → (∀ v, s.named arg v = true → v = u) → d.state = (g u s).1

theorem decided (by_ : DecidesBy g ρ s) (arg : Byte) : Decided g ρ arg s (decideUnits arg g s) := by
  have one := (decidedIn_nil g ρ arg s).next by_ (u := .u0) (by decide)
  have two := one.next by_ (u := .u1) (by decide)
  have three := two.next by_ (u := .u2) (by decide)
  obtain ⟨holds, taken, code, turn, -, alone⟩ := three.next by_ (u := .u3) (by decide)
  have all := namedIn_all s arg
  rw [show UnitNo.all = [] ++ [UnitNo.u0] ++ [.u1] ++ [.u2] ++ [.u3] from rfl] at all
  rw [all] at holds taken turn alone
  exact ⟨holds, taken, code, turn, alone⟩

end Sys2Proof.Machine

/-! How each COMMAND that names units decides them, and the alerts of the deciding (R45, R46, R135, R137, R138, R172, R182, R184). -/

namespace Sys2Proof.Machine
variable {u v : UnitNo} {s t a b c m : State} {arg : Byte} {g : UnitNo → State → State × RefusalCode} {ρ : UnitNo → RefusalCode}

/-! ### A unit at rest through what other units do -/

/-- The states that a unit neither leaves nor comes to as an event of another unit ends. -/
def UnitState.resting (st : UnitState) : Bool :=
  match st with
  | .opened | .heldOpen | .closing | .reversing | .reopenWait => false
  | _ => true

theorem KeepsUnit.resting_iff {d e : DoorChannel} {st : UnitState} (h : KeepsUnit d e) (rests : st.resting = true) : e.st = st ↔ d.st = st := by
  rcases h with same | ⟨-, same⟩ | ⟨from_, to_, -⟩
  · rw [same]
  · rw [same]
  · constructor <;> rintro rfl
    · rcases to_ with e | e | e <;> rw [e] at rests <;> cases rests
    · rcases from_ with e | e <;> rw [e] at rests <;> cases rests

theorem Holds.unit_iff {x : UnitNo → Bool} {st : UnitState} (h : Holds x s m) (out : x u = false) (rests : st.resting = true) :
    m.unit u = st ↔ s.unit u = st := (h.1.doors u out).resting_iff rests

/-! ### The operations on one unit -/

theorem isolateUnit_taken (h : s.unit u = .closedLocked ∨ s.unit u = .fault ∨ s.unit u = .unknown) :
    isolateUnit u s = (enterIsolated true u s, .none) := by
  unfold isolateUnit
  rcases h with e | e | e <;> rw [e]

theorem isolateUnit_restored (h : s.unit u = .releaseRestored) : isolateUnit u s = (enterIsolated true u (consumeHandle u s), .none) := by
  unfold isolateUnit
  rw [h]

theorem isolateUnit_refused (h : ¬(s.unit u = .closedLocked ∨ s.unit u = .fault ∨ s.unit u = .unknown ∨ s.unit u = .releaseRestored)) :
    isolateUnit u s = (s, .unitState) := by
  unfold isolateUnit
  simp only [not_or] at h
  obtain ⟨locked, fault, unknown, restored⟩ := h
  split
  · next e => exact absurd e locked
  · next e => exact absurd e fault
  · next e => exact absurd e unknown
  · next e => exact absurd e restored
  · rfl

theorem rehomeUnit_taken (h : s.unit u = .fault ∨ s.unit u = .unknown) : rehomeUnit u s = (enterHoming u s, .none) := by
  unfold rehomeUnit
  rcases h with e | e <;> rw [e]

theorem rehomeUnit_refused (h : ¬(s.unit u = .fault ∨ s.unit u = .unknown)) : rehomeUnit u s = (s, .unitState) := by
  unfold rehomeUnit
  rw [not_or] at h
  split
  · next e => exact absurd e h.1
  · next e => exact absurd e h.2
  · rfl

theorem consumeHandle_holds (u : UnitNo) (s : State) : Holds (only u) s (consumeHandle u s) := modSu_holds u _ s

theorem bringBack_holds (u : UnitNo) (s : State) : Holds (only u) s (bringBack u s) := by
  unfold bringBack
  split
  · exact comeClosed_holds u s
  · exact enterHoming_holds u s

/-! ### How each COMMAND decides a unit -/

/-- ISOLATE's refusals (R137). -/
def State.isolateRefusal (s : State) (u : UnitNo) : RefusalCode :=
  if s.unit u = .closedLocked ∨ s.unit u = .fault ∨ s.unit u = .unknown ∨ s.unit u = .releaseRestored then .none else .unitState

theorem isolateUnit_code (u : UnitNo) (m : State) : (isolateUnit u m).2 = m.isolateRefusal u := by
  unfold State.isolateRefusal
  split
  · next h =>
    by_cases restored : m.unit u = .releaseRestored
    · rw [isolateUnit_restored restored]
    · rw [isolateUnit_taken (by simpa only [restored, or_false] using h)]
  · next h => rw [isolateUnit_refused h]

theorem isolateUnit_holds (u : UnitNo) (s : State) : Holds (only u) s (isolateUnit u s).1 := by
  unfold isolateUnit
  split
  · exact enterIsolated_holds true u s
  · exact enterIsolated_holds true u s
  · exact enterIsolated_holds true u s
  · exact (consumeHandle_holds u s).trans (enterIsolated_holds true u _)
  · exact .refl _ s

theorem isolate_decides (s : State) : DecidesBy isolateUnit s.isolateRefusal s where
  holds := isolateUnit_holds
  code u x m out h := by
    rw [isolateUnit_code]
    simp only [State.isolateRefusal, h.unit_iff out (st := .closedLocked) rfl, h.unit_iff out (st := .fault) rfl, h.unit_iff out (st := .unknown) rfl,
      h.unit_iff out (st := .releaseRestored) rfl]

/-- RESTORE's refusals (R138). -/
def State.restoreRefusal (s : State) (u : UnitNo) : RefusalCode := if s.unit u = .isolated then .none else .unitState

theorem restoreUnit_taken (h : s.unit u = .isolated) :
    restoreUnit u s = (bringBack u (s.modDc u fun d => { d with isolationMark := false }), .none) := if_pos h

theorem restoreUnit_refused (h : s.unit u ≠ .isolated) : restoreUnit u s = (s, .unitState) := if_neg h

theorem restore_decides (s : State) : DecidesBy restoreUnit s.restoreRefusal s where
  holds u m := by
    unfold restoreUnit
    split
    · exact (modDc_holds u _ m).trans (bringBack_holds u _)
    · exact .refl _ m
  code u x m out h := by
    unfold restoreUnit State.restoreRefusal
    simp only [h.unit_iff out (st := .isolated) rfl]
    split <;> rfl

/-- REHOME's refusals (R135). -/
def State.rehomeRefusal (s : State) (u : UnitNo) : RefusalCode := if s.unit u = .fault ∨ s.unit u = .unknown then .none else .unitState

theorem rehome_decides (s : State) : DecidesBy rehomeUnit s.rehomeRefusal s where
  holds u m := by
    unfold rehomeUnit
    split
    · exact enterHoming_holds u m
    · exact enterHoming_holds u m
    · exact .refl _ m
  code u x m out h := by
    unfold State.rehomeRefusal
    simp only [← h.unit_iff out (st := .fault) rfl, ← h.unit_iff out (st := .unknown) rfl]
    split
    · next k => rw [rehomeUnit_taken k]
    · next k => rw [rehomeUnit_refused k]

/-- ACK_RELEASE's refusals (R172). -/
def State.ackRefusal (s : State) (u : UnitNo) : RefusalCode := if s.unit u = .releaseRestored then .none else .unitState

theorem ackReleaseUnit_holds (u : UnitNo) (s : State) : Holds (only u) s (ackReleaseUnit u s).1 := by
  unfold ackReleaseUnit
  split
  · refine (consumeHandle_holds u s).trans ?_
    dsimp only
    split
    · exact enterIsolated_holds true u _
    · exact bringBack_holds u _
  · exact .refl _ s

theorem ackRelease_decides (s : State) : DecidesBy ackReleaseUnit s.ackRefusal s where
  holds := ackReleaseUnit_holds
  code u x m out h := by
    unfold ackReleaseUnit State.ackRefusal
    simp only [h.unit_iff out (st := .releaseRestored) rfl]
    split <;> rfl

/-- ACCESS_OPEN's refusals of a unit, once the tests of the node have given `wide` (R182). -/
def State.openRefusal (s : State) (wide : RefusalCode) (u : UnitNo) : RefusalCode :=
  if wide ≠ .none then wide else if s.unit u = .closedLocked then .none else .unitState

theorem accessMark_holds (u : UnitNo) (s : State) : Holds (only u) s (s.modIu fun i => { i with accessMarks := i.accessMarks.set u true }) := by
  refine ⟨{ Keeps.refl (only u) s with accessMarks := fun v h => ?_ }, rfl, rfl⟩
  exact Quad.get_set_ne _ _ (only_false h)

theorem accessOpenUnit_refusedWide {wide : RefusalCode} (h : wide ≠ .none) : accessOpenUnit wide u s = (s, wide) := by
  unfold accessOpenUnit
  rw [if_pos (by rw [bne_iff_ne]; exact h)]

theorem accessOpenUnit_taken (h : s.unit u = .closedLocked) :
    accessOpenUnit .none u s = (openRequest u (s.modIu fun i => { i with accessMarks := i.accessMarks.set u true }), .none) := by
  unfold accessOpenUnit
  rw [if_neg (by decide), if_pos h]

theorem accessOpenUnit_refused (h : s.unit u ≠ .closedLocked) : accessOpenUnit .none u s = (s, .unitState) := by
  unfold accessOpenUnit
  rw [if_neg (by decide), if_neg h]

theorem accessOpen_decides (wide : RefusalCode) (s : State) : DecidesBy (accessOpenUnit wide) (s.openRefusal wide) s where
  holds u m := by
    unfold accessOpenUnit
    split
    · exact .refl _ m
    · split
      · exact (accessMark_holds u m).trans (openRequest_holds u _)
      · exact .refl _ m
  code u x m out h := by
    unfold State.openRefusal
    by_cases refused : wide ≠ .none
    · rw [if_pos refused, accessOpenUnit_refusedWide refused]
    · obtain rfl := not_not.1 refused
      rw [if_neg refused]
      by_cases locked : m.unit u = .closedLocked
      · rw [accessOpenUnit_taken locked, if_pos ((h.unit_iff out rfl).1 locked)]
      · rw [accessOpenUnit_refused locked, if_neg fun k => locked ((h.unit_iff out rfl).2 k)]

/-- ACCESS_CLOSE's refusals (R184). -/
def State.closeRefusal (s : State) (u : UnitNo) : RefusalCode :=
  if s.iu.latch then .emergency else if s.iu.accessMarks.get u then .none else .unitState

theorem accessCloseUnit_eq (u : UnitNo) (s : State) : accessCloseUnit u s = (s, s.closeRefusal u) := by
  unfold accessCloseUnit State.closeRefusal
  split
  · rfl
  · split <;> rfl

theorem accessClose_decides (s : State) : DecidesBy accessCloseUnit s.closeRefusal s where
  holds u m := by
    rw [accessCloseUnit_eq]
    exact .refl _ m
  code u x m out h := by
    rw [accessCloseUnit_eq]
    unfold State.closeRefusal
    rw [h.1.latch, h.1.accessMarks u out]

/-! ### The alerts of the deciding -/

/-- At most `n` ALERTs are enqueued, and nothing else. -/
def Alerted (n : Nat) (s t : State) : Prop := ∃ l, Enqueued l s t ∧ l.length ≤ n ∧ ∀ f ∈ l, f.1 = .alert

theorem Alerted.of_lc {n : Nat} (h : t.lc = s.lc) : Alerted n s t := ⟨[], .of_queue (by rw [h]), n.zero_le, fun _ m => absurd m List.not_mem_nil⟩

theorem Alerted.trans {n k : Nat} (h : Alerted n a b) (h' : Alerted k b c) : Alerted (n + k) a c := by
  obtain ⟨l, sent, short, alerts⟩ := h
  obtain ⟨l', sent', short', alerts'⟩ := h'
  refine ⟨l ++ l', sent.trans sent', ?_, fun f m => (List.mem_append.1 m).elim (alerts f) (alerts' f)⟩
  rw [List.length_append]
  exact Nat.add_le_add short short'

theorem Alerted.after {n : Nat} (h : Alerted n a b) (lc : c.lc = b.lc) : Alerted n a c := h.trans (k := 0) (.of_lc lc)

theorem Alerted.before {n : Nat} (h : Alerted n b c) (lc : b.lc = a.lc) : Alerted n a c := by
  obtain ⟨l, sent, rest⟩ := h
  exact ⟨l, sent.before (by rw [lc]), rest⟩

theorem alert_alerted (k : AlertKind) (w : Option UnitNo) (s : State) : Alerted 1 s (alert k w s) :=
  ⟨_, enqueue_enqueued .alert _ s, le_rfl, fun f m => by rw [List.mem_singleton.1 m]⟩

theorem checkAlarm_alerted (u : UnitNo) (s : State) : Alerted 1 s (checkAlarm u s) := by
  unfold checkAlarm
  split
  · split
    · exact (alert_alerted ..).before ((report_lc ..).trans rfl)
    · exact (alert_alerted ..).before ((report_lc ..).trans rfl)
  · exact .of_lc rfl

theorem restSensing_lc (h : s.bu.cycle = none) : (restSensing u s).lc = s.lc := by
  have freed (x : State) (none : x.bu.cycle = Option.none) : (zoneFreed u x).lc = x.lc := by
    unfold zoneFreed
    rw [none]
  unfold restSensing
  dsimp only
  split
  · exact freed _ h
  · rfl

theorem clearAccess_lc (u : UnitNo) (s : State) : (clearAccess u s).lc = s.lc := by
  unfold clearAccess dropAccessMember
  split
  · split <;> rfl
  · rfl

/-- With no cycle a unit's change of state enqueues nothing but the ALERT of an alarm it raises. -/
theorem moveUnit_alerted {d : DoorChannel} (h : s.bu.cycle = none) : Alerted 1 s (moveUnit u d s) := by
  rw [moveUnit_eq]
  refine (checkAlarm_alerted u _).before ?_
  unfold hangs
  dsimp only
  rw [guard_keeps State.lc (f := fun x => dropCovered u (clearAccess u x)) ((dropCovered_lc u _).trans (clearAccess_lc u _)),
    guard_keeps State.lc (f := emptyRun u) rfl, guard_keeps State.lc (f := restSensing u) (restSensing_lc ?_),
    guard_keeps State.lc (f := startSensing u) rfl]
  · rfl
  · rw [guard_keeps (fun x => x.bu.cycle) (f := startSensing u) rfl]
    exact h

theorem enterFault_lc (kind : FaultKind) (u : UnitNo) (s : State) : (enterFault kind u s).lc = s.lc :=
  (report_lc ..).trans (moveUnit_silent (show UnitState.fault ≠ .isolated from fun e => nomatch e) (show UnitState.fault ≠ .closedLocked from fun e => nomatch e) s).2.1

theorem takeHeldDriveFault_lc (u : UnitNo) (s : State) : (takeHeldDriveFault u s).lc = s.lc := by
  unfold takeHeldDriveFault
  split
  · exact enterFault_lc ..
  · rfl

theorem enterHoming_lc (u : UnitNo) (s : State) : (enterHoming u s).lc = s.lc :=
  (takeHeldDriveFault_lc ..).trans (moveUnit_silent (show UnitState.homing ≠ .isolated from fun e => nomatch e) (show UnitState.homing ≠ .closedLocked from fun e => nomatch e) s).2.1

theorem Holds.noCloses {x : UnitNo → Bool} (h : Holds x s t) (n : s.noCloses) : t.noCloses :=
  ⟨h.1.noCycle n.1, h.1.noDeparture n.2.1, h.1.noEmergencyClose n.2.2.1, h.1.noAccessClose n.2.2.2⟩

theorem comeClosed_alerted (n : s.noCloses) : Alerted 1 s (comeClosed u s) := by
  have closed := (moveUnit_alerted (u := u) (d := { (s.dc.get u).into .closedLocked with position := 0, attempt := 0 }) n.1)
  unfold comeClosed
  dsimp only
  split
  · refine closed.after (c := openRequest u (settleCloses (enterClosedLocked u s))) ((openRequest_lc ..).trans ?_)
    rw [settleCloses_still ((enterClosedLocked_holds u s).noCloses n)]
    rfl
  · exact closed

theorem bringBack_alerted (n : s.noCloses) : Alerted 1 s (bringBack u s) := by
  unfold bringBack
  split
  · exact comeClosed_alerted n
  · exact .of_lc (enterHoming_lc u s)

theorem isolateUnit_alerted (n : s.noCloses) : Alerted 1 s (isolateUnit u s).1 := by
  unfold isolateUnit
  split
  · exact moveUnit_alerted n.1
  · exact moveUnit_alerted n.1
  · exact moveUnit_alerted n.1
  · exact (moveUnit_alerted (s := consumeHandle u s) n.1).before rfl
  · exact .of_lc rfl

theorem restoreUnit_alerted (n : s.noCloses) : Alerted 1 s (restoreUnit u s).1 := by
  unfold restoreUnit
  split
  · exact (bringBack_alerted (s := s.modDc u fun d => { d with isolationMark := false }) n).before rfl
  · exact .of_lc rfl

theorem rehomeUnit_alerted : Alerted 1 s (rehomeUnit u s).1 := by
  unfold rehomeUnit
  split
  · exact .of_lc (enterHoming_lc u s)
  · exact .of_lc (enterHoming_lc u s)
  · exact .of_lc rfl

theorem ackReleaseUnit_alerted (n : s.noCloses) : Alerted 1 s (ackReleaseUnit u s).1 := by
  unfold ackReleaseUnit
  split
  · dsimp only
    split
    · exact (moveUnit_alerted (s := consumeHandle u s) n.1).before rfl
    · exact (bringBack_alerted (s := consumeHandle u s) n).before rfl
  · exact .of_lc rfl

theorem accessOpenUnit_alerted {wide : RefusalCode} : Alerted 1 s (accessOpenUnit wide u s).1 := by
  unfold accessOpenUnit
  split
  · exact .of_lc rfl
  · split
    · exact .of_lc ((openRequest_lc ..).trans rfl)
    · exact .of_lc rfl

theorem decideUnit_alerted (holds : ∀ u m, Holds (only u) m (g u m).1) (alerted : ∀ u m, m.noCloses → Alerted 1 m (g u m).1) {d : Deciding}
    (n : d.state.noCloses) : Alerted 1 d.state (decideUnit arg g d u).state ∧ (decideUnit arg g d u).state.noCloses := by
  by_cases bit_ : arg.getLsbD u.val = true
  · by_cases conf : d.state.configured u = true
    · rw [decideUnit_named bit_ conf]
      exact ⟨alerted u _ n, (holds u _).noCloses n⟩
    · rw [decideUnit_beyond bit_ (Bool.not_eq_true _ ▸ conf)]
      exact ⟨.of_lc rfl, n⟩
  · rw [decideUnit_unnamed (Bool.not_eq_true _ ▸ bit_)]
    exact ⟨.of_lc rfl, n⟩

/-- With no close under way the deciding of the four units enqueues at most four ALERTs. -/
theorem decideUnits_alerted (holds : ∀ u m, Holds (only u) m (g u m).1) (alerted : ∀ u m, m.noCloses → Alerted 1 m (g u m).1) (n : s.noCloses) :
    Alerted 4 s (decideUnits arg g s).state := by
  obtain ⟨one, n1⟩ := decideUnit_alerted (arg := arg) (u := .u0) holds alerted (d := ⟨s, Quad.same false, .none⟩) n
  obtain ⟨two, n2⟩ := decideUnit_alerted (arg := arg) (u := .u1) holds alerted n1
  obtain ⟨three, n3⟩ := decideUnit_alerted (arg := arg) (u := .u2) holds alerted n2
  obtain ⟨four, -⟩ := decideUnit_alerted (arg := arg) (u := .u3) holds alerted n3
  exact ((one.trans two).trans three).trans four

end Sys2Proof.Machine

/-! A part whose commanded reset is reported takes no event but the resets (R195). -/

namespace Sys2Proof.Machine
variable {i : Instr} {u : UnitNo} {s t a : State} {straps : BitVec 6}

/-! ### The gates of a part whose reset is reported -/

/-- The part takes no event of the line, of the units or of its own timers. -/
structure Deaf (s : State) : Prop where
  takes : s.takes = false
  loaded : s.loaded = false
  hears : s.hears = false
  active : ∀ u, s.active u = false

theorem deaf_of (reported : s.fr.resetReported = true) : Deaf s := by
  have takes : s.takes = false := by rw [State.takes, reported, Bool.not_true, Bool.and_false]
  have loaded : s.loaded = false := by rw [State.loaded, takes, Bool.false_and]
  exact ⟨takes, loaded, by rw [State.hears, takes, Bool.false_and], fun u => by rw [State.active, loaded, Bool.false_and]⟩

theorem Deaf.senses (h : Deaf s) (u : UnitNo) : s.senses u = false := by rw [State.senses, h.active, Bool.false_and]

/-- The command changes at most the levels on the pins. -/
def Untaken (i : Instr) (s : State) : Prop := ∃ t, Sys2Proof.Machine.exec i s = .next t ∧ t = { s with pins := t.pins }

theorem untaken_of (run : Sys2Proof.Machine.exec i s = .next a) (same : a = s) : Untaken i s := ⟨s, by rw [run, same], rfl⟩

theorem off_gate {x y : State} {c : Bool} (off : c = false) (same : y = s) : (if c then x else y) = s := by
  rw [off, if_neg Bool.false_ne_true, same]

section
variable (h : Deaf s)
include h

theorem Deaf.frame (f : Frame) (g : State → State) : onFrame f g s = s := off_gate h.hears rfl

theorem Deaf.frameSettling (f : Frame) (g : State → State) : onFrameSettling f g s = s := off_gate h.hears rfl

theorem Deaf.unit (u : UnitNo) (g : State → State) : onUnit u g s = s := off_gate (h.active u) rfl

theorem Deaf.unitIn (u : UnitNo) (st : UnitState) (g : State → State) : onUnitIn u st g s = s :=
  off_gate (by rw [h.active, Bool.false_and]) rfl

theorem Deaf.unitTimer (u : UnitNo) (runs : UnitState → Bool) (timer : DoorChannel → Option Time) (g : State → State) :
    onUnitTimer u runs timer g s = s := off_gate (by rw [h.active, Bool.false_and]) rfl

theorem Deaf.withPins (p : Pins) : Deaf { s with pins := p } := ⟨h.takes, h.loaded, h.hears, h.active⟩

/-- The commands of a frame. -/
theorem Deaf.frames {f : Frame} {g : State → State} (run : Sys2Proof.Machine.exec i s = .next (onFrame f g s) ∨
    Sys2Proof.Machine.exec i s = .next (onFrameSettling f g s)) : Untaken i s :=
  run.elim (fun run => untaken_of run (h.frame f g)) fun run => untaken_of run (h.frameSettling f g)

end

/-! ### Every command but the resets -/

theorem closeCycleWarningEnd_untaken (h : Deaf s) : Untaken .closeCycleWarningEnd s := by
  refine untaken_of (a := match s.bu.cycle with
    | none => s
    | some c =>
      match firstRunning c.warnings with
      | none => s
      | some i =>
        let s' := s.reach (warningAt c.warnings i).stop
        if s.loaded then settle s' (endCycleWarning c i s') else s) rfl ?_
  split
  · rfl
  · split
    · rfl
    · exact off_gate h.loaded rfl

theorem accessCloseWarningEnd_untaken (h : Deaf s) : Untaken .accessCloseWarningEnd s := by
  refine untaken_of (a := match s.iu.accessClose with
    | none => s
    | some c =>
      match firstRunning c.warnings with
      | none => s
      | some i =>
        let s' := s.reach (warningAt c.warnings i).stop
        if s.loaded then settle s' (endAccessWarning c i s') else s) rfl ?_
  split
  · rfl
  · split
    · rfl
    · exact off_gate h.loaded rfl

theorem sentInFull_untaken (h : Deaf s) : Untaken .sentInFull s := by
  refine untaken_of (a := match s.onLine with
    | none => s
    | some e => if s.takes then finish (reportGone e (takeSent s)) else s) rfl ?_
  split
  · rfl
  · exact off_gate h.takes rfl

theorem arbitrationLost_untaken (idle : s.onLine = none) : Untaken .arbitrationLost s :=
  untaken_of rfl (off_gate (by rw [idle, Option.isSome_none, Bool.and_false]) rfl)

/-- The timers of the load find their phase over, or not running. -/
theorem phase_untaken (serves : s.running = true ∨ s.faultServing = true) :
    s.cl.phase ≠ .loading ∧ s.cl.phase ≠ .listen ∧ (s.cl.phase = .configFault → s.cl.quietTimer = none) := by
  rcases serves with running | serving
  · have phase : s.cl.phase = .running := beq_iff_eq.1 running
    rw [phase]
    exact ⟨(fun e => nomatch e), (fun e => nomatch e), fun e => nomatch e⟩
  · simp only [State.faultServing, Bool.and_eq_true, beq_iff_eq] at serving
    obtain ⟨⟨phase, -⟩, timer⟩ := serving
    rw [phase]
    exact ⟨(fun e => nomatch e), (fun e => nomatch e), fun _ => Option.isNone_iff_eq_none.1 timer⟩

theorem reading_off (h : s.cl.phase ≠ .loading) : s.reading = false := by rw [State.reading, beq_eq_false_iff_ne.2 h, Bool.and_false]

theorem listenExpiry_untaken (h : s.cl.phase ≠ .listen) : Untaken .listenExpiry s :=
  untaken_of rfl (off_gate (by rw [beq_eq_false_iff_ne.2 h, Bool.and_false]) rfl)

theorem quietPeriodEnd_untaken (h : s.cl.phase = .configFault → s.cl.quietTimer = none) : Untaken .quietPeriodEnd s := by
  refine untaken_of (a := if s.acts && s.cl.phase == .configFault then onExpiry s.cl.quietTimer (fun s' => settle s' (endQuietPeriod s')) s
    else s) rfl ?_
  split
  · next due =>
    rw [h (beq_iff_eq.1 (Bool.and_eq_true_iff.1 due).2)]
    rfl
  · rfl

/-- A latched input's command moves its pin. -/
theorem latched_untaken {f : UnitPins → UnitPins} {c : Bool} (h : Deaf s)
    (run : Sys2Proof.Machine.exec i s = .next (if s.active u && c then a else s.modPins u f)) : Untaken i s :=
  ⟨s.modPins u f, by rw [run, h.active, Bool.false_and, if_neg Bool.false_ne_true], rfl⟩

theorem debouncedInputChange_untaken (h : Deaf s) (input : DebouncedInput) (level : Bool) : Untaken (.debouncedInputChange input level) s := by
  have rest : followRaw input level (setRaw input level s) = setRaw input level s := by
    cases input with
    | edge v => exact if_neg (by rw [show (setRaw (.edge v) level s).senses v = false from (h.withPins _).senses v]; exact Bool.false_ne_true)
    | wire => exact if_neg (by rw [show (setRaw .wire level s).loaded = false from (h.withPins _).loaded]; exact Bool.false_ne_true)
  refine ⟨setRaw input level s, congrArg Host.Outcome.next rest, ?_⟩
  cases input <;> rfl

theorem controlPeriod_untaken (h : Deaf s) (lock closed drive : Bool) : Untaken (.controlPeriod u lock closed drive) s :=
  ⟨setLevels u lock closed drive s, congrArg Host.Outcome.next ((h.withPins _).unit u _), rfl⟩

/-- No command but the resets, and the loss of an attempt under way, moves more than a pin of a part that serves the line with its
reset reported. -/
theorem deaf_untaken (h : Deaf s) (serves : s.running = true ∨ s.faultServing = true) (other : i.isReset = false)
    (lost : i ≠ .arbitrationLost ∨ s.onLine = none) : Untaken i s := by
  obtain ⟨loading, listen, quiet⟩ := phase_untaken serves
  cases i with
  | powerOnReset | supplyFall | resetPinLow | resetPinRelease | commandedReset => cases other
  | configReadPassComplete | configReadFail => exact untaken_of rfl (off_gate (reading_off loading) rfl)
  | listenExpiry => exact listenExpiry_untaken listen
  | quietPeriodEnd => exact quietPeriodEnd_untaken quiet
  | attemptStart => exact untaken_of rfl (off_gate (by rw [State.canSend, h.takes]; rfl) rfl)
  | sentInFull => exact sentInFull_untaken h
  | arbitrationLost => exact arbitrationLost_untaken (lost.resolve_left fun n => n rfl)
  | transmitError => exact untaken_of rfl (off_gate (by rw [h.takes, Bool.false_and]) rfl)
  | lineQuietExpiry => exact untaken_of rfl (off_gate h.takes rfl)
  | discardedFrame => exact untaken_of rfl (off_gate (by rw [h.hears, Bool.false_and]) rfl)
  | stationEmergencyOpen | stationEmergencyReset | alertHandle | alert | berth | standstill | release | close | reopen | depart | holdStart | holdEnd
  | beacon | isolate | restore | rehome | ackRelease | accessOpen | accessClose => exact h.frames (.inr rfl)
  | berthExt | edge | result | answer | ackFault | accessLock | resetNode | queryFaults | queryUnitCounters | queryNodeCounters | queryBerth
  | queryServiceMap | queryPeer => exact h.frames (.inl rfl)
  | controlSample | missedControlPeriod | missedRunDriveFault | memberRelease | departureCloseRequest | emergencyCloseRequest | accessCloseRequest =>
    exact untaken_of rfl (h.unit _ _)
  | unlockComplete | lockComplete | openingComplete | closingTravelEnd | reversingComplete | homingClosed => exact untaken_of rfl (h.unitIn _ _ _)
  | unlockTimeout | lockingTimeout | lockWatchTimeout | reopenPauseEnd | stallTimerExpiry | stallPauseEnd | travelTimerExpiry | homingWaitEnd
  | homingTimerExpiry => exact untaken_of rfl (h.unitTimer _ _ _ _)
  | controlPeriod => exact controlPeriod_untaken h ..
  | driveFaultTaken | obstacleCurrent =>
    refine untaken_of rfl ?_
    split
    · exact h.unit _ _
    · rfl
  | pendingCloseTaken =>
    refine untaken_of rfl ?_
    split
    · exact h.unitIn _ _ _
    · rfl
  | alignmentReading | alignmentReadingTimeout => exact untaken_of rfl (off_gate (h.active _) rfl)
  | gapSample | gapSampleTimeout | zoneSample | zoneSampleTimeout => exact untaken_of rfl (off_gate (h.senses _) rfl)
  | gapFilterRelease | sensitiveEdgeChange => exact untaken_of rfl (off_gate (by rw [h.senses, Bool.false_and]) rfl)
  | debouncedInputChange => exact debouncedInputChange_untaken h ..
  | handleOperation | handleReturn | panelOperation | panelReturn => exact latched_untaken h rfl
  | fusionWindowExpiry | silenceTimerExpiry | beaconCadenceExpiry | beaconGapTimerExpiry | neighbourAbsenceExpiry | memberDeadline | ownHoldDeadline
  | departureCloseWarningEnd | departureCloseDeadline | emergencyCloseWarningEnd | emergencyCloseDeadline | accessCloseDeadline | pulseTimerExpiry =>
    exact untaken_of rfl (off_gate h.loaded rfl)
  | heldRelease | emergencyWireAssert | emergencyWireClear => exact untaken_of rfl (off_gate (by rw [h.loaded, Bool.false_and]) rfl)
  | closeCycleWarningEnd => exact closeCycleWarningEnd_untaken h
  | accessCloseWarningEnd => exact accessCloseWarningEnd_untaken h

/-! ### The reset that follows -/

theorem nodeReset_unreported (straps : BitVec 6) (s : State) :
    (nodeReset straps s).fr.resetReported = false ∧ (nodeReset straps s).acts = true := by
  rw [nodeReset_eq, startLoading]
  split
  · exact ⟨rfl, rfl⟩
  · have held := endLoad_latches (i := .commandedReset straps) (LoadOutcome.refused .strap 0 none) (NodeConfig.fallback 4) (nodeRestart straps s) rfl
    obtain ⟨keeps, -⟩ := endLoad_keeps (LoadOutcome.refused .strap 0 none) (NodeConfig.fallback 4) (nodeRestart straps s)
    refine ⟨(held.reset (fun _ _ _ e => nomatch e) rfl rfl).2, ?_⟩
    show (endLoad (LoadOutcome.refused .strap 0 none) (NodeConfig.fallback 4) (nodeRestart straps s)).acts = true
    unfold State.acts
    rw [keeps.supply, keeps.resetLow]
    rfl

/-- The tick that follows the report resets the part first. -/
theorem step_reported (acts : s.acts = true) (reported : s.fr.resetReported = true) (idle : s.pending = []) :
    ∃ r, Sys2Proof.Machine.exec (.commandedReset s.pins.straps) s = .next r ∧ Sys2Proof.Machine.step s = Sys2Proof.Machine.step r := by
  have run := exec_commandedReset (straps := s.pins.straps) acts reported
  refine ⟨_, run, ?_⟩
  obtain ⟨r, run', pending⟩ := everyCommandAnswers (.commandedReset s.pins.straps) s
  obtain rfl : nodeReset s.pins.straps s = r := by
    rw [run] at run'
    exact Host.Outcome.next.inj run'
  obtain ⟨unreported, on_⟩ := nodeReset_unreported s.pins.straps s
  have due : resetIfDue s = nodeReset s.pins.straps s := by
    rw [resetIfDue, if_pos reported, nextState, run]
  rw [step_idle idle, step_idle (pending.trans idle), tick, if_pos acts, due, tick_passes on_ unreported]

end Sys2Proof.Machine

/-! O40: the RESULT of each COMMAND (R46). -/

namespace Sys2Proof.Machine
variable {i : Instr} {u : UnitNo} {s t x y : State} {src : Node} {sub : SubCommand} {dest arg : Byte} {g : UnitNo → State → State × RefusalCode}
  {ρ : UnitNo → RefusalCode} {code : RefusalCode} {done : Bool}

/-! ### The set of units taken -/

theorem unitSet_eq (q : Quad Bool) : unitSet q = BitVec.ofNat 8 ((UnitNo.all.map fun u => if q.get u then 2 ^ u.val else 0).sum) := by
  obtain ⟨a, b, c, d⟩ := q
  cases a <;> cases b <;> cases c <;> cases d <;> rfl

theorem unitSet_zero_iff (q : Quad Bool) : unitSet q = 0 ↔ UnitNo.all.any q.get = false := by
  obtain ⟨a, b, c, d⟩ := q
  cases a <;> cases b <;> cases c <;> cases d <;> decide

/-! ### One RESULT at the end of an event -/

/-- The bytes of a RESULT (section 3.6). -/
def resultBytes (requester : Node) (sub : SubCommand) (arg : Byte) (done : Bool) (code : RefusalCode) : List Byte :=
  [nodeByte requester, sub.code, arg, if done then 1 else 2, code.code]

theorem sendResult_enqueued (requester : Node) (sub : SubCommand) (arg : Byte) (done : Bool) (code : RefusalCode) (s : State) :
    Enqueued [(.result, resultBytes requester sub arg done code)] s (sendResult requester sub arg done code s) := by
  unfold sendResult
  dsimp only
  split
  · exact enqueue_enqueued ..
  · exact (enqueue_enqueued ..).after rfl

theorem sendResult_refusal (requester : Node) (sub : SubCommand) (arg : Byte) (done : Bool) (code : RefusalCode) (s : State) :
    (sendResult requester sub arg done code s).pm.lastRefusal = if code = .none then s.pm.lastRefusal else code := by
  unfold sendResult
  dsimp only
  split
  · exact (enqueue_sends ..).lastRefusal
  · rfl

/-- Nothing but a beacon follows. -/
def Beaconed (s t : State) : Prop := ∃ l, Enqueued l s t ∧ l.length ≤ 1 ∧ ∀ f ∈ l, f.1 = .beacon

/-- With room for the alerts before it and the beacon behind it, one RESULT more stands in the queue. -/
theorem result_frames (alerted : Alerted 4 x y) (room : x.lc.queue.length ≤ 8) (tail : Beaconed (sendResult src sub arg done code y) t) :
    t.frames .result (resultBytes src sub arg done code) = x.frames .result (resultBytes src sub arg done code) + 1 := by
  obtain ⟨l, sent, short, alerts⟩ := alerted
  obtain ⟨l', sent', short', beacons⟩ := tail
  have whole := (sent.trans (sendResult_enqueued src sub arg done code y)).trans sent'
  have none {l : List (FrameKind × List Byte)} {k : FrameKind} (ne : k ≠ .result) (all : ∀ f ∈ l, f.1 = k) :
      l.count (.result, resultBytes src sub arg done code) = 0 :=
    List.count_eq_zero.2 fun m => ne (all _ m).symm
  rw [whole.frames_room (k := .result) (by simp only [List.length_append, List.length_singleton]; omega) (fun e => nomatch e), List.count_append, List.count_append,
    none (k := .alert) (fun e => nomatch e) alerts, none (k := .beacon) (fun e => nomatch e) beacons, List.count_singleton_self]

theorem settle_beaconed (s0 : State) (cycle : s.bu.cycle = none) (emergency : s.iu.emergencyClose = none) : Beaconed s (settle s0 s) := by
  have none : (judgedMembers s).bu.cycle = Option.none := by
    have kept := (judgedMembers_judged s).cycle
    rw [cycle] at kept
    exact Option.map_eq_none_iff.1 kept
  have whole : settleCloses s = judgedMembers s := by
    rw [settleCloses_judged, completeCycle, none]
    exact completeEmergency_none (judgedMembers_noEmergency emergency)
  exact (settle_uncompleted s0 ⟨(judgedMembers s).iu.emergencyClose, whole⟩).2.2

/-- What the RESULT of a COMMAND leaves at the end of its event. -/
structure Resulted (src : Node) (sub : SubCommand) (arg : Byte) (done : Bool) (code : RefusalCode) (x t : State) : Prop where
  refusal : t.pm.lastRefusal = if code = .none then x.pm.lastRefusal else code
  frames : x.noCloses → x.lc.queue.length ≤ 8 →
    t.frames .result (resultBytes src sub arg done code) = x.frames .result (resultBytes src sub arg done code) + 1

/-- A state that the decided units have brought, for its RESULT. -/
structure Decidedly (x y : State) : Prop where
  refusal : y.pm.lastRefusal = x.pm.lastRefusal
  alerts : x.noCloses → Alerted 4 x y ∧ y.bu.cycle = none ∧ y.iu.emergencyClose = none

theorem sendResult_bu_iu (requester : Node) (sub : SubCommand) (arg : Byte) (done : Bool) (code : RefusalCode) (s : State) :
    (sendResult requester sub arg done code s).bu = s.bu ∧ (sendResult requester sub arg done code s).iu = s.iu := by
  unfold sendResult
  dsimp only
  split
  · exact ⟨(enqueue_sends ..).bu, (enqueue_sends ..).iu⟩
  · exact ⟨(enqueue_sends ..).bu, (enqueue_sends ..).iu⟩

theorem Decidedly.settled (h : Decidedly x y) (s0 : State) : Resulted src sub arg done code x (settle s0 (sendResult src sub arg done code y)) := by
  refine ⟨?_, fun closes room => ?_⟩
  · rw [(settle_ends s0 _).1.lastRefusal, sendResult_refusal, h.refusal]
  · obtain ⟨alerted, cycle, emergency⟩ := h.alerts closes
    obtain ⟨bu, iu⟩ := sendResult_bu_iu src sub arg done code y
    exact result_frames alerted room (settle_beaconed s0 (by rw [bu]; exact cycle) (by rw [iu]; exact emergency))

theorem Decidedly.finished (h : Decidedly x y) : Resulted src sub arg done code x (finish (sendResult src sub arg done code y)) := by
  refine ⟨?_, fun closes room => ?_⟩
  · rw [(finish_sends _).ends.1.lastRefusal, sendResult_refusal, h.refusal]
  · exact result_frames (h.alerts closes).1 room (finish_enqueued _)

theorem Decidedly.refl (x : State) : Decidedly x x := ⟨rfl, fun closes => ⟨.of_lc rfl, closes.1, closes.2.2.1⟩⟩

/-! ### The COMMANDs that name units -/

/-- A COMMAND's units decided by `ρ`, before its RESULT. -/
structure UnitsDecided (ρ : UnitNo → RefusalCode) (arg : Byte) (x : State) (d : Deciding) : Prop where
  taken : ∀ u, d.taken.get u = (x.named arg u && ρ u == .none)
  code : d.code = (((UnitNo.all.filter fun u => arg.getLsbD u.val).map (x.decision ρ)).find? fun c => c ≠ .none).getD .none
  state : Decidedly x d.state

theorem Decided.units (h : Decided g ρ arg x (decideUnits arg g x)) (holds : ∀ u m, Holds (only u) m (g u m).1)
    (alerted : ∀ u m, m.noCloses → Alerted 1 m (g u m).1) : UnitsDecided ρ arg x (decideUnits arg g x) where
  taken := h.taken
  code := h.code
  state := ⟨h.holds.1.lastRefusal, fun closes => ⟨decideUnits_alerted holds alerted closes, h.holds.1.noCycle closes.1,
    h.holds.1.noEmergencyClose closes.2.2.1⟩⟩

theorem units_decided (by_ : DecidesBy g ρ x) (alerted : ∀ u m, m.noCloses → Alerted 1 m (g u m).1) (arg : Byte) :
    UnitsDecided ρ arg x (decideUnits arg g x) := (decided by_ arg).units by_.holds alerted

/-- The units taken, as the RESULT gives them. -/
theorem UnitsDecided.takenByte {d : Deciding} (h : UnitsDecided ρ arg x d) :
    unitSet d.taken = BitVec.ofNat 8 ((UnitNo.all.map fun u => if x.named arg u = true ∧ ρ u = .none then 2 ^ u.val else 0).sum) := by
  rw [unitSet_eq]
  refine congrArg (fun l : List Nat => BitVec.ofNat 8 l.sum) (List.map_congr_left fun u _ => ?_)
  simp only [h.taken, Bool.and_eq_true, beq_iff_eq]

/-- The RESULT of decided units. -/
theorem UnitsDecided.resulted {d : Deciding} (h : UnitsDecided ρ arg x d) (s0 : State) :
    Resulted src sub (unitSet d.taken) (unitSet d.taken != 0) d.code x (settle s0 (sendUnitResult src sub d)) := by
  have done : (unitSet d.taken != 0) = UnitNo.all.any d.taken.get := by
    cases any : UnitNo.all.any d.taken.get
    · rw [(unitSet_zero_iff d.taken).2 any]
      rfl
    · rw [bne_iff_ne]
      exact fun zero => Bool.false_ne_true (((unitSet_zero_iff d.taken).1 zero).symm.trans any)
  rw [done]
  exact h.state.settled s0

theorem exec_command_running {h : State → State} (run : s.cl.phase = .running) (addressed : Addressed ⟨src, .command, commandPayload sub dest arg⟩ dest s) :
    onFrameSettling ⟨src, .command, commandPayload sub dest arg⟩ (onCommand src sub dest arg h) s = settle s (h (noteActivity src false s)) := by
  rw [onFrameSettling_of_accepted addressed.1]
  exact congrArg (settle s) (onCommand_running (x := noteActivity src false s) addressed.2 run h)

theorem openRefusal_eq (run : s.cl.phase = .running) : s.openRefusal s.accessRefusal = fun u =>
    if s.pm.identityConflict then .nodeState
    else if s.iu.latch then .emergency
    else if s.iu.accessLock then .locked
    else if s.berthState ≠ .idle then .notIdle
    else if s.unit u = .closedLocked then .none
    else .unitState := by
  have running : s.running = true := beq_iff_eq.2 run
  funext u
  unfold State.openRefusal State.accessRefusal
  rw [running, Bool.not_true, Bool.false_or]
  by_cases conflict : s.pm.identityConflict = true
  · rw [if_pos conflict, if_pos conflict, if_pos (fun e => nomatch e)]
  · rw [if_neg conflict, if_neg conflict]
    by_cases latch : s.iu.latch = true
    · rw [if_pos latch, if_pos latch, if_pos (fun e => nomatch e)]
    · rw [if_neg latch, if_neg latch]
      by_cases lock : s.iu.accessLock = true
      · rw [if_pos lock, if_pos lock, if_pos (fun e => nomatch e)]
      · rw [if_neg lock, if_neg lock]
        by_cases idle : s.berthState = .idle
        · rw [if_neg (by rw [idle]; decide), if_neg (not_not.2 idle)]
        · rw [if_pos (bne_iff_ne.2 idle), if_pos idle, if_pos (fun e => nomatch e)]

theorem accessClose_decided (arg : Byte) (x : State) :
    UnitsDecided x.closeRefusal arg x
      { decideUnits arg accessCloseUnit x with
        state := joinAccess (decideUnits arg accessCloseUnit x).taken (decideUnits arg accessCloseUnit x).state } := by
  obtain ⟨taken, code, refusal, alerts⟩ := units_decided (accessClose_decides x) (arg := arg) fun u m _ => by
    rw [accessCloseUnit_eq]
    exact .of_lc rfl
  refine ⟨taken, code, ?_, fun closes => ?_⟩
  · rw [joinAccess_eq]
    exact refusal
  · obtain ⟨alerted, cycle, emergency⟩ := alerts closes
    rw [joinAccess_eq]
    exact ⟨alerted.after rfl, cycle, emergency⟩

/-- The RESULT of each COMMAND that names units, in RUNNING. -/
theorem result_running {refusal : UnitNo → RefusalCode} {code : RefusalCode} {taken : Byte} (run : s.cl.phase = .running)
    (addressed : Addressed ⟨src, .command, commandPayload sub dest arg⟩ dest s) {h : State → State} {d : Deciding}
    (exec : Sys2Proof.Machine.exec i s = .next (onFrameSettling ⟨src, .command, commandPayload sub dest arg⟩ (onCommand src sub dest arg h) s))
    (form : h (noteActivity src false s) = sendUnitResult src sub d) (decided : UnitsDecided refusal arg (noteActivity src false s) d)
    (byte : taken = BitVec.ofNat 8 ((UnitNo.all.map fun u => if s.named arg u ∧ refusal u = .none then 2 ^ u.val else 0).sum))
    (first : code = (((UnitNo.all.filter fun u => arg.getLsbD u.val).map fun u =>
        if s.configured u then refusal u else .unitState).find? fun c => c ≠ .none).getD .none) :
    ∃ t, Sys2Proof.Machine.exec i s = .next t ∧ t.pm.lastRefusal = (if code = .none then s.pm.lastRefusal else code) ∧
      (s.noCloses → s.lc.queue.length ≤ 8 →
        t.frames .result [nodeByte src, sub.code, taken, if taken = 0 then 2 else 1, code.code] =
          s.frames .result [nodeByte src, sub.code, taken, if taken = 0 then 2 else 1, code.code] + 1) := by
  have resulted := decided.resulted (src := src) (sub := sub) s
  rw [show unitSet d.taken = taken from decided.takenByte.trans byte.symm, show d.code = code from decided.code.trans first.symm] at resulted
  have bytes : resultBytes src sub taken (taken != 0) code = [nodeByte src, sub.code, taken, if taken = 0 then 2 else 1, code.code] := by
    unfold resultBytes
    by_cases zero : taken = 0
    · rw [zero]
      rfl
    · rw [if_pos (bne_iff_ne.2 zero), if_neg zero]
  refine ⟨_, exec.trans (congrArg Host.Outcome.next ((exec_command_running run addressed).trans (congrArg (settle s) form))), resulted.refusal, fun closes room => ?_⟩
  rw [← bytes]
  exact resulted.frames closes room

/-! ### The COMMANDs in CONFIG_FAULT -/

theorem onCommand_serving {h : State → State} (serving : s.faultServing = true) (own : dest = nodeByte s.cl.own) :
    onCommand src sub dest arg h (noteActivity src false s) = sendResult src sub (sub.plainArg arg) false .nodeState (noteActivity src false s) := by
  unfold onCommand
  rw [if_neg (by rw [own]; show ¬(nodeByte s.cl.own != nodeByte s.cl.own) = true; rw [bne_self_eq_false]; exact Bool.false_ne_true),
    if_neg (by show ¬s.running = true; rw [faultServing_running serving]; exact Bool.false_ne_true), if_pos (show (noteActivity src false s).faultServing = true from serving)]

/-- The refusal of a COMMAND in CONFIG_FAULT, at the end of its event. -/
theorem result_serving (serving : s.faultServing = true) (addressed : Addressed ⟨src, .command, commandPayload sub dest arg⟩ dest s) {h : State → State}
    (exec : Sys2Proof.Machine.exec i s = .next (onFrameSettling ⟨src, .command, commandPayload sub dest arg⟩ (onCommand src sub dest arg h) s) ∨
      Sys2Proof.Machine.exec i s = .next (onFrame ⟨src, .command, commandPayload sub dest arg⟩ (onCommand src sub dest arg h) s)) :
    ∃ t, Sys2Proof.Machine.exec i s = .next t ∧ t.pm.lastRefusal = .nodeState ∧
      (s.noCloses → s.lc.queue.length ≤ 8 → ∀ p, p = [nodeByte src, sub.code, if sub = .ackFault then arg else 0, 2, RefusalCode.nodeState.code] →
        t.frames .result p = s.frames .result p + 1) := by
  have refused := onCommand_serving (src := src) (sub := sub) (arg := arg) (h := h) serving addressed.2
  have resulted : ∃ t, Sys2Proof.Machine.exec i s = .next t ∧ Resulted src sub (sub.plainArg arg) false .nodeState (noteActivity src false s) t := by
    rcases exec with exec | exec
    · refine ⟨_, exec, ?_⟩
      rw [onFrameSettling_of_accepted addressed.1]
      exact refused ▸ (Decidedly.refl _).settled s
    · refine ⟨_, exec, ?_⟩
      rw [onFrame_of_accepted addressed.1]
      exact refused ▸ (Decidedly.refl _).finished
  obtain ⟨t, exec, resulted⟩ := resulted
  refine ⟨t, exec, resulted.refusal, fun closes room p bytes => ?_⟩
  rw [bytes]
  exact resulted.frames closes room

/-- Settles O40: each COMMAND's RESULT carries what its deciding has come to, and a part with its reset reported takes the resets alone. -/
theorem resultsSent : Obligations.ResultsSent := by
  unfold Obligations.ResultsSent
  refine ⟨fun i src sub dest arg s refusal code taken run addressed which byte first => ?_, fun i src sub dest arg s serving addressed which => ?_,
    fun s acts reported => ⟨fun i other serves lost => deaf_untaken (deaf_of reported) serves other lost, step_reported acts reported⟩⟩
  · rcases which with ⟨rfl, rfl, rfl⟩ | ⟨rfl, rfl, rfl⟩ | ⟨rfl, rfl, rfl⟩ | ⟨rfl, rfl, rfl⟩ | ⟨rfl, rfl, rfl⟩ | ⟨rfl, rfl, rfl⟩
    · exact result_running run addressed rfl rfl (units_decided (isolate_decides (noteActivity src false s)) (fun _ _ => isolateUnit_alerted) arg) byte first
    · exact result_running run addressed rfl rfl (units_decided (restore_decides (noteActivity src false s)) (fun _ _ => restoreUnit_alerted) arg) byte first
    · exact result_running run addressed rfl rfl (units_decided (rehome_decides (noteActivity src false s)) (fun _ _ _ => rehomeUnit_alerted) arg) byte first
    · exact result_running run addressed rfl rfl (units_decided (ackRelease_decides (noteActivity src false s)) (fun _ _ => ackReleaseUnit_alerted) arg) byte first
    · have decided := units_decided (accessOpen_decides (noteActivity src false s).accessRefusal (noteActivity src false s))
        (fun _ _ _ => accessOpenUnit_alerted) arg
      rw [openRefusal_eq (s := noteActivity src false s) run] at decided
      exact result_running run addressed rfl rfl decided byte first
    · exact result_running run addressed rfl rfl (accessClose_decided arg (noteActivity src false s)) byte first
  · rcases which with ⟨rfl, rfl⟩ | ⟨rfl, rfl⟩ | ⟨rfl, rfl⟩ | ⟨rfl, rfl⟩ | ⟨rfl, rfl⟩ | ⟨rfl, rfl⟩ | ⟨rfl, rfl⟩ | ⟨rfl, rfl⟩
    · exact result_serving serving addressed (.inl rfl)
    · exact result_serving serving addressed (.inl rfl)
    · exact result_serving serving addressed (.inl rfl)
    · exact result_serving serving addressed (.inl rfl)
    · exact result_serving serving addressed (.inl rfl)
    · exact result_serving serving addressed (.inl rfl)
    · exact result_serving serving addressed (.inr rfl)
    · exact result_serving serving addressed (.inr rfl)

end Sys2Proof.Machine

/-! The frame and the units of a decided COMMAND, and O39: ACCESS_OPEN, ACCESS_CLOSE and ACCESS_LOCK (R182, R184, R185). -/

namespace Sys2Proof.Machine
variable {i : Instr} {u v : UnitNo} {s t x y m : State} {src : Node} {sub : SubCommand} {dest arg : Byte}
  {g : UnitNo → State → State × RefusalCode} {ρ : UnitNo → RefusalCode} {code : RefusalCode} {done : Bool}

/-! ### The frame of a COMMAND's event -/

/-- A state with its last refusal code replaced. -/
def State.refused (c : RefusalCode) (s : State) : State := { s with pm := { s.pm with lastRefusal := c } }

theorem Holds.refused {P : UnitNo → Bool} (h : Holds P x y) (c : RefusalCode) : Holds P (x.refused c) (y.refused c) :=
  ⟨⟨{ h.1.toLeaves with lastRefusal := rfl }, h.1.still⟩, h.2⟩

theorem Ends.refusedBy (h : Ends x y) (c : RefusalCode) : Ends (x.refused c) (y.refused c) := Holds.refused h c

/-- A RESULT enqueued with its code. -/
theorem sendResult_refused (requester : Node) (sub : SubCommand) (arg : Byte) (done : Bool) (code : RefusalCode) (s : State) :
    Ends (s.refused (sendResult requester sub arg done code s).pm.lastRefusal) (sendResult requester sub arg done code s) := by
  have sent := (enqueue_sends .result (resultBytes requester sub arg done code) s).ends
  unfold sendResult
  dsimp only
  split
  · exact sent.refusedBy (enqueue .result (resultBytes requester sub arg done code) s).pm.lastRefusal
  · exact sent.refusedBy code

/-- The frame of a COMMAND: what its units keep, the RESULT and the end of the event. -/
theorem command_holds {P : UnitNo → Bool} (h : Holds P x y) (s0 : State) :
    Holds P (x.refused (settle s0 (sendResult src sub arg done code y)).pm.lastRefusal) (settle s0 (sendResult src sub arg done code y)) := by
  have ends := settle_ends s0 (sendResult src sub arg done code y)
  rw [ends.1.lastRefusal]
  exact ((h.refused _).trans (sendResult_refused ..).holds).trans ends.holds

/-! ### Refusals -/

/-- Where every refusal is UNIT_STATE, a named unit refused makes it the code. -/
theorem code_unitState (two : ∀ u, ρ u = .none ∨ ρ u = .unitState) (bit_ : arg.getLsbD u.val = true) (refused : s.decision ρ u = .unitState) :
    (((UnitNo.all.filter fun u => arg.getLsbD u.val).map (s.decision ρ)).find? fun c => c ≠ .none).getD .none = .unitState := by
  have member : RefusalCode.unitState ∈ (UnitNo.all.filter fun u => arg.getLsbD u.val).map (s.decision ρ) :=
    List.mem_map.2 ⟨u, List.mem_filter.2 ⟨mem_units u, bit_⟩, refused⟩
  rcases found : ((UnitNo.all.filter fun u => arg.getLsbD u.val).map (s.decision ρ)).find? fun c => decide (c ≠ RefusalCode.none) with _ | c
  · exact absurd (List.find?_eq_none.1 found _ member) (not_not.2 (decide_eq_true fun e => nomatch e))
  · have nonzero : c ≠ .none := of_decide_eq_true (List.find?_some (p := fun c => decide (c ≠ RefusalCode.none)) found)
    obtain ⟨v, -, rfl⟩ := List.mem_map.1 (List.mem_of_find?_eq_some found)
    rw [found, Option.getD_some]
    unfold State.decision at nonzero ⊢
    split
    · next conf =>
      rw [if_pos conf] at nonzero
      exact (two v).resolve_left nonzero
    · rfl

theorem named_bit (h : s.named arg u = true) : arg.getLsbD u.val = true ∧ s.configured u = true := Bool.and_eq_true_iff.1 h

/-- A named unit refused with UNIT_STATE leaves that code as the last refusal. -/
theorem lastRefusal_unitState {d : Deciding} (h : UnitsDecided ρ arg x d) (two : ∀ u, ρ u = .none ∨ ρ u = .unitState) (named : x.named arg u = true)
    (refused : ρ u = .unitState) (s0 : State) : (settle s0 (sendUnitResult src sub d)).pm.lastRefusal = .unitState := by
  obtain ⟨bit_, conf⟩ := named_bit named
  have code : d.code = .unitState := h.code.trans (code_unitState two bit_ (by rw [State.decision, if_pos conf, refused]))
  rw [(h.resulted (src := src) (sub := sub) s0).refusal, code]
  rfl

/-! ### A decided unit at the end of the event -/

/-- What stands between a unit's own deciding and the end of the COMMAND's event: the other units, the RESULT and the closes. -/
theorem Decided.unit_turn (h : Decided g ρ arg x (decideUnits arg g x)) (named : x.named arg u = true) (src : Node) (sub : SubCommand) (s0 : State) :
    ∃ m P, P u = false ∧ Holds P x m ∧
      Holds P ((g u m).1.refused (settle s0 (sendUnitResult src sub (decideUnits arg g x))).pm.lastRefusal)
        (settle s0 (sendUnitResult src sub (decideUnits arg g x))) := by
  obtain ⟨m, before, behind⟩ := h.turn u named
  exact ⟨m, _, by rw [bne_self_eq_false, Bool.and_false], before, command_holds behind s0⟩

/-! ### ACCESS_OPEN (R182) -/

theorem moveUnit_marks {d : DoorChannel} (h : d.st.outOfHands = false) : (moveUnit u d s).iu.accessMarks = s.iu.accessMarks := by
  rw [moveUnit_eq, (checkAlarm_iu_ae u _).1]
  unfold hangs
  dsimp only
  rw [h, if_neg Bool.false_ne_true, guard_keeps State.iu (f := emptyRun u) rfl, guard_keeps State.iu (f := restSensing u) (restSensing_iu u _),
    guard_keeps State.iu (f := startSensing u) rfl]
  rfl

/-- A unit unlocks, with no drive fault to send it to FAULT. -/
theorem enterUnlocking_marks (h : s.driveFault u = false) : (enterUnlocking u s).iu.accessMarks = s.iu.accessMarks := by
  have fault : (moveUnit u (unlocked s u) s).driveFault u = s.driveFault u := by
    rw [State.driveFault, moveUnit_channel, (moveUnit_holds u _ s).2.2]
    rfl
  have enter : enterUnlocking u s = takeHeldDriveFault u (moveUnit u (unlocked s u) s) := rfl
  rw [enter, takeHeldDriveFault, fault, h, if_neg Bool.false_ne_true]
  exact moveUnit_marks rfl

theorem KeepsUnit.resting {d e : DoorChannel} (h : KeepsUnit d e) (rests : d.st.closable = false) : e = d := by
  rcases h with same | ⟨opening, -⟩ | ⟨standing, -⟩
  · exact same
  · rw [opening] at rests
    cases rests
  · rcases standing with e | e <;> (rw [e] at rests; cases rests)

theorem Holds.driveFault {P : UnitNo → Bool} (h : Holds P s t) (dc : t.dc.get u = s.dc.get u) : t.driveFault u = s.driveFault u := by
  rw [State.driveFault, dc, h.2.2]
  rfl

/-- A unit CLOSED_LOCKED opened for access: marked and unlocked. -/
theorem accessOpenUnit_opens (locked : s.unit u = .closedLocked) (fault : s.driveFault u = false) (conflict : s.pm.identityConflict = false)
    (phase : s.cl.phase = .running) :
    (accessOpenUnit .none u s).1.iu.accessMarks.get u = true ∧ (accessOpenUnit .none u s).1.dc.get u = unlocked s u := by
  have permit : (s.modIu fun i => { i with accessMarks := i.accessMarks.set u true }).permit u = true := by
    have access : (s.modIu fun i => { i with accessMarks := i.accessMarks.set u true }).accessPermit u = true := by
      show ((s.iu.accessMarks.set u true).get u && !s.pm.identityConflict && s.cl.phase != .configFault) = true
      rw [Quad.get_set_self, conflict, phase]
      rfl
    rw [State.permit, access, Bool.or_true]
  rw [accessOpenUnit_taken locked, openRequest_locked (s := s.modIu fun i => { i with accessMarks := i.accessMarks.set u true }) locked permit]
  refine ⟨?_, (enterUnlocking_channel u _).1 fault⟩
  rw [enterUnlocking_marks (s := s.modIu fun i => { i with accessMarks := i.accessMarks.set u true }) fault]
  exact Quad.get_set_self ..

theorem accessRefusal_none (run : s.cl.phase = .running) (conflict : s.pm.identityConflict = false) (latch : s.iu.latch = false)
    (lock : s.iu.accessLock = false) (idle : s.berthState = .idle) : s.accessRefusal = .none := by
  unfold State.accessRefusal
  rw [show s.running = true from beq_iff_eq.2 run, conflict, latch, lock, idle]
  rfl

/-- The named units of an ACCESS_OPEN that the tests of the node have let through. -/
theorem accessOpen_units (run : x.cl.phase = .running) (conflict : x.pm.identityConflict = false) (wide : x.accessRefusal = .none) (s0 : State)
    (named : x.named arg u = true) :
    let t := settle s0 (takeAccessOpen src arg x)
    (x.unit u = .closedLocked → x.driveFault u = false → t.iu.accessMarks.get u = true ∧ t.dc.get u = unlocked x u) ∧
      (x.unit u ≠ .closedLocked → KeepsUnit (x.dc.get u) (t.dc.get u) ∧ t.pm.lastRefusal = .unitState) := by
  have by_ := accessOpen_decides .none x
  have units := units_decided by_ (fun _ _ _ => accessOpenUnit_alerted) arg
  obtain ⟨m, P, out, before, behind⟩ := (decided by_ arg).unit_turn named src .accessOpen s0
  have form : takeAccessOpen src arg x = sendUnitResult src .accessOpen (decideUnits arg (accessOpenUnit .none) x) := by
    unfold takeAccessOpen unitCommand
    rw [wide]
  dsimp only
  rw [form]
  refine ⟨fun locked fault => ?_, fun elsewhere => ⟨?_, ?_⟩⟩
  · have dc : m.dc.get u = x.dc.get u := (before.1.doors u out).resting (by rw [show (x.dc.get u).st = .closedLocked from locked]; rfl)
    have at_ : m.unit u = .closedLocked := by rw [State.unit, dc]; exact locked
    obtain ⟨mark, channel⟩ := accessOpenUnit_opens at_ ((before.driveFault dc).trans fault) (before.1.identityConflict.trans conflict)
      (by rw [before.1.cl]; exact run)
    refine ⟨(behind.1.accessMarks u out).trans mark, ?_⟩
    have rests : ((accessOpenUnit .none u m).1.dc.get u).st.closable = false := by
      rw [channel]
      rfl
    rw [(behind.1.doors u out).resting rests]
    refine channel.trans ?_
    unfold unlocked
    rw [dc, before.2.1]
  · have left : accessOpenUnit .none u m = (m, .unitState) := accessOpenUnit_refused fun e => elsewhere ((before.unit_iff out rfl).1 e)
    rw [left] at behind
    exact (before.1.doors u out).trans (behind.1.doors u out)
  · refine lastRefusal_unitState units (fun v => ?_) named ?_ s0
    · unfold State.openRefusal
      rw [if_neg (fun k => k rfl)]
      split
      · exact .inl rfl
      · exact .inr rfl
    · unfold State.openRefusal
      rw [if_neg (fun k => k rfl), if_neg elsewhere]

/-! ### ACCESS_OPEN refused -/

theorem bits_of_within (h : within 1 15 arg = true) : ∃ u : UnitNo, arg.getLsbD u.val = true := by
  rw [within, Bool.and_eq_true, decide_eq_true_eq, decide_eq_true_eq] at h
  by_contra none
  have off (u : UnitNo) : arg.getLsbD u.val = false := Bool.eq_false_iff.2 fun e => none ⟨u, e⟩
  have zero : arg = 0#8 := by
    refine BitVec.eq_of_getLsbD_eq fun j small => ?_
    rw [BitVec.getLsbD_zero]
    rcases Nat.lt_or_ge j 4 with low | high
    · rcases j with _ | _ | _ | _ | j
      · exact off .u0
      · exact off .u1
      · exact off .u2
      · exact off .u3
      · omega
    · rw [BitVec.getLsbD]
      refine Nat.testBit_lt_two_pow (h.2.trans_lt ?_)
      calc 15 < 2 ^ 4 := by decide
        _ ≤ 2 ^ j := Nat.pow_le_pow_right (by decide) high
  rw [zero] at h
  exact absurd h.1 (by decide)

/-- A COMMAND whose operation refuses every unit alike leaves the units alone. -/
theorem decideUnits_refuses {c : RefusalCode} (refuses : ∀ u m, g u m = (m, c)) (conf : ∀ u, arg.getLsbD u.val = true → x.configured u = true)
    (some_ : ∃ u : UnitNo, arg.getLsbD u.val = true) :
    (decideUnits arg g x).state = x ∧ (decideUnits arg g x).code = c := by
  have step (d : Deciding) (u : UnitNo) (same : d.state = x) (code : d.code = .none ∨ d.code = c) :
      (decideUnit arg g d u).state = x ∧ ((decideUnit arg g d u).code = .none ∨ (decideUnit arg g d u).code = c) ∧
        (arg.getLsbD u.val = true ∨ d.code = c → (decideUnit arg g d u).code = c) := by
    by_cases bit_ : arg.getLsbD u.val = true
    · rw [decideUnit_named bit_ (by rw [same]; exact conf u bit_), refuses]
      have whole : (if d.code = .none then c else d.code) = c := by
        split
        · rfl
        · next n => exact code.resolve_left n
      exact ⟨same, .inr whole, fun _ => whole⟩
    · rw [decideUnit_unnamed (Bool.not_eq_true _ ▸ bit_)]
      exact ⟨same, code, fun which => which.resolve_left bit_⟩
  obtain ⟨s0, c0, k0⟩ := step ⟨x, Quad.same false, .none⟩ .u0 rfl (.inl rfl)
  obtain ⟨s1, c1, k1⟩ := step _ .u1 s0 c0
  obtain ⟨s2, c2, k2⟩ := step _ .u2 s1 c1
  obtain ⟨s3, -, k3⟩ := step _ .u3 s2 c2
  refine ⟨s3, k3 ?_⟩
  obtain ⟨u, bit_⟩ := some_
  cases u with
  | u0 => exact .inr (k2 (.inr (k1 (.inr (k0 (.inl bit_))))))
  | u1 => exact .inr (k2 (.inr (k1 (.inl bit_))))
  | u2 => exact .inr (k2 (.inl bit_))
  | u3 => exact .inl bit_

theorem accessRefusal_eq (run : s.cl.phase = .running)
    (h : if s.pm.identityConflict then code = .nodeState
      else if s.iu.latch then code = .emergency
      else if s.iu.accessLock then code = .locked
      else s.berthState ≠ .idle ∧ code = .notIdle) : s.accessRefusal = code ∧ code ≠ .none := by
  unfold State.accessRefusal
  rw [show s.running = true from beq_iff_eq.2 run, Bool.not_true, Bool.false_or]
  split at h
  · next conflict =>
    subst h
    exact ⟨if_pos conflict, fun e => nomatch e⟩
  · next conflict =>
    rw [if_neg conflict]
    split at h
    · next latch =>
      subst h
      exact ⟨if_pos latch, fun e => nomatch e⟩
    · next latch =>
      rw [if_neg latch]
      split at h
      · next lock =>
        subst h
        exact ⟨if_pos lock, fun e => nomatch e⟩
      · next lock =>
        obtain ⟨busy, rfl⟩ := h
        rw [if_neg lock]
        exact ⟨if_pos (bne_iff_ne.2 busy), fun e => nomatch e⟩

/-- A COMMAND that names units is heard with one at least. -/
theorem addressed_bits (h : Addressed ⟨src, .command, commandPayload sub dest arg⟩ dest s) (units : sub ≠ .ackFault) (lock : sub ≠ .accessLock)
    (reset : sub ≠ .resetNode) : ∃ u : UnitNo, arg.getLsbD u.val = true := by
  obtain ⟨⟨-, ok, -⟩, -⟩ := h
  rw [Frame.ok, Bool.and_eq_true] at ok
  have payload : (within 1 40 dest && within 1 9 sub.code && commandArgOk sub.code arg) = true := ok.2
  rw [Bool.and_eq_true] at payload
  refine bits_of_within (payload.2.symm.trans ?_).symm
  unfold commandArgOk
  cases sub with
  | ackFault => exact absurd rfl units
  | accessLock => exact absurd rfl lock
  | resetNode => exact absurd rfl reset
  | isolate | restore | rehome | ackRelease | accessOpen | accessClose => rfl

end Sys2Proof.Machine

/-! O39: ACCESS_OPEN, ACCESS_CLOSE and ACCESS_LOCK (R182, R184, R185). -/

namespace Sys2Proof.Machine
variable {i : Instr} {u v : UnitNo} {s t x y m : State} {src : Node} {sub : SubCommand} {dest arg : Byte} {code : RefusalCode}

/-! ### ACCESS_OPEN (R182) -/

theorem exec_accessOpen (run : s.cl.phase = .running) (addressed : Addressed ⟨src, .command, commandPayload .accessOpen dest arg⟩ dest s) :
    Sys2Proof.Machine.exec (.accessOpen src dest arg) s = .next (settle s (takeAccessOpen src arg (noteActivity src false s))) :=
  congrArg Host.Outcome.next (exec_command_running run addressed)

theorem accessOpen_refused (run : s.cl.phase = .running) (addressed : Addressed ⟨src, .command, commandPayload .accessOpen dest arg⟩ dest s)
    (conf : ∀ u : UnitNo, arg.getLsbD u.val = true → s.configured u = true)
    (tests : if s.pm.identityConflict then code = .nodeState
      else if s.iu.latch then code = .emergency
      else if s.iu.accessLock then code = .locked
      else s.berthState ≠ .idle ∧ code = .notIdle) :
    Ends ((noteActivity src false s).refused code) (settle s (takeAccessOpen src arg (noteActivity src false s))) := by
  obtain ⟨wide, nonzero⟩ := accessRefusal_eq (s := noteActivity src false s) run tests
  obtain ⟨same, first⟩ := decideUnits_refuses (x := noteActivity src false s) (g := accessOpenUnit code) (c := code)
    (fun u m => accessOpenUnit_refusedWide nonzero) conf (addressed_bits addressed (fun e => nomatch e) (fun e => nomatch e) fun e => nomatch e)
  have form : takeAccessOpen src arg (noteActivity src false s) =
      sendUnitResult src .accessOpen (decideUnits arg (accessOpenUnit code) (noteActivity src false s)) := by
    unfold takeAccessOpen unitCommand
    rw [wide]
  have refusal : (settle s (takeAccessOpen src arg (noteActivity src false s))).pm.lastRefusal = code := by
    rw [form, (settle_ends s _).1.lastRefusal, sendUnitResult, sendResult_refusal, first, if_neg nonzero]
  have ends : Ends ((noteActivity src false s).refused (settle s (takeAccessOpen src arg (noteActivity src false s))).pm.lastRefusal)
      (settle s (takeAccessOpen src arg (noteActivity src false s))) := by
    rw [form, sendUnitResult, same]
    exact command_holds (.refl noUnit (noteActivity src false s)) s
  rw [refusal] at ends
  exact ends

/-! ### ACCESS_CLOSE (R184) -/

theorem exec_accessClose (run : s.cl.phase = .running) (addressed : Addressed ⟨src, .command, commandPayload .accessClose dest arg⟩ dest s) :
    Sys2Proof.Machine.exec (.accessClose src dest arg) s = .next (settle s (takeAccessClose src arg (noteActivity src false s))) :=
  congrArg Host.Outcome.next (exec_command_running run addressed)

/-- ACCESS_CLOSE decides its units and changes nothing yet. -/
theorem decideUnits_accessClose (arg : Byte) (x : State) : (decideUnits arg accessCloseUnit x).state = x := by
  have step (d : Deciding) (u : UnitNo) : (decideUnit arg accessCloseUnit d u).state = d.state := by
    by_cases bit_ : arg.getLsbD u.val = true
    · by_cases conf : d.state.configured u = true
      · rw [decideUnit_named bit_ conf, accessCloseUnit_eq]
      · rw [decideUnit_beyond bit_ (Bool.not_eq_true _ ▸ conf)]
    · rw [decideUnit_unnamed (Bool.not_eq_true _ ▸ bit_)]
  exact (step _ .u3).trans ((step _ .u2).trans ((step _ .u1).trans (step _ .u0)))

/-- The units an ACCESS_CLOSE takes join the access close. -/
theorem takeAccessClose_form (src : Node) (arg : Byte) (x : State) :
    takeAccessClose src arg x =
      sendUnitResult src .accessClose
        { decideUnits arg accessCloseUnit x with
          state := x.modIu fun i => { i with accessClose := x.joinedAccess (decideUnits arg accessCloseUnit x).taken } } := by
  unfold takeAccessClose
  dsimp only
  rw [decideUnits_accessClose, joinAccess_eq]

theorem accessClose_joins (u : UnitNo) (x : State) :
    x.joinsAccess (decideUnits arg accessCloseUnit x).taken u = (!x.iu.latch && (x.named arg u && x.preempted u)) := by
  have taken := (accessClose_decided arg x).taken u
  rw [State.joinsAccess, show (decideUnits arg accessCloseUnit x).taken.get u = _ from taken, State.closeRefusal, State.preempted]
  cases x.iu.latch
  · cases x.iu.accessMarks.get u <;> cases x.named arg u <;> rfl
  · rw [if_pos rfl, show (RefusalCode.emergency == RefusalCode.none) = false from rfl, Bool.and_false, Bool.false_and, Bool.not_true, Bool.false_and]

/-- The access close that an ACCESS_CLOSE leaves. -/
theorem accessClose_joined (x : State) :
    x.joinedAccess (decideUnits arg accessCloseUnit x).taken =
      if !x.iu.latch && UnitNo.all.any fun u => x.named arg u && x.preempted u then
        some
          { warnings := x.accessWarnings ++ [x.newWarning]
            members := Quad.build fun u =>
              if x.named arg u && x.preempted u then some ⟨x.accessWarnings.length, .underWarning⟩ else x.accessMembers.get u }
      else x.iu.accessClose := by
  unfold State.joinedAccess
  have joins : x.joinsAccess (decideUnits arg accessCloseUnit x).taken = fun u => !x.iu.latch && (x.named arg u && x.preempted u) :=
    funext fun u => accessClose_joins u x
  rw [joins]
  cases x.iu.latch <;> rfl

/-- Settles O39: ACCESS_OPEN decided unit by unit or refused whole, ACCESS_CLOSE joining its units, ACCESS_LOCK setting the lock. -/
theorem accessCommands : Obligations.AccessCommands := by
  unfold Obligations.AccessCommands
  refine fun src dest arg s run => ⟨fun addressed => ⟨fun conflict latch lock idle => ?open_, fun code conf tests => ?refused⟩,
    fun addressed => ?close, fun addressed => ?lock⟩
  case open_ =>
    have wide := accessRefusal_none (s := noteActivity src false s) run conflict latch lock idle
    have form : takeAccessOpen src arg (noteActivity src false s) =
        sendUnitResult src .accessOpen (decideUnits arg (accessOpenUnit .none) (noteActivity src false s)) := by
      unfold takeAccessOpen unitCommand
      rw [wide]
    have whole := command_holds (src := src) (sub := .accessOpen)
      (arg := unitSet (decideUnits arg (accessOpenUnit .none) (noteActivity src false s)).taken)
      (done := UnitNo.all.any (decideUnits arg (accessOpenUnit .none) (noteActivity src false s)).taken.get)
      (code := (decideUnits arg (accessOpenUnit .none) (noteActivity src false s)).code)
      (decided (accessOpen_decides .none (noteActivity src false s)) arg).holds s
    have units := fun u => accessOpen_units (src := src) (arg := arg) (x := noteActivity src false s) (u := u) run conflict wide s
    refine ⟨_, exec_accessOpen run addressed, ?_, ?_, units, ?_⟩
    · rw [form]
      exact whole.2.1
    · rw [form]
      exact whole.2.2
    · rw [form]
      exact whole.1
  case refused => exact ⟨_, exec_accessOpen run addressed, accessOpen_refused run addressed conf tests⟩
  case close =>
    have form := takeAccessClose_form src arg (noteActivity src false s)
    have whole := command_holds (src := src) (sub := .accessClose)
      (arg := unitSet (decideUnits arg accessCloseUnit (noteActivity src false s)).taken)
      (done := UnitNo.all.any (decideUnits arg accessCloseUnit (noteActivity src false s)).taken.get)
      (code := (decideUnits arg accessCloseUnit (noteActivity src false s)).code)
      (.refl noUnit ((noteActivity src false s).modIu fun i =>
        { i with accessClose := (noteActivity src false s).joinedAccess (decideUnits arg accessCloseUnit (noteActivity src false s)).taken })) s
    refine ⟨_, exec_accessClose run addressed, fun latch u named mark free => ?_, ?_⟩
    · rw [form]
      refine joined_settled (s := noteActivity src false s) (q := (decideUnits arg accessCloseUnit (noteActivity src false s)).taken) s ?_ ?_
      · exact (congrArg InterlockUnit.accessClose (sendResult_bu_iu ..).2).trans rfl
      · rw [accessClose_joins]
        show (!s.iu.latch && (s.named arg u && (s.iu.accessMarks.get u && (s.accessMembers.get u).isNone))) = true
        rw [latch, named, mark, free]
        rfl
    · rw [accessClose_joined] at whole
      rw [form, accessClose_joined]
      exact whole
  case lock =>
    have exec : Sys2Proof.Machine.exec (.accessLock src dest arg) s =
        .next (finish (sendResult src .accessLock 0 true .none ((noteActivity src false s).modIu fun i => { i with accessLock := true }))) := by
      show Host.Outcome.next (onFrame _ _ s) = _
      rw [onFrame_of_accepted addressed.1]
      exact congrArg (fun x => Host.Outcome.next (finish x)) (onCommand_running (x := noteActivity src false s) addressed.2 run _)
    obtain ⟨-, -, ends, sent⟩ := result_finishes (requester := src) (sub := .accessLock) (arg := 0) true
      ((noteActivity src false s).modIu fun i => { i with accessLock := true })
    exact ⟨_, exec, sent, ends⟩

end Sys2Proof.Machine

/-! What the deciding of other units lets be of a unit, and its own turn among them (R45, R46). -/

namespace Sys2Proof.Machine
variable {i : Instr} {u v : UnitNo} {s t x y a b c m : State} {src : Node} {sub : SubCommand} {arg : Byte} {code : RefusalCode}
  {g : UnitNo → State → State × RefusalCode} {ρ : UnitNo → RefusalCode} {d : DoorChannel}

/-- No own hold counts unit `u` among its holding units. -/
def State.holdless (s : State) (u : UnitNo) : Prop := ∀ c, s.bu.cycle = some c → ∀ h ∈ c.holds, h.holders.get u = false

/-- What happens at other units lets unit `u` be. -/
structure LetsBe (u : UnitNo) (s t : State) : Prop where
  holds : Holds (fun v => v != u) s t
  own : OwnReleaseFollows s → OwnReleaseFollows t
  calm : s.unsecurable → t.su.units.get u = s.su.units.get u
  holdless : s.holdless u → t.holdless u

theorem Leaves.unsecurable {P : UnitNo → Bool} (h : Leaves P s t) (calm : s.unsecurable) : t.berthState = s.berthState := by
  rcases h.berthState with same | ⟨-, closing | ⟨released, -⟩⟩
  · exact same
  · exact absurd closing calm.1
  · exact absurd released calm.2

theorem State.unsecurable.kept (calm : s.unsecurable) (same : t.berthState = s.berthState) : t.unsecurable := by
  unfold State.unsecurable
  rw [same]
  exact calm

theorem LetsBe.refl (u : UnitNo) (s : State) : LetsBe u s s := ⟨.refl _ s, id, fun _ => rfl, id⟩

theorem LetsBe.trans (h : LetsBe u a b) (k : LetsBe u b c) : LetsBe u a c where
  holds := h.holds.trans k.holds
  own o := k.own (h.own o)
  calm o := (k.calm (o.kept (h.holds.1.toLeaves.unsecurable o))).trans (h.calm o)
  holdless o := k.holdless (h.holdless o)

theorem holdless_congr (same : t.bu.cycle = s.bu.cycle) (h : s.holdless u) : t.holdless u := by
  unfold State.holdless
  rw [same]
  exact h

/-- Frames and reports let every unit be. -/
theorem Sends.letsBe (h : Sends s t) : LetsBe u s t where
  holds := h.ends.holds
  own o := o.congr (by rw [h.cl]) (by rw [h.iu]) h.unit
  calm _ := by rw [h.su]
  holdless := holdless_congr (by rw [h.bu])

/-! ### Another unit's change of state -/

theorem restSensing_cycle (u : UnitNo) (s : State) :
    (restSensing u s).bu.cycle =
      if (s.su.units.get u).zoneBusy then
        s.bu.cycle.map fun c => { c with holds := (c.holds.map (OwnHold.without u)).filter OwnHold.standing }
      else s.bu.cycle := by
  unfold restSensing
  dsimp only
  split
  · rw [zoneFreed_bu]
    rfl
  · rfl

theorem outOfHands_cycle (u : UnitNo) (s : State) : (dropCovered u (clearAccess u s)).bu.cycle = s.bu.cycle := by
  have access : (clearAccess u s).bu = s.bu := by
    unfold clearAccess dropAccessMember
    split
    · split <;> rfl
    · rfl
  unfold dropCovered
  split
  · rw [access]
  · show (clearAccess u s).bu.cycle = s.bu.cycle
    rw [access]

theorem checkAlarm_bu (u : UnitNo) (s : State) : (checkAlarm u s).bu = s.bu := by
  unfold checkAlarm
  split
  · split
    · exact ((alert_sends ..).bu.trans (report_sends ..).bu).trans rfl
    · exact ((alert_sends ..).bu.trans (report_sends ..).bu).trans rfl
  · rfl

/-- A close cycle through a unit's change of state: its own holds lose the unit where its zone is handed on as FREE (R154, R160). -/
theorem moveUnit_cycle (u : UnitNo) (d : DoorChannel) (s : State) :
    (moveUnit u d s).bu.cycle =
      if s.unit u ≠ .isolated ∧ d.st = .isolated ∧ (s.su.units.get u).zoneBusy = true then
        s.bu.cycle.map fun c => { c with holds := (c.holds.map (OwnHold.without u)).filter OwnHold.standing }
      else s.bu.cycle := by
  rw [moveUnit_eq, checkAlarm_bu]
  unfold hangs
  dsimp only
  rw [guard_keeps (fun x => x.bu.cycle) (f := fun x => dropCovered u (clearAccess u x)) (outOfHands_cycle u _),
    guard_keeps (fun x => x.bu.cycle) (f := emptyRun u) rfl]
  by_cases into : s.unit u ≠ .isolated ∧ d.st = .isolated
  · obtain ⟨out, in_⟩ := into
    have started : (if (s.unit u == .isolated && d.st != .isolated) = true then startSensing u (syncOwnRelease (s.setDc u d))
        else syncOwnRelease (s.setDc u d)) = syncOwnRelease (s.setDc u d) := by
      rw [in_]
      exact if_neg (by rw [bne_self_eq_false, Bool.and_false]; exact Bool.false_ne_true)
    rw [started, if_pos (by rw [bne_iff_ne.2 out, in_]; rfl), restSensing_cycle]
    have zone : (syncOwnRelease (s.setDc u d)).su = s.su := rfl
    have cycle : (syncOwnRelease (s.setDc u d)).bu = s.bu := rfl
    rw [zone, cycle]
    simp only [out, in_, ne_eq, not_false_eq_true, true_and]
  · have stays : (s.unit u != .isolated && d.st == .isolated) = false := by
      rw [← Bool.not_eq_true, Bool.and_eq_true, bne_iff_ne, beq_iff_eq]
      exact into
    rw [if_neg fun k : s.unit u ≠ .isolated ∧ d.st = .isolated ∧ (s.su.units.get u).zoneBusy = true => into ⟨k.1, k.2.1⟩, stays,
      if_neg Bool.false_ne_true, guard_keeps (fun x => x.bu.cycle) (f := startSensing u) rfl]
    rfl

theorem without_other (h : OwnHold) (ne : v ≠ u) : (h.without v).holders.get u = h.holders.get u := Quad.get_set_ne _ _ ne

theorem moveUnit_letsBe (ne : v ≠ u) (d : DoorChannel) (s : State) : LetsBe u s (moveUnit v d s) where
  holds := (moveUnit_holds v d s).of_only (bne_iff_ne.2 ne)
  own _ := moveUnit_ownRelease v d s
  calm _ := moveUnit_sensing_other (Ne.symm ne) d s
  holdless o := by
    unfold State.holdless
    rw [moveUnit_cycle]
    split
    · intro c stands h m
      obtain ⟨c0, was, rfl⟩ := Option.map_eq_some_iff.1 stands
      obtain ⟨h0, m0, rfl⟩ := List.mem_map.1 (List.mem_filter.1 m).1
      rw [without_other h0 ne]
      exact o c0 was h0 m0
    · exact o

/-- A unit whose zone is handed on as FREE holds no car. -/
theorem moveUnit_holdless (out : s.unit u ≠ .isolated) (in_ : d.st = .isolated) (busy : (s.su.units.get u).zoneBusy = true) :
    (moveUnit u d s).holdless u := by
  intro c stands h m
  rw [moveUnit_cycle, if_pos ⟨out, in_, busy⟩] at stands
  obtain ⟨c0, -, rfl⟩ := Option.map_eq_some_iff.1 stands
  obtain ⟨h0, -, rfl⟩ := List.mem_map.1 (List.mem_filter.1 m).1
  exact without_get h0

/-! ### The closes judged between two units -/

theorem settleCloses_su (h : s.unsecurable) : (settleCloses s).su = s.su := by
  have completed := completions_unsecurable ((judgedMembers_judged s).unsecurable h)
  rw [← settleCloses_judged] at completed
  obtain ⟨e, same⟩ := completed
  rw [same]
  exact (judgedMembers_judged s).su

theorem settleCloses_letsBe (u : UnitNo) (s : State) : LetsBe u s (settleCloses s) where
  holds := (settleCloses_ends s).holds
  own := moves_ownRelease (settleCloses_moves (i := .supplyFall) s)
  calm o := by rw [settleCloses_su o]
  holdless o := by
    intro c stands
    have completed := ((completeCycle_completed (judgedMembers s)).trans (completeEmergency_completed (completeCycle (judgedMembers s)))).cycle
    rw [← settleCloses_judged, stands] at completed
    have judged : (judgedMembers s).bu.cycle = some c := by
      rcases completed with same | none
      · exact same.symm
      · cases none
    have kept := (judgedMembers_judged s).cycle
    rw [judged] at kept
    obtain ⟨c0, was, pair⟩ := Option.map_eq_some_iff.1 kept.symm
    have holds : c0.holds = c.holds := congrArg Prod.snd pair
    rw [← holds]
    exact o c0 was

/-! ### The operations at another unit -/

theorem enterFault_letsBe (kind : FaultKind) (ne : v ≠ u) (s : State) : LetsBe u s (enterFault kind v s) :=
  (moveUnit_letsBe ne _ s).trans (report_sends ..).letsBe

theorem takeHeldDriveFault_letsBe (ne : v ≠ u) (s : State) : LetsBe u s (takeHeldDriveFault v s) := by
  unfold takeHeldDriveFault
  split
  · exact enterFault_letsBe _ ne s
  · exact .refl u s

theorem enterUnlocking_letsBe (ne : v ≠ u) (s : State) : LetsBe u s (enterUnlocking v s) :=
  (moveUnit_letsBe ne _ s).trans (takeHeldDriveFault_letsBe ne _)

theorem enterHoming_letsBe (ne : v ≠ u) (s : State) : LetsBe u s (enterHoming v s) :=
  (moveUnit_letsBe ne _ s).trans (takeHeldDriveFault_letsBe ne _)

theorem modSu_letsBe (ne : v ≠ u) (f : UnitSensing → UnitSensing) (s : State) : LetsBe u s (s.modSu v f) where
  holds := (modSu_holds v f s).of_only (bne_iff_ne.2 ne)
  own := id
  calm _ := Quad.get_set_ne _ _ ne
  holdless := id

theorem modDc_letsBe (ne : v ≠ u) {f : DoorChannel → DoorChannel} (same : ∀ d, (f d).st = d.st) (s : State) : LetsBe u s (s.modDc v f) where
  holds := (modDc_holds v f s).of_only (bne_iff_ne.2 ne)
  own o := o.congr rfl rfl (setDc_unit (same _))
  calm _ := rfl
  holdless := id

/-- Under the latch a unit come to CLOSED_LOCKED has its open request in the same event (R178). -/
theorem comeClosed_latched (h : s.iu.latch = true) : comeClosed u s = enterUnlocking u (settleCloses (enterClosedLocked u s)) := by
  have latch : (enterClosedLocked u s).iu.latch = true := (enterClosedLocked_holds u s).1.latch.trans h
  have channel := enterClosedLocked_channel u s
  have ends := settleCloses_ends (enterClosedLocked u s)
  have rests : (settleCloses (enterClosedLocked u s)).unit u = .closedLocked := by
    rw [State.unit, (ends.1.doors u rfl).resting (by rw [channel]; rfl), channel]
    rfl
  have permit : (settleCloses (enterClosedLocked u s)).permit u = true := by
    rw [State.permit, ends.1.latch, latch, Bool.or_true, Bool.true_or]
  rw [← openRequest_locked rests permit]
  unfold comeClosed
  dsimp only
  rw [latch, if_pos rfl]

theorem comeClosed_letsBe (ne : v ≠ u) (s : State) : LetsBe u s (comeClosed v s) := by
  have closed : LetsBe u s (enterClosedLocked v s) := moveUnit_letsBe ne _ s
  rcases latch : s.iu.latch
  · rw [comeClosed_free latch]
    exact closed
  · rw [comeClosed_latched latch]
    exact (closed.trans (settleCloses_letsBe u _)).trans (enterUnlocking_letsBe ne _)

theorem bringBack_letsBe (ne : v ≠ u) (s : State) : LetsBe u s (bringBack v s) := by
  unfold bringBack
  split
  · exact comeClosed_letsBe ne s
  · exact enterHoming_letsBe ne s

theorem isolateUnit_letsBe (ne : v ≠ u) (s : State) : LetsBe u s (isolateUnit v s).1 := by
  unfold isolateUnit
  split
  · exact moveUnit_letsBe ne _ s
  · exact moveUnit_letsBe ne _ s
  · exact moveUnit_letsBe ne _ s
  · exact (modSu_letsBe ne _ s).trans (moveUnit_letsBe ne _ _)
  · exact .refl u s

theorem restoreUnit_letsBe (ne : v ≠ u) (s : State) : LetsBe u s (restoreUnit v s).1 := by
  unfold restoreUnit
  split
  · exact (modDc_letsBe ne (f := fun d => { d with isolationMark := false }) (fun _ => rfl) s).trans (bringBack_letsBe ne _)
  · exact .refl u s

theorem rehomeUnit_letsBe (ne : v ≠ u) (s : State) : LetsBe u s (rehomeUnit v s).1 := by
  unfold rehomeUnit
  split
  · exact enterHoming_letsBe ne s
  · exact enterHoming_letsBe ne s
  · exact .refl u s

theorem ackReleaseUnit_letsBe (ne : v ≠ u) (s : State) : LetsBe u s (ackReleaseUnit v s).1 := by
  unfold ackReleaseUnit
  split
  · dsimp only
    split
    · exact (modSu_letsBe ne _ s).trans (moveUnit_letsBe ne _ _)
    · exact (modSu_letsBe ne _ s).trans (bringBack_letsBe ne _)
  · exact .refl u s

/-! ### A unit's own turn -/

/-- A named unit decided, between the units before it and those behind it. -/
theorem decideUnits_turn (lets : ∀ v m, v ≠ u → LetsBe u m (g v m).1) (named : s.named arg u = true) :
    ∃ m, LetsBe u s m ∧ LetsBe u (g u m).1 (decideUnits arg g s).state := by
  obtain ⟨bit_, conf⟩ := named_bit named
  have other (d : Deciding) (v : UnitNo) (ne : v ≠ u) : LetsBe u d.state (decideUnit arg g d v).state := by
    by_cases set_ : arg.getLsbD v.val = true
    · by_cases there : d.state.configured v = true
      · rw [decideUnit_named set_ there]
        exact lets v _ ne
      · rw [decideUnit_beyond set_ (Bool.not_eq_true _ ▸ there)]
        exact .refl u _
    · rw [decideUnit_unnamed (Bool.not_eq_true _ ▸ set_)]
      exact .refl u _
  have own (d : Deciding) (before : LetsBe u s d.state) : (decideUnit arg g d u).state = (g u d.state).1 := by
    rw [decideUnit_named bit_ ((before.holds.configured u).trans conf)]
  let d0 : Deciding := ⟨s, Quad.same false, .none⟩
  let d1 := decideUnit arg g d0 .u0
  let d2 := decideUnit arg g d1 .u1
  let d3 := decideUnit arg g d2 .u2
  have last : decideUnits arg g s = decideUnit arg g d3 .u3 := rfl
  rw [last]
  have none : LetsBe u s d0.state := .refl u s
  cases u with
  | u0 =>
    refine ⟨d0.state, none, ?_⟩
    rw [← own d0 none]
    exact ((other d1 .u1 (fun e => nomatch e)).trans (other d2 .u2 (fun e => nomatch e))).trans (other d3 .u3 fun e => nomatch e)
  | u1 =>
    have one := none.trans (other d0 .u0 fun e => nomatch e)
    refine ⟨d1.state, one, ?_⟩
    rw [← own d1 one]
    exact (other d2 .u2 (fun e => nomatch e)).trans (other d3 .u3 fun e => nomatch e)
  | u2 =>
    have two := (none.trans (other d0 .u0 fun e => nomatch e)).trans (other d1 .u1 fun e => nomatch e)
    refine ⟨d2.state, two, ?_⟩
    rw [← own d2 two]
    exact other d3 .u3 fun e => nomatch e
  | u3 =>
    have three := ((none.trans (other d0 .u0 fun e => nomatch e)).trans (other d1 .u1 fun e => nomatch e)).trans (other d2 .u2 fun e => nomatch e)
    refine ⟨d3.state, three, ?_⟩
    rw [← own d3 three]
    exact .refl _ _

/-- The RESULT and the end of the event let every unit be. -/
theorem command_letsBe (h : LetsBe u a b) (s0 : State) {done : Bool} :
    LetsBe u (a.refused (settle s0 (sendResult src sub arg done code b)).pm.lastRefusal) (settle s0 (sendResult src sub arg done code b)) where
  holds := command_holds h.holds s0
  own o := settle_ownRelease s0 (moves_ownRelease (sendResult_moves (i := .supplyFall) ..) (h.own o))
  calm o := by
    have calm := (show a.unsecurable from o).kept (h.holds.1.toLeaves.unsecurable o)
    have sent : (sendResult src sub arg done code b).bu = b.bu := (sendResult_bu_iu ..).1
    have su : (sendResult src sub arg done code b).su = b.su := by
      unfold sendResult
      dsimp only
      split <;> exact (enqueue_sends ..).su
    rw [(settle_unsecurable s0 (calm.kept (t := sendResult src sub arg done code b) (by rw [State.berthState, sent]; rfl))).2.1, su]
    exact h.calm o
  holdless o := by
    intro c stands
    obtain ⟨-, c0, was, -, holds⟩ := settle_cycle s0 stands
    rw [(sendResult_bu_iu ..).1] at was
    rw [holds]
    exact h.holdless o c0 was

/-- A named unit's own turn in the event of a COMMAND. -/
theorem command_turn (lets : ∀ v m, v ≠ u → LetsBe u m (g v m).1) (named : x.named arg u = true) (src : Node)
    (sub : SubCommand) (s0 : State) :
    ∃ m, LetsBe u x m ∧
      LetsBe u ((g u m).1.refused (settle s0 (sendUnitResult src sub (decideUnits arg g x))).pm.lastRefusal)
        (settle s0 (sendUnitResult src sub (decideUnits arg g x))) := by
  obtain ⟨m, before, behind⟩ := decideUnits_turn lets named
  exact ⟨m, before, command_letsBe behind s0⟩

/-- The Secure Contact is evaluated at the end of an event that has brought a unit to another state (R169). -/
theorem settle_changed_contact {s0 : State} (changed : (settle s0 y).unit u ≠ s0.unit u) : (settle s0 y).out.contact = (settle s0 y).contactCondition := by
  have sends := finish_sends (driveWarning (judged s0 y))
  rw [settle_eq] at changed ⊢
  have unit : (finish (driveWarning (judged s0 y))).unit u = (settleCloses y).unit u := by
    rw [sends.unit, judged_eq]
    rfl
  rw [sends.contactCondition, finish_out]
  show (judged s0 y).out.contact = (judged s0 y).contactCondition
  unfold judged
  dsimp only
  rw [if_neg]
  · rfl
  · intro same
    refine changed (unit.trans ?_)
    have units : Quad.build (settleCloses y).unit = Quad.build s0.unit := congrArg Prod.fst (beq_iff_eq.1 same)
    have at_ := congrArg (fun q => q.get u) units
    simpa only [Quad.get_build] using at_

end Sys2Proof.Machine

/-! A unit's way back to service: CLOSED_LOCKED, UNLOCKING under the latch, HOMING, or FAULT (R133, R138, R140, R148, R178). -/

namespace Sys2Proof.Machine
variable {i : Instr} {u v : UnitNo} {s t x y a b c m : State} {src : Node} {sub : SubCommand} {arg : Byte} {code : RefusalCode}
  {d : DoorChannel} {sev : Severity} {r : FaultRecord} {z : FaultRecorder} {p : FaultKind → Severity → Bool}

/-! ### Reports before and after other parts of an event -/

/-- What goes before a report is no part of it, where it reports nothing of the kind and nothing at its severity. -/
theorem Reported.since (h : Reported sev r a.fr z) (spares : Spares p s a) (kind : ∀ sev, p r.kind sev = false) (slot : ∀ k, p k sev = false) :
    Reported sev r s.fr z := by
  unfold Reported at h ⊢
  rw [spares.slots sev slot, spares.kinds _ kind, spares.length] at h
  exact h

/-- A RESULT sent after a report, and the end of the event. -/
theorem Reported.resulted (h : Reported sev r z a.fr) (n : r.kind ≠ .trap) (s0 : State) {done : Bool} :
    Reported sev r z (settle s0 (sendResult src sub arg done code a)).fr := by
  have sent : Reported sev r z (enqueue .result (resultBytes src sub arg done code) a).fr :=
    h.after (p := fun _ _ => false) ((enqueue_sends ..).slot_kept sev) (enqueue_spares ..) fun _ => rfl
  refine Reported.settled ?_ n
  unfold sendResult
  dsimp only
  split
  · exact sent
  · exact sent

theorem enterFault_reported (kind : FaultKind) (u : UnitNo) (s : State) :
    Reported (kind.unitSeverity (s.closedAndEngaged u)) ⟨kind, some u, s.seq, s.now⟩ s.fr (enterFault kind u s).fr := by
  have silent := moveUnit_silent (u := u) (d := { (s.dc.get u).into .fault with attempt := 0 }) (fun e => nomatch e) (fun e => nomatch e) s
  have made := report_reported kind (kind.unitSeverity (s.closedAndEngaged u)) (some u) (moveUnit u { (s.dc.get u).into .fault with attempt := 0 } s)
  have seq : (moveUnit u { (s.dc.get u).into .fault with attempt := 0 } s).seq = s.seq := by
    rw [State.seq, silent.2.2]
    rfl
  rw [seq, (moveUnit_holds u _ s).2.1, silent.1] at made
  exact made

/-! ### A drive fault held as the enable turns on (R133) -/

theorem Holds.closedAndEngaged {P : UnitNo → Bool} (h : Holds P s t) (u : UnitNo) : t.closedAndEngaged u = s.closedAndEngaged u := by
  rw [State.closedAndEngaged, h.2.2]
  rfl

theorem moveUnit_driveFault (missed : d.missed = (s.dc.get u).missed) : (moveUnit u d s).driveFault u = s.driveFault u := by
  rw [State.driveFault, moveUnit_channel, (moveUnit_holds u d s).2.2, missed]
  rfl

theorem takeHeldDriveFault_none (h : s.driveFault u = false) : takeHeldDriveFault u s = s := if_neg (by rw [h]; exact Bool.false_ne_true)

theorem takeHeldDriveFault_held (h : s.driveFault u = true) : takeHeldDriveFault u s = enterFault .driveFault u s := if_pos h

/-- The severity of a held drive fault (R134). -/
def State.driveSeverity (s : State) (u : UnitNo) : Severity := if s.closedAndEngaged u = true then .minor else .severe

/-- A drive fault held as a unit enters a driven state is reported of the state it was entered from. -/
theorem entered_reported (held : s.driveFault u = true) (missed : d.missed = (s.dc.get u).missed) (out : d.st ≠ .isolated) (unlocked : d.st ≠ .closedLocked) :
    Reported (s.driveSeverity u) ⟨.driveFault, some u, s.seq, s.now⟩ s.fr (takeHeldDriveFault u (moveUnit u d s)).fr := by
  have silent := moveUnit_silent (u := u) out unlocked s
  have moved := moveUnit_holds u d s
  have made := enterFault_reported .driveFault u (moveUnit u d s)
  have seq : (moveUnit u d s).seq = s.seq := by
    rw [State.seq, silent.2.2]
    rfl
  rw [moved.closedAndEngaged, seq, moved.2.1, silent.1] at made
  rw [takeHeldDriveFault_held ((moveUnit_driveFault missed).trans held)]
  exact made

theorem takeHeldDriveFault_sensing (h : s.unit u ≠ .isolated) : (takeHeldDriveFault u s).su.units.get u = s.su.units.get u := by
  unfold takeHeldDriveFault
  split
  · have rests : UnitState.fault ≠ .isolated := fun e => nomatch e
    rw [enterFault, (report_sends ..).su,
      moveUnit_sensing (d := { (s.dc.get u).into .fault with attempt := 0 }) (.inl (show UnitState.fault ≠ .closedLocked from fun e => nomatch e)),
      enteredSensing, if_neg fun k => h k.1, if_neg fun k => rests k.2]
  · rfl

/-! ### HOMING (R136) -/

/-- The channel of a unit that has entered HOMING. -/
def homed (s : State) (u : UnitNo) : DoorChannel :=
  { (s.dc.get u).into .homing with
    phase := .creep, retries := 0, overCount := 0, attempt := 0
    homingTimer := some (after s.now (2 * s.cl.config.params.travelTimeout)) }

theorem enterHoming_eq (u : UnitNo) (s : State) : enterHoming u s = takeHeldDriveFault u (moveUnit u (homed s u) s) := rfl

theorem enterHoming_channel (u : UnitNo) (s : State) :
    (s.driveFault u = false → (enterHoming u s).dc.get u = homed s u) ∧
      (s.driveFault u = true → (enterHoming u s).dc.get u = { (s.dc.get u).into .fault with retries := 0, overCount := 0, attempt := 0 }) := by
  have fault := moveUnit_driveFault (u := u) (d := homed s u) (s := s) rfl
  rw [enterHoming_eq]
  refine ⟨fun none => ?_, fun held => ?_⟩
  · rw [takeHeldDriveFault_none (fault.trans none), moveUnit_channel]
  · rw [takeHeldDriveFault_held (fault.trans held), enterFault_channel, moveUnit_channel]
    rfl

theorem enterHoming_reported (held : s.driveFault u = true) :
    Reported (s.driveSeverity u) ⟨.driveFault, some u, s.seq, s.now⟩ s.fr (enterHoming u s).fr :=
  entered_reported (d := homed s u) held rfl (show UnitState.homing ≠ .isolated from fun e => nomatch e)
    (show UnitState.homing ≠ .closedLocked from fun e => nomatch e)

theorem enterHoming_sensing (u : UnitNo) (s : State) :
    (enterHoming u s).su.units.get u = enteredSensing (s.unit u) .homing (s.pins.units.get u).edge s.now (s.su.units.get u) := by
  have homing : (moveUnit u (homed s u) s).unit u = .homing := congrArg DoorChannel.st (moveUnit_channel u _ s)
  rw [enterHoming_eq, takeHeldDriveFault_sensing (by rw [homing]; exact fun e => nomatch e),
    moveUnit_sensing (.inl (show UnitState.homing ≠ .closedLocked from fun e => nomatch e))]
  rfl

/-! ### CLOSED_LOCKED (R122, R148) -/

theorem hangs_berth (old : UnitState) (u : UnitNo) (d : DoorChannel) (s : State) : (hangs old u d s).bu.berth = s.bu.berth := by
  have last : ∀ x, (dropCovered u (clearAccess u x)).bu.berth = x.bu.berth := fun x => by
    have access : (clearAccess u x).bu = x.bu := by
      unfold clearAccess dropAccessMember
      split
      · split <;> rfl
      · rfl
    have covered : (dropCovered u (clearAccess u x)).bu.berth = (clearAccess u x).bu.berth := by
      unfold dropCovered
      split <;> rfl
    rw [covered, access]
  have rest : ∀ x, (restSensing u x).bu.berth = x.bu.berth := fun x => by
    unfold restSensing
    dsimp only
    split
    · rw [zoneFreed_bu]
      rfl
    · rfl
  unfold hangs
  dsimp only
  rw [guard_keeps (fun x => x.bu.berth) (f := fun x => dropCovered u (clearAccess u x)) (last _),
    guard_keeps (fun x => x.bu.berth) (f := emptyRun u) rfl, guard_keeps (fun x => x.bu.berth) (f := restSensing u) (rest _),
    guard_keeps (fun x => x.bu.berth) (f := startSensing u) rfl]

theorem moveUnit_berth (u : UnitNo) (d : DoorChannel) (s : State) : (moveUnit u d s).bu.berth = s.bu.berth := by
  rw [moveUnit_eq, checkAlarm_bu, hangs_berth]
  rfl

theorem hangs_fr (old : UnitState) (h : d.st ≠ .isolated) (s : State) : (hangs old u d s).fr = s.fr := by
  have last : ∀ x, (dropCovered u (clearAccess u x)).fr = x.fr := fun x => by rw [dropCovered_fr, clearAccess_fr]
  unfold hangs
  dsimp only
  rw [beq_eq_false_iff_ne.2 h, Bool.and_false, if_neg Bool.false_ne_true,
    guard_keeps State.fr (f := fun x => dropCovered u (clearAccess u x)) (last _), guard_keeps State.fr (f := emptyRun u) rfl,
    guard_keeps State.fr (f := startSensing u) rfl]

/-- A unit's sensing as it comes to CLOSED_LOCKED with the filter as it stands: an alarm is raised where none stood (R148). -/
def UnitSensing.locked (before : Bool) (x : UnitSensing) : UnitSensing :=
  if x.alarm = .none ∧ x.gapAsserted = true then { x with alarm := if before then .intrusion else .trap } else x

theorem enterClosedLocked_sensing (u : UnitNo) (s : State) :
    (enterClosedLocked u s).su.units.get u =
      (enteredSensing (s.unit u) .closedLocked (s.pins.units.get u).edge s.now (s.su.units.get u)).locked s.berthState.beforeTrain := by
  have berth : (hangs (s.unit u) u { (s.dc.get u).into .closedLocked with position := 0, attempt := 0 }
      (syncOwnRelease (s.setDc u { (s.dc.get u).into .closedLocked with position := 0, attempt := 0 }))).berthState = s.berthState :=
    congrArg Berth.state (hangs_berth ..)
  have sensing : (hangs (s.unit u) u { (s.dc.get u).into .closedLocked with position := 0, attempt := 0 }
      (syncOwnRelease (s.setDc u { (s.dc.get u).into .closedLocked with position := 0, attempt := 0 }))).su.units.get u =
        enteredSensing (s.unit u) .closedLocked (s.pins.units.get u).edge s.now (s.su.units.get u) := by
    rw [hangs_unit, if_pos rfl]
    rfl
  have unit := hangs_moved u { (s.dc.get u).into .closedLocked with position := 0, attempt := 0 } s (s.unit u)
  rw [enterClosedLocked, moveUnit_eq]
  generalize hangs (s.unit u) u _ (syncOwnRelease (s.setDc u { (s.dc.get u).into .closedLocked with position := 0, attempt := 0 })) = y at *
  rw [UnitSensing.locked, ← sensing, ← berth]
  unfold checkAlarm
  have locked : (y.unit u == UnitState.closedLocked) = true := by
    rw [unit]
    rfl
  rw [locked, Bool.and_true]
  by_cases raised : (y.su.units.get u).alarm = .none ∧ (y.su.units.get u).gapAsserted = true
  · rw [if_pos (by rw [Bool.and_eq_true, beq_iff_eq]; exact raised), if_pos raised]
    split
    · next before => rw [raiseIntrusion_sensing, if_pos rfl]
    · next before => rw [raiseTrap_sensing, if_pos rfl]
  · rw [if_neg (by rw [Bool.and_eq_true, beq_iff_eq]; exact raised), if_neg raised]

theorem enterClosedLocked_fr (quiet : s.unit u = .isolated ∨ s.gapAsserted u = false) : (enterClosedLocked u s).fr = s.fr := by
  rw [enterClosedLocked, moveUnit_noAlarm, hangs_fr _ (show UnitState.closedLocked ≠ .isolated from fun e => nomatch e)]
  · rfl
  · rcases quiet with out | released
    · exact .inr (.inr out)
    · by_cases out : s.unit u = .isolated
      · exact .inr (.inr out)
      · exact .inr (.inl ⟨out, released⟩)

/-! ### CLOSED_LOCKED under the latch (R178) -/

/-- The unit through the closes that are judged as it comes to CLOSED_LOCKED. -/
theorem closed_judged (u : UnitNo) (s : State) :
    (settleCloses (enterClosedLocked u s)).dc.get u = { (s.dc.get u).into .closedLocked with position := 0, attempt := 0 } := by
  have channel := enterClosedLocked_channel u s
  rw [((settleCloses_ends (enterClosedLocked u s)).1.doors u rfl).resting (by rw [channel]; rfl), channel]

theorem closed_judged_holds (u : UnitNo) (s : State) : Holds (only u) s (settleCloses (enterClosedLocked u s)) :=
  (enterClosedLocked_holds u s).trans (settleCloses_ends _).holds

theorem closed_judged_driveFault (u : UnitNo) (s : State) : (settleCloses (enterClosedLocked u s)).driveFault u = s.driveFault u := by
  rw [State.driveFault, closed_judged, (closed_judged_holds u s).2.2]
  rfl

theorem comeClosed_unlocks (latch : s.iu.latch = true) (none : s.driveFault u = false) :
    (comeClosed u s).dc.get u = { unlocked s u with position := 0, attempt := 0 } := by
  rw [comeClosed_latched latch, (enterUnlocking_channel u _).1 ((closed_judged_driveFault u s).trans none)]
  unfold unlocked
  rw [closed_judged, (closed_judged_holds u s).2.1]
  rfl

theorem comeClosed_faults (latch : s.iu.latch = true) (held : s.driveFault u = true) :
    (comeClosed u s).dc.get u = { (s.dc.get u).into .fault with position := 0, attempt := 0 } := by
  rw [comeClosed_latched latch, (enterUnlocking_channel u _).2 ((closed_judged_driveFault u s).trans held), closed_judged]
  rfl

theorem Leaves.seq {P : UnitNo → Bool} (h : Leaves P s t) : t.seq = s.seq := by
  have same := congrArg Berth.seq h.record
  exact same

theorem comeClosed_reported (latch : s.iu.latch = true) (held : s.driveFault u = true) (secure : s.closedAndEngaged u = true)
    (quiet : s.unit u = .isolated ∨ s.gapAsserted u = false) :
    Reported .minor ⟨.driveFault, some u, s.seq, s.now⟩ s.fr (comeClosed u s).fr := by
  have kept := closed_judged_holds u s
  have made := entered_reported (u := u) (s := settleCloses (enterClosedLocked u s)) (d := unlocked (settleCloses (enterClosedLocked u s)) u)
    ((closed_judged_driveFault u s).trans held) rfl (show UnitState.unlocking ≠ .isolated from fun e => nomatch e)
    (show UnitState.unlocking ≠ .closedLocked from fun e => nomatch e)
  have severity : (settleCloses (enterClosedLocked u s)).driveSeverity u = .minor := by
    rw [State.driveSeverity, kept.closedAndEngaged, secure]
    rfl
  rw [severity, kept.1.toLeaves.seq, kept.2.1] at made
  have since := made.since (settleCloses_spares (p := trapAlone) rfl (enterClosedLocked u s)) (fun sev => rfl) fun k => by cases k <;> rfl
  rw [enterClosedLocked_fr quiet] at since
  rw [comeClosed_latched latch]
  exact since

theorem enterUnlocking_sensing (h : s.unit u ≠ .isolated) : (enterUnlocking u s).su.units.get u = s.su.units.get u := by
  have unlocking : (moveUnit u (unlocked s u) s).unit u = .unlocking := congrArg DoorChannel.st (moveUnit_channel u _ s)
  have enter : enterUnlocking u s = takeHeldDriveFault u (moveUnit u (unlocked s u) s) := rfl
  have rests : UnitState.unlocking ≠ .isolated := fun e => nomatch e
  rw [enter, takeHeldDriveFault_sensing (by rw [unlocking]; exact rests),
    moveUnit_sensing (.inl (show UnitState.unlocking ≠ .closedLocked from fun e => nomatch e)),
    enteredSensing, if_neg fun k => h k.1, if_neg fun k => rests k.2]

/-- Under the latch no more than the closes judged between touches the unit's sensing. -/
theorem comeClosed_sensing (u : UnitNo) (s : State) :
    KeepsSensing ((enterClosedLocked u s).su.units.get u) ((comeClosed u s).su.units.get u) ∧
      (s.unsecurable → (comeClosed u s).su.units.get u = (enterClosedLocked u s).su.units.get u) := by
  rcases latch : s.iu.latch
  · rw [comeClosed_free latch]
    exact ⟨.inl rfl, fun _ => rfl⟩
  · have at_ : (settleCloses (enterClosedLocked u s)).unit u ≠ .isolated := by
      rw [State.unit, closed_judged]
      exact fun e => nomatch e
    rw [comeClosed_latched latch, enterUnlocking_sensing at_]
    refine ⟨(settleCloses_ends (enterClosedLocked u s)).1.sensing u rfl, fun calm => ?_⟩
    have berth : (enterClosedLocked u s).berthState = s.berthState := congrArg Berth.state (moveUnit_berth u _ s)
    rw [settleCloses_su (calm.kept berth)]

end Sys2Proof.Machine

/-! ISOLATE and REHOME at a named unit, through the end of the event (R135, R137, R154). -/

namespace Sys2Proof.Machine
variable {i : Instr} {u v : UnitNo} {s t s0 x y a b c m : State} {src : Node} {sub : SubCommand} {arg : Byte} {code : RefusalCode}
  {d : DoorChannel} {p q w : UnitSensing} {g : UnitNo → State → State × RefusalCode} {ρ : UnitNo → RefusalCode}

/-! ### A unit's sensing through what other units do -/

theorem KeepsSensing.same (h : KeepsSensing p q) (n : p.alarm ≠ .intrusion) : q = p := h.resolve_right fun k => n k.1

theorem KeepsSensing.rested (h : KeepsSensing p q) : q.rested = p.rested := by
  rcases h with rfl | ⟨-, rfl⟩ <;> rfl

theorem KeepsSensing.begun (h : KeepsSensing p q) (raw : Bool) (now : Time) : KeepsSensing (p.begun raw now) (q.begun raw now) := by
  rcases h with rfl | ⟨intrusion, rfl⟩
  · exact .inl rfl
  · exact .inr ⟨intrusion, rfl⟩

theorem KeepsSensing.handle (h : KeepsSensing p q) : q.handle = p.handle := by
  rcases h with rfl | ⟨-, rfl⟩ <;> rfl

theorem KeepsSensing.zoneBusy (h : KeepsSensing p q) : q.zoneBusy = p.zoneBusy := by
  rcases h with rfl | ⟨-, rfl⟩ <;> rfl

theorem LetsBe.sensing (h : LetsBe u s t) : KeepsSensing (s.su.units.get u) (t.su.units.get u) :=
  h.holds.1.sensing u (bne_self_eq_false u)

theorem LetsBe.door (h : LetsBe u s t) : KeepsUnit (s.dc.get u) (t.dc.get u) := h.holds.1.doors u (bne_self_eq_false u)

theorem LetsBe.dc (h : LetsBe u s t) (rests : (s.unit u).closable = false) : t.dc.get u = s.dc.get u := h.door.resting rests

theorem LetsBe.unit (h : LetsBe u s t) (rests : (s.unit u).closable = false) : t.unit u = s.unit u := by rw [State.unit, h.dc rests]; rfl

/-- A unit refused is left as it stands. -/
theorem command_refused (by_ : DecidesBy g ρ x) (alerted : ∀ u m, m.noCloses → Alerted 1 m (g u m).1) (lets : ∀ v m, v ≠ u → LetsBe u m (g v m).1)
    (two : ∀ u, ρ u = .none ∨ ρ u = .unitState) (named : x.named arg u = true) (refused : ρ u = .unitState)
    (left : ∀ m, LetsBe u x m → g u m = (m, .unitState)) (src : Node) (sub : SubCommand) (s0 : State) :
    KeepsUnit (x.dc.get u) ((settle s0 (sendUnitResult src sub (decideUnits arg g x))).dc.get u) ∧
      KeepsSensing (x.su.units.get u) ((settle s0 (sendUnitResult src sub (decideUnits arg g x))).su.units.get u) ∧
      (settle s0 (sendUnitResult src sub (decideUnits arg g x))).pm.lastRefusal = .unitState := by
  obtain ⟨m, before, behind⟩ := command_turn lets named src sub s0
  rw [left m before] at behind
  exact ⟨before.door.trans behind.door, before.sensing.trans behind.sensing,
    lastRefusal_unitState (units_decided by_ alerted arg) two named refused s0⟩

/-! ### ISOLATE (R137, R154) -/

/-- Unit `u` has entered ISOLATED out of `m`, its handle capture consumed where it was RELEASE_RESTORED. -/
structure Isolated (u : UnitNo) (m y : State) : Prop where
  channel : y.dc.get u = { (m.dc.get u).into .isolated with attempt := 0, isolationMark := true }
  sensing : y.su.units.get u =
    { (m.su.units.get u).rested with
      handle := ⟨(m.su.units.get u).handle.live, (m.su.units.get u).handle.held && m.unit u != .releaseRestored⟩ }
  run : (y.ae.searches.get u).run = []
  mark : y.iu.accessMarks.get u = false
  zone : (m.su.units.get u).zoneBusy = true → y.holdless u
  own : OwnReleaseFollows y

theorem enterIsolated_sensing (out : m.unit u ≠ .isolated) : (enterIsolated true u m).su.units.get u = (m.su.units.get u).rested := by
  rw [enterIsolated, moveUnit_sensing (.inl (show UnitState.isolated ≠ .closedLocked from fun e => nomatch e)), enteredSensing,
    if_neg fun k => out k.1, if_pos ⟨out, rfl⟩]

theorem isolateUnit_isolated
    (takes : m.unit u = .closedLocked ∨ m.unit u = .fault ∨ m.unit u = .unknown ∨ m.unit u = .releaseRestored) :
    Isolated u m (isolateUnit u m).1 := by
  by_cases restored : m.unit u = .releaseRestored
  · have out : (consumeHandle u m).unit u ≠ .isolated := by
      show m.unit u ≠ .isolated
      rw [restored]
      exact fun e => nomatch e
    have consumed : (consumeHandle u m).su.units.get u = { m.su.units.get u with handle := { (m.su.units.get u).handle with held := false } } :=
      Quad.get_set_self ..
    rw [isolateUnit_restored restored]
    refine ⟨moveUnit_channel .., ?_, moveUnit_run (.inl rfl) _, moveUnit_mark rfl _, fun busy => moveUnit_holdless out rfl ?_, moveUnit_ownRelease ..⟩
    · dsimp only
      rw [enterIsolated_sensing out, consumed, restored, bne_self_eq_false, Bool.and_false]
      rfl
    · rw [consumed]
      exact busy
  · have taken : m.unit u = .closedLocked ∨ m.unit u = .fault ∨ m.unit u = .unknown := by simpa only [restored, or_false] using takes
    have out : m.unit u ≠ .isolated := by
      rcases taken with e | e | e <;> rw [e] <;> exact fun e => nomatch e
    rw [isolateUnit_taken taken]
    refine ⟨moveUnit_channel .., ?_, moveUnit_run (.inl rfl) _, moveUnit_mark rfl _, moveUnit_holdless out rfl, moveUnit_ownRelease ..⟩
    dsimp only
    rw [enterIsolated_sensing out, bne_iff_ne.2 restored, Bool.and_true]
    rfl

theorem Isolated.refused (h : Isolated u m y) (c : RefusalCode) : Isolated u m (y.refused c) :=
  ⟨h.channel, h.sensing, h.run, h.mark, h.zone, h.own⟩

/-- Between its turn and the end of the event an isolated unit is let be. -/
theorem Isolated.through (h : Isolated u m y) (before : LetsBe u x m) (rests : (x.unit u).closable = false) (behind : LetsBe u y t) :
    Isolated u x t := by
  have at_ : (y.unit u).closable = false := by
    rw [State.unit, h.channel]
    rfl
  have unit := before.unit rests
  have calm : (y.su.units.get u).alarm ≠ .intrusion := by
    rw [h.sensing]
    exact fun e => nomatch e
  refine ⟨?_, ?_, ?_, ?_, fun busy => behind.holdless (h.zone (before.sensing.zoneBusy.trans busy)), behind.own h.own⟩
  · rw [behind.dc at_, h.channel, before.dc rests]
  · rw [behind.sensing.same calm, h.sensing, before.sensing.rested, before.sensing.handle, unit]
  · rw [behind.holds.1.runs u (bne_self_eq_false u)]
    exact h.run
  · exact (behind.holds.1.accessMarks u (bne_self_eq_false u)).trans h.mark

theorem isolate_two (x : State) (u : UnitNo) : x.isolateRefusal u = .none ∨ x.isolateRefusal u = .unitState := by
  unfold State.isolateRefusal
  split
  · exact .inl rfl
  · exact .inr rfl

/-- A named unit that ISOLATE takes. -/
theorem isolate_taken (named : x.named arg u = true)
    (takes : x.unit u = .closedLocked ∨ x.unit u = .fault ∨ x.unit u = .unknown ∨ x.unit u = .releaseRestored) (src : Node) (s0 : State) :
    Isolated u x (settle s0 (sendUnitResult src .isolate (decideUnits arg isolateUnit x))) := by
  obtain ⟨m, before, behind⟩ := command_turn (g := isolateUnit) (fun v m ne => isolateUnit_letsBe ne m) named src .isolate s0
  have rests : (x.unit u).closable = false := by rcases takes with e | e | e | e <;> rw [e] <;> rfl
  have isolated := isolateUnit_isolated (u := u) (m := m) (by rw [before.unit rests]; exact takes)
  exact (isolated.refused _).through before rests behind

theorem isolate_left (named : x.named arg u = true)
    (refused : ¬(x.unit u = .closedLocked ∨ x.unit u = .fault ∨ x.unit u = .unknown ∨ x.unit u = .releaseRestored)) (src : Node) (s0 : State) :
    KeepsUnit (x.dc.get u) ((settle s0 (sendUnitResult src .isolate (decideUnits arg isolateUnit x))).dc.get u) ∧
      KeepsSensing (x.su.units.get u) ((settle s0 (sendUnitResult src .isolate (decideUnits arg isolateUnit x))).su.units.get u) ∧
      (settle s0 (sendUnitResult src .isolate (decideUnits arg isolateUnit x))).pm.lastRefusal = .unitState := by
  refine command_refused (isolate_decides x) (fun _ _ n => isolateUnit_alerted n) (fun v m ne => isolateUnit_letsBe ne m) (isolate_two x) named
    (if_neg refused) (fun m before => isolateUnit_refused ?_) src .isolate s0
  have iff {st : UnitState} (rests : st.resting = true) : m.unit u = st ↔ x.unit u = st := before.holds.unit_iff (bne_self_eq_false u) rests
  rw [iff rfl, iff rfl, iff rfl, iff rfl]
  exact refused

/-! ### REHOME (R135) -/

/-- Unit `u` has entered HOMING out of `m`, or FAULT at once where a drive fault was held. -/
structure Homed (u : UnitNo) (m y : State) : Prop where
  homes : m.driveFault u = false → y.dc.get u = homed m u
  faults : m.driveFault u = true → y.dc.get u = { (m.dc.get u).into .fault with retries := 0, overCount := 0, attempt := 0 }

theorem rehome_two (x : State) (u : UnitNo) : x.rehomeRefusal u = .none ∨ x.rehomeRefusal u = .unitState := by
  unfold State.rehomeRefusal
  split
  · exact .inl rfl
  · exact .inr rfl

theorem homed_congr (dc : m.dc.get u = s.dc.get u) (now : m.now = s.now) (cl : m.cl = s.cl) : homed m u = homed s u := by
  unfold homed
  rw [dc, now, cl]

theorem rehome_taken (named : x.named arg u = true) (takes : x.unit u = .fault ∨ x.unit u = .unknown) (src : Node) (s0 : State) :
    Homed u x (settle s0 (sendUnitResult src .rehome (decideUnits arg rehomeUnit x))) ∧
      KeepsSensing (x.su.units.get u) ((settle s0 (sendUnitResult src .rehome (decideUnits arg rehomeUnit x))).su.units.get u) ∧
      (x.driveFault u = true → (∀ v, x.named arg v = true → v = u) →
        Reported (x.driveSeverity u) ⟨.driveFault, some u, x.seq, x.now⟩ x.fr
          (settle s0 (sendUnitResult src .rehome (decideUnits arg rehomeUnit x))).fr) := by
  obtain ⟨m, before, behind⟩ := command_turn (g := rehomeUnit) (fun v m ne => rehomeUnit_letsBe ne m) named src .rehome s0
  have rests : (x.unit u).closable = false := by rcases takes with e | e <;> rw [e] <;> rfl
  have unit := before.unit rests
  have fault : m.driveFault u = x.driveFault u := before.holds.driveFault (before.dc rests)
  obtain ⟨homes, faults⟩ := enterHoming_channel u m
  rw [rehomeUnit_taken (by rw [unit]; exact takes)] at behind
  refine ⟨⟨fun none => ?_, fun held => ?_⟩, ?_, fun held alone => ?_⟩
  · have channel := homes (fault.trans none)
    rw [behind.dc (by rw [State.unit]; dsimp only [State.refused]; rw [channel]; rfl)]
    exact channel.trans (homed_congr (before.dc rests) before.holds.2.1 before.holds.1.cl)
  · have channel := faults (fault.trans held)
    rw [behind.dc (by rw [State.unit]; dsimp only [State.refused]; rw [channel]; rfl)]
    exact channel.trans (by rw [before.dc rests])
  · refine before.sensing.trans (KeepsSensing.trans (.inl ?_) behind.sensing)
    refine (enterHoming_sensing u m).trans ?_
    rw [enteredSensing, if_neg, if_neg]
    · exact fun k => UnitState.noConfusion k.2
    · rw [unit]
      rintro ⟨out, -⟩
      rcases takes with e | e <;> rw [e] at out <;> cases out
  · have single := (decided (rehome_decides x) arg).alone u named alone
    rw [rehomeUnit_taken takes] at single
    unfold sendUnitResult
    rw [single]
    exact (enterHoming_reported held).resulted (fun e => nomatch e) s0

theorem rehome_left (named : x.named arg u = true) (refused : ¬(x.unit u = .fault ∨ x.unit u = .unknown)) (src : Node) (s0 : State) :
    KeepsUnit (x.dc.get u) ((settle s0 (sendUnitResult src .rehome (decideUnits arg rehomeUnit x))).dc.get u) ∧
      KeepsSensing (x.su.units.get u) ((settle s0 (sendUnitResult src .rehome (decideUnits arg rehomeUnit x))).su.units.get u) ∧
      (settle s0 (sendUnitResult src .rehome (decideUnits arg rehomeUnit x))).pm.lastRefusal = .unitState := by
  refine command_refused (rehome_decides x) (fun _ _ _ => rehomeUnit_alerted) (fun v m ne => rehomeUnit_letsBe ne m) (rehome_two x) named
    (if_neg refused) (fun m before => rehomeUnit_refused ?_) src .rehome s0
  have iff {st : UnitState} (rests : st.resting = true) : m.unit u = st ↔ x.unit u = st := before.holds.unit_iff (bne_self_eq_false u) rests
  rw [iff rfl, iff rfl]
  exact refused

end Sys2Proof.Machine

/-! RESTORE and ACK_RELEASE at a named unit, and O38: ISOLATE, RESTORE, REHOME and ACK_RELEASE (R135, R137, R138, R140, R172). -/

namespace Sys2Proof.Machine
variable {i : Instr} {u v : UnitNo} {s t s0 x y a b c m : State} {src : Node} {sub : SubCommand} {dest arg : Byte} {code : RefusalCode}
  {d : DoorChannel} {p q w : UnitSensing} {g : UnitNo → State → State × RefusalCode} {ρ : UnitNo → RefusalCode}

/-! ### The way back to service (R138, R140) -/

/-- Unit `u` has come back to service out of `m`. -/
structure BroughtBack (u : UnitNo) (m y : State) : Prop where
  mark : (y.dc.get u).isolationMark = (m.dc.get u).isolationMark
  closes : m.closedAndEngaged u = true → m.iu.latch = false → y.unit u = .closedLocked
  unlocks : m.closedAndEngaged u = true → m.iu.latch = true → m.driveFault u = false →
    y.dc.get u = { unlocked m u with position := 0, attempt := 0 }
  homes : m.closedAndEngaged u = false → m.driveFault u = false → y.unit u = .homing
  faults : m.driveFault u = true → m.closedAndEngaged u = false ∨ m.iu.latch = true → y.unit u = .fault
  rests : (y.unit u).closable = false
  away : y.unit u ≠ .isolated ∧ y.unit u ≠ .releaseRestored

theorem bringBack_secure (h : s.closedAndEngaged u = true) : bringBack u s = comeClosed u s := if_pos h

theorem bringBack_homes (h : s.closedAndEngaged u = false) : bringBack u s = enterHoming u s := if_neg (by rw [h]; exact Bool.false_ne_true)

/-- A unit brought back whose channel has come to be `d`, in one of the states there are for it. -/
theorem BroughtBack.of_channel (channel : y.dc.get u = d) (mark : d.isolationMark = (m.dc.get u).isolationMark)
    (closes : m.closedAndEngaged u = true → m.iu.latch = false → d.st = .closedLocked)
    (unlocks : m.closedAndEngaged u = true → m.iu.latch = true → m.driveFault u = false → d = { unlocked m u with position := 0, attempt := 0 })
    (homes : m.closedAndEngaged u = false → m.driveFault u = false → d.st = .homing)
    (faults : m.driveFault u = true → m.closedAndEngaged u = false ∨ m.iu.latch = true → d.st = .fault)
    (comes : d.st = .closedLocked ∨ d.st = .unlocking ∨ d.st = .homing ∨ d.st = .fault) : BroughtBack u m y := by
  subst channel
  refine ⟨mark, closes, unlocks, homes, faults, ?_, ?_⟩
  · rw [State.unit]
    rcases comes with e | e | e | e <;> rw [e] <;> rfl
  · rw [State.unit]
    rcases comes with e | e | e | e <;> rw [e] <;> exact ⟨(fun k => nomatch k), fun k => nomatch k⟩

theorem bringBack_back (u : UnitNo) (m : State) : BroughtBack u m (bringBack u m) := by
  rcases secure : m.closedAndEngaged u
  · rw [bringBack_homes secure]
    rcases fault : m.driveFault u
    · exact .of_channel ((enterHoming_channel u m).1 fault) rfl (fun k => absurd (secure.symm.trans k) Bool.false_ne_true)
        (fun k => absurd (secure.symm.trans k) Bool.false_ne_true) (fun _ _ => rfl) (fun k => absurd (fault.symm.trans k) Bool.false_ne_true)
        (.inr (.inr (.inl rfl)))
    · exact .of_channel ((enterHoming_channel u m).2 fault) rfl (fun k => absurd (secure.symm.trans k) Bool.false_ne_true)
        (fun k => absurd (secure.symm.trans k) Bool.false_ne_true) (fun _ k => absurd (k.symm.trans fault) Bool.false_ne_true) (fun _ _ => rfl)
        (.inr (.inr (.inr rfl)))
  · have homes (k : m.closedAndEngaged u = false) : False := Bool.false_ne_true (k.symm.trans secure)
    rw [bringBack_secure secure]
    rcases latch : m.iu.latch
    · rw [comeClosed_free latch]
      exact .of_channel (enterClosedLocked_channel u m) rfl (fun _ _ => rfl) (fun _ k => absurd (latch.symm.trans k) Bool.false_ne_true)
        (fun k => (homes k).elim) (fun _ k => k.elim (fun k => (homes k).elim) fun k => absurd (latch.symm.trans k) Bool.false_ne_true) (.inl rfl)
    · have free (k : m.iu.latch = false) : False := Bool.false_ne_true (k.symm.trans latch)
      rcases fault : m.driveFault u
      · exact .of_channel (comeClosed_unlocks latch fault) rfl (fun _ k => (free k).elim) (fun _ _ _ => rfl) (fun k => (homes k).elim)
          (fun k => absurd (fault.symm.trans k) Bool.false_ne_true) (.inr (.inl rfl))
      · exact .of_channel (comeClosed_faults latch fault) rfl (fun _ k => (free k).elim)
          (fun _ _ k => absurd (k.symm.trans fault) Bool.false_ne_true) (fun k => (homes k).elim) (fun _ _ => rfl) (.inr (.inr (.inr rfl)))

theorem BroughtBack.refused (h : BroughtBack u m y) (c : RefusalCode) : BroughtBack u m (y.refused c) :=
  ⟨h.mark, h.closes, h.unlocks, h.homes, h.faults, h.rests, h.away⟩

theorem BroughtBack.behind (h : BroughtBack u m y) (behind : LetsBe u y t) : BroughtBack u m t := by
  have dc := behind.dc h.rests
  have unit := behind.unit h.rests
  exact ⟨by rw [dc]; exact h.mark, by rw [unit]; exact h.closes, by rw [dc]; exact h.unlocks, by rw [unit]; exact h.homes,
    by rw [unit]; exact h.faults, by rw [unit]; exact h.rests, by rw [unit]; exact h.away⟩

theorem BroughtBack.before (h : BroughtBack u m y) (holds : Holds (fun v => v != u) x m) (dc : m.dc.get u = x.dc.get u) : BroughtBack u x y := by
  have secure := holds.closedAndEngaged u
  have latch := holds.1.latch
  have fault := holds.driveFault dc
  obtain ⟨mark, closes, unlocks, homes, faults, rests, away⟩ := h
  rw [secure, latch] at closes
  rw [secure, latch, fault] at unlocks
  rw [secure, fault] at homes
  rw [secure, latch, fault] at faults
  have same : unlocked m u = unlocked x u := by
    unfold unlocked
    rw [dc, holds.2.1]
  rw [same] at unlocks
  rw [dc] at mark
  exact ⟨mark, closes, unlocks, homes, faults, rests, away⟩

theorem bringBack_own (u : UnitNo) (m : State) : OwnReleaseFollows (bringBack u m) := by
  rcases secure : m.closedAndEngaged u
  · rw [bringBack_homes secure, enterHoming_eq]
    exact moves_ownRelease (takeHeldDriveFault_moves (i := .supplyFall) u _) (moveUnit_ownRelease ..)
  · rw [bringBack_secure secure]
    rcases latch : m.iu.latch
    · rw [comeClosed_free latch]
      exact moveUnit_ownRelease ..
    · rw [comeClosed_latched latch]
      exact moves_ownRelease (takeHeldDriveFault_moves (i := .supplyFall) u _) (moveUnit_ownRelease ..)

/-- A drive fault held as a unit is brought back to a driven state. -/
theorem bringBack_reported (held : m.driveFault u = true) (driven : m.closedAndEngaged u = false ∨ m.iu.latch = true)
    (quiet : m.unit u = .isolated ∨ m.gapAsserted u = false) :
    Reported (m.driveSeverity u) ⟨.driveFault, some u, m.seq, m.now⟩ m.fr (bringBack u m).fr := by
  rcases secure : m.closedAndEngaged u
  · rw [bringBack_homes secure]
    exact enterHoming_reported held
  · rw [bringBack_secure secure, State.driveSeverity, secure, if_pos rfl]
    exact comeClosed_reported (driven.resolve_left fun k => Bool.false_ne_true (k.symm.trans secure)) held secure quiet

/-! ### The sensing of a unit brought back (R148, R154) -/

theorem locked_same (h : p.alarm ≠ .none ∨ p.gapAsserted = false) (before : Bool) : p.locked before = p := by
  refine if_neg fun k => ?_
  rcases h with e | e
  · exact e k.1
  · exact Bool.false_ne_true (e.symm.trans k.2)

/-- Out of ISOLATED the sensing starts anew, and no alarm is raised with it. -/
theorem bringBack_begun (out : m.unit u = .isolated) :
    KeepsSensing ((m.su.units.get u).begun (m.pins.units.get u).edge m.now) ((bringBack u m).su.units.get u) := by
  rcases secure : m.closedAndEngaged u
  · rw [bringBack_homes secure, enterHoming_sensing, enteredSensing, if_pos ⟨out, fun e => nomatch e⟩]
    exact .inl rfl
  · have closed := (comeClosed_sensing u m).1
    rw [enterClosedLocked_sensing, enteredSensing, if_pos ⟨out, fun e => nomatch e⟩, locked_same (.inr rfl)] at closed
    rw [bringBack_secure secure]
    exact closed

theorem bringBack_homes_sensing (out : m.unit u ≠ .isolated) (secure : m.closedAndEngaged u = false) :
    (bringBack u m).su.units.get u = m.su.units.get u := by
  rw [bringBack_homes secure, enterHoming_sensing, enteredSensing, if_neg fun k => out k.1, if_neg fun k => UnitState.noConfusion k.2]

/-- Out of another state an alarm is raised where the filter stands asserted and none stood. -/
theorem bringBack_locked (out : m.unit u ≠ .isolated) (secure : m.closedAndEngaged u = true) :
    KeepsSensing ((m.su.units.get u).locked m.berthState.beforeTrain) ((bringBack u m).su.units.get u) ∧
      (m.unsecurable → (bringBack u m).su.units.get u = (m.su.units.get u).locked m.berthState.beforeTrain) := by
  have closed := comeClosed_sensing u m
  rw [enterClosedLocked_sensing, enteredSensing, if_neg fun k => out k.1, if_neg fun k => UnitState.noConfusion k.2] at closed
  rw [bringBack_secure secure]
  exact closed

/-! ### RESTORE (R138) -/

/-- A unit whose isolation mark RESTORE has cleared. -/
def State.unmarked (u : UnitNo) (s : State) : State := s.modDc u fun d => { d with isolationMark := false }

theorem unmarked_dc (u : UnitNo) (s : State) : (s.unmarked u).dc.get u = { s.dc.get u with isolationMark := false } := Quad.get_set_self ..

theorem unmarked_driveFault (u : UnitNo) (s : State) : (s.unmarked u).driveFault u = s.driveFault u := by
  rw [State.driveFault, unmarked_dc]
  rfl

theorem restore_two (x : State) (u : UnitNo) : x.restoreRefusal u = .none ∨ x.restoreRefusal u = .unitState := by
  unfold State.restoreRefusal
  split
  · exact .inl rfl
  · exact .inr rfl

theorem restore_taken (named : x.named arg u = true) (takes : x.unit u = .isolated) (src : Node) (s0 : State) :
    BroughtBack u (x.unmarked u) (settle s0 (sendUnitResult src .restore (decideUnits arg restoreUnit x))) ∧
      KeepsSensing ((x.su.units.get u).begun (x.pins.units.get u).edge x.now)
        ((settle s0 (sendUnitResult src .restore (decideUnits arg restoreUnit x))).su.units.get u) ∧
      (x.driveFault u = true → x.closedAndEngaged u = false ∨ x.iu.latch = true → (∀ v, x.named arg v = true → v = u) →
        Reported (x.driveSeverity u) ⟨.driveFault, some u, x.seq, x.now⟩ x.fr
          (settle s0 (sendUnitResult src .restore (decideUnits arg restoreUnit x))).fr) := by
  obtain ⟨m, before, behind⟩ := command_turn (g := restoreUnit) (fun v m ne => restoreUnit_letsBe ne m) named src .restore s0
  have rests : (x.unit u).closable = false := by rw [takes]; rfl
  have dc := before.dc rests
  have at_ : m.unit u = .isolated := (before.unit rests).trans takes
  rw [restoreUnit_taken at_] at behind
  refine ⟨?_, ?_, fun held driven alone => ?_⟩
  · have holds : Holds (fun v => v != u) (x.unmarked u) (m.unmarked u) :=
      ⟨{ before.holds.1 with
          noCycle := before.holds.1.noCycle
          doors := fun v ne => ?_
          still := fun n v ne => ?_ }, before.holds.2⟩
    · exact ((bringBack_back u (m.unmarked u)).before holds (by rw [unmarked_dc, unmarked_dc, dc])).refused _ |>.behind behind
    · rw [bne_eq_false_iff_eq.1 ne, unmarked_dc, unmarked_dc, dc]
      exact .inl rfl
    · rw [bne_eq_false_iff_eq.1 ne, unmarked_dc, unmarked_dc, dc]
  · have begun := before.sensing.begun (x.pins.units.get u).edge x.now
    have back := bringBack_begun (u := u) (m := m.unmarked u) (by rw [State.unit, unmarked_dc]; exact at_)
    refine (begun.trans ?_).trans behind.sensing
    have pins : (m.unmarked u).pins = x.pins := before.holds.2.2
    have now : (m.unmarked u).now = x.now := before.holds.2.1
    rw [pins, now] at back
    exact back
  · have single := (decided (restore_decides x) arg).alone u named alone
    rw [restoreUnit_taken takes] at single
    unfold sendUnitResult
    rw [single]
    exact (bringBack_reported (m := x.unmarked u) ((unmarked_driveFault u x).trans held) driven
      (.inl (by rw [State.unit, unmarked_dc]; exact takes))).resulted (fun e => nomatch e) s0

theorem restore_left (named : x.named arg u = true) (refused : x.unit u ≠ .isolated) (src : Node) (s0 : State) :
    KeepsUnit (x.dc.get u) ((settle s0 (sendUnitResult src .restore (decideUnits arg restoreUnit x))).dc.get u) ∧
      KeepsSensing (x.su.units.get u) ((settle s0 (sendUnitResult src .restore (decideUnits arg restoreUnit x))).su.units.get u) ∧
      (settle s0 (sendUnitResult src .restore (decideUnits arg restoreUnit x))).pm.lastRefusal = .unitState :=
  command_refused (restore_decides x) (fun _ _ n => restoreUnit_alerted n) (fun _ _ ne => restoreUnit_letsBe ne _) (restore_two x) named
    (if_neg refused) (fun _ before => restoreUnit_refused fun e => refused ((before.holds.unit_iff (bne_self_eq_false u) rfl).1 e)) src .restore s0

/-! ### ACK_RELEASE (R140, R172) -/

theorem ackRelease_two (x : State) (u : UnitNo) : x.ackRefusal u = .none ∨ x.ackRefusal u = .unitState := by
  unfold State.ackRefusal
  split
  · exact .inl rfl
  · exact .inr rfl

theorem ackReleaseUnit_isolates (h : m.unit u = .releaseRestored) (mark : (m.dc.get u).isolationMark = true) :
    ackReleaseUnit u m = (enterIsolated true u (consumeHandle u m), .none) := by
  unfold ackReleaseUnit
  rw [if_pos h]
  exact congrArg (·, RefusalCode.none) (if_pos mark)

theorem ackReleaseUnit_brings (h : m.unit u = .releaseRestored) (mark : (m.dc.get u).isolationMark = false) :
    ackReleaseUnit u m = (bringBack u (consumeHandle u m), .none) := by
  unfold ackReleaseUnit
  rw [if_pos h]
  exact congrArg (·, RefusalCode.none) (if_neg (by rw [show (consumeHandle u m).dc = m.dc from rfl, mark]; exact Bool.false_ne_true))

theorem ackReleaseUnit_refused (h : m.unit u ≠ .releaseRestored) : ackReleaseUnit u m = (m, .unitState) := if_neg h

/-- A unit's sensing with its handle capture consumed. -/
def UnitSensing.consumed (p : UnitSensing) : UnitSensing := { p with handle := ⟨p.handle.live, false⟩ }

theorem consumeHandle_sensing (u : UnitNo) (s : State) : (consumeHandle u s).su.units.get u = (s.su.units.get u).consumed := Quad.get_set_self ..

theorem KeepsSensing.consumed (h : KeepsSensing p q) : KeepsSensing p.consumed q.consumed := by
  rcases h with rfl | ⟨intrusion, rfl⟩
  · exact .inl rfl
  · exact .inr ⟨intrusion, rfl⟩

theorem ackRelease_left (named : x.named arg u = true) (refused : x.unit u ≠ .releaseRestored) (src : Node) (s0 : State) :
    KeepsUnit (x.dc.get u) ((settle s0 (sendUnitResult src .ackRelease (decideUnits arg ackReleaseUnit x))).dc.get u) ∧
      KeepsSensing (x.su.units.get u) ((settle s0 (sendUnitResult src .ackRelease (decideUnits arg ackReleaseUnit x))).su.units.get u) ∧
      (settle s0 (sendUnitResult src .ackRelease (decideUnits arg ackReleaseUnit x))).pm.lastRefusal = .unitState :=
  command_refused (ackRelease_decides x) (fun _ _ n => ackReleaseUnit_alerted n) (fun _ _ ne => ackReleaseUnit_letsBe ne _) (ackRelease_two x) named
    (if_neg refused) (fun _ before => ackReleaseUnit_refused fun e => refused ((before.holds.unit_iff (bne_self_eq_false u) rfl).1 e)) src .ackRelease s0

/-- A unit that stood under the isolation mark is put back to ISOLATED. -/
theorem ackRelease_isolates (named : x.named arg u = true) (takes : x.unit u = .releaseRestored) (mark : (x.dc.get u).isolationMark = true)
    (src : Node) (s0 : State) :
    let t := settle s0 (sendUnitResult src .ackRelease (decideUnits arg ackReleaseUnit x))
    t.unit u = .isolated ∧ t.su.units.get u = (x.su.units.get u).consumed.rested ∧ OwnReleaseFollows t := by
  obtain ⟨m, before, behind⟩ := command_turn (g := ackReleaseUnit) (fun v m ne => ackReleaseUnit_letsBe ne m) named src .ackRelease s0
  have rests : (x.unit u).closable = false := by rw [takes]; rfl
  have at_ := (before.unit rests).trans takes
  rw [ackReleaseUnit_isolates at_ (by rw [before.dc rests]; exact mark)] at behind
  have channel : (enterIsolated true u (consumeHandle u m)).unit u = .isolated := congrArg DoorChannel.st (moveUnit_channel ..)
  have sensing : (enterIsolated true u (consumeHandle u m)).su.units.get u = (x.su.units.get u).consumed.rested := by
    rw [enterIsolated_sensing (m := consumeHandle u m) (by rw [show (consumeHandle u m).unit u = m.unit u from rfl, at_]; exact fun e => nomatch e),
      consumeHandle_sensing, before.sensing.consumed.rested]
  refine ⟨?_, ?_, behind.own (moveUnit_ownRelease ..)⟩
  · exact (behind.unit (by dsimp only [State.refused, State.unit] at channel ⊢; rw [channel]; rfl)).trans channel
  · refine (behind.sensing.same ?_).trans sensing
    dsimp only [State.refused]
    rw [sensing]
    exact fun e => nomatch e

/-- A unit brought back, with the sensing it keeps or the alarm it raises. -/
theorem ackRelease_brings (named : x.named arg u = true) (takes : x.unit u = .releaseRestored) (mark : (x.dc.get u).isolationMark = false)
    (src : Node) (s0 : State) :
    let t := settle s0 (sendUnitResult src .ackRelease (decideUnits arg ackReleaseUnit x))
    let p := (x.su.units.get u).consumed
    BroughtBack u x t ∧ OwnReleaseFollows t ∧
      (x.closedAndEngaged u = true → p.alarm = .none → p.gapAsserted = true →
        t.su.units.get u = { p with alarm := if x.berthState.beforeTrain then .intrusion else .trap }) ∧
      (x.closedAndEngaged u = false ∨ p.alarm ≠ .none ∨ p.gapAsserted = false → KeepsSensing p (t.su.units.get u)) ∧
      (x.driveFault u = true → x.closedAndEngaged u = false ∨ x.iu.latch = true → (∀ v, x.named arg v = true → v = u) →
        x.gapAsserted u = false → Reported (x.driveSeverity u) ⟨.driveFault, some u, x.seq, x.now⟩ x.fr t.fr) := by
  obtain ⟨m, before, behind⟩ := command_turn (g := ackReleaseUnit) (fun v m ne => ackReleaseUnit_letsBe ne m) named src .ackRelease s0
  have rests : (x.unit u).closable = false := by rw [takes]; rfl
  have at_ := (before.unit rests).trans takes
  have dc := before.dc rests
  rw [ackReleaseUnit_brings at_ (by rw [dc]; exact mark)] at behind
  have out : (consumeHandle u m).unit u ≠ .isolated := by
    show m.unit u ≠ .isolated
    rw [at_]
    exact fun e => nomatch e
  have back : BroughtBack u m (bringBack u (consumeHandle u m)) := by
    have b := bringBack_back u (consumeHandle u m)
    exact ⟨b.mark, b.closes, b.unlocks, b.homes, b.faults, b.rests, b.away⟩
  have consumed : (consumeHandle u m).su.units.get u = (m.su.units.get u).consumed := consumeHandle_sensing u m
  have secure : (consumeHandle u m).closedAndEngaged u = x.closedAndEngaged u := before.holds.closedAndEngaged u
  dsimp only
  refine ⟨((back.before before.holds dc).refused _).behind behind, behind.own (bringBack_own ..), fun closed none gap => ?_, fun left => ?_,
    fun held driven alone quiet => ?_⟩
  · have same : m.su.units.get u = x.su.units.get u := before.sensing.same (by rw [show (x.su.units.get u).alarm = .none from none]; exact fun e => nomatch e)
    obtain ⟨keeps, calm⟩ := bringBack_locked out (secure.trans closed)
    rw [consumed, same] at keeps calm
    have raised (b : Bool) : (x.su.units.get u).consumed.locked b = { (x.su.units.get u).consumed with alarm := if b then .intrusion else .trap } :=
      if_pos ⟨none, gap⟩
    rw [raised] at keeps calm
    have berth := before.holds.1.toLeaves.berthState
    by_cases early : x.berthState.beforeTrain = true
    · have unsecurable : x.unsecurable := by
        constructor <;> (intro e; rw [e] at early; cases early)
      have stays := before.holds.1.toLeaves.unsecurable unsecurable
      have later : m.unsecurable := unsecurable.kept stays
      have last : (bringBack u (consumeHandle u m)).unsecurable :=
        (show (consumeHandle u m).unsecurable from later).kept ((bringBack_holds u (consumeHandle u m)).1.toLeaves.unsecurable later)
      rw [behind.calm last]
      refine (calm later).trans ?_
      rw [show (consumeHandle u m).berthState = x.berthState from stays]
    · have late : (consumeHandle u m).berthState.beforeTrain = false := by
        rw [Bool.not_eq_true] at early
        rcases berth with same | ⟨secured, -⟩
        · exact (congrArg BerthState.beforeTrain same).trans early
        · exact congrArg BerthState.beforeTrain secured
      rw [late] at keeps
      rw [Bool.not_eq_true] at early
      rw [early]
      have whole := keeps.trans behind.sensing
      exact whole.same fun e => nomatch e
  · have kept : KeepsSensing (x.su.units.get u).consumed (m.su.units.get u).consumed := before.sensing.consumed
    refine (kept.trans ?_).trans behind.sensing
    rcases closed : (consumeHandle u m).closedAndEngaged u
    · rw [← consumed]
      exact .inl (bringBack_homes_sensing out closed)
    · have keeps := (bringBack_locked out closed).1
      rw [consumed, locked_same] at keeps
      · exact keeps
      · rcases left with open_ | alarm | released
        · exact absurd ((closed.symm.trans secure).trans open_) fun e => nomatch e
        · refine .inl ?_
          rcases kept with same | ⟨intrusion, same⟩
          · rw [same]
            exact alarm
          · rw [same]
            exact fun e => nomatch e
        · refine .inr ?_
          rcases kept with same | ⟨-, same⟩ <;> rw [same] <;> exact released
  · have single := (decided (ackRelease_decides x) arg).alone u named alone
    rw [ackReleaseUnit_brings takes mark] at single
    unfold sendUnitResult
    rw [single]
    have gap : (consumeHandle u x).gapAsserted u = false := by
      rw [State.gapAsserted, consumeHandle_sensing]
      exact quiet
    exact (bringBack_reported (m := consumeHandle u x) held driven (.inr gap)).resulted (fun e => nomatch e) s0

end Sys2Proof.Machine

/-! O38: ISOLATE, RESTORE, REHOME and ACK_RELEASE, unit by unit (R135, R137, R138, R140, R172). -/

namespace Sys2Proof.Machine
variable {u v : UnitNo} {s t s0 x : State} {src : Node} {sub : SubCommand} {dest arg : Byte} {g : UnitNo → State → State × RefusalCode}
  {ρ : UnitNo → RefusalCode}

/-- The frame of a COMMAND that names units. -/
theorem units_keep (by_ : DecidesBy g ρ x) (arg : Byte) (src : Node) (sub : SubCommand) (s0 : State) :
    Holds (x.named arg) (x.refused (settle s0 (sendUnitResult src sub (decideUnits arg g x))).pm.lastRefusal)
      (settle s0 (sendUnitResult src sub (decideUnits arg g x))) := command_holds (decided by_ arg).holds s0

/-- What RESTORE leaves of a named unit. -/
theorem restore_unit (named : x.named arg u = true) (unit : x.unit u = s0.unit u) :
    let t := settle s0 (sendUnitResult src .restore (decideUnits arg restoreUnit x))
    (x.unit u = .isolated → (t.dc.get u).isolationMark = false ∧
      KeepsSensing ((x.su.units.get u).begun (x.pins.units.get u).edge x.now) (t.su.units.get u) ∧
      t.out.contact = t.contactCondition ∧
      (x.closedAndEngaged u = true → x.iu.latch = false → t.unit u = .closedLocked) ∧
      (x.closedAndEngaged u = true → x.iu.latch = true → x.driveFault u = false →
        t.dc.get u = { unlocked x u with isolationMark := false, position := 0, attempt := 0 }) ∧
      (x.closedAndEngaged u = false → x.driveFault u = false → t.unit u = .homing) ∧
      (x.driveFault u = true → x.closedAndEngaged u = false ∨ x.iu.latch = true →
        t.unit u = .fault ∧
          ((∀ v, x.named arg v = true → v = u) →
            Reported (if x.closedAndEngaged u = true then .minor else .severe)
              ⟨.driveFault, some u, x.seq, x.now⟩ x.fr t.fr))) ∧
    (x.unit u ≠ .isolated →
      KeepsUnit (x.dc.get u) (t.dc.get u) ∧ KeepsSensing (x.su.units.get u) (t.su.units.get u) ∧ t.pm.lastRefusal = .unitState) := by
  refine ⟨fun takes => ?_, fun refused => restore_left named refused src s0⟩
  obtain ⟨back, begun, reported⟩ := restore_taken named takes src s0
  have changed := settle_changed_contact fun same => back.away.1 ((same.trans unit.symm).trans takes)
  have fault := unmarked_driveFault u x
  refine ⟨?_, begun, changed, back.closes, fun secure latch none => ?_, fun open_ none => back.homes open_ (fault.trans none),
    fun held driven => ⟨back.faults (fault.trans held) driven, reported held driven⟩⟩
  · rw [back.mark, unmarked_dc]
  · rw [back.unlocks secure latch (fault.trans none)]
    unfold unlocked
    rw [unmarked_dc]
    rfl

/-- What ACK_RELEASE leaves of a named unit. -/
theorem ackRelease_unit (named : x.named arg u = true) (unit : x.unit u = s0.unit u) :
    let t := settle s0 (sendUnitResult src .ackRelease (decideUnits arg ackReleaseUnit x))
    (x.unit u = .releaseRestored → (t.su.units.get u).handle.held = false ∧ OwnReleaseFollows t ∧
      t.out.contact = t.contactCondition ∧
      (∀ p : UnitSensing, p = (x.su.units.get u).consumed →
        ((x.dc.get u).isolationMark = true → t.su.units.get u = p.rested) ∧
        ((x.dc.get u).isolationMark = false →
          (x.closedAndEngaged u = true → p.alarm = .none → p.gapAsserted = true →
            t.su.units.get u = { p with alarm := if x.berthState = .idle ∨ x.berthState = .announced then .intrusion else .trap }) ∧
          (x.closedAndEngaged u = false ∨ p.alarm ≠ .none ∨ p.gapAsserted = false → KeepsSensing p (t.su.units.get u)))) ∧
      ((x.dc.get u).isolationMark = true → t.unit u = .isolated) ∧
      ((x.dc.get u).isolationMark = false → x.closedAndEngaged u = true → x.iu.latch = false → t.unit u = .closedLocked) ∧
      ((x.dc.get u).isolationMark = false → x.closedAndEngaged u = true → x.iu.latch = true → x.driveFault u = false →
        t.dc.get u = { unlocked x u with position := 0, attempt := 0 }) ∧
      ((x.dc.get u).isolationMark = false → x.closedAndEngaged u = false → x.driveFault u = false → t.unit u = .homing) ∧
      ((x.dc.get u).isolationMark = false → x.driveFault u = true → x.closedAndEngaged u = false ∨ x.iu.latch = true →
        t.unit u = .fault ∧
          ((∀ v, x.named arg v = true → v = u) → x.gapAsserted u = false →
            Reported (if x.closedAndEngaged u = true then .minor else .severe)
              ⟨.driveFault, some u, x.seq, x.now⟩ x.fr t.fr))) ∧
    (x.unit u ≠ .releaseRestored →
      KeepsUnit (x.dc.get u) (t.dc.get u) ∧ KeepsSensing (x.su.units.get u) (t.su.units.get u) ∧ t.pm.lastRefusal = .unitState) := by
  refine ⟨fun takes => ?_, fun refused => ackRelease_left named refused src s0⟩
  have before : BerthState.beforeTrain x.berthState = true ↔ x.berthState = .idle ∨ x.berthState = .announced := by
    cases x.berthState <;> simp [BerthState.beforeTrain]
  rcases mark : (x.dc.get u).isolationMark
  · have marked : ¬(false = true) := Bool.false_ne_true
    obtain ⟨back, own, raises, keeps, reported⟩ := ackRelease_brings named takes mark src s0
    have changed := settle_changed_contact fun same => back.away.2 ((same.trans unit.symm).trans takes)
    simp only [before] at raises
    refine ⟨?_, own, changed, fun p e => ⟨fun k => absurd k marked, fun _ => ?_⟩, fun k => absurd k marked, fun _ => back.closes,
      fun _ => back.unlocks, fun _ => back.homes, fun _ held driven => ⟨back.faults held driven, reported held driven⟩⟩
    · by_cases raised : x.closedAndEngaged u = true ∧ (x.su.units.get u).consumed.alarm = .none ∧ (x.su.units.get u).consumed.gapAsserted = true
      · rw [raises raised.1 raised.2.1 raised.2.2]
        rfl
      · rw [(keeps ?_).handle]
        · rfl
        · by_contra none
          rw [not_or, not_or, Bool.not_eq_false, not_not, Bool.not_eq_false] at none
          exact raised none
    · subst e
      exact ⟨raises, keeps⟩
  · obtain ⟨isolated, sensing, own⟩ := ackRelease_isolates named takes mark src s0
    have changed := settle_changed_contact (s0 := s0) (y := sendUnitResult src .ackRelease (decideUnits arg ackReleaseUnit x)) (u := u) fun same => by
      rw [isolated, ← unit, takes] at same
      cases same
    have marked : ¬(true = false) := fun e => nomatch e
    refine ⟨?_, own, changed, fun p e => ⟨fun _ => ?_, fun k => absurd k marked⟩, fun _ => isolated, fun k => absurd k marked, fun k => absurd k marked,
      fun k => absurd k marked, fun k => absurd k marked⟩
    · rw [sensing]
      rfl
    · rw [e]
      exact sensing

/-- What REHOME leaves of a named unit. -/
theorem rehome_unit (named : x.named arg u = true) :
    let t := settle s0 (sendUnitResult src .rehome (decideUnits arg rehomeUnit x))
    KeepsSensing (x.su.units.get u) (t.su.units.get u) ∧
    (x.unit u = .fault ∨ x.unit u = .unknown → x.driveFault u = false →
      t.unit u = .homing ∧ (t.dc.get u).retries = 0 ∧ (t.dc.get u).enable = true ∧ (t.dc.get u).solenoid = false ∧
        (t.dc.get u).homingTimer = some (after x.now (2 * x.cl.config.params.travelTimeout))) ∧
    (x.unit u = .fault ∨ x.unit u = .unknown → x.driveFault u = true →
      t.dc.get u = { (x.dc.get u).into .fault with retries := 0, overCount := 0, attempt := 0 } ∧
        ((∀ v, x.named arg v = true → v = u) →
          Reported (if x.closedAndEngaged u = true then .minor else .severe) ⟨.driveFault, some u, x.seq, x.now⟩ x.fr t.fr)) ∧
    (x.unit u ≠ .fault → x.unit u ≠ .unknown → KeepsUnit (x.dc.get u) (t.dc.get u) ∧ t.pm.lastRefusal = .unitState) := by
  refine ⟨?_, fun takes none => ?_, fun takes held => ?_, fun fault unknown => ?_⟩
  · by_cases takes : x.unit u = .fault ∨ x.unit u = .unknown
    · exact (rehome_taken named takes src s0).2.1
    · exact (rehome_left named takes src s0).2.1
  · have channel := (rehome_taken named takes src s0).1.homes none
    rw [State.unit, channel]
    exact ⟨rfl, rfl, rfl, rfl, rfl⟩
  · obtain ⟨homed, -, reported⟩ := rehome_taken named takes src s0
    exact ⟨homed.faults held, reported held⟩
  · obtain ⟨kept, -, code⟩ := rehome_left (s0 := s0) (src := src) named (not_or.2 ⟨fault, unknown⟩)
    exact ⟨kept, code⟩

/-- What ISOLATE leaves of a named unit. -/
theorem isolate_unit (named : x.named arg u = true) (unit : x.unit u = s0.unit u) :
    let t := settle s0 (sendUnitResult src .isolate (decideUnits arg isolateUnit x))
    (x.unit u = .closedLocked ∨ x.unit u = .fault ∨ x.unit u = .unknown ∨ x.unit u = .releaseRestored →
      Isolated u x t ∧ t.out.contact = t.contactCondition) ∧
    (x.unit u ≠ .closedLocked → x.unit u ≠ .fault → x.unit u ≠ .unknown → x.unit u ≠ .releaseRestored →
      KeepsUnit (x.dc.get u) (t.dc.get u) ∧ KeepsSensing (x.su.units.get u) (t.su.units.get u) ∧ t.pm.lastRefusal = .unitState) := by
  refine ⟨fun takes => ?_, fun locked fault unknown restored => isolate_left named ?_ src s0⟩
  · have isolated := isolate_taken named takes src s0
    refine ⟨isolated, settle_changed_contact (u := u) fun same => ?_⟩
    rw [State.unit, isolated.channel, ← unit] at same
    rcases takes with e | e | e | e <;> (rw [e] at same; cases same)
  · rw [not_or, not_or, not_or]
    exact ⟨locked, fault, unknown, restored⟩

theorem exec_units (run : s.cl.phase = .running) (addressed : Addressed ⟨src, .command, commandPayload sub dest arg⟩ dest s) :
    onFrameSettling ⟨src, .command, commandPayload sub dest arg⟩ (onCommand src sub dest arg (unitCommand src sub arg g)) s =
      settle s (sendUnitResult src sub (decideUnits arg g (noteActivity src false s))) := exec_command_running run addressed

/-- Settles O38: each of the four sub-commands by what it leaves of a named unit taken or refused, and by the frame of its units. -/
theorem unitCommands : Obligations.UnitCommands := by
  unfold Obligations.UnitCommands
  refine fun src dest arg s run => ⟨fun addressed => ?isolate, fun addressed => ?restore, fun addressed => ?rehome, fun addressed => ?ack⟩
  case isolate =>
    obtain ⟨keeps, now, pins⟩ := units_keep (isolate_decides (noteActivity src false s)) arg src .isolate s
    refine ⟨_, congrArg Host.Outcome.next (exec_units (g := isolateUnit) run addressed), now, pins, fun u named => ?_, keeps⟩
    obtain ⟨taken, left⟩ := isolate_unit (s0 := s) (src := src) (x := noteActivity src false s) named rfl
    refine ⟨fun takes => ?_, left⟩
    obtain ⟨isolated, contact⟩ := taken takes
    have channel := isolated.channel
    exact ⟨congrArg DoorChannel.st channel, congrArg DoorChannel.isolationMark channel, congrArg DoorChannel.enable channel,
      congrArg DoorChannel.solenoid channel, isolated.sensing, isolated.run, isolated.mark, isolated.zone, isolated.own, contact⟩
  case restore =>
    obtain ⟨keeps, now, pins⟩ := units_keep (restore_decides (noteActivity src false s)) arg src .restore s
    exact ⟨_, congrArg Host.Outcome.next (exec_units (g := restoreUnit) run addressed), now, pins,
      fun u named => restore_unit (s0 := s) (src := src) (x := noteActivity src false s) named rfl, keeps⟩
  case rehome =>
    obtain ⟨keeps, now, pins⟩ := units_keep (rehome_decides (noteActivity src false s)) arg src .rehome s
    exact ⟨_, congrArg Host.Outcome.next (exec_units (g := rehomeUnit) run addressed), now, pins,
      fun u named => rehome_unit (s0 := s) (src := src) (x := noteActivity src false s) named, keeps⟩
  case ack =>
    obtain ⟨keeps, now, pins⟩ := units_keep (ackRelease_decides (noteActivity src false s)) arg src .ackRelease s
    exact ⟨_, congrArg Host.Outcome.next (exec_units (g := ackReleaseUnit) run addressed), now, pins,
      fun u named => ackRelease_unit (s0 := s) (src := src) (x := noteActivity src false s) named rfl, keeps⟩

end Sys2Proof.Machine

/-! The ends of a unit's movements but the last one (R121, R125, R127, R129, R136). -/

namespace Sys2Proof.Machine
variable {i : Instr} {u v : UnitNo} {s t s0 x y : State} {st : UnitState}

theorem exec_onUnitIn {g : State → State} (exec : Sys2Proof.Machine.exec i s = .next (onUnitIn u st g s)) (active : s.active u = true)
    (at_ : s.unit u = st) : Sys2Proof.Machine.exec i s = .next (settle s (g s)) := by
  rw [exec, onUnitIn_at active at_]

/-! ### Full travel (R125, R129) -/

/-- The channel at full travel or past it. -/
def fullTravel (s : State) (u : UnitNo) : DoorChannel :=
  { s.dc.get u with position := max (s.dc.get u).position (s.cl.config.units.get u).travel }

theorem atFullTravel_eq (u : UnitNo) (s : State) : atFullTravel u s = s.setDc u (fullTravel s u) := rfl

theorem atFullTravel_dc (u : UnitNo) (s : State) : (atFullTravel u s).dc.get u = fullTravel s u := Quad.get_set_self ..

theorem atFullTravel_unit (u : UnitNo) (s : State) : (atFullTravel u s).unit u = s.unit u := by
  rw [State.unit, atFullTravel_dc]
  rfl

/-- REVERSING at full travel enters its target. -/
theorem reversing_clause (active : s.active u = true) (at_ : s.unit u = .reversing) :
    ∃ t, Sys2Proof.Machine.exec (.reversingComplete u) s = .next t ∧
      ((s.dc.get u).target = .reopenWait →
        Ends
          (s.setDc u
            { (s.dc.get u).into .reopenWait with
              position := max (s.dc.get u).position (s.cl.config.units.get u).travel
              pauseTimer := some (after s.now s.cl.config.params.reopenPause) }) t) ∧
      ((s.dc.get u).target = .opened →
        Ends
          (s.setDc u
            { (s.dc.get u).into .opened with
              attempt := 0, position := max (s.dc.get u).position (s.cl.config.units.get u).travel }) t) := by
  have out : (atFullTravel u s).unit u ≠ .isolated := by
    rw [atFullTravel_unit, at_]
    exact fun e => nomatch e
  refine ⟨_, exec_onUnitIn rfl active at_, fun target => ?_, fun target => ?_⟩
  · have ends := reverseDone_ends_wait out (by rw [atFullTravel_dc]; exact target)
    rw [atFullTravel_dc, atFullTravel_eq, setDc_setDc] at ends
    exact ends.settled s
  · have ends := reverseDone_ends_open out (by rw [atFullTravel_dc]; exact target)
    rw [atFullTravel_dc, atFullTravel_eq, setDc_setDc] at ends
    exact ends.settled s

/-- A state in which one full opening of unit `u` more is counted. -/
def State.opensCounted (u : UnitNo) (s : State) : State := s.modUnitCounters u fun c => { c with openCycles := c.openCycles.bump }

theorem opensCounted_counter (u : UnitNo) (s : State) :
    ((s.opensCounted u).fr.unitCounters.get u).openCycles = (s.fr.unitCounters.get u).openCycles.bump :=
  congrArg UnitCounters.openCycles (Quad.get_set_self ..)

/-- What every event's end leaves of a unit's openings. -/
theorem Ends.openCycles (h : Ends s t) : (t.fr.unitCounters.get u).openCycles = (s.fr.unitCounters.get u).openCycles := by
  have same := congrArg UnitCounters.openCycles (h.1.unitCounters u rfl)
  exact same

theorem opening_clause (active : s.active u = true) (at_ : s.unit u = .opening) (ready : (s.dc.get u).pendingClose = false) :
    ∃ t, Sys2Proof.Machine.exec (.openingComplete u) s = .next t ∧
      (t.fr.unitCounters.get u).openCycles = (s.fr.unitCounters.get u).openCycles.bump ∧
      Ends
        ((s.modUnitCounters u fun c => { c with openCycles := c.openCycles.bump }).setDc u
          { (s.dc.get u).into .opened with
            attempt := 0, position := max (s.dc.get u).position (s.cl.config.units.get u).travel }) t := by
  have out : (atFullTravel u s).unit u ≠ .isolated := by
    rw [atFullTravel_unit, at_]
    exact fun e => nomatch e
  have ends := openingDone_ends out (by rw [atFullTravel_dc]; exact ready)
  have counted : (atFullTravel u s).modUnitCounters u (fun c => { c with openCycles := c.openCycles.bump }) =
      (s.opensCounted u).setDc u (fullTravel s u) := rfl
  rw [atFullTravel_dc, counted, setDc_setDc] at ends
  have whole := ends.settled s
  exact ⟨_, exec_onUnitIn rfl active at_, whole.openCycles.trans (opensCounted_counter u s), whole⟩

/-! ### A pending close taken at full travel (R120, R128) -/

/-- OPEN entered and counted, the close request still to come. -/
def State.openedFull (u : UnitNo) (s : State) : State := (standOpen u (atFullTravel u s)).opensCounted u

theorem openedFull_dc (u : UnitNo) (s : State) : (s.openedFull u).dc.get u = { (fullTravel s u).into .opened with attempt := 0 } := by
  show (standOpen u (atFullTravel u s)).dc.get u = _
  rw [standOpen_channel, atFullTravel_dc]

theorem openingDone_pending (pending : (s.dc.get u).pendingClose = true) :
    openingDone u (atFullTravel u s) = enterClosing 1 u (s.openedFull u) := by
  unfold openingDone
  dsimp only
  rw [atFullTravel_dc]
  exact if_pos pending

theorem openedFull_holds (u : UnitNo) (s : State) : Holds (only u) s (s.openedFull u) := by
  have stood : Holds (only u) s (standOpen u (atFullTravel u s)) := (modDc_holds u _ s).trans (moveUnit_holds u _ _)
  exact stood.trans (modUnitCounters_holds u (fun c => { c with openCycles := c.openCycles.bump }) _)

theorem openedFull_obstructed (out : s.unit u ≠ .isolated) : (s.openedFull u).obstructed u = s.obstructed u := by
  have moved := moveUnit_obstructed (u := u) (s := atFullTravel u s) (d := { ((atFullTravel u s).dc.get u).into .opened with attempt := 0 })
    (by rw [atFullTravel_unit]; exact out) rfl
  exact moved

theorem openedFull_counters (u : UnitNo) (s : State) : (s.openedFull u).fr.unitCounters.get u = (s.opensCounted u).fr.unitCounters.get u := by
  have moved := moveUnit_unitCounters u { ((atFullTravel u s).dc.get u).into .opened with attempt := 0 } (atFullTravel u s)
  have counted (x : State) : (x.opensCounted u).fr.unitCounters.get u =
      { x.fr.unitCounters.get u with openCycles := (x.fr.unitCounters.get u).openCycles.bump } := Quad.get_set_self ..
  rw [State.openedFull, counted, counted, standOpen, moved]
  rfl

/-- The channel that takes the pending close. -/
theorem openedFull_closing (u : UnitNo) (s : State) :
    closingIn 1 u (s.openedFull u) =
      { (s.dc.get u).into .closing with
        position := max (s.dc.get u).position (s.cl.config.units.get u).travel, phase := .accelerate, attempt := 1
        overCount := 0, travelTimer := some (after s.now s.cl.config.params.travelTimeout) } := by
  have held := openedFull_holds u s
  unfold closingIn
  rw [openedFull_dc, State.timer, held.2.1, held.1.cl]
  rfl

theorem pending_clause (active : s.active u = true) (at_ : s.unit u = .opening) (pending : (s.dc.get u).pendingClose = true) :
    Sys2Proof.Machine.exec (.openingComplete u) s = Sys2Proof.Machine.exec (.pendingCloseTaken u) s ∧
    ∃ t, Sys2Proof.Machine.exec (.pendingCloseTaken u) s = .next t ∧
      (t.fr.unitCounters.get u).openCycles = (s.fr.unitCounters.get u).openCycles.bump ∧
      t.now = s.now ∧ t.pins = s.pins ∧ Keeps (only u) s t ∧
      (s.obstructed u = false →
        t.dc.get u =
          { (s.dc.get u).into .closing with
            position := max (s.dc.get u).position (s.cl.config.units.get u).travel, phase := .accelerate, attempt := 1
            overCount := 0, travelTimer := some (after s.now s.cl.config.params.travelTimeout) }) ∧
      (s.obstructed u = true →
        Reversed
          { (s.dc.get u).into .closing with
            position := max (s.dc.get u).position (s.cl.config.units.get u).travel, phase := .accelerate, attempt := 1
            overCount := 0, travelTimer := some (after s.now s.cl.config.params.travelTimeout) }
          (s.modUnitCounters u fun c => { c with openCycles := c.openCycles.bump }) t u) := by
  have taken : Sys2Proof.Machine.exec (.pendingCloseTaken u) s = .next (onUnitIn u .opening (fun s => openingDone u (atFullTravel u s)) s) :=
    congrArg Host.Outcome.next (if_pos pending)
  have exec := exec_onUnitIn taken active at_
  rw [openingDone_pending pending] at exec
  have out : s.unit u ≠ .isolated := by
    rw [at_]
    exact fun e => nomatch e
  have stands : (s.openedFull u).unit u ≠ .isolated := by
    rw [State.unit, openedFull_dc]
    exact fun e => nomatch e
  have holds := settled_keeps ((openedFull_holds u s).trans (enterClosing_holds 1 u _)) s
  have closing := openedFull_closing u s
  refine ⟨taken.symm, _, exec, ?_, holds.2.1, holds.2.2, holds.1, fun free => ?_, fun met => ?_⟩
  · rw [(settle_ends s _).openCycles, ← opensCounted_counter u s, ← openedFull_counters u s]
    rcases obstructed : (s.openedFull u).obstructed u
    · rw [enterClosing_clear stands obstructed, moveUnit_unitCounters]
    · have reversed := enterClosing_reversed (s := s.openedFull u) (n := 1) s stands obstructed rfl rfl
      rw [← (settle_ends s _).openCycles, reversed.counted]
  · rw [enterClosing_clear stands ((openedFull_obstructed out).trans free), closing]
    have channel := moveUnit_channel u
      { (s.dc.get u).into .closing with
        position := max (s.dc.get u).position (s.cl.config.units.get u).travel, phase := .accelerate, attempt := 1
        overCount := 0, travelTimer := some (after s.now s.cl.config.params.travelTimeout) } (s.openedFull u)
    rw [settle_unmoved s (by rw [State.unit, channel]; rfl), channel]
  · rw [← closing]
    exact enterClosing_reversed s stands ((openedFull_obstructed out).trans met) (openedFull_holds u s).1.cl (openedFull_counters u s)

/-! ### The lock and the closed switch (R121, R127, R136) -/

theorem unlock_clause (active : s.active u = true) (at_ : s.unit u = .unlocking) :
    ∃ t, Sys2Proof.Machine.exec (.unlockComplete u) s = .next t ∧
      Ends
        ((s.modPins u fun p => { p with lockEngaged := false }).setDc u
          { (s.dc.get u).into .opening with
            phase := .accelerate, stallCount := 0, stallRef := (s.dc.get u).position
            travelTimer := some (after s.now s.cl.config.params.travelTimeout)
            stallTimer := some (after s.now 300) }) t := by
  have out : (s.modPins u fun p => { p with lockEngaged := false }).unit u ≠ .isolated := by
    show s.unit u ≠ .isolated
    rw [at_]
    exact fun e => nomatch e
  exact ⟨_, exec_onUnitIn rfl active at_, (enterOpening_ends out).settled s⟩

/-- The closed switch ends CLOSING and HOMING alike. -/
theorem enterLocking_settled (out : s.unit u ≠ .isolated) (s0 : State) :
    Ends
      ((s.modPins u fun p => { p with closed := true }).setDc u
        { (s.dc.get u).into .locking with position := 0, lockTimer := some (after s.now 400) })
      (settle s0 (enterLocking u (s.modPins u fun p => { p with closed := true }))) :=
  (enterLocking_ends (s := s.modPins u fun p => { p with closed := true }) out).settled s0

/-! ### An unlock that fails (R121) -/

/-- The alarms that an entry to CLOSED_LOCKED can report. -/
def alarmsAlone (k : FaultKind) (sev : Severity) : Bool := k == .trap && sev == .severe || k == .intrusion && sev == .minor

theorem failUnlock_clause (active : s.active u = true) {e : Time} (at_ : s.unit u = .unlocking) (runs : (s.dc.get u).lockTimer = some e) :
    ∃ t, Sys2Proof.Machine.exec (.unlockTimeout u) s = .next t ∧
      t.dc.get u = { (s.dc.get u).into .closedLocked with position := 0, attempt := 0 } ∧
      t.iu.accessMarks.get u = false ∧ t.fr.minor.isSome = true ∧
      Reported .minor ⟨.unlockFail, some u, s.seq, (s.reach e).now⟩ s.fr t.fr ∧
      (t.fr.unitCounters.get u).unlockFails = (s.fr.unitCounters.get u).unlockFails.bump ∧
      t.now = (s.reach e).now ∧ t.pins = s.pins ∧ Keeps (only u) (s.reach e) t := by
  have exec := exec_unitTimer (i := .unlockTimeout u) (runs := fun st => st == .unlocking) (timer := DoorChannel.lockTimer) (g := failUnlock u) rfl active
    (beq_iff_eq.2 at_) runs
  have seq := reach_seq e s
  have fr := reach_fr e s
  have dc := reach_dc e s
  have pins := reach_pins e s
  refine ⟨_, exec, ?_⟩
  clear exec
  generalize s.reach e = r at *
  let counted := r.modUnitCounters u fun c => { c with unlockFails := c.unlockFails.bump }
  have sends := report_sends .unlockFail .minor (some u) counted
  have made : Reported .minor ⟨.unlockFail, some u, s.seq, r.now⟩ s.fr (report .unlockFail .minor (some u) counted).fr := by
    have whole : Reported .minor ⟨.unlockFail, some u, r.seq, r.now⟩ counted.fr (report .unlockFail .minor (some u) counted).fr :=
      report_reported .unlockFail .minor (some u) counted
    rw [seq] at whole
    refine whole.before ?_ ?_
    · exact (show counted.fr.minor = r.fr.minor from rfl).trans (congrArg FaultRecorder.minor fr)
    · exact (show counted.fr.kinds = r.fr.kinds from rfl).trans (congrArg FaultRecorder.kinds fr)
  have failed : failUnlock u r = enterClosedLocked u (report .unlockFail .minor (some u) counted) := rfl
  have channel : (failUnlock u r).dc.get u = { (s.dc.get u).into .closedLocked with position := 0, attempt := 0 } := by
    rw [failed, enterClosedLocked_channel, sends.dc, ← dc]
    rfl
  have ends := settle_ends r (failUnlock u r)
  have entered := enterClosedLocked_holds u (report .unlockFail .minor (some u) counted)
  have reported : Reported .minor ⟨.unlockFail, some u, s.seq, r.now⟩ s.fr (failUnlock u r).fr :=
    made.after (p := alarmsAlone) (fun y full => entered.1.minor y full) (moveUnit_spares rfl rfl u _ _) fun sev => rfl
  have settled := reported.settled (s0 := r) fun e => nomatch e
  have holds := settled_keeps (((modUnitCounters_holds u (fun c => { c with unlockFails := c.unlockFails.bump }) r).trans
    (sends.holds _)).trans entered) r
  refine ⟨?_, ?_, settled.isSome, settled, ?_, holds.2.1, holds.2.2.trans pins, holds.1⟩
  · rw [settle_unmoved r (by rw [State.unit, channel]; rfl), channel]
  · rw [ends.1.accessMarks u rfl]
    exact moveUnit_mark rfl _
  · have same := congrArg UnitCounters.unlockFails (ends.1.unitCounters u rfl)
    have count : (failUnlock u r).fr.unitCounters.get u = counted.fr.unitCounters.get u := by
      rw [failed, enterClosedLocked, moveUnit_unitCounters, report_unitCounters]
    refine same.trans ?_
    rw [count, ← fr]
    exact congrArg UnitCounters.unlockFails (Quad.get_set_self ..)

end Sys2Proof.Machine

/-! LOCK_COMPLETE: a unit come to CLOSED_LOCKED, and the completion of the close it was the last member of (R122, R166, R167, R178, R181). -/

namespace Sys2Proof.Machine
variable {i : Instr} {u v : UnitNo} {s t s0 x y : State} {c : CloseCycle} {e : EmergencyClose} {d : DoorChannel} {car : Byte}

/-! ### What an entry to CLOSED_LOCKED leaves of the closes -/

theorem hangs_lc (old : UnitState) (h : d.st ≠ .isolated) (s : State) : (hangs old u d s).lc = s.lc := by
  unfold hangs
  dsimp only
  rw [beq_eq_false_iff_ne.2 h, Bool.and_false, if_neg Bool.false_ne_true,
    guard_keeps State.lc (f := fun x => dropCovered u (clearAccess u x)) ((dropCovered_lc u _).trans (clearAccess_lc u _)),
    guard_keeps State.lc (f := emptyRun u) rfl, guard_keeps State.lc (f := startSensing u) rfl]

theorem enterClosedLocked_alerted (u : UnitNo) (s : State) : Alerted 1 s (enterClosedLocked u s) := by
  rw [enterClosedLocked, moveUnit_eq]
  exact (checkAlarm_alerted u _).before ((hangs_lc _ (show UnitState.closedLocked ≠ .isolated from fun e => nomatch e) _).trans rfl)

theorem enterClosedLocked_cycle (u : UnitNo) (s : State) : (enterClosedLocked u s).bu.cycle = s.bu.cycle := by
  rw [enterClosedLocked, moveUnit_cycle]
  exact if_neg fun k => UnitState.noConfusion k.2.1

theorem hangs_emergency (old : UnitState) (u : UnitNo) (d : DoorChannel) (s : State) :
    (hangs old u d s).iu.emergencyClose = s.iu.emergencyClose := by
  have last (x : State) : (dropCovered u (clearAccess u x)).iu.emergencyClose = x.iu.emergencyClose := by
    rw [dropCovered_iu]
    unfold clearAccess dropAccessMember
    split
    · split <;> rfl
    · rfl
  unfold hangs
  dsimp only
  rw [guard_keeps (fun x => x.iu.emergencyClose) (f := fun x => dropCovered u (clearAccess u x)) (last _),
    guard_keeps (fun x => x.iu.emergencyClose) (f := emptyRun u) rfl,
    guard_keeps (fun x => x.iu.emergencyClose) (f := restSensing u) (by rw [restSensing_iu]),
    guard_keeps (fun x => x.iu.emergencyClose) (f := startSensing u) rfl]

theorem enterClosedLocked_emergency (u : UnitNo) (s : State) : (enterClosedLocked u s).iu.emergencyClose = s.iu.emergencyClose := by
  rw [enterClosedLocked, moveUnit_eq, (checkAlarm_iu_ae u _).1, hangs_emergency]
  rfl

theorem enterClosedLocked_other (ne : v ≠ u) (s : State) : (enterClosedLocked u s).unit v = s.unit v := by
  rw [State.unit, enterClosedLocked, moveUnit_dc, Quad.get_set_ne _ _ (Ne.symm ne)]
  rfl

theorem enterClosedLocked_own (u : UnitNo) (s : State) : (enterClosedLocked u s).unit u = .closedLocked :=
  congrArg DoorChannel.st (enterClosedLocked_channel u s)

theorem enterClosedLocked_berth (u : UnitNo) (s : State) : (enterClosedLocked u s).bu.berth = s.bu.berth := moveUnit_berth u _ s

/-- ALERTs leave the HOLD frames where they are. -/
theorem Alerted.holdFrames (h : Alerted 1 s t) (room : s.lc.queue.length < 16) (p : List Byte) : t.frames .hold p = s.frames .hold p := by
  obtain ⟨l, sent, short, alerts⟩ := h
  rw [sent.frames_room (k := .hold) (by omega) (fun e => nomatch e), List.count_eq_zero.2 (fun m => absurd (alerts _ m) fun e : FrameKind.hold = .alert => nomatch e), Nat.add_zero]

theorem Alerted.length_le {n : Nat} (h : Alerted n s t) : t.lc.queue.length ≤ s.lc.queue.length + n := by
  obtain ⟨l, sent, short, -⟩ := h
  exact sent.length_le.trans (Nat.add_le_add_left short _)

/-! ### The access-open mark (R183) -/

theorem moveUnit_unmarked (clear : s.iu.accessMarks.get u = false) : (moveUnit u d s).iu.accessMarks.get u = false := by
  rcases out : d.st.outOfHands
  · rw [moveUnit_marks out]
    exact clear
  · exact moveUnit_mark out s

theorem takeHeldDriveFault_unmarked (clear : s.iu.accessMarks.get u = false) : (takeHeldDriveFault u s).iu.accessMarks.get u = false := by
  unfold takeHeldDriveFault
  split
  · rw [enterFault, (report_sends ..).iu]
    exact moveUnit_unmarked clear
  · exact clear

theorem comeClosed_unmarked (u : UnitNo) (s : State) : (comeClosed u s).iu.accessMarks.get u = false := by
  have closed : (enterClosedLocked u s).iu.accessMarks.get u = false := moveUnit_mark rfl s
  rcases latch : s.iu.latch
  · rw [comeClosed_free latch]
    exact closed
  · rw [comeClosed_latched latch]
    exact takeHeldDriveFault_unmarked (moveUnit_unmarked (((settleCloses_ends _).1.accessMarks u rfl).trans closed))

/-! ### The HOLD ENDs of a cycle that ends with its event (R166, R167) -/

theorem secured_frames (s0 : State) (lc : (settleCloses y).lc = (setBerthState .secured (endCycle true x)).lc) (queue : x.lc = y.lc)
    (seq : x.seq = y.seq) (holds : x.ownHolds = y.ownHolds) (room : y.lc.queue.length + y.ownHolds.length ≤ 12) :
    (settle s0 y).frames .hold [y.seq, 2, car] = y.frames .hold [y.seq, 2, car] + y.ownHolds.countP fun h => byte h.car == car := by
  have judged : (driveWarning (judged s0 y)).lc = (setBerthState .secured (endCycle true x)).lc := by
    rw [judged_eq]
    exact lc
  have few : x.intrusions.length ≤ 4 := List.length_filter_le ..
  have sent := (secure_enqueued x).frames_room (k := .hold) (p := [y.seq, 2, car]) (by
    rw [List.length_append, holdEnds, List.length_map, List.length_map, queue, holds]
    omega) fun e => nomatch e
  have traps : (x.intrusions.map (trapAlert x.seq)).count (.hold, [y.seq, 2, car]) = 0 := List.count_eq_zero.2 fun m => by
    obtain ⟨v, -, same⟩ := List.mem_map.1 m
    cases congrArg Prod.fst same
  rw [settle_eq, finish_frames_low (k := .hold) (fun e => nomatch e) (by decide), frames_eq, judged, ← frames_eq, sent, List.count_append, traps, seq, holdEnds_count,
    holds, Nat.add_zero, frames_eq, queue, ← frames_eq]

theorem ownHolds_of (h : s.bu.cycle = some c) : s.ownHolds = c.holds := by
  unfold State.ownHolds
  rw [h]

/-! ### A close cycle of which a member is not waiting -/

theorem judgeMember_idle (h : ∀ m, s.cycleMember u = some m → m.status ≠ .waiting) : judgeMember u s = s := by
  unfold judgeMember
  split
  · rfl
  · next c stands =>
    split
    · rfl
    · next m member =>
      have idle := h m ((cycleMember_of stands u).trans member)
      rw [beq_eq_false_iff_ne.2 idle, Bool.false_and]
      rfl

/-- A member that waits for no request of the cycle is left, as an event ends with no other close under way. -/
theorem judgedMembers_idle (h : ∀ m, s.cycleMember u = some m → m.status ≠ .waiting) (departure : s.bu.departure = none)
    (emergency : s.iu.emergencyClose = none) (access : s.iu.accessClose = none) : UnitViewed u s (judgedMembers s) := by
  have one := forUnits_held (u := u) (fun _ s n => judgeMember_viewed n s) judgeMember_judged fun m viewed _ =>
    judgeMember_idle fun k place => h k (viewed.cycle.symm.trans place)
  have none : (forUnits judgeMember s).bu.departure = Option.none ∧ (forUnits judgeMember s).iu.emergencyClose = Option.none ∧
      (forUnits judgeMember s).iu.accessClose = Option.none :=
    ⟨(forUnits_keeps (fun x => x.bu.departure) judgeMember_departure s).trans departure,
      (forUnits_keeps (fun x => x.iu.emergencyClose) judgeMember_emergency s).trans emergency,
      (forUnits_keeps (fun x => x.iu.accessClose) judgeMember_access s).trans access⟩
  unfold judgedMembers
  rw [forUnits_fixed (f := judgeCovered) fun _ => judgeCovered_absent none.1,
    forUnits_fixed (f := judgeEmergencyMember) fun _ => judgeEmergencyMember_absent none.2.1,
    forUnits_fixed (f := judgeAccessMember) fun _ => judgeAccessMember_absent none.2.2]
  exact one

theorem memberDone_cases {st : UnitState} {k : MemberStatus} (h : memberDone st k = true) :
    (st = .closedLocked ∨ st = .fault ∨ st = .isolated) ∨ (st = .heldOpen ∧ k = .started) := by
  cases st with
  | closedLocked => exact .inl (.inl rfl)
  | fault => exact .inl (.inr (.inl rfl))
  | isolated => exact .inl (.inr (.inr rfl))
  | heldOpen => exact .inr ⟨rfl, beq_iff_eq.1 h⟩
  | _ => cases h

/-- A unit out of the doorway's way is done whatever its place. -/
theorem memberDone_secure {st : UnitState} (k : MemberStatus) (h : st = .closedLocked ∨ st = .fault ∨ st = .isolated) : memberDone st k = true := by
  rcases h with rfl | rfl | rfl <;> rfl

theorem KeepsUnit.secure {a b : DoorChannel} (h : KeepsUnit a b) (k : a.st = .closedLocked ∨ a.st = .fault ∨ a.st = .isolated) :
    b.st = .closedLocked ∨ b.st = .fault ∨ b.st = .isolated := by
  rw [h.resting (by rcases k with e | e | e <;> rw [e] <;> rfl)]
  exact k

/-- The judging leaves every member of the cycle done that was done, with no other close under way. -/
theorem judgedMembers_done (done : ∀ v m, s.cycleMember v = some m → memberDone (s.unit v) m.status = true) (departure : s.bu.departure = none)
    (emergency : s.iu.emergencyClose = none) (access : s.iu.accessClose = none) {m : Member} (h : (judgedMembers s).cycleMember v = some m) :
    memberDone ((judgedMembers s).unit v) m.status = true := by
  have seen := judgedMembers_unitJudged v s
  obtain ⟨n, was⟩ : ∃ n, s.cycleMember v = some n := by
    rcases seen.member with same | ⟨n, was, -⟩
    · exact ⟨m, same.symm.trans h⟩
    · exact ⟨n, was⟩
  rcases memberDone_cases (done v n was) with secure | ⟨held, started⟩
  · exact memberDone_secure _ (seen.moved.secure secure)
  · have left := judgedMembers_idle (u := v) (s := s) (fun k place => by
      obtain rfl := Option.some.inj (was.symm.trans place)
      rw [started]
      exact fun e => nomatch e) departure emergency access
    obtain rfl := Option.some.inj (was.symm.trans (left.cycle.symm.trans h))
    rw [left.unit]
    exact done v n was

end Sys2Proof.Machine

/-! O44: the ends of a unit's movements, and the completion of the closes (R120 to R122, R125, R127 to R129, R136, R166, R167, R178, R181). -/

namespace Sys2Proof.Machine
variable {i : Instr} {u v : UnitNo} {s t s0 x y : State} {c : CloseCycle} {e : EmergencyClose} {d : DoorChannel} {car : Byte}

/-! ### The cycle that the last member's lock completes (R166) -/

/-- The member's unit stands closed and locked, and all the others are done: the cycle is over. -/
theorem cycle_completed (s0 : State) (stands : s.bu.cycle = some c) (closing : s.berthState = .closing) (departure : s.bu.departure = none)
    (emergency : s.iu.emergencyClose = none) (access : s.iu.accessClose = none)
    (done : ∀ v m, v ≠ u → c.members.get v = some m → memberDone (s.unit v) m.status = true) :
    let t := settle s0 (enterClosedLocked u s)
    t.bu.cycle = none ∧ t.berthState = .secured ∧
      (s.lc.queue.length + c.holds.length ≤ 8 → ∀ car,
        t.frames .hold [s.seq, 2, car] = s.frames .hold [s.seq, 2, car] + c.holds.countP fun h => byte h.car == car) := by
  let y := enterClosedLocked u s
  have entered : Holds (only u) s y := enterClosedLocked_holds u s
  have cycle : y.bu.cycle = some c := (enterClosedLocked_cycle u s).trans stands
  have berth : y.berthState = .closing := (congrArg Berth.state (enterClosedLocked_berth u s)).trans closing
  have seq : y.seq = s.seq := congrArg Berth.seq (enterClosedLocked_berth u s)
  have noDeparture : y.bu.departure = none := entered.1.noDeparture departure
  have noEmergency : y.iu.emergencyClose = none := entered.1.noEmergencyClose emergency
  have noAccess : y.iu.accessClose = none := entered.1.noAccessClose access
  have members (v : UnitNo) (m : Member) (place : y.cycleMember v = some m) : memberDone (y.unit v) m.status = true := by
    rw [cycleMember_of cycle] at place
    by_cases e : v = u
    · rw [e, show y.unit u = .closedLocked from enterClosedLocked_own u s]
      rfl
    · rw [show y.unit v = s.unit v from enterClosedLocked_other e s]
      exact done v m e place
  obtain ⟨c', judged, same⟩ := Option.map_eq_some_iff.1 ((judgedMembers_judged y).cycle.trans (by rw [cycle]; rfl))
  have finished (v : UnitNo) (m : Member) (place : c'.members.get v = some m) : memberDone ((judgedMembers y).unit v) m.status = true :=
    judgedMembers_done members noDeparture noEmergency noAccess ((cycleMember_of judged v).trans place)
  have shut : (judgedMembers y).berthState = .closing := (congrArg Berth.state (judgedMembers_judged y).berth).trans berth
  have ended := settle_finished s0 berth judged finished
  refine ⟨ended.1, ended.2, fun room car => ?_⟩
  have alerted : Alerted 1 s y := enterClosedLocked_alerted u s
  have holds : y.ownHolds = c.holds := ownHolds_of cycle
  have closes : settleCloses y = setBerthState .secured (endCycle true (judgedMembers y)) := by
    rw [settleCloses_judged, completeCycle_done shut judged finished, completeEmergency_none]
    rw [secure_iu]
    exact judgedMembers_noEmergency noEmergency
  have length := alerted.length_le
  have frames := secured_frames (y := y) (car := car) s0 (by rw [closes]) (judgedMembers_judged y).lc (judgedMembers_judged y).seq
    (judgedMembers_judged y).ownHolds (by rw [holds]; omega)
  rw [seq, holds, alerted.holdFrames (by omega)] at frames
  exact frames

/-- While another member is not done the cycle stands. -/
theorem cycle_stands (s0 : State) {m : Member} (stands : s.bu.cycle = some c) (closing : s.berthState = .closing) (clear : s.iu.latch = false)
    (emergency : s.iu.emergencyClose = none) (ne : v ≠ u) (member : c.members.get v = some m) (n : memberDone (s.unit v) m.status = false) :
    (settle s0 (enterClosedLocked u s)).bu.cycle.isSome = true ∧ (settle s0 (enterClosedLocked u s)).berthState = .closing := by
  have entered := enterClosedLocked_holds u s
  have cycle := (enterClosedLocked_cycle u s).trans stands
  have whole := settleCloses_unfinished (s := enterClosedLocked u s) (u := v) (m := m) (entered.1.latch.trans clear)
    (entered.1.noEmergencyClose emergency) ((cycleMember_of cycle v).trans member) (by rw [enterClosedLocked_other ne]; exact n)
  have judged := judgedMembers_judged (enterClosedLocked u s)
  rw [State.berthState, (settle_of_uncompleted s0 whole).1]
  constructor
  · have kept := judged.cycle
    rw [cycle] at kept
    obtain ⟨c', now, -⟩ := Option.map_eq_some_iff.1 kept
    rw [now]
    rfl
  · rw [judged.berth, enterClosedLocked_berth]
    exact closing

/-! ### The emergency close cycle that the last member's lock completes (R181, R85, R167) -/

/-- A berth in RELEASED or CLOSING is SECURED once as the emergency close completes. -/
theorem emergency_secures (h : s.berthState = .released ∨ s.berthState = .closing)
    (ends : completeEmergency (completeCycle s) = emergencyNotice ((completeCycle s).modIu fun i => { i with emergencyClose := none })) :
    ∃ x, x.lc = s.lc ∧ x.bu = s.bu ∧ (completeEmergency (completeCycle s)).lc = (setBerthState .secured (endCycle true x)).lc ∧
      (completeEmergency (completeCycle s)).bu = (setBerthState .secured (endCycle true x)).bu := by
  rw [ends]
  rcases completeCycle_cases s with same | secured
  · rw [same]
    have notice : emergencyNotice (s.modIu fun i => { i with emergencyClose := none }) =
        setBerthState .secured (endCycle true (s.modIu fun i => { i with emergencyClose := none })) := by
      unfold emergencyNotice
      rcases h with e | e <;> rw [show (s.modIu fun i => { i with emergencyClose := none }).berthState = _ from e]
    rw [notice]
    exact ⟨s.modIu fun i => { i with emergencyClose := none }, rfl, rfl, rfl, rfl⟩
  · have kept (z : State) (f : InterlockUnit → InterlockUnit) : (z.modIu f).lc = z.lc ∧ (z.modIu f).bu = z.bu := ⟨rfl, rfl⟩
    rw [secured, emergencyNotice_unsecurable]
    · exact ⟨s, rfl, rfl, kept ..⟩
    · have berth (z : State) (f : InterlockUnit → InterlockUnit) : (z.modIu f).berthState = z.berthState := rfl
      have calm : (setBerthState .secured (endCycle true s)).unsecurable :=
        unsecurable_of (secure_berthState s) (fun e => nomatch e) fun e => nomatch e
      exact calm.kept (berth _ _)

/-- All the other members stand closed, isolated or in FAULT: the emergency close is over. -/
theorem emergency_completed (s0 : State) (stands : s.iu.emergencyClose = some e)
    (done : ∀ v k, v ≠ u → e.members.get v = some k → s.unit v = .closedLocked ∨ s.unit v = .fault ∨ s.unit v = .isolated) :
    let t := settle s0 (enterClosedLocked u s)
    t.iu.emergencyClose = none ∧
      (s.berthState = .released ∨ s.berthState = .closing →
        t.berthState = .secured ∧ t.bu.cycle = none ∧
          (s.lc.queue.length + (s.bu.cycle.elim [] CloseCycle.holds).length ≤ 8 → ∀ c, s.bu.cycle = some c → ∀ car,
            t.frames .hold [s.seq, 2, car] = s.frames .hold [s.seq, 2, car] + c.holds.countP fun h => byte h.car == car)) ∧
      (s.berthState ≠ .released → s.berthState ≠ .closing → t.berthState = s.berthState) := by
  let y := enterClosedLocked u s
  have emergency : y.iu.emergencyClose = some e := (enterClosedLocked_emergency u s).trans stands
  have state : y.berthState = s.berthState := congrArg Berth.state (enterClosedLocked_berth u s)
  have seq : y.seq = s.seq := congrArg Berth.seq (enterClosedLocked_berth u s)
  have judged := judgedMembers_judged y
  obtain ⟨e', after_, -⟩ := Option.map_eq_some_iff.1 (judged.emergency.trans (by rw [emergency]; rfl))
  have finished (v : UnitNo) (k : MemberStatus) (place : e'.members.get v = some k) : memberDone ((judgedMembers y).unit v) k = true := by
    have seen := judgedMembers_unitJudged v y
    have secure : y.unit v = .closedLocked ∨ y.unit v = .fault ∨ y.unit v = .isolated := by
      by_cases own : v = u
      · rw [own]
        exact .inl (enterClosedLocked_own u s)
      · rw [show y.unit v = s.unit v from enterClosedLocked_other own s]
        obtain ⟨k', was⟩ : ∃ k', e.members.get v = some k' := by
          rw [← emergencyStatus_of after_] at place
          rw [← emergencyStatus_of emergency]
          rcases seen.emergency with same | ⟨was, -⟩
          · exact ⟨k, same.symm.trans place⟩
          · exact ⟨_, was⟩
        exact done v k' own was
    exact memberDone_secure k (seen.moved.secure secure)
  have completes : completeEmergency (completeCycle (judgedMembers y)) =
      emergencyNotice ((completeCycle (judgedMembers y)).modIu fun i => { i with emergencyClose := none }) := by
    refine completeEmergency_done (e := e') (by rw [(completeCycle_emergency u _).1]; exact after_) fun v k place => ?_
    rw [(completeCycle_emergency v _).2]
    exact finished v k place
  refine ⟨?_, fun securable => ?_, fun released closing => ?_⟩
  · rw [settle_iu]
    exact settleCloses_emergencyDone after_ finished
  · have securable' : (judgedMembers y).berthState = .released ∨ (judgedMembers y).berthState = .closing := by
      rw [show (judgedMembers y).berthState = s.berthState from (congrArg Berth.state judged.berth).trans state]
      exact securable
    obtain ⟨x, lc, bu, lc', bu'⟩ := emergency_secures securable' completes
    have ended : (settle s0 y).bu = (setBerthState .secured (endCycle true x)).bu := by
      rw [settle_bu, settleCloses_judged, bu']
    refine ⟨?_, ?_, fun room c running car => ?_⟩
    · exact (congrArg (fun b : BerthUnit => b.berth.state) ended).trans (secure_berthState x)
    · exact (congrArg BerthUnit.cycle ended).trans (by rw [secure_bu])
    · have alerted : Alerted 1 s y := enterClosedLocked_alerted u s
      have holds : y.ownHolds = c.holds := ownHolds_of ((enterClosedLocked_cycle u s).trans running)
      have own : x.ownHolds = y.ownHolds := by
        have same : x.ownHolds = (judgedMembers y).ownHolds := by
          unfold State.ownHolds
          rw [bu]
        exact same.trans judged.ownHolds
      have length := alerted.length_le
      rw [running, Option.elim_some] at room
      have frames := secured_frames (y := y) (x := x) (car := car) s0 (by rw [settleCloses_judged, lc']) (lc.trans judged.lc)
        ((congrArg (fun b : BerthUnit => b.berth.seq) bu).trans judged.seq) own (by rw [holds]; omega)
      rw [seq, holds, alerted.holdFrames (by omega)] at frames
      exact frames
  · have calm : y.unsecurable := ⟨by rw [state]; exact closing, by rw [state]; exact released⟩
    exact ((settle_ends s0 y).1.toLeaves.unsecurable calm).trans state

/-- While another member is not done the emergency close stands. -/
theorem emergency_stands (s0 : State) {k : MemberStatus} (stands : s.iu.emergencyClose = some e) (ne : v ≠ u) (member : e.members.get v = some k)
    (n : memberDone (s.unit v) k = false) : (settle s0 (enterClosedLocked u s)).iu.emergencyClose.isSome = true := by
  have emergency := (enterClosedLocked_emergency u s).trans stands
  have whole := settleCloses_emergencyStands (s := enterClosedLocked u s) ((emergencyStatus_of emergency v).trans member)
    (by rw [enterClosedLocked_other ne]; exact n)
  obtain ⟨e', after_, -⟩ := Option.map_eq_some_iff.1 ((judgedMembers_judged (enterClosedLocked u s)).emergency.trans (by rw [emergency]; rfl))
  rw [settle_iu, whole, after_]
  rfl

/-! ### LOCK_COMPLETE (R122, R178) -/

/-- The state in which the lock switch of unit `u` reads ENGAGED. -/
def State.engages (u : UnitNo) (s : State) : State := s.modPins u fun p => { p with lockEngaged := true }

theorem engages_driveFault (u : UnitNo) (s : State) : (s.engages u).driveFault u = s.driveFault u := by
  have pins : (s.engages u).pins.units.get u = { s.pins.units.get u with lockEngaged := true } := Quad.get_set_self ..
  rw [State.driveFault, pins]
  rfl

theorem exec_lockComplete (active : s.active u = true) (at_ : s.unit u = .locking) :
    Sys2Proof.Machine.exec (.lockComplete u) s = .next (settle s (comeClosed u (s.engages u))) :=
  exec_onUnitIn (g := fun s => comeClosed u (s.engages u)) rfl active at_

/-- The channel, the mark and the frame of LOCK_COMPLETE. -/
theorem lockComplete_unit (u : UnitNo) (s : State) :
    let t := settle s (comeClosed u (s.engages u))
    (s.iu.latch = false → t.dc.get u = { (s.dc.get u).into .closedLocked with position := 0, attempt := 0 }) ∧
      (s.iu.latch = true → s.driveFault u = false →
        t.dc.get u = { (s.dc.get u).into .unlocking with position := 0, attempt := 0, lockTimer := some (after s.now 400) }) ∧
      t.iu.accessMarks.get u = false ∧ t.now = s.now ∧ t.pins = (s.engages u).pins ∧ Keeps (only u) s t := by
  obtain ⟨keeps, now, pins⟩ := settled_keeps (comeClosed_holds u (s.engages u)) s
  refine ⟨fun clear => ?_, fun latch none => ?_, ((settle_ends s _).1.accessMarks u rfl).trans (comeClosed_unmarked ..), now, pins,
    (modPins_keeps u _ s).trans keeps⟩
  · have closed := enterClosedLocked_channel u (s.engages u)
    rw [comeClosed_free (s := s.engages u) clear, settle_unmoved s (by rw [State.unit, closed]; rfl), closed]
    rfl
  · have opens := comeClosed_unlocks (s := s.engages u) (u := u) latch ((engages_driveFault u s).trans none)
    rw [settle_unmoved s (by rw [State.unit, opens]; rfl), opens]
    rfl

/-- Settles O44: each movement's end is the entry to the next state; the closes complete by the last member's lock. -/
theorem movementsEnd : Obligations.MovementsEnd := by
  unfold Obligations.MovementsEnd
  refine fun u s active => ⟨unlock_clause active, fun e at_ runs => failUnlock_clause active at_ runs, fun at_ => ?lock, opening_clause active,
    pending_clause active, fun at_ => ?travel, reversing_clause active, fun at_ => ?homing⟩
  case lock =>
    obtain ⟨closes, unlocks, mark, now, pins, keeps⟩ := lockComplete_unit u s
    refine ⟨_, exec_lockComplete active at_, closes, unlocks, mark, now, pins, keeps, fun c stands closing clear departure emergency access => ?_,
      fun e stands clear => ?_⟩
    · rw [comeClosed_free (s := s.engages u) clear]
      refine ⟨fun done => ?_, fun ⟨v, m, ne, member, n⟩ => cycle_stands (s := s.engages u) s stands closing clear emergency ne member n⟩
      obtain ⟨ended, secured, frames⟩ := cycle_completed (s := s.engages u) s stands closing departure emergency access done
      exact ⟨ended, secured, fun room h _ => frames room (byte h.car)⟩
    · rw [comeClosed_free (s := s.engages u) clear]
      refine ⟨fun done => ?_, fun ⟨v, k, ne, member, n⟩ => emergency_stands (s := s.engages u) s stands ne member n⟩
      obtain ⟨ended, secures, stays⟩ := emergency_completed (s := s.engages u) s stands done
      refine ⟨ended, fun securable => ?_, stays⟩
      obtain ⟨secured, over_, frames⟩ := secures securable
      exact ⟨secured, over_, fun room c running h _ => frames room c running (byte h.car)⟩
  case travel =>
    exact ⟨_, exec_onUnitIn rfl active at_, enterLocking_settled (by rw [at_]; exact fun e => nomatch e) s⟩
  case homing =>
    exact ⟨_, exec_onUnitIn rfl active at_, enterLocking_settled (by rw [at_]; exact fun e => nomatch e) s⟩

end Sys2Proof.Machine
